-- ==== Sys2Proof/Word.lean ====
section
/-! DEFINITION. The word types of the model and its sparse tables. -/

namespace Sys2Proof

/-- An octet. -/
abbrev Byte := BitVec 8

/-- A word of the vector buffers, the accumulators and the scalar registers (R105, R111). -/
abbrev Word := BitVec 32

/-- Octets as numbers 0..255, in the order the spec lays them out. -/
abbrev Bytes := List Nat

/-- A sparse table: pairs of key and value at rising keys, no entry equal to the value an unlisted key has. -/
abbrev SMap (α : Type) := List (Nat × α)

end Sys2Proof
end

