-- ==== Sys2Proof/Config.lean ====
section
/-! DEFINITION. What an implementation fixes and the values the spec leaves open. Each opaque constant has no value that a proof can see. -/

namespace Sys2Proof

/-- The ordering code of the delivered module, `VQ880-A2` padded with 0x00 (R2; DESIGN CHOICE of the two codes, log entry 1). -/
def Config.orderCodeA2 : BitVec 128 := BitVec.ofNat 128 0x32412D3038385156

/-- A TRNG draw of the given number of bits: the draw's number in the state gives a new value (R379). -/
opaque Config.trng (bits draw : Nat) : Nat
/-- A Falcon-1024 signature by the device identity key over the octets given (R377, R380, R382). -/
opaque Config.falconSign : Bytes → Nat
/-- ML-KEM-1024: the public key made with a draw (R384). -/
opaque Config.kemPublic (draw : Nat) : Nat
/-- ML-KEM-1024: the shared secret that decapsulation yields (R283, R384). -/
opaque Config.kemSecret (draw ciphertext : Nat) : Bytes
/-- AES-256-GCM of an exported Mirror file: key, nonce, header and plain octets to sealed octets with the tag (R426). -/
opaque Config.gcmSeal (key nonce : Nat) (header plain : Bytes) : Bytes
/-- Conversion error of the vault's converters, in LSB: array, stratum, column, group of rows and conversion number (R63). It is used within its bound of 3 LSB only. -/
opaque Config.convError (stratum column group conversion : Nat) : Int
/-- A function's FP32 result before its bound is applied: function, operand (R121, R122, R123). It is used where it lies within the bound of its rule only. -/
opaque Config.transcend (fn : Nat) (x : BitVec 32) : BitVec 32
/-- The code length that a table builder gives an exponent value, from the 256 counts (R159). -/
opaque Config.codeLength (counts : List Nat) (exponent : Nat) : Nat
/-- Optimiser arithmetic that R50 leaves open: configuration, gradient, weight, moments and step to the new weight and moments in FP32, which the model then rounds. -/
opaque Config.adam (config : Nat) (grad : BitVec 32) (w : BitVec 16) (m1 m2 : BitVec 32) (step : Nat) : BitVec 32 × BitVec 32 × BitVec 32
/-- A random bit field for stochastic rounding of a gradient (R52). -/
opaque Config.stochastic (draw index : Nat) : Nat
/-- The softmax of CC1's sampling, FP32, in which the spec states no order of sums and no accuracy of exp: the logits kept, in descending order, and the position (R293). -/
opaque Config.softmax (logits : List (BitVec 32)) (position : Nat) : BitVec 32
/-- The value of a result for which the spec states none: which result, and the number of the free value drawn. -/
opaque Config.freeWord (what draw : Nat) : BitVec 32
/-- The same for a number. -/
opaque Config.freeNat (what draw : Nat) : Nat
/-- The order in which a vector unit's 32 lanes enter the fixed pairwise tree of a sum, which R119 fixes and does not give; it is used only where it names each lane once. -/
opaque Config.laneOrder : List Nat
/-- Whether the silicon is the typical one of R8's table: R456 leaves the rate of other silicon open above its floor (log entry 74). -/
opaque Config.typicalSilicon : Bool
/-- Whether unlocked debug access opens an entry at an index and subindex of 0xF000..0xFFFF: the spec names none and excludes none (R12; log entry 1). -/
opaque Config.vendorEntry (code : Nat) : Bool
/-- The set of a system-cache slice that a line address falls into; it is taken modulo the 1,024 sets of a way (R207).  -/
opaque Config.cacheSet (line : Nat) : Nat
/-- Unicode 15.1, whose tables the spec cites and does not hold: the class of a code point beyond ASCII, 0 letter, 1 digit, 2 whitespace, 3 punctuation, else other (R292). -/
opaque Config.unicodeClass (codePoint : Nat) : Nat

end Sys2Proof
end

