-- ==== Sys2Proof/Types.lean ====
section
/-! DEFINITION. The data that the block's commands carry: one type for each thing the spec names, with the rule that names it. -/

namespace Sys2Proof.Machine

/-- R57,R85 (03_weight_vault.md). -/
inductive Enc where
  | int4 | int8 | int4x
deriving DecidableEq, Repr

/-- One side-list entry of an escaped weight (03_weight_vault.md). -/
structure SideEntry where
  /-- row in the stratum (R46; 16 bits). -/
  row : Nat := 0
  /-- weight column (R46; 16 bits). -/
  col : Nat := 0
  /-- exact value, BF16 (R46; 16 bits). -/
  value : BitVec 16 := 0
deriving DecidableEq, Repr
/-- A SideEntry whose every field has its first value. -/
def SideEntry.init : SideEntry := {}

/-- Backing copy of one stratum (R85), as structured data (03_weight_vault.md). -/
structure Copy where
  /-- GEN (R85; 32 bits). -/
  gen : Nat := 0
  /-- ENC (R85; 8 bits). -/
  enc : Enc := .int4
  /-- SCALES, BF16 column scales (R85; 1024 x 16 bits). -/
  scales : SMap (BitVec 16) := []
  /-- WEIGHTS, keyed row*1024 + weight column: INT4 nibble code, or INT8 byte code keyed row*1024 + 2*pair (R85; 1 MiB bits). -/
  codes : SMap Nat := []
  /-- SIDE_LIST in row then column order (R46; 4096 x 64 bits). -/
  side : List SideEntry := []
deriving DecidableEq, Repr
/-- A Copy whose every field has its first value. -/
def Copy.init : Copy := {}

/-- R97 (05_matrix_fabric.md). -/
inductive Shape where
  | square | wide | strip
deriving DecidableEq, Repr

/-- R174 (09_execution_plans.md). -/
inductive OpKind where
  | vmvm | fgemm | fattn | vprog | move | kvscat | kvflush | route | corr | sync
deriving DecidableEq, Repr

/-- R172 (09_execution_plans.md). -/
inductive Cls where
  | imm | int | bkg | bulk
deriving DecidableEq, Repr

/-- R180 (09_execution_plans.md). -/
inductive FailSt where
  | none | poisoned | cancelled | timeout | failed
deriving DecidableEq, Repr

/-- Tensor descriptor (09_execution_plans.md). -/
structure TDesc where
  /-- FMT, format code (R170; 8 bits). -/
  fmt : Nat := 0
  /-- FLAGS bit 0 COMP (R170; 1 bits). -/
  comp : Bool := false
  /-- FLAGS bit 1 ESC (R170; 1 bits). -/
  esc : Bool := false
  /-- FLAGS bit 2 MXS (R170; 1 bits). -/
  mxs : Bool := false
  /-- TIER (R170; 8 bits). -/
  tier : Nat := 2
  /-- UNIT (R170; 8 bits). -/
  unit : Nat := 0
  /-- ROWS (R170; 32 bits). -/
  rows : Nat := 0
  /-- COLS (R170; 32 bits). -/
  cols : Nat := 0
  /-- TABLE (R170; 12 bits). -/
  table : Nat := 0
  /-- BASE (R170; 64 bits). -/
  base : Nat := 0
  /-- AUX (R170; 64 bits). -/
  aux : Nat := 0
  /-- a reserved bit or byte of the descriptor is set (R13; 1 bits). -/
  resv : Bool := false
deriving DecidableEq, Repr
/-- A TDesc whose every field has its first value. -/
def TDesc.init : TDesc := {}

/-- R175 (09_execution_plans.md). -/
inductive Kspec where
  | vmvm (cbFirst cbCount rbCount vec : Nat) (inFmt : Nat) (indirect : Bool) (routeToken routeSlot : Nat)
  | fgemm (m n k shape interleave : Nat) (accIn backward : Bool)
  | fattn (kvHead rows firstPos keys prefixLen : Nat)
  | vprog (a b c d : Nat)
  | move (firstTile tiles : Nat)
  | kvscat (layer pos count : Nat) (staged : Bool)
  | kvflush (layer firstPos entries : Nat)
  | route (experts k tokens gateMode : Nat)
  | corr (wfmt cbFirst cbCount : Nat)
  | sync
deriving DecidableEq, Repr

/-- Operand handle (09_execution_plans.md). -/
structure Handle where
  /-- descriptor table: 0 static, 1 session, 2 scratch (R171; 2 bits). -/
  tab : Nat := 3
  /-- index; table 3 with all index bits set means no operand (R171; 30 bits). -/
  idx : Nat := 0x3FFFFFFF
deriving DecidableEq, Repr
/-- A Handle whose every field has its first value. -/
def Handle.init : Handle := {}

/-- Operation descriptor (64 bytes) (09_execution_plans.md). -/
structure Desc where
  /-- KIND (R172; 8 bits). -/
  kind : OpKind := .sync
  /-- the KIND byte is a known code (R173; 1 bits). -/
  kindOk : Bool := true
  /-- CLASS (R172; 2 bits). -/
  cls : Cls := .int
  /-- NOTIFY (R172; 1 bits). -/
  notify : Bool := false
  /-- TENANT (R172; 8 bits). -/
  tenant : Nat := 0
  /-- PLACE bits 7:4 (R172; 4 bits). -/
  cluster : Nat := 0
  /-- PLACE bits 3:0 (R172; 4 bits). -/
  pod : Nat := 0
  /-- TEMPLATE (R172; 16 bits). -/
  template : Nat := 0
  /-- SESSION bits 11:0 (R172; 12 bits). -/
  session : Nat := 0
  /-- SESSION bit 15 (R172; 1 bits). -/
  batch : Bool := false
  /-- GEN (R172; 32 bits). -/
  gen : Nat := 0
  /-- STEP (R172; 32 bits). -/
  step : Nat := 0
  /-- WAIT0 (R172; 16 bits). -/
  wait0 : Option Nat := none
  /-- WAIT1 (R172; 16 bits). -/
  wait1 : Option Nat := none
  /-- SIG0 (R172; 16 bits). -/
  sig0 : Option Nat := none
  /-- SIG1 (R172; 16 bits). -/
  sig1 : Option Nat := none
  /-- INC0 (R172; 16 bits). -/
  inc0 : Nat := 0
  /-- INC1 (R172; 16 bits). -/
  inc1 : Nat := 0
  /-- REQ (R172; 32 bits). -/
  req : Nat := 0
  /-- OPA (R172; 32 bits). -/
  opA : Handle := Handle.init
  /-- OPB (R172; 32 bits). -/
  opB : Handle := Handle.init
  /-- OPC (R172; 32 bits). -/
  opC : Handle := Handle.init
  /-- OPD (R172; 32 bits). -/
  opD : Handle := Handle.init
  /-- KSPEC (R175; 128 bits). -/
  k : Kspec := .sync
  /-- a reserved field of the descriptor is set (R173; 1 bits). -/
  resv : Bool := false
deriving DecidableEq, Repr
/-- A Desc whose every field has its first value. -/
def Desc.init : Desc := {}

/-- R241 (12_dram_controller.md). -/
inductive ReadFlaw where
  | clean | storedBit | linkBit
deriving DecidableEq, Repr

/-- R137 (13_model_lifecycle.md). -/
inductive Mask where
  | causal | sliding | prefixed | sparse
deriving DecidableEq, Repr

/-- R136 (13_model_lifecycle.md). -/
inductive Rotary where
  | base | linear | table
deriving DecidableEq, Repr

/-- Dweval image header (13_model_lifecycle.md). -/
structure Header where
  /-- MAGIC (R252; 32 bits). -/
  magic : Nat := 0x4C565744
  /-- IMG_REV (R252; 16 bits). -/
  rev : Nat := 1
  /-- KIND (R252; 8 bits). -/
  kind : Nat := 0
  /-- BYTES (R252; 64 bits). -/
  bytes : Nat := 0
  /-- TAG (R252; 128 bits). -/
  tag : BitVec 128 := 0
  /-- NAME (R252; 256 bits). -/
  name : BitVec 256 := 0
  /-- NAME is UTF-8 padded with 0x00 (R252; 1 bits). -/
  nameOk : Bool := true
  /-- STRATA (R252; 32 bits). -/
  strata : Nat := 0
  /-- SECTIONS (R252; 16 bits). -/
  sections : Nat := 1
  /-- byte 0x07 is nonzero (R252; 1 bits). -/
  resvA : Bool := false
  /-- a byte of 0x46.. is nonzero (R252; 1 bits). -/
  resvB : Bool := false
deriving DecidableEq, Repr
/-- A Header whose every field has its first value. -/
def Header.init : Header := {}

/-- Section-table entry (13_model_lifecycle.md). -/
structure Sect where
  /-- TYPE (R253; 16 bits). -/
  type : Nat := 0
  /-- OFFSET (R253; 64 bits). -/
  offset : Nat := 0
  /-- LENGTH (R253; 64 bits). -/
  length : Nat := 0
  /-- a reserved byte is nonzero (R253; 1 bits). -/
  resv : Bool := false
deriving DecidableEq, Repr
/-- A Sect whose every field has its first value. -/
def Sect.init : Sect := {}

/-- One signal of an invocation (13_model_lifecycle.md). -/
structure Sig where
  /-- group-local object (256..271 a persistent object) (R169; 8 bits). -/
  obj : Nat := 0
  /-- increment (R169; 16 bits). -/
  inc : Nat := 1
deriving DecidableEq, Repr
/-- A Sig whose every field has its first value. -/
def Sig.init : Sig := {}

/-- One template invocation of a step graph (13_model_lifecycle.md). -/
structure Invocation where
  /-- template (R169; 16 bits). -/
  template : Nat := 0
  /-- group-local objects it waits on, 512 + object an object of the previous group (R169; 2 bits). -/
  waits : List Nat := []
  /-- its signals (R169; 2 bits). -/
  sigs : List Sig := []
deriving DecidableEq, Repr
/-- A Invocation whose every field has its first value. -/
def Invocation.init : Invocation := {}

/-- One layer group (13_model_lifecycle.md). -/
structure Group where
  /-- invocations in topological order (R169; 1024 bits). -/
  invs : List Invocation := []
  /-- threshold of each group object (R169; 256 x 32 bits). -/
  thresh : List Nat := []
deriving DecidableEq, Repr
/-- A Group whose every field has its first value. -/
def Group.init : Group := {}

/-- One operation template with its engine parameters (13_model_lifecycle.md). -/
structure Template where
  /-- descriptor image (R169; 512 bits). -/
  d : Desc := Desc.init
  /-- a reserved field of the template is nonzero (R258; 1 bits). -/
  resv : Bool := false
  /-- format of operand A (R169; 8 bits). -/
  fmtA : Nat := 0
  /-- format of operand B (R169; 8 bits). -/
  fmtB : Nat := 0
  /-- format of the output (R169; 8 bits). -/
  fmtC : Nat := 0
  /-- mask kind (R137; 2 bits). -/
  mask : Mask := .causal
  /-- shape of a FATTN (R99,R169; 2 bits). -/
  shape : Shape := .wide
  /-- interleave of a FATTN (R98,R169; 4 bits). -/
  inter : Nat := 1
  /-- attention template whose ranges a VPROG merges (R133; 16+1 bits). -/
  merge : Option Nat := none
  /-- W of a sliding window (R137; 32 bits). -/
  window : Nat := 1
  /-- B of a block-sparse mask (R137; 256 bits). -/
  blockMap : BitVec 256 := 1
  /-- G of a block-sparse mask (R137; 7 bits). -/
  globals : Nat := 0
  /-- vector program (R169; 16 bits). -/
  program : Nat := 0
  /-- projection of a VMVM or CORR (R176; 16 bits). -/
  proj : Nat := 0
  /-- layer (R169; 16 bits). -/
  layer : Nat := 0
  /-- on the adaptable-template list (R269; 1 bits). -/
  adaptable : Bool := false
  /-- down (false) or up (true) FGEMM of an adapter pair (R272; 2 bits). -/
  adapterPart : Option Bool := none
  /-- scale site it executes (R41; 16 bits). -/
  site : Option Nat := none
deriving DecidableEq, Repr
/-- A Template whose every field has its first value. -/
def Template.init : Template := {}

/-- One projection of the vault map (its stratum set) (13_model_lifecycle.md). -/
structure Proj where
  /-- N (R58; 32 bits). -/
  inputs : Nat := 0
  /-- M (R58; 32 bits). -/
  outSlots : Nat := 0
  /-- weight encoding (R57; 2 bits). -/
  enc : Enc := .int4
  /-- first record of its stratum set in COPIES (column block major) (R253; 32 bits). -/
  firstCopy : Nat := 0
  /-- layer, for the order of swap rewrites (R263; 16 bits). -/
  layer : Nat := 0
  /-- expert of the expert table (R178; 9 bits). -/
  expert : Option Nat := none
deriving DecidableEq, Repr
/-- A Proj whose every field has its first value. -/
def Proj.init : Proj := {}

/-- Execution plan (13_model_lifecycle.md). -/
structure Plan where
  /-- templates (R169; 65536 bits). -/
  templates : List Template := []
  /-- tensor descriptors (R169; 2^30 bits). -/
  tensors : List TDesc := []
  /-- the step's scratch tensors (R171; - bits). -/
  scratch : List TDesc := []
  /-- vector programs (R169; 2048 each bits). -/
  programs : List (List (BitVec 64)) := []
  /-- step graphs: decode, prefill, training forward, training backward (R169; 4 bits). -/
  graphs : List (List Group) := []
  /-- a reserved field of a step graph is nonzero (R258; 1 bits). -/
  graphResv : Bool := false
  /-- every step graph's invocation list is in topological order as written (R189; 1 bits). -/
  acyclic : Bool := true
  /-- thresholds of the persistent objects (R169; 16 bits). -/
  persistent : List Nat := []
  /-- projections (R58; - bits). -/
  projs : List Proj := []
  /-- experts of the expert table (R178; 9 bits). -/
  experts : Nat := 0
  /-- layer count (R262; 16 bits). -/
  layers : Nat := 1
  /-- KV heads (R134; 8 bits). -/
  kvHeads : Nat := 1
  /-- query heads (R134; 16 bits). -/
  queryHeads : Nat := 1
  /-- head size (R138; 16 bits). -/
  headDim : Nat := 1
  /-- vocabulary (R291; 24 bits). -/
  vocab : Nat := 1
  /-- tokens of a prefill chunk (R149; 32 bits). -/
  chunk : Nat := 1
deriving DecidableEq, Repr
/-- A Plan whose every field has its first value. -/
def Plan.init : Plan := {}

/-- PARAMS section (13_model_lifecycle.md). -/
structure Params where
  /-- initial maximum of each scale site (R41; 32 each bits). -/
  siteMax : List (BitVec 32) := []
  /-- outlier map of each VMVM template (R48; 64 rows each bits). -/
  maps : List (Nat × List Nat) := []
  /-- rotary variant (R136; 2 bits). -/
  rotary : Rotary := .base
  /-- theta, FP32 (R136; 32 bits). -/
  theta : BitVec 32 := 0x461C4000
  /-- s, FP32 (R136; 32 bits). -/
  rotScale : BitVec 32 := 0x3F800000
  /-- t_j (R136; 32 each bits). -/
  rotTable : List (BitVec 32) := []
  /-- sK, layer major (R140; 32 each bits). -/
  kScale : List (BitVec 32) := []
  /-- sV, layer major (R140; 32 each bits). -/
  vScale : List (BitVec 32) := []
  /-- expert popularity profile, layer major (R212; 32 each bits). -/
  popular : List Nat := []
  /-- a reserved field is nonzero (R258; 1 bits). -/
  resv : Bool := false
deriving DecidableEq, Repr
/-- A Params whose every field has its first value. -/
def Params.init : Params := {}

/-- TOKENISER section (13_model_lifecycle.md). -/
structure Tokeniser where
  /-- VOCAB (R291; 32 bits). -/
  vocab : Nat := 0
  /-- string of each token (R291; 255 B each bits). -/
  strings : List (List Nat) := []
  /-- LEFT, RIGHT, RESULT in rank order (R291; 96 each bits). -/
  merges : List (Nat × Nat × Nat) := []
  /-- special tokens and their EOS flag (R291; 256 bits). -/
  specials : List (Nat × Bool) := []
  /-- BOS (R291; 32 bits). -/
  bos : Option Nat := none
  /-- a reserved byte is nonzero (R258; 1 bits). -/
  resv : Bool := false
deriving DecidableEq, Repr
/-- A Tokeniser whose every field has its first value. -/
def Tokeniser.init : Tokeniser := {}

/-- One target record of an adapter (13_model_lifecycle.md). -/
structure Target where
  /-- TEMPLATE (R269; 16 bits). -/
  template : Nat := 0
  /-- RANK (R269; 16 bits). -/
  rank : Nat := 16
  /-- down matrix, BF16 (R269; 16 each bits). -/
  down : SMap (BitVec 16) := []
  /-- up matrix, BF16 (R269; 16 each bits). -/
  up : SMap (BitVec 16) := []
  /-- rows of the down matrix (R269; 32 bits). -/
  inputs : Nat := 0
  /-- columns of the up matrix (R269; 32 bits). -/
  outputs : Nat := 0
deriving DecidableEq, Repr
/-- A Target whose every field has its first value. -/
def Target.init : Target := {}

/-- One dataset entry (13_model_lifecycle.md). -/
structure DToken where
  /-- END (R273; 1 bits). -/
  last : Bool := false
  /-- LOSS (R273; 1 bits). -/
  loss : Bool := false
  /-- TOKEN (R273; 24 bits). -/
  token : Nat := 0
deriving DecidableEq, Repr
/-- A DToken whose every field has its first value. -/
def DToken.init : DToken := {}

/-- A Dweval image (13_model_lifecycle.md). -/
structure Image where
  /-- header (R252; 2048 bits). -/
  header : Header := Header.init
  /-- section table (R253; 16 x 192 bits). -/
  sects : List Sect := []
  /-- a reserved field of a DIGITAL, COPIES, ADAPTER or TOKENS record is nonzero (R258; 1 bits). -/
  recResv : Bool := false
  /-- PLAN (R169; - bits). -/
  plan : Plan := Plan.init
  /-- PARAMS (R253; - bits). -/
  params : Params := Params.init
  /-- TOKENISER (R291; - bits). -/
  tok : Tokeniser := Tokeniser.init
  /-- DIGITAL bytes by offset (R253; - bits). -/
  digital : SMap Nat := []
  /-- length of DIGITAL (R253; 64 bits). -/
  digitalLen : Nat := 0
  /-- COPIES (R253; - bits). -/
  copies : List Copy := []
  /-- ADAPTER (R269; - bits). -/
  targets : List Target := []
  /-- TOKENS (R273; - bits). -/
  tokens : List DToken := []
deriving DecidableEq, Repr
/-- A Image whose every field has its first value. -/
def Image.init : Image := {}

/-- R327,R335 (16_network_ports.md). -/
inductive FrameKind where
  | mka | gptp | arp | tcp | udp | icmp | other
deriving DecidableEq, Repr

/-- One firmware image (15_control_complex.md). -/
structure FwImage where
  /-- the slot holds a verified image (R307; 1 bits). -/
  present : Bool := false
  /-- version (R320; 32 bits). -/
  version : Nat := 0
  /-- security version (R320; 32 bits). -/
  secVersion : Nat := 0
  /-- COMPAT_MIN, the oldest running version with which a rolling activation is allowed (R387; 32 bits). -/
  compatMin : Nat := 0
  /-- KEY_INDEX (R387; 2 bits). -/
  keyIndex : Nat := 0
  /-- MEASURES (R387; 9 x 256 bits). -/
  measures : List Nat := []
deriving DecidableEq, Repr
/-- A FwImage whose every field has its first value. -/
def FwImage.init : FwImage := {}

/-- One gate-control-list entry (16_network_ports.md). -/
structure Gate where
  /-- gate mask (R331; 8 bits). -/
  mask : Nat := 0xFF
  /-- interval, ns (R331; 32 bits). -/
  interval : Nat := 1
deriving DecidableEq, Repr
/-- A Gate whose every field has its first value. -/
def Gate.init : Gate := {}

/-- A gate control list (16_network_ports.md). -/
structure GclList where
  /-- base time, gPTP ns (R331; 64 bits). -/
  base : Nat := 0
  /-- cycle time, ns (R331; 64 bits). -/
  cycle : Nat := 0
  /-- entries (R331; 256 bits). -/
  entries : List Gate := []
deriving DecidableEq, Repr
/-- A GclList whose every field has its first value. -/
def GclList.init : GclList := {}

/-- R375 (18_tenants_and_trust.md). -/
inductive ScrubPart where
  | dram | onDie | control | ufs | vault
deriving DecidableEq, Repr

/-- Fields of a vector instruction word (R115): CNT (n - 1), DST, SPA, ADDRA, SRCB, MOD. -/
structure VF where
  cnt : Nat
  dst : Nat
  spa : Nat
  addra : Nat
  srcb : Nat
  mod : Nat
deriving DecidableEq, Repr

/-- A BDP request (R348): the connection it came on, TXN and EPOCH. -/
structure Rq where
  conn : Nat
  txn : Nat
  epoch : Nat
deriving DecidableEq, Repr

/-- A field of a message, and whether a reserved field of the message's record or body is set (R13, R285). -/
structure Padded where
  value : Nat
  resv : Bool
deriving DecidableEq, Repr

/-- An item of a transaction (R349): entry code (index * 256 + subindex), TYPE, LENGTH, VALUE as a little-endian number, and whether a reserved byte or padding byte is set. -/
structure Item where
  code : Nat
  ty : Nat
  len : Nat
  value : Nat
  resv : Bool
deriving DecidableEq, Repr

/-- A transaction body (R348): COUNT, FLAGS, whether a reserved field is set, whether the items fill the body exactly, the items, and the facts of the world that a command item of the write needs: the image that a bulk write's bytes so far spell, whether the trust block verifies a signature or firmware image, the firmware header's fields, and whether UFS makes the stored items durable (R360). -/
structure BdpBody where
  count : Nat
  flags : Nat
  resv : Bool
  fills : Bool
  items : List Item
  img : Option Image
  verified : Bool
  fw : FwImage
  durable : Bool
deriving DecidableEq, Repr

/-- A REQUEST body (R286), with the STOP strings and INPUT bytes. -/
structure ReqBody where
  reqId : Nat
  session : Nat
  cls : Nat
  flags : Nat
  resv : Nat
  streamN : Nat
  maxTokens : Nat
  prefixLen : Nat
  resume : Nat
  temperature : BitVec 32
  topP : BitVec 32
  minP : BitVec 32
  repPenalty : BitVec 32
  repWindow : Nat
  topK : Nat
  seed : Nat
  stopCount : Nat
  stops : List (List Nat)
  input : List Nat
deriving DecidableEq, Repr

/-- The ASX or BDP record that a received frame completes (R280, R283, R284): carried as a datagram, its SEQ, whether its tag passes, and its source address and port. -/
structure RxRec where
  dgram : Bool
  seq : Nat
  tagOk : Bool
  src : Nat
deriving DecidableEq, Repr

/-- A received frame (R324, R325, R326, R329, R335): length, FCS, VLAN tag (none untagged, 0 priority-tagged), PCP, arrival through the express MAC, kind, the AN its SecTAG names, PN, whether the ICV passes, whether the IP profile supports the packet, the service number it addresses, the connection it belongs to, and the record it completes. -/
structure RxFrame where
  len : Nat
  fcsOk : Bool
  vid : Option Nat
  pcp : Nat
  express : Bool
  kind : FrameKind
  sa : Option Nat
  pn : Nat
  icvOk : Bool
  ipOk : Bool
  number : Nat
  conn : Option Nat
  record : Option RxRec
deriving DecidableEq, Repr

/-- What a start-up samples and finds (R444, R445, R251, R388): PROFSEL and GPIO[1:0] levels, the always-on sensor reading, whether the images of slots A and B verify, the channels that fail a training step twice with that step, and the UFS capacity for tenants in MiB. -/
structure Boot where
  profsel : Nat
  gpio : Nat
  aonTemp : Int
  okA : Bool
  okB : Bool
  lost : List (Nat × Nat)
  ufsMib : Nat
deriving DecidableEq, Repr

end Sys2Proof.Machine
end

