-- ==== Sys2Proof/Syntax.lean ====
section
/-! DEFINITION. The commands of the block: one constructor for each row of spec/opcode_table.json. -/

namespace Sys2Proof

open Machine

/-- A command of the VQ880, with its operands. The table gives no command any bits, so an operand is what the row's rule names. -/
inductive Instr where
  /-- VMVM: work-queue slot of the dispatched VMVM descriptor. -/
  | vmvm (slot : Nat)
  /-- CONVERTING_SLOT_GRANT: array. -/
  | convertingSlotGrant (arr : Nat)
  /-- MVM_COMPLETE: array. -/
  | mvmComplete (arr : Nat)
  /-- COLUMN_BLOCK_WRITE: VMVM slot, input vector, column block. -/
  | columnBlockWrite (op vec cb : Nat)
  /-- STRATUM_CHANGE_DONE: array. -/
  | stratumChangeDone (arr : Nat)
  /-- MVM_SUSPEND: array. -/
  | mvmSuspend (arr : Nat)
  /-- MVM_RESUME: array. -/
  | mvmResume (arr : Nat)
  /-- SLOT_RETURN: array that borrows a slot. -/
  | slotReturn (arr : Nat)
  /-- GRANT_RECOMPUTE: no operand. -/
  | grantRecompute
  /-- RATE_MONITOR_SAMPLE: measured handshake rate and round time. -/
  | rateMonitorSample (kHs roundNs : Nat)
  /-- TEST_DUE_MVM_COUNT: array. -/
  | testDueMvmCount (arr : Nat)
  /-- TEST_DUE_IDLE: stratum untested for 10 s. -/
  | testDueIdle (stratum : Nat)
  /-- TEST_VECTOR_COMPLETE: array. -/
  | testVectorComplete (arr : Nat)
  /-- WRITE_SLOT_GRANT: stratum whose queued write is granted. -/
  | writeSlotGrant (stratum : Nat)
  /-- ERASE_DONE: stratum. -/
  | eraseDone (stratum : Nat)
  /-- PROGRAM_DONE: stratum. -/
  | programDone (stratum : Nat)
  /-- VERIFY_DONE: stratum, whether read-back and all 32 tests passed. -/
  | verifyDone (stratum : Nat) (ok : Bool)
  /-- DIE_ERASE_DONE: die, strata whose cells do not read level 0. -/
  | dieEraseDone (die : Nat) (bad : List Nat)
  /-- COPY_LOAD_DONE: stratum whose copy has arrived in the reserve. -/
  | copyLoadDone (stratum : Nat)
  /-- SHADOW_OP_COMPLETE: VMVM slot and the stratum it stands for. -/
  | shadowOpComplete (op stratum : Nat)
  /-- FGEMM: work-queue slot of the dispatched FGEMM. -/
  | fgemm (slot : Nat)
  /-- FATTN: work-queue slot. -/
  | fattn (slot : Nat)
  /-- DRAIN_SET: pod, accumulator set the drain port writes out. -/
  | drainSet (pod set : Nat)
  /-- POD_IDLE: pod whose cores have made no k-step for 64 hs. -/
  | podIdle (pod : Nat)
  /-- VPROG: work-queue slot of the dispatched VPROG. -/
  | vprog (slot : Nat)
  /-- KVSCAT: work-queue slot. -/
  | kvscat (slot : Nat)
  /-- KVFLUSH: work-queue slot. -/
  | kvflush (slot : Nat)
  /-- KV_PROMOTE: tenant, warm page, destination cluster. -/
  | kvPromote (tenant page cluster : Nat)
  /-- KV_PREEMPT: tenant all of whose ACTIVE sessions wait for pages. -/
  | kvPreempt (tenant : Nat)
  /-- PAGE_MOVE_START: page, destination cluster or DRAM. -/
  | pageMoveStart (page : Nat) (toHot : Option Nat)
  /-- PAGE_MOVE_SWITCH: page. -/
  | pageMoveSwitch (page : Nat)
  /-- PAGE_SOURCE_RELEASE: page. -/
  | pageSourceRelease (page : Nat)
  /-- TABLE_BUILD: tenant, model slot, activation tensor. -/
  | tableBuild (tenant slot tensor : Nat)
  /-- TABLE_REBUILD: tenant, model slot, tensor whose counted occurrence is complete. -/
  | tableRebuild (tenant slot tensor : Nat)
  /-- TABLE_ID_FREE: tenant, retiring table identifier. -/
  | tableIdFree (tenant table : Nat)
  /-- SERIAL_RECOVERY: operation, static tensor, block. -/
  | serialRecovery (slot tensor block : Nat)
  /-- BLOCK_REENCODE: tenant, model slot, static weight tensor, block. -/
  | blockReencode (tenant slot tensor block : Nat)
  /-- EXPANDER_SELFTEST_END: pods whose two decoders disagree. -/
  | expanderSelftestEnd (disagreeing : List Nat)
  /-- STEP_INSTANTIATE: session, or up to 16 batched sessions, whose next step CC2 begins. -/
  | stepInstantiate (sessions : List Nat)
  /-- GROUP_INSTANTIATE: step run. -/
  | groupInstantiate (run : Nat)
  /-- OP_DISPATCH: work-queue slot. -/
  | opDispatch (slot : Nat)
  /-- OP_COMPLETE: work-queue slot, hs for which it held its unit. -/
  | opComplete (slot heldHs : Nat)
  /-- COMPLETION_ACCEPT: work-queue slot. -/
  | completionAccept (slot : Nat)
  /-- OP_TIMEOUT: work-queue slot. -/
  | opTimeout (slot : Nat)
  /-- MOVE: work-queue slot. -/
  | moveOp (slot : Nat)
  /-- ROUTE: work-queue slot. -/
  | routeOp (slot : Nat)
  /-- CORR_OP: work-queue slot. -/
  | corrOp (slot : Nat)
  /-- CORR_ADD: work-queue slot. -/
  | corrAdd (slot : Nat)
  /-- SYNC: work-queue slot. -/
  | syncOp (slot : Nat)
  /-- CACHE_WAYS: BDP request, tenant, ways. -/
  | cacheWays (rq : Rq) (tenant value : Nat)
  /-- WAY_HANDOVER: slice, way written back and zeroed. -/
  | wayHandover (slice way : Nat)
  /-- CS_KV_PAGES: BDP request, tenant, regions. -/
  | csKvPages (rq : Rq) (tenant value : Nat)
  /-- DRAM_SUB_QUOTA: BDP request, tenant, sub-quota 1..5 (subindex), MiB. -/
  | dramSubQuota (rq : Rq) (tenant which value : Nat)
  /-- EXPERT_REBALANCE_CHECK: tenant, model slot, layer. -/
  | expertRebalanceCheck (tenant slot layer : Nat)
  /-- STREAM_ISSUE: pod. -/
  | streamIssue (pod : Nat)
  /-- TRANSFER_LAND: pod, tag of the transfer. -/
  | transferLand (pod slot operand entry tagTenant : Nat)
  /-- STREAM_LATE: operation that has waited 20 us. -/
  | streamLate (slot : Nat)
  /-- DRAM_READ: channel, data unit, tenant, class, operation, request, correctable error it meets. -/
  | dramRead (ch unit tenant : Nat) (imm : Bool) (op : Option Nat) (id : Nat) (flaw : ReadFlaw)
  /-- DRAM_WRITE: channel, data unit, tenant (0 the system domain), up to 64 bytes. -/
  | dramWrite (ch unit tenant : Nat) (data : List Nat)
  /-- WRITE_DRAIN: channel. -/
  | writeDrain (ch : Nat)
  /-- READ_RETRY: channel, read that met an uncorrectable error. -/
  | readRetry (ch id : Nat)
  /-- READ_RETRY_RETURN: channel, whether the retry returned clean or corrected data. -/
  | readRetryReturn (ch : Nat) (good : Bool)
  /-- REFRESH: channel, bank pair (rank*8 + b), whether the pair is in use. -/
  | refresh (ch pair : Nat) (busy : Bool)
  /-- SELF_REFRESH_ENTRY: channel. -/
  | selfRefreshEntry (ch : Nat)
  /-- SELF_REFRESH_EXIT: channel. -/
  | selfRefreshExit (ch : Nat)
  /-- PATROL_SCRUB: channel, unit of the row in error and whether it is correctable. -/
  | patrolScrub (ch : Nat) (found : Option (Nat × Bool))
  /-- RETRAIN: channel, DRAM temperature. -/
  | retrain (ch : Nat) (temp : Int)
  /-- KEY_ZEROISE: tenant. -/
  | keyZeroise (tenant : Nat)
  /-- UPLOAD_BEGIN: BDP request, tenant, KIND, slot, BYTES, whether a reserved byte is set. -/
  | uploadBegin (rq : Rq) (tenant kind slot bytes : Nat) (resv : Bool)
  /-- UPLOAD_DATA: BDP request, tenant, image offset, data, the image that the bytes written so far then spell. -/
  | uploadData (rq : Rq) (tenant offset : Nat) (data : List Nat) (img : Option Image)
  /-- UPLOAD_END: BDP request, tenant. -/
  | uploadEnd (rq : Rq) (tenant : Nat)
  /-- UPLOAD_ABORT: BDP request, tenant. -/
  | uploadAbort (rq : Rq) (tenant : Nat)
  /-- INSTALL: BDP request, tenant, model slot. -/
  | install (rq : Rq) (tenant slot : Nat)
  /-- SWAP: BDP request, tenant, model slot, MODE, CONTEXT, reserved byte set. -/
  | swap (rq : Rq) (tenant slot mode context : Nat) (resv : Bool)
  /-- REMOVE: BDP request, tenant, model slot, value (bit 0 FORCE). -/
  | remove (rq : Rq) (tenant slot value : Nat)
  /-- CHECK_PASS_END: tenant, model slot. -/
  | checkPassEnd (tenant slot : Nat)
  /-- INSTALL_READY: tenant, model slot. -/
  | installReady (tenant slot : Nat)
  /-- SWAP_DRAIN_DONE: tenant, model slot. -/
  | swapDrainDone (tenant slot : Nat)
  /-- SWAP_COMPLETE: tenant, model slot. -/
  | swapComplete (tenant slot : Nat)
  /-- REMOVE_COMPLETE: tenant, model slot. -/
  | removeComplete (tenant slot : Nat)
  /-- ADAPTER_LOAD: BDP request, tenant, adapter slot, model slot. -/
  | adapterLoad (rq : Rq) (tenant ad slot : Nat)
  /-- ADAPTER_LOAD_DONE: tenant, adapter slot. -/
  | adapterLoadDone (tenant ad : Nat)
  /-- ADAPTER_UNLOAD: BDP request, tenant, adapter slot. -/
  | adapterUnload (rq : Rq) (tenant ad : Nat)
  /-- ADAPTER_DELETE: BDP request, tenant, adapter slot. -/
  | adapterDelete (rq : Rq) (tenant ad : Nat)
  /-- DATASET_DELETE: BDP request, tenant, dataset slot. -/
  | datasetDelete (rq : Rq) (tenant slot : Nat)
  /-- TRAIN_START_NEW: BDP request, tenant. -/
  | trainStartNew (rq : Rq) (tenant : Nat)
  /-- TRAIN_RESUME: BDP request, tenant. -/
  | trainResume (rq : Rq) (tenant : Nat)
  /-- TRAIN_STOP: BDP request, tenant. -/
  | trainStop (rq : Rq) (tenant : Nat)
  /-- TRAIN_STEP: tenant, whether every operation completed OK, loss, gradients before narrowing (one list per target). -/
  | trainStep (tenant : Nat) (ok : Bool) (loss : BitVec 32) (grads : List (List (BitVec 32)))
  /-- CHECKPOINT_LANDED: tenant. -/
  | checkpointLanded (tenant : Nat)
  /-- MODEL_RELOAD_DONE: tenant, model slot. -/
  | modelReloadDone (tenant slot : Nat)
  /-- TCP_CONNECT: connection number, port, destination TCP port of a SYN for the ASX stream service. -/
  | tcpConnect (conn port number : Nat)
  /-- CLIENT_HELLO: connection, VERSION, TENANT, NONCE_C. -/
  | clientHello (conn version tenant : Nat) (nonce : Padded)
  /-- HANDSHAKE_JOB_START: connection whose handshake the trust block takes. -/
  | handshakeJobStart (conn : Nat)
  /-- KEY_SHARE: connection, ML-KEM-1024 ciphertext. -/
  | keyShare (conn : Nat) (ciphertext : Padded)
  /-- AUTH: connection, record tag passes, ticket fields and its reserved octets. -/
  | auth (conn : Nat) (tagOk : Bool) (clientId maxClass expiry : Nat) (tag : BitVec 128) (resv : Nat)
  /-- HANDSHAKE_DEADLINE: connection. -/
  | handshakeDeadline (conn : Nat)
  /-- CHANNEL_IDLE_EXPIRY: connection. -/
  | channelIdleExpiry (conn : Nat)
  /-- TCP_CONNECTION_END: connection. -/
  | tcpConnectionEnd (conn : Nat)
  /-- OPEN: channel, reserved bits of octets 2 and 3, SLOT, ADAPTER, PERSISTENT, CTAG. -/
  | openSession (conn : Nat) (dgram : Bool) (resv : Nat) (slot adapter : Nat) (persistent : Bool) (ctag : Nat)
  /-- ADAPT: channel, octets after the listed ones, SESSION handle, ADAPTER. -/
  | adapt (conn : Nat) (dgram : Bool) (resv : Nat) (session adapter : Nat)
  /-- CLOSE: channel, octets after the listed ones, SESSION handle. -/
  | closeSession (conn : Nat) (dgram : Bool) (resv : Nat) (session : Nat)
  /-- REQUEST: channel, REQUEST body. -/
  | request (conn : Nat) (dgram : Bool) (r : ReqBody)
  /-- CANCEL: channel, reserved octets 4..7, SESSION handle, REQ_ID. -/
  | cancel (conn : Nat) (dgram : Bool) (resv : Nat) (session req : Nat)
  /-- PING: channel, VALUE. -/
  | ping (conn : Nat) (dgram : Bool) (value : Padded)
  /-- UNKNOWN_MSG: channel, MSG. -/
  | unknownMsg (conn : Nat) (dgram : Bool) (msg : Padded)
  /-- REQUEST_DEQUEUE: tenant, class CC1 serves. -/
  | requestDequeue (tenant : Nat) (cls : Cls)
  /-- QUEUE_TIMEOUT: session index, REQ_ID. -/
  | queueTimeout (session req : Nat)
  /-- SAMPLE: session, the 64 candidates of the logit reduction, status of the step. -/
  | sample (session : Nat) (cands : List (Nat × BitVec 32)) (status : FailSt)
  /-- IDLE_CLOSE: session index. -/
  | idleClose (session : Nat)
  /-- SESSION_INDEX_FREE: session index. -/
  | sessionIndexFree (session : Nat)
  /-- OUTPUT_BUFFER_DRAIN: channel, bytes acknowledged and freed. -/
  | outputBufferDrain (conn : Nat) (bytes : Nat)
  /-- WATCHDOG_EXPIRE: core. -/
  | watchdogExpire (core : Nat)
  /-- CC_RESTART: BDP request, core. -/
  | ccRestart (rq : Rq) (core : Nat)
  /-- CC_RESTART_DONE: core, whether its start check passed. -/
  | ccRestartDone (core : Nat) (ok : Bool)
  /-- FW_BEGIN: BDP request, image length. -/
  | fwBegin (rq : Rq) (length : Nat)
  /-- FW_DATA: BDP request, offset, data. -/
  | fwData (rq : Rq) (offset : Nat) (data : List Nat)
  /-- FW_END: BDP request, whether key digest, signature and measures of the image hold, its header fields. -/
  | fwEnd (rq : Rq) (verified : Bool) (image : FwImage)
  /-- FW_ACTIVATE_ROLLING: BDP request. -/
  | fwActivateRolling (rq : Rq)
  /-- FW_ACTIVATE_RESET: BDP request. -/
  | fwActivateReset (rq : Rq)
  /-- FW_COMMIT: BDP request. -/
  | fwCommit (rq : Rq)
  /-- FW_REVERT: BDP request. -/
  | fwRevert (rq : Rq)
  /-- FW_TRIAL_WINDOW_END: no operand. -/
  | fwTrialWindowEnd
  /-- LEASE_CLAIM: BDP request. -/
  | leaseClaim (rq : Rq)
  /-- LEASE_RENEW: BDP request, epoch. -/
  | leaseRenew (rq : Rq) (epoch : Nat)
  /-- LEASE_RELEASE: BDP request, epoch. -/
  | leaseRelease (rq : Rq) (epoch : Nat)
  /-- LEASE_EXPIRY: no operand. -/
  | leaseExpiry
  /-- GRACE_EXPIRY: no operand. -/
  | graceExpiry
  /-- PORT_ENABLE: BDP request, port (2 writes MP_ENABLE), value. -/
  | portEnable (rq : Rq) (port : Nat) (on : Bool)
  /-- MEDIA: BDP request, host port, value. -/
  | media (rq : Rq) (port value : Nat)
  /-- SPEEDS: BDP request, host port, value. -/
  | speeds (rq : Rq) (port value : Nat)
  /-- LINK_UP: port, negotiated speed bit and role, SQI. -/
  | linkUp (port speed : Nat) (leader : Bool) (sqi : Nat)
  /-- LINK_DOWN: port. -/
  | linkDown (port : Nat)
  /-- CABLE_TEST: BDP request, host port. -/
  | cableTest (rq : Rq) (port : Nat)
  /-- CABLE_TEST_DONE: host port, result, distance. -/
  | cableTestDone (port result dm : Nat)
  /-- FRAME_RECEIVE: port, frame. -/
  | frameReceive (port : Nat) (f : RxFrame)
  /-- FRAME_TRANSMIT: port. -/
  | frameTransmit (port : Nat)
  /-- DATAGRAM_TX_DROP: port, queue that a datagram could not enter within 1 ms. -/
  | datagramTxDrop (port pcp : Nat)
  /-- SAK_INSTALL: host port, association number, SAK. -/
  | sakInstall (port an key : Nat)
  /-- MKA_PEER_LOST: host port. -/
  | mkaPeerLost (port : Nat)
  /-- MKA_HELLO: host port, whether the peer's MKPDU names the device live. -/
  | mkaHello (port : Nat) (live : Bool)
  /-- MAC_MERGE_VERIFIED: host port. -/
  | macMergeVerified (port : Nat)
  /-- GCL: BDP request, host port, gate list. -/
  | gcl (rq : Rq) (port : Nat) (l : GclList) (resv : Bool)
  /-- GCL_SWITCH: host port. -/
  | gclSwitch (port : Nat)
  /-- TC10_SLEEP_REQUEST: host port, who asks, the partner's answer. -/
  | tc10SleepRequest (port : Nat) (fromPartner accepted : Bool)
  /-- TC10_ACK_TIMEOUT: host port. -/
  | tc10AckTimeout (port : Nat)
  /-- TC10_WAKE: host port. -/
  | tc10Wake (port : Nat)
  /-- PEER_DELAY: host port, measured path delay. -/
  | peerDelay (port : Nat) (delay : Int)
  /-- GPTP_SYNC: host port, time that the Sync carries, corrections included, BMCA's choice, UTC offset where the grandmaster declares it valid. -/
  | gptpSync (port : Nat) (time : Nat) (bmca : Bool) (utc : Option Int)
  /-- DISCIPLINE_LOSS: no operand. -/
  | disciplineLoss
  /-- TCP_USER_TIMEOUT: connection. -/
  | tcpUserTimeout (conn : Nat)
  /-- TCP_RETRANSMISSION_TIMEOUT: connection. -/
  | tcpRetransmissionTimeout (conn : Nat)
  /-- PLCA_BEACON: whether the beacon is the coordinator's or the device's own. -/
  | plcaBeacon (received : Bool)
  /-- BDP_CONNECT: connection number, port, destination TCP port. -/
  | bdpConnect (conn port number : Nat)
  /-- BDP_AUTH: connection, record tag passes, KEY_ID, whether SIGNATURE verifies under that key, reserved byte set. -/
  | bdpAuth (conn : Nat) (tagOk : Bool) (keyId : Nat) (sigOk resv : Bool)
  /-- BDP_READ: BDP request, transaction. -/
  | bdpRead (rq : Rq) (b : BdpBody)
  /-- BDP_WRITE: BDP request, transaction. -/
  | bdpWrite (rq : Rq) (b : BdpBody)
  /-- BDP_SNAPSHOT: BDP request, transaction. -/
  | bdpSnapshot (rq : Rq) (b : BdpBody)
  /-- BAD_MESSAGE: connection, MSG code. -/
  | badMessage (conn msg : Nat)
  /-- REGISTER_WRITE: BDP request, item. -/
  | registerWrite (rq : Rq) (item : Item)
  /-- PROFILE_EDIT: BDP request, PROFILE, items. -/
  | profileEdit (rq : Rq) (profile : Nat) (items : List Item)
  /-- PROFILE_SELECT: BDP request, profile. -/
  | profileSelect (rq : Rq) (profile : Nat)
  /-- PROFILE_APPLY: no operand. -/
  | profileApply
  /-- FACTORY_RESET: BDP request, value. -/
  | factoryReset (rq : Rq) (value : Nat)
  /-- BDP_EVENT_SEND: connection. -/
  | bdpEventSend (conn : Nat)
  /-- TENANT_FORM: BDP request, tenant. -/
  | tenantForm (rq : Rq) (tenant : Nat)
  /-- TENANT_ACTIVATE: BDP request, tenant. -/
  | tenantActivate (rq : Rq) (tenant : Nat)
  /-- TENANT_REMOVE: BDP request, tenant, nonce. -/
  | tenantRemove (rq : Rq) (tenant nonce : Nat)
  /-- REMOVAL_OPS_CANCELLED: tenant. -/
  | removalOpsCancelled (tenant : Nat)
  /-- REMOVAL_XFERS_DONE: tenant, transfers aborted. -/
  | removalXfersDone (tenant aborted : Nat)
  /-- SCRUB_PART_DONE: tenant, part of step 6 (the vault part ends with DIE_ERASE_DONE). -/
  | scrubPartDone (tenant : Nat) (part : ScrubPart)
  /-- RECEIPT_SIGNED: tenant. -/
  | receiptSigned (tenant : Nat)
  /-- UFS_PURGE_DONE: no operand. -/
  | ufsPurgeDone
  /-- ENVELOPE: BDP request, tenant, 20-byte record as a little-endian number. -/
  | envelope (rq : Rq) (tenant value : Nat)
  /-- PRINCIPAL_KEY_WRITE: BDP request, entry code, key as a little-endian number (0 withdraws). -/
  | principalKeyWrite (rq : Rq) (code key : Nat)
  /-- DEBUG_UNLOCK: BDP request, whether the signature verifies. -/
  | debugUnlock (rq : Rq) (sigOk : Bool)
  /-- TRNG_FAIL: no operand. -/
  | trngFail
  /-- POWER_REQUEST_RESTART_TIMERS: BDP request. -/
  | powerRequestRestartTimers (rq : Rq)
  /-- POWER_REQUEST_SLEEP: BDP request. -/
  | powerRequestSleep (rq : Rq)
  /-- POWER_REQUEST_DEEP_SLEEP: BDP request. -/
  | powerRequestDeepSleep (rq : Rq)
  /-- POWER_REQUEST_OFF: BDP request. -/
  | powerRequestOff (rq : Rq)
  /-- IDLE_ENTRY: no operand. -/
  | idleEntry
  /-- IDLE_EXIT: no operand. -/
  | idleExit
  /-- SLEEP_AFTER_EXPIRY: no operand. -/
  | sleepAfterExpiry
  /-- DEEP_AFTER_EXPIRY: no operand. -/
  | deepAfterExpiry
  /-- ENTRY_PROGRESS: no operand. -/
  | entryProgress
  /-- ENTRY_ABORT: refuser code, port, tenant. -/
  | entryAbort (code port tenant : Nat)
  /-- WAKE_EVENT: wake code. -/
  | wakeEvent (code : Nat)
  /-- RETURN_COMPLETE: no operand. -/
  | returnComplete
  /-- VCORE_LOOP: measured 100 us averages: input, vault converting, vault non-converting, DRAM, digital, I/O and losses; handshake rate. -/
  | vcoreLoop (powers : List Nat) (rate : Nat)
  /-- THERMAL_SAMPLE: Tj, m degrees C. -/
  | thermalSample (tj : Int)
  /-- THROTTLE_STEP: no operand. -/
  | throttleStep
  /-- THERMAL_TRIP: Tj. -/
  | thermalTrip (tj : Int)
  /-- THERMAL_SHUTDOWN: Tj. -/
  | thermalShutdown (tj : Int)
  /-- FAULT_ACK: BDP request, SEQ. -/
  | faultAck (rq : Rq) (seq : Nat)
  /-- EVENT_SUBSCRIBE: BDP request, class mask. -/
  | eventSubscribe (rq : Rq) (mask : Nat)
  /-- FATAL_RESET: no operand. -/
  | fatalReset
  /-- COUNTERS_CLEAR: BDP request, group. -/
  | countersClear (rq : Rq) (group : Nat)
  /-- MIRROR_CONSENT: BDP request, tenant, value. -/
  | mirrorConsent (rq : Rq) (tenant value : Nat)
  /-- MIRROR_KEY: BDP request, tenant, key. -/
  | mirrorKey (rq : Rq) (tenant key : Nat)
  /-- MIRROR_FLUSH: BDP request, tenant. -/
  | mirrorFlush (rq : Rq) (tenant : Nat)
  /-- SEGMENT_EXPORT: tenant. -/
  | segmentExport (tenant : Nat)
  /-- MIRROR_TIME_RECORD: tenant. -/
  | mirrorTimeRecord (tenant : Nat)
  /-- MIRROR_POWER_RECORD: tenant. -/
  | mirrorPowerRecord (tenant : Nat)
  /-- MIRROR_GET: connection, TENANT, FILE_SEQ, OFFSET, LENGTH, reserved byte set. -/
  | mirrorGet (conn tenant fileSeq offset len : Nat) (resv : Bool)
  /-- REPLAY_START: BDP request, tenant, first and last FILE_SEQ, MODE, reserved byte set. -/
  | replayStart (rq : Rq) (tenant first last mode : Nat) (resv : Bool)
  /-- REPLAY_STOP: BDP request, tenant. -/
  | replayStop (rq : Rq) (tenant : Nat)
  /-- REPLAY_INJECT: tenant. -/
  | replayInject (tenant : Nat)
  /-- REPLAY_END: tenant. -/
  | replayEnd (tenant : Nat)
  /-- RESET_ASSERT: no operand. -/
  | resetAssert
  /-- COLD_START: sampled straps and what the start-up finds. -/
  | coldStart (b : Boot)
  /-- SERVICE_READY: no operand. -/
  | serviceReady
  /-- WAKE_PIN: no operand. -/
  | wakePin
  /-- BROWNOUT: no operand. -/
  | brownout
  /-- AON_LOSS: no operand. -/
  | aonLoss
  /-- CAL_ALARM_DUE: no operand. -/
  | calAlarmDue
  /-- CAL_ALARM: BDP request, calendar time. -/
  | calAlarm (rq : Rq) (value : Nat)
  /-- CAL_SET: BDP request, calendar time. -/
  | calSet (rq : Rq) (value : Nat)
  /-- PPS_PULSE: no operand. -/
  | ppsPulse
  /-- EXTEST: boundary-scan bits shifted in. -/
  | extest (cells : Nat)
  /-- IDCODE: no operand. -/
  | idcode
  /-- SAMPLE_PRELOAD: bits preloaded, levels of the balls. -/
  | samplePreload (cells captured : Nat)
  /-- COMMISSION: 1,793-byte key as a little-endian number, 8 reserved bits. -/
  | commission (key reserved : Nat)
  /-- BYPASS: bit shifted in. -/
  | bypass (bit : Bool)
  /-- CALENDAR_LOST: no operand. -/
  | calendarLost
  /-- ADD: vector unit, fields of the instruction word. -/
  | vAdd (unit : Nat) (f : VF)
  /-- SUB: vector unit, fields of the instruction word. -/
  | vSub (unit : Nat) (f : VF)
  /-- MUL: vector unit, fields of the instruction word. -/
  | vMul (unit : Nat) (f : VF)
  /-- FMA: vector unit, fields of the instruction word. -/
  | vFma (unit : Nat) (f : VF)
  /-- MAX: vector unit, fields of the instruction word. -/
  | vMax (unit : Nat) (f : VF)
  /-- MIN: vector unit, fields of the instruction word. -/
  | vMin (unit : Nat) (f : VF)
  /-- ABS: vector unit, fields of the instruction word. -/
  | vAbs (unit : Nat) (f : VF)
  /-- NEG: vector unit, fields of the instruction word. -/
  | vNeg (unit : Nat) (f : VF)
  /-- MOV: vector unit, fields of the instruction word. -/
  | vMov (unit : Nat) (f : VF)
  /-- ADDS: vector unit, fields of the instruction word. -/
  | vAdds (unit : Nat) (f : VF)
  /-- SUBS: vector unit, fields of the instruction word. -/
  | vSubs (unit : Nat) (f : VF)
  /-- MULS: vector unit, fields of the instruction word. -/
  | vMuls (unit : Nat) (f : VF)
  /-- FMAS: vector unit, fields of the instruction word. -/
  | vFmas (unit : Nat) (f : VF)
  /-- MAXS: vector unit, fields of the instruction word. -/
  | vMaxs (unit : Nat) (f : VF)
  /-- MINS: vector unit, fields of the instruction word. -/
  | vMins (unit : Nat) (f : VF)
  /-- EXP: vector unit, fields of the instruction word. -/
  | vExp (unit : Nat) (f : VF)
  /-- LOG: vector unit, fields of the instruction word. -/
  | vLog (unit : Nat) (f : VF)
  /-- RCP: vector unit, fields of the instruction word. -/
  | vRcp (unit : Nat) (f : VF)
  /-- RSQ: vector unit, fields of the instruction word. -/
  | vRsq (unit : Nat) (f : VF)
  /-- SIG: vector unit, fields of the instruction word. -/
  | vSig (unit : Nat) (f : VF)
  /-- TANH: vector unit, fields of the instruction word. -/
  | vTanh (unit : Nat) (f : VF)
  /-- GELU: vector unit, fields of the instruction word. -/
  | vGelu (unit : Nat) (f : VF)
  /-- SILU: vector unit, fields of the instruction word. -/
  | vSilu (unit : Nat) (f : VF)
  /-- STAT: vector unit, fields of the instruction word. -/
  | vStat (unit : Nat) (f : VF)
  /-- NORM: vector unit, fields of the instruction word. -/
  | vNorm (unit : Nat) (f : VF)
  /-- ROPE: vector unit, fields of the instruction word. -/
  | vRope (unit : Nat) (f : VF)
  /-- QNT: vector unit, fields of the instruction word. -/
  | vQnt (unit : Nat) (f : VF)
  /-- DQT: vector unit, fields of the instruction word. -/
  | vDqt (unit : Nat) (f : VF)
  /-- MXQ: vector unit, fields of the instruction word. -/
  | vMxq (unit : Nat) (f : VF)
  /-- OSCAN: vector unit, fields of the instruction word. -/
  | vOscan (unit : Nat) (f : VF)
  /-- ESCF: vector unit, fields of the instruction word. -/
  | vEscf (unit : Nat) (f : VF)
  /-- EMAP: vector unit, fields of the instruction word. -/
  | vEmap (unit : Nat) (f : VF)
  /-- QSITE: vector unit, fields of the instruction word. -/
  | vQsite (unit : Nat) (f : VF)
  /-- CORR: vector unit, fields of the instruction word. -/
  | vCorr (unit : Nat) (f : VF)
  /-- WCORR: vector unit, fields of the instruction word. -/
  | vWcorr (unit : Nat) (f : VF)
  /-- RSUM: vector unit, fields of the instruction word. -/
  | vRsum (unit : Nat) (f : VF)
  /-- RMAX: vector unit, fields of the instruction word. -/
  | vRmax (unit : Nat) (f : VF)
  /-- RMIN: vector unit, fields of the instruction word. -/
  | vRmin (unit : Nat) (f : VF)
  /-- RAMX: vector unit, fields of the instruction word. -/
  | vRamx (unit : Nat) (f : VF)
  /-- TOPK: vector unit, fields of the instruction word. -/
  | vTopk (unit : Nat) (f : VF)
  /-- TOPKI: vector unit, fields of the instruction word. -/
  | vTopki (unit : Nat) (f : VF)
  /-- GATH: vector unit, fields of the instruction word. -/
  | vGath (unit : Nat) (f : VF)
  /-- SCAT: vector unit, fields of the instruction word. -/
  | vScat (unit : Nat) (f : VF)
  /-- LD: vector unit, fields of the instruction word. -/
  | vLd (unit : Nat) (f : VF)
  /-- ST: vector unit, fields of the instruction word. -/
  | vSt (unit : Nat) (f : VF)
  /-- SET: vector unit, scalar register, immediate of the instruction word. -/
  | vSet (unit : Nat) (dst : Nat) (imm : BitVec 32)
  /-- SOP_ADD: vector unit, fields of the instruction word. -/
  | vSopAdd (unit : Nat) (f : VF)
  /-- SOP_SUB: vector unit, fields of the instruction word. -/
  | vSopSub (unit : Nat) (f : VF)
  /-- SOP_MUL: vector unit, fields of the instruction word. -/
  | vSopMul (unit : Nat) (f : VF)
  /-- SOP_MAX: vector unit, fields of the instruction word. -/
  | vSopMax (unit : Nat) (f : VF)
  /-- SOP_RCP: vector unit, fields of the instruction word. -/
  | vSopRcp (unit : Nat) (f : VF)
  /-- SOP_RSQRT: vector unit, fields of the instruction word. -/
  | vSopRsqrt (unit : Nat) (f : VF)
  /-- END: vector unit. -/
  | vEnd (unit : Nat)
deriving DecidableEq, Repr

end Sys2Proof
end

