-- ==== Sys2Proof/Decode.lean ====
section
/-! DEFINITION. The command that a word spells by the table's bits. No row of the table gives any bits: a command reaches the block with its operands, and no word spells one. -/

namespace Sys2Proof

/-- The command that `nbits` bits `w` spell: none, since no row of spec/opcode_table.json has bit fields. -/
def decodeTableWord (_nbits _w : Nat) : Option Instr := none

end Sys2Proof
end

