-- ==== Sys2Proof/Machine/Map.lean ====
section
/-! DEFINITION. Reading and writing the sparse tables that hold the block's numbered resources, and octet strings. -/

namespace Sys2Proof.Machine

/-- The value of key `k`; `d` where the table lists none. -/
def mget {α : Type} (d : α) : SMap α → Nat → α
  | [], _ => d
  | (a, v) :: t, k => if a = k then v else mget d t k

/-- The table without key `k`. -/
def mdel {α : Type} : SMap α → Nat → SMap α
  | [], _ => []
  | (a, w) :: t, k => if a = k then mdel t k else (a, w) :: mdel t k

/-- `(k, v)` put before the first greater key. -/
def minsert {α : Type} (k : Nat) (v : α) : SMap α → SMap α
  | [] => [(k, v)]
  | (a, w) :: t => if k < a then (k, v) :: (a, w) :: t else (a, w) :: minsert k v t

/-- The table with value `v` at key `k`; it keeps the canonical form: keys rise, and no entry equals `d`. -/
def mset {α : Type} [DecidableEq α] (d : α) (m : SMap α) (k : Nat) (v : α) : SMap α :=
  if v = d then mdel m k else minsert k v (mdel m k)

/-- The table with `f` applied to the value at key `k`. -/
def mmod {α : Type} [DecidableEq α] (d : α) (m : SMap α) (k : Nat) (f : α → α) : SMap α :=
  mset d m k (f (mget d m k))

/-- Canonical form of a table: keys above `lo` rise, and no entry equals `d`. -/
def mwfFrom {α : Type} [DecidableEq α] (d : α) : Nat → SMap α → Bool
  | _, [] => true
  | lo, (a, v) :: t => decide (lo ≤ a) && !decide (v = d) && mwfFrom d (a + 1) t

/-- Canonical form of a table. -/
def mwf {α : Type} [DecidableEq α] (d : α) (m : SMap α) : Bool := mwfFrom d 0 m

/-- The keys a table lists. -/
def mkeys {α : Type} (m : SMap α) : List Nat := m.map (·.1)

/-- The entries whose key satisfies `p`. -/
def mfilter {α : Type} (p : Nat → α → Bool) (m : SMap α) : SMap α := m.filter fun e => p e.1 e.2

/-- `f` applied to every listed value, kept in canonical form. -/
def mmap {α : Type} [DecidableEq α] (d : α) (f : Nat → α → α) (m : SMap α) : SMap α :=
  (m.map fun e => (e.1, f e.1 e.2)).filter fun e => !decide (e.2 = d)

/-- `f` applied to the values of the keys in `ks`. -/
def mmodAll {α : Type} [DecidableEq α] (d : α) (m : SMap α) (ks : List Nat) (f : α → α) : SMap α :=
  ks.foldl (fun m k => mmod d m k f) m

/-- How many listed entries satisfy `p`. -/
def mcount {α : Type} (p : Nat → α → Bool) (m : SMap α) : Nat := (m.filter fun e => p e.1 e.2).length

/-- `v` as `n` octets, least significant first (R11). -/
def le : Nat → Nat → Bytes
  | 0, _ => []
  | n + 1, v => v % 256 :: le n (v / 256)

/-- The number that octets spell, least significant first (R11). -/
def unle : Bytes → Nat
  | [] => 0
  | b :: t => b + 256 * unle t

/-- Bit `k` of `v`. -/
def nbit (v k : Nat) : Bool := v / 2 ^ k % 2 == 1

/-- Bits `lo` to `lo + n - 1` of `v`. -/
def nbits (v lo n : Nat) : Nat := v / 2 ^ lo % 2 ^ n

/-- The octets of an ASCII text. -/
def ascii (t : String) : Bytes := t.toList.map Char.toNat

/-- A two's complement number of `w` bits as an integer. -/
def sint (w v : Nat) : Int := if v < 2 ^ (w - 1) then (v : Int) else (v : Int) - 2 ^ w

/-- An integer as a two's complement number of `w` bits. -/
def uint (w : Nat) (i : Int) : Nat := (i % 2 ^ w).toNat

/-- Serial comparison of numbers of `w` bits: whether `a` is after `b` (R422). -/
def serialAfter (w a b : Nat) : Bool :=
  let d := (a + 2 ^ w - b % 2 ^ w) % 2 ^ w
  decide (1 ≤ d ∧ d ≤ 2 ^ (w - 1) - 1)

/-- Integer quotient rounded up. -/
def cdiv (a b : Nat) : Nat := (a + b - 1) / b

/-- Whether every element of `l` is in `m`. -/
def subset (l m : List Nat) : Bool := l.all (m.contains ·)

/-- The list without its first element that satisfies `p`. -/
def dropFirst {α : Type} (p : α → Bool) : List α → List α
  | [] => []
  | a :: t => if p a then t else a :: dropFirst p t

/-- `f` applied to the first element that satisfies `p`. -/
def modFirst {α : Type} (p : α → Bool) (f : α → α) : List α → List α
  | [] => []
  | a :: t => if p a then f a :: t else a :: modFirst p f t

/-- The numbers of set bits of `v` below `n`, rising. -/
def setBits (v n : Nat) : List Nat := (List.range n).filter (nbit v)

/-- How many bits of `v` below `n` are set. -/
def popcount (v n : Nat) : Nat := (setBits v n).length

/-- The element with the least key among those that satisfy `p`. -/
def minBy {α : Type} (key : α → Nat) : List α → Option α
  | [] => none
  | a :: t =>
    match minBy key t with
    | none => some a
    | some b => if key b < key a then some b else some a

/-- The end of the run of octets from `at'` that the ranges cover, after at most `n` joins. -/
def coveredTo : Nat → List (Nat × Nat) → Nat → Nat
  | 0, _, at' => at'
  | n + 1, rs, at' =>
    match rs.find? fun r => decide (r.1 ≤ at') && decide (at' < r.2) with
    | none => at'
    | some r => coveredTo n rs r.2

end Sys2Proof.Machine
end

