-- ==== Sys2Proof/Machine/Operands.lean ====
section
/-! DEFINITION. The number formats of the engines: decoding, narrowing and exact arithmetic (R29..R40, R44). -/

namespace Sys2Proof.Machine

/-- The element formats (R31, R34, R35, R44). An MX format's elements are `e4m3`, `e2m1` and `mxi8` under the block's scale. -/
inductive Fmt where
  | fp32 | fp16 | bf16 | e4m3 | e5m2 | e3m2 | e2m3 | e2m1 | int8 | int4 | mxi8 | int4x | fp4x
deriving DecidableEq, Repr

/-- A value: canonical NaN, an infinity, or `±m * 2^e`, exactly. -/
inductive Val where
  | nan
  | inf (neg : Bool)
  | fin (neg : Bool) (m : Nat) (e : Int)
deriving DecidableEq, Repr

/-- Layout of a floating-point format: exponent bits, mantissa bits, bias, code of the largest finite magnitude, code of infinity, code of the canonical NaN (R31, R32). -/
structure FloatFmt where
  ebits : Nat
  mbits : Nat
  bias : Nat
  maxCode : Nat
  infCode : Option Nat
  nanCode : Option Nat
deriving DecidableEq, Repr

/-- The layout of a floating-point format; none for an integer format. -/
def Fmt.float : Fmt → Option FloatFmt
  | .fp32 => some ⟨8, 23, 127, 0x7F7FFFFF, some 0x7F800000, some 0x7FC00000⟩
  | .fp16 => some ⟨5, 10, 15, 0x7BFF, some 0x7C00, some 0x7E00⟩
  | .bf16 => some ⟨8, 7, 127, 0x7F7F, some 0x7F80, some 0x7FC0⟩
  | .e4m3 => some ⟨4, 3, 7, 0x7E, none, some 0x7F⟩
  | .e5m2 => some ⟨5, 2, 15, 0x7B, some 0x7C, some 0x7E⟩
  | .e3m2 => some ⟨3, 2, 3, 0x1F, none, none⟩
  | .e2m3 => some ⟨2, 3, 1, 0x1F, none, none⟩
  | .e2m1 => some ⟨2, 1, 1, 0x7, none, none⟩
  | .fp4x => some ⟨2, 1, 1, 0x7, none, none⟩
  | _ => none

/-- Bits of an element. -/
def Fmt.bits : Fmt → Nat
  | .fp32 => 32 | .fp16 => 16 | .bf16 => 16 | .e4m3 => 8 | .e5m2 => 8 | .e3m2 => 6 | .e2m3 => 6
  | .e2m1 => 4 | .int8 => 8 | .int4 => 4 | .mxi8 => 8 | .int4x => 4 | .fp4x => 4

/-- An integer as a value. -/
def Val.ofInt (i : Int) (e : Int) : Val := .fin (decide (i < 0)) i.natAbs e

/-- The value of a code (R31, R33, R34, R35, R44). -/
def decodeVal (f : Fmt) (code : Nat) : Val :=
  match f with
  | .int8 => Val.ofInt (sint 8 code) 0
  | .int4 => Val.ofInt (sint 4 code) 0
  | .mxi8 => Val.ofInt (sint 8 code) (-6)
  | .int4x => if code = 8 then .fin false 0 0 else Val.ofInt (sint 4 code) 0
  | _ =>
    match f.float with
    | none => .nan
    | some l =>
      let neg := nbit code (l.ebits + l.mbits)
      let ex := nbits code l.mbits l.ebits
      let ma := nbits code 0 l.mbits
      let mag := code % 2 ^ (l.ebits + l.mbits)
      if f = .fp4x ∧ code = 8 then .fin false 0 0
      else if l.infCode.isSome ∧ ex = 2 ^ l.ebits - 1 then (if ma = 0 then .inf neg else .nan)
      else if f = .e4m3 ∧ mag = 0x7F then .nan
      else if ex = 0 then .fin neg ma (1 - (l.bias : Int) - l.mbits)
      else .fin neg (2 ^ l.mbits + ma) ((ex : Int) - l.bias - l.mbits)

/-- `m / 2^k` to the nearest integer, ties to even (R38). -/
def rneDiv (m k : Nat) : Nat :=
  let q := m / 2 ^ k
  let r := m % 2 ^ k
  if k = 0 then m else if 2 ^ (k - 1) < r then q + 1 else if r = 2 ^ (k - 1) then (if q % 2 = 1 then q + 1 else q) else q

/-- `m * 2^e` to the nearest integer, ties to even (R38). -/
def rneScale (m : Nat) (e : Int) : Nat := if 0 ≤ e then m * 2 ^ e.toNat else rneDiv m (-e).toNat

/-- A narrowed element: its code, and what R39 counts. -/
structure Narrow where
  code : Nat
  clamp : Nat := 0
  drop : Nat := 0
deriving DecidableEq, Repr

/-- Narrowing of a finite magnitude to a floating-point format: quantum by exponent, nearest even, and whether it exceeds the range. -/
def narrowMag (l : FloatFmt) (m : Nat) (e : Int) : Nat × Bool :=
  if m = 0 then (0, false)
  else
    let qmin : Int := 1 - (l.bias : Int) - l.mbits
    let q := max ((Nat.log2 m : Int) + e - l.mbits) qmin
    let n := rneScale m (e - q)
    let code := n + (q - qmin).toNat * 2 ^ l.mbits
    if l.maxCode < code then (l.maxCode, true) else (code, false)

/-- Narrowing of a value to an integer code of `w` bits with magnitude limit `lim`, in units of 2^`u` (R34, R35, R39). -/
def narrowInt (w lim : Nat) (u : Int) (v : Val) : Narrow :=
  match v with
  | .nan => { code := 0, drop := 1 }
  | .inf neg => { code := uint w (if neg then -(lim : Int) else lim), clamp := 1 }
  | .fin neg m e =>
    let n := rneScale m (e - u)
    let k := min n lim
    { code := uint w (if neg then -(k : Int) else k), clamp := if lim < n then 1 else 0 }

/-- A value narrowed to a format, by R38 and R39. -/
def narrow (f : Fmt) (v : Val) : Narrow :=
  match f with
  | .int8 => narrowInt 8 127 0 v
  | .int4 => narrowInt 4 7 0 v
  | .int4x => narrowInt 4 7 0 v
  | .mxi8 => narrowInt 8 127 (-6) v
  | _ =>
    match f.float with
    | none => { code := 0 }
    | some l =>
      let sign := 2 ^ (l.ebits + l.mbits)
      match v with
      | .nan => match l.nanCode with
        | some c => { code := c }
        | none => { code := 0, drop := 1 }
      | .inf neg => match l.infCode with
        | some c => { code := c + if neg then sign else 0 }
        | none => { code := l.maxCode + if neg then sign else 0, clamp := 1 }
      | .fin neg m e =>
        let r := narrowMag l m e
        { code := r.1 + if neg && !(f == .fp4x && r.1 == 0) then sign else 0, clamp := if r.2 then 1 else 0 }

/-- Exact negation. -/
def Val.neg : Val → Val
  | .nan => .nan
  | .inf n => .inf !n
  | .fin n m e => .fin (!n) m e

/-- Magnitude. -/
def Val.abs : Val → Val
  | .nan => .nan
  | .inf _ => .inf false
  | .fin _ m e => .fin false m e

/-- A finite value's signed mantissa at exponent `q` (`q` at most its own). -/
def signedAt (neg : Bool) (m : Nat) (e q : Int) : Int :=
  let k : Int := (m * 2 ^ (e - q).toNat : Nat)
  if neg then -k else k

/-- Exact sum; a zero sum is +0 unless both terms are -0 (IEEE 754, R31). -/
def Val.add : Val → Val → Val
  | .nan, _ => .nan
  | _, .nan => .nan
  | .inf a, .inf b => if a = b then .inf a else .nan
  | .inf a, .fin .. => .inf a
  | .fin .., .inf b => .inf b
  | .fin a m e, .fin b n f =>
    let q := min e f
    let s := signedAt a m e q + signedAt b n f q
    if s = 0 then .fin (a && b) 0 q else .fin (decide (s < 0)) s.natAbs q

/-- Exact difference. -/
def Val.sub (a b : Val) : Val := a.add b.neg

/-- Exact product. -/
def Val.mul : Val → Val → Val
  | .nan, _ => .nan
  | _, .nan => .nan
  | .inf a, .inf b => .inf (a != b)
  | .inf a, .fin b n _ => if n = 0 then .nan else .inf (a != b)
  | .fin a m _, .inf b => if m = 0 then .nan else .inf (a != b)
  | .fin a m e, .fin b n f => .fin (a != b) (m * n) (e + f)

/-- Quotient with 80 bits and a sticky bit, so that narrowing it rounds the exact quotient once. -/
def Val.div : Val → Val → Val
  | .nan, _ => .nan
  | _, .nan => .nan
  | .inf _, .inf _ => .nan
  | .inf a, .fin b _ _ => .inf (a != b)
  | .fin a _ _, .inf b => .fin (a != b) 0 0
  | .fin a m e, .fin b n f =>
    if n = 0 then (if m = 0 then .nan else .inf (a != b))
    else
      let k := 80 + Nat.log2 n
      let q := m * 2 ^ k / n
      let r := m * 2 ^ k % n
      .fin (a != b) (2 * q + if r = 0 then 0 else 1) (e - f - k - 1)

/-- Integer square root by bits: the greatest `r` below `2^n` with `r * r ≤ x`. -/
def isqrt (x : Nat) : Nat → Nat → Nat
  | 0, r => r
  | n + 1, r => let c := r + 2 ^ n; isqrt x n (if c * c ≤ x then c else r)

/-- Reciprocal square root of a positive value, with a sticky bit. -/
def Val.rsqrt : Val → Val
  | .nan => .nan
  | .inf neg => if neg then .nan else .fin false 0 0
  | .fin neg m e =>
    if m = 0 then .inf neg
    else if neg then .nan
    else
      -- 1/sqrt(m * 2^e), with e made even and the quotient at 2^(2k)
      let m' := if e % 2 = 0 then m else 2 * m
      let e' := if e % 2 = 0 then e else e - 1
      let k := 60 + Nat.log2 m'
      let x := 2 ^ (2 * k) / m'
      let r := isqrt x (k + 1) 0
      .fin false (2 * r + 1) (-(e' / 2) - k - 1)

/-- Whether `a < b` among non-NaN values, with -0 below +0 (R116). -/
def Val.lt : Val → Val → Bool
  | .nan, _ => false
  | _, .nan => false
  | .inf a, .inf b => a && !b
  | .inf a, .fin .. => a
  | .fin .., .inf b => !b
  | .fin a m e, .fin b n f =>
    let q := min e f
    let x := signedAt a m e q
    let y := signedAt b n f q
    decide (x < y) || (decide (x = y) && a && !b)

/-- Maximum; canonical NaN when either is NaN (R116). -/
def Val.max (a b : Val) : Val := if a = .nan ∨ b = .nan then .nan else if a.lt b then b else a

/-- Minimum; canonical NaN when either is NaN (R116). -/
def Val.min (a b : Val) : Val := if a = .nan ∨ b = .nan then .nan else if b.lt a then b else a

/-- Whether a value is finite. -/
def Val.finite : Val → Bool
  | .fin .. => true
  | _ => false

/-- Whether a value is a zero. -/
def Val.isZero : Val → Bool
  | .fin _ m _ => m == 0
  | _ => false

/-- The value of an FP32 word. -/
def f32 (w : BitVec 32) : Val := decodeVal .fp32 w.toNat

/-- A value as an FP32 word, narrowed by R38 and R39. -/
def toF32 (v : Val) : BitVec 32 := BitVec.ofNat 32 (narrow .fp32 v).code

/-- The clamps that R39 counts when a value is narrowed to FP32. -/
def clampF32 (v : Val) : Nat := (narrow .fp32 v).clamp

/-- A number as an FP32 word. -/
def f32OfInt (i : Int) : BitVec 32 := toF32 (Val.ofInt i 0)

/-- The value of a BF16 word. -/
def bf16 (w : BitVec 16) : Val := decodeVal .bf16 w.toNat

/-- An FP32 sum. -/
def addF32 (a b : BitVec 32) : BitVec 32 := toF32 ((f32 a).add (f32 b))
/-- An FP32 product. -/
def mulF32 (a b : BitVec 32) : BitVec 32 := toF32 ((f32 a).mul (f32 b))

/-- Whether FP32 word `a` is less than `b`. -/
def ltF32 (a b : BitVec 32) : Bool := (f32 a).lt (f32 b)

/-- An error held within `±b`. -/
def within (b : Nat) (u : Int) : Int := if u < -(b : Int) then -(b : Int) else if (b : Int) < u then b else u

/-! ### MX blocks (R35..R37) -/

/-- The exponent of a finite nonzero magnitude: floor(log2). -/
def Val.exponent : Val → Int
  | .fin _ m e => (Nat.log2 m : Int) + e
  | _ => 0

/-- Largest finite magnitude of a block, by exact comparison; +0 when it holds none. -/
def amax : List Val → Val
  | [] => .fin false 0 0
  | v :: t => let r := amax t; if v.finite && r.lt v.abs then v.abs else r

/-- The element format and emax of an MX format: 10 MXFP8, 11 MXFP4, 12 MXINT8 (R35, R37). -/
def mxElem : Nat → Option (Fmt × Int)
  | 10 => some (.e4m3, 8)
  | 11 => some (.e2m1, 2)
  | 12 => some (.mxi8, 0)
  | _ => none

/-- An element narrowed to a microscaling element format without its block: as R39's last column, a NaN becomes 0 and an infinity the largest magnitude. -/
def narrowMx (f : Fmt) (v : Val) : Narrow :=
  match v with
  | .nan => { code := 0, drop := 1 }
  | v => narrow f v

/-- An encoded MX block. -/
structure MxBlock where
  scale : Nat
  elems : List Nat
  clamp : Nat
  drop : Nat
deriving DecidableEq, Repr

/-- X of a block, its scale's exponent (R37): floor(log2 amax) - emax within -127..127; 127 for a block of zeros and infinities, -127 for one of zeros. -/
def mxExp (emax : Int) (xs : List Val) : Int :=
  let a := amax xs
  if a.isZero then (if xs.any fun v => !v.finite then 127 else -127) else Max.max (-127) (Min.min 127 (a.exponent - emax))

/-- The MX encoding of a block (R37). -/
def mxEncode (f : Fmt) (emax : Int) (xs : List Val) : MxBlock :=
  if xs.any (fun v => decide (v = .nan)) then { scale := 0xFF, elems := xs.map fun _ => 0, clamp := 0, drop := 1 }
  else
    let a := amax xs
    let inf := xs.any fun v => !v.finite
    if a.isZero && !inf then { scale := 0, elems := xs.map fun _ => 0, clamp := 0, drop := 0 }
    else
      let X := mxExp emax xs
      let ns := xs.map fun v => if a.isZero && v.isZero then { code := 0 } else narrow f (v.mul (.fin false 1 (-X)))
      { scale := (X + 127).toNat, elems := ns.map (·.code), clamp := (ns.map (·.clamp)).sum, drop := 0 }

/-- The value of an MX element under its scale; a scale of 0xFF gives NaN (R35, R37). -/
def mxDecode (f : Fmt) (scale code : Nat) : Val :=
  if scale = 0xFF then .nan else (decodeVal f code).mul (.fin false 1 ((scale : Int) - 127))

end Sys2Proof.Machine
end

