-- ==== Sys2Proof/Machine/Flags.lean ====
section
/-! DEFINITION. The status codes, event codes and flag fields of the spec, each by its name. -/

namespace Sys2Proof.Machine

/-- BDP status (R353, R392, R410, R431). -/
def Bdp.ok : Nat := 0
/-- BDP status (R353, R392, R410, R431). -/
def Bdp.pending : Nat := 1
/-- BDP status (R353, R392, R410, R431). -/
def Bdp.reservedSet : Nat := 16
/-- BDP status (R353, R392, R410, R431). -/
def Bdp.outOfRange : Nat := 17
/-- BDP status (R353, R392, R410, R431). -/
def Bdp.noObject : Nat := 18
/-- BDP status (R353, R392, R410, R431). -/
def Bdp.denied : Nat := 19
/-- BDP status (R353, R392, R410, R431). -/
def Bdp.wrongPort : Nat := 20
/-- BDP status (R353, R392, R410, R431). -/
def Bdp.readOnly : Nat := 21
/-- BDP status (R353, R392, R410, R431). -/
def Bdp.writeOnly : Nat := 22
/-- BDP status (R353, R392, R410, R431). -/
def Bdp.badState : Nat := 25
/-- BDP status (R353, R392, R410, R431). -/
def Bdp.notOwned : Nat := 26
/-- BDP status (R353, R392, R410, R431). -/
def Bdp.staleEpoch : Nat := 27
/-- BDP status (R353, R392, R410, R431). -/
def Bdp.noLease : Nat := 28
/-- BDP status (R353, R392, R410, R431). -/
def Bdp.busy : Nat := 29
/-- BDP status (R353, R392, R410, R431). -/
def Bdp.tooLarge : Nat := 30
/-- BDP status (R353, R392, R410, R431). -/
def Bdp.groupInvalid : Nat := 31
/-- BDP status (R353, R392, R410, R431). -/
def Bdp.unavailable : Nat := 32
/-- BDP status (R353, R392, R410, R431). -/
def Bdp.inUse : Nat := 33
/-- BDP status (R353, R392, R410, R431). -/
def Bdp.quotaFull : Nat := 34
/-- BDP status (R353, R392, R410, R431). -/
def Bdp.quotaInUse : Nat := 35
/-- BDP status (R353, R392, R410, R431). -/
def Bdp.typeMismatch : Nat := 36
/-- BDP status (R353, R392, R410, R431). -/
def Bdp.lengthMismatch : Nat := 37
/-- BDP status (R353, R392, R410, R431). -/
def Bdp.badMessage : Nat := 38
/-- BDP status (R353, R392, R410, R431). -/
def Bdp.imageInvalid : Nat := 48
/-- BDP status (R353, R392, R410, R431). -/
def Bdp.imageRev : Nat := 49
/-- BDP status (R353, R392, R410, R431). -/
def Bdp.formatUnsupported : Nat := 50
/-- BDP status (R353, R392, R410, R431). -/
def Bdp.scaleMismatch : Nat := 51
/-- BDP status (R353, R392, R410, R431). -/
def Bdp.shapeLimit : Nat := 52
/-- BDP status (R353, R392, R410, R431). -/
def Bdp.escapeMismatch : Nat := 53
/-- BDP status (R353, R392, R410, R431). -/
def Bdp.escapeLimit : Nat := 54
/-- BDP status (R353, R392, R410, R431). -/
def Bdp.vprogInvalid : Nat := 55
/-- BDP status (R353, R392, R410, R431). -/
def Bdp.planInvalid : Nat := 56
/-- BDP status (R353, R392, R410, R431). -/
def Bdp.opTooLong : Nat := 57
/-- BDP status (R353, R392, R410, R431). -/
def Bdp.expanderRate : Nat := 58
/-- BDP status (R353, R392, R410, R431). -/
def Bdp.vaultFull : Nat := 59
/-- BDP status (R353, R392, R410, R431). -/
def Bdp.tokeniserMismatch : Nat := 60
/-- BDP status (R353, R392, R410, R431). -/
def Bdp.kvIncompatible : Nat := 61
/-- BDP status (R353, R392, R410, R431). -/
def Bdp.adapterBound : Nat := 62
/-- BDP status (R353, R392, R410, R431). -/
def Bdp.adapterBase : Nat := 63
/-- BDP status (R353, R392, R410, R431). -/
def Bdp.fwInvalid : Nat := 64
/-- BDP status (R353, R392, R410, R431). -/
def Bdp.fwRollback : Nat := 65
/-- BDP status (R353, R392, R410, R431). -/
def Bdp.fwNotRolling : Nat := 66
/-- BDP status (R353, R392, R410, R431). -/
def Bdp.envelope : Nat := 80
/-- BDP status (R353, R392, R410, R431). -/
def Bdp.badSignature : Nat := 81
/-- BDP status (R353, R392, R410, R431). -/
def Bdp.debugOpen : Nat := 82
/-- BDP status (R353, R392, R410, R431). -/
def Bdp.powerRefused : Nat := 83
/-- BDP status (R353, R392, R410, R431). -/
def Bdp.mirrorOff : Nat := 84
/-- BDP status (R353, R392, R410, R431). -/
def Bdp.mirrorKey : Nat := 85
/-- BDP status (R353, R392, R410, R431). -/
def Bdp.replayMismatch : Nat := 86
/-- Not a status: the entry's rule waits for preparation, and the write is answered when it is done (R354). -/
def Bdp.prepares : Nat := 65536
/-- ASX status (R288). -/
def Asx.ok : Nat := 0
/-- ASX status (R288). -/
def Asx.queued : Nat := 1
/-- ASX status (R288). -/
def Asx.running : Nat := 2
/-- ASX status (R288). -/
def Asx.badUtf8 : Nat := 16
/-- ASX status (R288). -/
def Asx.tokenRange : Nat := 17
/-- ASX status (R288). -/
def Asx.outOfRange : Nat := 18
/-- ASX status (R288). -/
def Asx.reservedSet : Nat := 19
/-- ASX status (R288). -/
def Asx.sessionUnknown : Nat := 20
/-- ASX status (R288). -/
def Asx.sessionClosed : Nat := 21
/-- ASX status (R288). -/
def Asx.sessionBusy : Nat := 22
/-- ASX status (R288). -/
def Asx.notOwned : Nat := 23
/-- ASX status (R288). -/
def Asx.staleRequest : Nat := 24
/-- ASX status (R288). -/
def Asx.classDenied : Nat := 25
/-- ASX status (R288). -/
def Asx.classLimit : Nat := 26
/-- ASX status (R288). -/
def Asx.overloaded : Nat := 27
/-- ASX status (R288). -/
def Asx.queueTimeout : Nat := 28
/-- ASX status (R288). -/
def Asx.contextLimit : Nat := 29
/-- ASX status (R288). -/
def Asx.quotaFull : Nat := 30
/-- ASX status (R288). -/
def Asx.modelNotReady : Nat := 31
/-- ASX status (R288). -/
def Asx.adapterUnavailable : Nat := 32
/-- ASX status (R288). -/
def Asx.draining : Nat := 33
/-- ASX status (R288). -/
def Asx.halted : Nat := 34
/-- ASX status (R288). -/
def Asx.tenantGone : Nat := 35
/-- ASX status (R288). -/
def Asx.cancelled : Nat := 48
/-- ASX status (R288). -/
def Asx.poisoned : Nat := 49
/-- ASX status (R288). -/
def Asx.failed : Nat := 50
/-- ASX status (R288). -/
def Asx.timeout : Nat := 51
/-- ASX status (R288). -/
def Asx.haltCancelled : Nat := 52

/-- An event's code and class (R415). -/
structure EvKind where
  code : Nat
  cls : Nat
deriving DecidableEq, Repr

/-- Event of R415. -/
def Ev.stratumDim : EvKind := ⟨0x0101, 1⟩
/-- Event of R415. -/
def Ev.stratumRetired : EvKind := ⟨0x0102, 1⟩
/-- Event of R415. -/
def Ev.shadowBound : EvKind := ⟨0x0103, 1⟩
/-- Event of R415. -/
def Ev.expanderFault : EvKind := ⟨0x0201, 1⟩
/-- Event of R415. -/
def Ev.blockPoisoned : EvKind := ⟨0x0202, 3⟩
/-- Event of R415. -/
def Ev.descInvalid : EvKind := ⟨0x0301, 6⟩
/-- Event of R415. -/
def Ev.syncSat : EvKind := ⟨0x0302, 1⟩
/-- Event of R415. -/
def Ev.opTimeout : EvKind := ⟨0x0303, 3⟩
/-- Event of R415. -/
def Ev.xferNotOwned : EvKind := ⟨0x0304, 6⟩
/-- Event of R415. -/
def Ev.dramRetryOk : EvKind := ⟨0x0401, 2⟩
/-- Event of R415. -/
def Ev.dramUe : EvKind := ⟨0x0402, 3⟩
/-- Event of R415. -/
def Ev.dramUeFatal : EvKind := ⟨0x0402, 6⟩
/-- Event of R415. -/
def Ev.dramUeScrub : EvKind := ⟨0x0403, 1⟩
/-- Event of R415. -/
def Ev.keyWriteLate : EvKind := ⟨0x0404, 1⟩
/-- Event of R415. -/
def Ev.channelLost : EvKind := ⟨0x0405, 1⟩
/-- Event of R415. -/
def Ev.channelLostTenant : EvKind := ⟨0x0405, 5⟩
/-- Event of R415. -/
def Ev.ufsQuota : EvKind := ⟨0x0501, 1⟩
/-- Event of R415. -/
def Ev.modelReady : EvKind := ⟨0x0502, 0⟩
/-- Event of R415. -/
def Ev.swapDone : EvKind := ⟨0x0503, 0⟩
/-- Event of R415. -/
def Ev.modelRemoved : EvKind := ⟨0x0504, 0⟩
/-- Event of R415. -/
def Ev.trainFailed : EvKind := ⟨0x0505, 4⟩
/-- Event of R415. -/
def Ev.ccRestart : EvKind := ⟨0x0601, 2⟩
/-- Event of R415. -/
def Ev.ccFail : EvKind := ⟨0x0602, 6⟩
/-- Event of R415. -/
def Ev.fwRollback : EvKind := ⟨0x0603, 1⟩
/-- Event of R415. -/
def Ev.leaseTakeover : EvKind := ⟨0x0604, 1⟩
/-- Event of R415. -/
def Ev.leaseExpired : EvKind := ⟨0x0605, 1⟩
/-- Event of R415. -/
def Ev.unattended : EvKind := ⟨0x0606, 1⟩
/-- Event of R415. -/
def Ev.portLinkDown : EvKind := ⟨0x0701, 1⟩
/-- Event of R415. -/
def Ev.mkaPeerLost : EvKind := ⟨0x0702, 1⟩
/-- Event of R415. -/
def Ev.tenantReleased : EvKind := ⟨0x0801, 0⟩
/-- Event of R415. -/
def Ev.ufsPurged : EvKind := ⟨0x0802, 1⟩
/-- Event of R415. -/
def Ev.trngFail : EvKind := ⟨0x0803, 6⟩
/-- Event of R415. -/
def Ev.thermalThrottle : EvKind := ⟨0x0901, 1⟩
/-- Event of R415. -/
def Ev.thermalTrip : EvKind := ⟨0x0902, 1⟩
/-- Event of R415. -/
def Ev.thermalShutdown : EvKind := ⟨0x0903, 6⟩
/-- Event of R415. -/
def Ev.counterSat : EvKind := ⟨0x0A01, 1⟩
/-- Event of R415. -/
def Ev.mirrorLost : EvKind := ⟨0x0A02, 1⟩
/-- Event of R415. -/
def Ev.replayDone : EvKind := ⟨0x0A03, 0⟩

/-- LOCUS_KIND values of R414. -/
def Locus.none : Nat := 0
/-- Stratum, per R93. -/
def Locus.stratum : Nat := 1
/-- Cluster and pod. -/
def Locus.pod : Nat := 2
/-- Channel. -/
def Locus.channel : Nat := 3
/-- Control core. -/
def Locus.core : Nat := 4
/-- Port. -/
def Locus.port : Nat := 5
/-- Session handle. -/
def Locus.session : Nat := 6
/-- Descriptor slot. -/
def Locus.slot : Nat := 7
/-- Dictionary entry. -/
def Locus.entry : Nat := 8

/-- A flag field built from its bits, bit 0 first. -/
def flagBits : List Bool → Nat
  | [] => 0
  | b :: t => (if b then 1 else 0) + 2 * flagBits t

/-- The 32-byte event record of R414. -/
def eventBytes (code cls flags seq mono tenant kind locus detail : Nat) : Bytes :=
  le 2 code ++ le 1 cls ++ le 1 flags ++ le 4 seq ++ le 8 mono ++ le 1 tenant ++ le 1 kind ++ le 2 0 ++ le 4 locus ++ le 8 detail

end Sys2Proof.Machine
end

