-- ==== Sys2Proof/Machine/State.lean ====
section
/-! DEFINITION. The state of the block as plain data: everything the spec gives the machine, and the queue of waiting commands. -/

namespace Sys2Proof.Machine

/-- Identity of the module (00_scope.md). -/
structure Ident where
  /-- ordering code, STR(16), `VQ880-A2` or `VQ880-I1` padded with 0x00; fixed at manufacturing test (delivered model: `VQ880-A2`) (R2; 128 bits). -/
  orderCode : BitVec 128 := Config.orderCodeA2
  /-- DEVICE_ID octets read at 0x4000.01 (R367; 256 bits). -/
  deviceId : Bytes := []
deriving DecidableEq, Repr
/-- A Ident whose every field has its first value. -/
def Ident.init : Ident := {}

/-- R34 (03_weight_vault.md). -/
inductive VFmt where
  | int8 | int4
deriving DecidableEq, Repr

/-- The model weights a stratum holds or is to receive (03_weight_vault.md). -/
structure WContent where
  /-- owning tenant (R211; 4 bits). -/
  tenant : Nat := 0
  /-- model slot (R256; 2 bits). -/
  slot : Nat := 0
  /-- generation of the image (R260; 32 bits). -/
  gen : Nat := 0
  /-- projection number in the image's vault map (R58; 16 bits). -/
  proj : Nat := 0
  /-- row-block (R58; 6 bits). -/
  rb : Nat := 0
  /-- column block (R58; 16 bits). -/
  cb : Nat := 0
deriving DecidableEq, Repr
/-- A WContent whose every field has its first value. -/
def WContent.init : WContent := {}

/-- One matrix-vector product of one row-block on one array (or a test) (03_weight_vault.md). -/
structure Mvm where
  /-- work-queue slot of the VMVM (R176; 14 bits). -/
  op : Nat := 0
  /-- tenant (R71; 4 bits). -/
  tenant : Nat := 0
  /-- class IMM (R69; 1 bits). -/
  imm : Bool := false
  /-- stratum it converts (R93; 18 bits). -/
  stratum : Nat := 0
  /-- input vector of the operation (R58; 16 bits). -/
  vec : Nat := 0
  /-- row-block (R58; 6 bits). -/
  rb : Nat := 0
  /-- column block (R58; 16 bits). -/
  cb : Nat := 0
  /-- input format (R34; 1 bits). -/
  fmt : VFmt := .int8
  /-- quantised input slice, row to element (escaped rows 0) (R59; 2048 x 8 bits). -/
  q : SMap Int := []
  /-- time it was queued, ns (SLOT_WAIT_NS) (R74; 64 bits). -/
  enqAt : Nat := 0
  /-- test pattern number when it is a test vector (R77; 6 bits). -/
  test : Option Nat := none
  /-- planes still to convert (next plane is nextPlane-1) (R69; 4 bits). -/
  nextPlane : Nat := 0
  /-- it has been suspended and is never suspended again (R69; 1 bits). -/
  resumed : Bool := false
  /-- accumulator set, per slot column (R65; 1024 x 32 bits). -/
  acc : SMap Int := []
deriving DecidableEq, Repr
/-- A Mvm whose every field has its first value. -/
def Mvm.init : Mvm := {}

/-- One array (keyed 0..32767 = stratum address / 8) (03_weight_vault.md). -/
structure VArray where
  /-- stratum selected (R68; 3 bits). -/
  selected : Nat := 0
  /-- stratum change in progress and its target (R68; 3+1 bits). -/
  changing : Option Nat := none
  /-- MVMs queued, oldest first (R68; - bits). -/
  queue : List Mvm := []
  /-- MVM that converts (R65; - bits). -/
  running : Option Mvm := none
  /-- suspended MVM in the second accumulator set (R69; - bits). -/
  suspended : Option Mvm := none
  /-- the change in progress re-selects the suspended MVM's stratum (R69; 1 bits). -/
  resuming : Bool := false
  /-- finished MVM whose results wait for the bank adder (R75; - bits). -/
  holding : Option Mvm := none
  /-- time the hold began, ns (PORT_HOLD_NS) (R74; 64 bits). -/
  holdAt : Nat := 0
  /-- MVMs since the array's last test (R78; 12 bits). -/
  sinceTest : Nat := 0
  /-- strata whose test is due, oldest first (R78; - bits). -/
  testDue : List Nat := []
  /-- a test on the selected stratum is due by MVM count (R78; 1 bits). -/
  countDue : Bool := false
  /-- tenant whose share pays for the converting slot the array holds (R71; 4+1 bits). -/
  slotOf : Option Nat := none
  /-- stratum being written (R83; 18+1 bits). -/
  writing : Option Nat := none
deriving DecidableEq, Repr
/-- A VArray whose every field has its first value. -/
def VArray.init : VArray := {}

/-- One column block's sum buffer in the bank adder (03_weight_vault.md). -/
structure ColSum where
  /-- VMVM's work-queue slot (R66; 14 bits). -/
  op : Nat := 0
  /-- input vector (R66; 16 bits). -/
  vec : Nat := 0
  /-- column block (R66; 16 bits). -/
  cb : Nat := 0
  /-- FP32 scale of the input vector (R66; 32 bits). -/
  sIn : BitVec 32 := 0
  /-- banks in which it holds a sum buffer (R66; 2 x 10 bits). -/
  banks : List Nat := []
  /-- row-blocks still to arrive from arrays (R66; 7 bits). -/
  waiting : Nat := 0
  /-- row-blocks that have arrived from arrays (R66; 7 bits). -/
  arrived : Nat := 0
  /-- INT32 sums per result column (R66; 1024 x 32 bits). -/
  sum : SMap Int := []
  /-- weight encoding of the column block (R66; 2 bits). -/
  enc : Enc := .int4
  /-- column scales (R66; 1024 x 16 bits). -/
  scales : SMap (BitVec 16) := []
  /-- shadow parts of this column block not yet added (R88; 7 bits). -/
  shadowLeft : Nat := 0
  /-- the port has written the column block (R67; 1 bits). -/
  written : Bool := false
deriving DecidableEq, Repr
/-- A ColSum whose every field has its first value. -/
def ColSum.init : ColSum := {}

/-- One shadow operation formed in place of MVMs of one stratum (03_weight_vault.md). -/
structure ShadowOp where
  /-- VMVM's work-queue slot (R84; 14 bits). -/
  op : Nat := 0
  /-- the weights whose copy it reads (R84; - bits). -/
  content : WContent := WContent.init
  /-- stratum it stands for (R84; 18 bits). -/
  stratum : Nat := 0
  /-- input vectors, at most 6 (R87; 6 max bits). -/
  vecs : List Nat := []
  /-- cluster whose pod and channel pair it uses (R84; 4 bits). -/
  cluster : Nat := 0
  /-- its copy streams from UFS (R87; 1 bits). -/
  fromUfs : Bool := false
  /-- its copy is in the reserve (R89; 1 bits). -/
  arrived : Bool := true
  /-- pod that it holds, none while it waits for one (R87,R105; 8+1 bits). -/
  pod : Option Nat := none
deriving DecidableEq, Repr
/-- A ShadowOp whose every field has its first value. -/
def ShadowOp.init : ShadowOp := {}

/-- R81 (04_vault_upkeep.md). -/
inductive StratumState where
  | free | erasing | programming | verifying | lit | dim | retired
deriving DecidableEq, Repr

/-- R90 (04_vault_upkeep.md). -/
inductive WriteKind where
  | dimRewrite | relocation | swapRewrite | install | release
deriving DecidableEq, Repr

/-- Slot of the shadow reserve that holds, or is to hold, a copy (R85, R86) (04_vault_upkeep.md). -/
structure CopySlot where
  /-- cluster on whose channel pair it lies (R197,R210; 4 bits). -/
  cluster : Nat := 0
  /-- its first octet in the pair-local view (R197,R210; 40 bits). -/
  base : Nat := 0
  /-- ADDR: stratum address (R85; 32 bits). -/
  addr : Nat := 0
  /-- GEN: model generation (R85; 32 bits). -/
  gen : Nat := 0
deriving DecidableEq, Repr
/-- A CopySlot whose every field has its first value. -/
def CopySlot.init : CopySlot := {}

/-- One stratum (keyed by its 18-bit address, R93) (04_vault_upkeep.md). -/
structure Stratum where
  /-- state, non-volatile (R81; 3 bits). -/
  state : StratumState := .free
  /-- attempt count, non-volatile (R81; 2 bits). -/
  attempt : Nat := 0
  /-- program count, non-volatile (R81; 16 bits). -/
  programs : Nat := 0
  /-- release flag (R81; 1 bits). -/
  releaseFlag : Bool := false
  /-- retire flag (R81; 1 bits). -/
  retireFlag : Bool := false
  /-- pattern counter (R77; 5 bits). -/
  pattern : Nat := 0
  /-- time of the last test, ns of the monotonic clock (R92; 64 bits). -/
  lastTest : Nat := 0
  /-- deviation of the last test, LSB (R92; 16 bits). -/
  deviation : Int := 0
  /-- encoding of the weights it holds (R55; 2 bits). -/
  enc : Enc := .int4
  /-- slot values -7..7, keyed row*1024 + slot column (R55; 2048 x 1024 slots bits). -/
  cells : SMap Int := []
  /-- column scales in the die periphery (R57; 1024 x 16 bits). -/
  scales : SMap (BitVec 16) := []
  /-- check table, keyed group*1024 + column (R76; 16 x 1024 x 11 bits). -/
  check : SMap Int := []
  /-- weights it holds (R81; - bits). -/
  content : Option WContent := none
  /-- weights a write is to put into it (R81; - bits). -/
  incoming : Option WContent := none
  /-- weights that the write in progress puts into it (R81,R94; - bits). -/
  target : Option WContent := none
  /-- reserve slot of its copy (R85,R86,R197; - bits). -/
  copyAt : Option CopySlot := none
  /-- left on the shadow path for good (R91; 1 bits). -/
  shadowBound : Bool := false
  /-- its copy is in the shadow reserve (R86; 1 bits). -/
  copyIn : Bool := false
  /-- its copy is arriving from UFS (R86; 1 bits). -/
  copyLoading : Bool := false
  /-- its copy is pinned (R86; 1 bits). -/
  copyPinned : Bool := false
  /-- last use of the copy, for eviction by age (R86; 64 bits). -/
  copyAge : Nat := 0
deriving DecidableEq, Repr
/-- A Stratum whose every field has its first value. -/
def Stratum.init : Stratum := {}

/-- One queued write of a die (04_vault_upkeep.md). -/
structure WriteReq where
  /-- stratum (R90; 18 bits). -/
  stratum : Nat := 0
  /-- which of the five orders it belongs to (R90; 3 bits). -/
  kind : WriteKind := .dimRewrite
  /-- what it is to hold (R90; - bits). -/
  content : Option WContent := none
deriving DecidableEq, Repr
/-- A WriteReq whose every field has its first value. -/
def WriteReq.init : WriteReq := {}

/-- One vault die (keyed 0..31) (04_vault_upkeep.md). -/
structure VDie where
  /-- queued writes, oldest first (R90; - bits). -/
  writes : List WriteReq := []
  /-- a die erase is in progress (R83; 1 bits). -/
  dieErase : Bool := false
  /-- converting arrays added in the present us (R25; 5 bits). -/
  raised : Nat := 0
  /-- converting arrays removed in the present us (R25; 5 bits). -/
  lowered : Nat := 0
deriving DecidableEq, Repr
/-- A VDie whose every field has its first value. -/
def VDie.init : VDie := {}

/-- The weight vault (04_vault_upkeep.md). -/
structure Vault where
  /-- the strata (R15,R81; 262144 bits). -/
  strata : SMap Stratum := []
  /-- the arrays (R15; 32768 bits). -/
  arrays : SMap VArray := []
  /-- the dies (R15; 32 bits). -/
  dies : SMap VDie := []
  /-- G, GRANT_SLOTS (R71,R74; 16 bits). -/
  grant : Nat := 0
  /-- measured round time, ns (reference corner) (R61,R74; 64 bits). -/
  roundNs : Nat := 100
  /-- column-block sums of the bank adders and ports (R66; - bits). -/
  sums : List ColSum := []
  /-- shadow operations waiting or running (R84; - bits). -/
  shadows : List ShadowOp := []
deriving DecidableEq, Repr
/-- A Vault whose every field has its first value. -/
def Vault.init : Vault := {}

/-- R104,R105 (05_matrix_fabric.md). -/
inductive SetState where
  | free | filling | full
deriving DecidableEq, Repr

/-- An FGEMM or FATTN operation running on a pod (05_matrix_fabric.md). -/
structure FabOp where
  /-- work-queue slot (R105; 14 bits). -/
  slot : Nat := 0
  /-- passes run so far (R99; 32 bits). -/
  passes : Nat := 0
  /-- passes of the operation (R99; 32 bits). -/
  total : Nat := 0
  /-- an integer accumulator saturated (R40; 1 bits). -/
  accSat : Bool := false
  /-- a compressed block read POISONED: it stops at the next pass boundary (R166; 1 bits). -/
  poisoned : Bool := false
  /-- accumulator sets it holds (R105; 16 max bits). -/
  sets : List Nat := []
  /-- stratum of the shadow operation that it is (R84,R87; 19 bits). -/
  shadow : Option Nat := none
deriving DecidableEq, Repr
/-- A FabOp whose every field has its first value. -/
def FabOp.init : FabOp := {}

/-- One pod (keyed cluster*16 + pod) (05_matrix_fabric.md). -/
structure Pod where
  /-- accumulator words, keyed set*256 + word (R105; 32 x 256 x 32 bits). -/
  acc : SMap (BitVec 32) := []
  /-- state of each set (R104; 32 bits). -/
  setState : SMap SetState := []
  /-- the set holds INT32 (R105; 32 bits). -/
  setInt : SMap Bool := []
  /-- address the drain port writes each set to (R105; 32 bits). -/
  setDest : SMap Nat := []
  /-- slot + 1 of the operation holding each set (R105; 32 bits). -/
  setOwner : SMap Nat := []
  /-- operations on the pod, in order (R105; 2 max bits). -/
  ops : List FabOp := []
  /-- no core has performed a k-step for 64 hs (R106; 1 bits). -/
  idle : Bool := true
  /-- no core performs a k-step now (R106; 1 bits). -/
  stopped : Bool := true
deriving DecidableEq, Repr
/-- A Pod whose every field has its first value. -/
def Pod.init : Pod := {}

/-- The matrix fabric and the mesh (05_matrix_fabric.md). -/
structure Fabric where
  /-- the pods (R15; 256 bits). -/
  pods : SMap Pod := []
  /-- transfers discarded at a destination for want of ownership (R22; 64 bits). -/
  discards : Nat := 0
deriving DecidableEq, Repr
/-- A Fabric whose every field has its first value. -/
def Fabric.init : Fabric := {}

/-- The vector program a unit runs (06_vector_engine.md). -/
structure Running where
  /-- work-queue slot of its VPROG or CORR operation (R117; 14 bits). -/
  slot : Nat := 0
  /-- tenant (R128; 4 bits). -/
  tenant : Nat := 0
  /-- the program's instruction words (R115; 2048 max x 64 bits). -/
  words : List (BitVec 64) := []
  /-- next instruction (R117; 11 bits). -/
  pc : Nat := 0
  /-- its OSCAN instructions have met a finite element (R42; 1 bits). -/
  finite : Bool := false
deriving DecidableEq, Repr
/-- A Running whose every field has its first value. -/
def Running.init : Running := {}

/-- One entry of the candidate list (06_vector_engine.md). -/
structure Cand where
  /-- position in the whole input vector (R124; 32 bits). -/
  pos : Nat := 0
  /-- BF16 value (R124; 16 bits). -/
  value : BitVec 16 := 0
deriving DecidableEq, Repr
/-- A Cand whose every field has its first value. -/
def Cand.init : Cand := {}

/-- One vector unit (keyed as its pod) (06_vector_engine.md). -/
structure VecUnit where
  /-- vector buffer: V0..V7 at words 0..2047, staging at 2048..4095 (R111; 4096 x 32 bits). -/
  buf : SMap (BitVec 32) := []
  /-- scalar registers SC0..SC15 (R111; 16 x 32 bits). -/
  sc : SMap (BitVec 32) := []
  /-- map register (R124; 64 x 32 bits). -/
  mapRows : List Nat := []
  /-- candidate list (R124; - bits). -/
  cands : List Cand := []
  /-- program in execution (R117; - bits). -/
  running : Option Running := none
deriving DecidableEq, Repr
/-- A VecUnit whose every field has its first value. -/
def VecUnit.init : VecUnit := {}

/-- The vector engine (06_vector_engine.md). -/
structure Vec where
  /-- the units (R111; 256 bits). -/
  units : SMap VecUnit := []
deriving DecidableEq, Repr
/-- A Vec whose every field has its first value. -/
def Vec.init : Vec := {}

/-- R138 (07_attention_and_kv_cache.md). -/
inductive KvFmt where
  | e4m3 | bf16 | mxfp8
deriving DecidableEq, Repr

/-- One KV page (keyed by page number of the page table) (07_attention_and_kv_cache.md). -/
structure Page where
  /-- SESSION (R138; 16 bits). -/
  session : Nat := 0
  /-- TENANT (R138; 8 bits). -/
  tenant : Nat := 0
  /-- FMT (R138; 8 bits). -/
  fmt : KvFmt := .e4m3
  /-- LAYER (R138; 16 bits). -/
  layer : Nat := 0
  /-- T (R138,R139; 8 bits). -/
  slots : Nat := 0
  /-- FILL (R138; 8 bits). -/
  fill : Nat := 0
  /-- FIRST_POS (R138; 32 bits). -/
  firstPos : Nat := 0
  /-- GEN (R138; 32 bits). -/
  gen : Nat := 0
  /-- HKV (R138; 8 bits). -/
  heads : Nat := 0
  /-- HEAD_DIM (R138; 16 bits). -/
  headDim : Nat := 0
  /-- bytes from offset 0x0100: K, V, SCALES (R138; 65280 x 8 bits). -/
  data : SMap Nat := []
  /-- cluster whose store holds it, none when warm in DRAM (R141; 4+1 bits). -/
  hot : Option Nat := none
  /-- move in progress and its destination (R143; - bits). -/
  moving : Option (Option Nat) := none
  /-- the source of a switched move is not yet released (R143; 1 bits). -/
  srcHeld : Bool := false
  /-- cluster of that source, none in DRAM (R143; 4+1 bits). -/
  src : Option Nat := none
  /-- KVSCAT writes instantiated for it and not complete (R143; 14 bits). -/
  writesOut : Nat := 0
  /-- reads in progress on its present place (R143; 14 bits). -/
  readers : Nat := 0
  /-- reads in progress on the source of a switched move (R143; 14 bits). -/
  srcReaders : Nat := 0
  /-- time of the last read or write, ns (R146; 64 bits). -/
  lastUse : Nat := 0
deriving DecidableEq, Repr
/-- A Page whose every field has its first value. -/
def Page.init : Page := {}

/-- One staging-buffer entry (07_attention_and_kv_cache.md). -/
structure Staged where
  /-- LAYER (R144; 16 bits). -/
  layer : Nat := 0
  /-- POS (R144; 32 bits). -/
  pos : Nat := 0
  /-- GEN (R144; 32 bits). -/
  gen : Nat := 0
  /-- page it is to be flushed into (R144; 32 bits). -/
  page : Nat := 0
  /-- DATA bytes (R144; record bits). -/
  data : SMap Nat := []
  /-- FATTN reads in progress on it (R145; 14 bits). -/
  readers : Nat := 0
deriving DecidableEq, Repr
/-- A Staged whose every field has its first value. -/
def Staged.init : Staged := {}

/-- The KV cache (07_attention_and_kv_cache.md). -/
structure Kv where
  /-- page table, by page number (R138; - bits). -/
  pages : SMap (Option Page) := []
  /-- next page number (R141; 32 bits). -/
  nextPage : Nat := 0
  /-- staging buffer of each session, in arrival order (R144; 4096 x 64 KiB bits). -/
  staging : SMap (List Staged) := []
deriving DecidableEq, Repr
/-- A Kv whose every field has its first value. -/
def Kv.init : Kv := {}

/-- One compression table (keyed tenant*4096 + identifier) (08_operand_expander.md). -/
structure ExpTable where
  /-- FMT: 0 FP32, 1 FP16, 2 BF16 (R158; 8 bits). -/
  fmt : Nat := 0
  /-- GEN (R158; 32 bits). -/
  gen : Nat := 0
  /-- LEN, code length of each exponent value (R158; 128 B bits). -/
  lens : SMap Nat := []
  /-- weight table, never rebuilt (R160; 1 bits). -/
  weight : Bool := false
  /-- tensor it serves (R159; 32 bits). -/
  tensor : Nat := 0
  /-- model slot of the tensor (R159; 2 bits). -/
  slot : Nat := 0
  /-- which of the last 1,024 blocks encoded with it were stored raw (R160; 1024 bits). -/
  recentRaw : List Bool := []
  /-- replaced by a rebuilt table; its identifier is to be freed (R160; 1 bits). -/
  retiring : Bool := false
  /-- operations instantiated before the switch and not complete (R160; - bits). -/
  waitOps : List Nat := []
deriving DecidableEq, Repr
/-- A ExpTable whose every field has its first value. -/
def ExpTable.init : ExpTable := {}

/-- Encoder state of an activation or gradient tensor (keyed (tenant*4 + slot)*2^32 + its handle) (08_operand_expander.md). -/
structure ActTensor where
  /-- its current table (R159; 12+1 bits). -/
  table : Option Nat := none
  /-- table + 1 with which its present occurrence is encoded, keyed by the step run for a scratch tensor, 0 for a static one (R159; 13 each bits). -/
  coded : SMap Nat := []
  /-- step run whose operations produce the counted occurrence (R159; 32 bits). -/
  writers : Nat := 0
  /-- its first occurrence has been written raw and counted (R159; 1 bits). -/
  occurred : Bool := false
  /-- exponent counts of the counted occurrence (R159; 256 x 32 bits). -/
  counts : SMap Nat := []
  /-- element format (R158; 8 bits). -/
  fmt : Nat := 0
  /-- a rebuild is due: the next occurrence is counted (R160; 1 bits). -/
  rebuild : Bool := false
deriving DecidableEq, Repr
/-- A ActTensor whose every field has its first value. -/
def ActTensor.init : ActTensor := {}

/-- A block under serial recovery (08_operand_expander.md). -/
structure Recovering where
  /-- operation that reads it (R164; 14 bits). -/
  slot : Nat := 0
  /-- handle of the tensor (R164; 32 bits). -/
  tensor : Nat := 0
  /-- block index (R164; 32 bits). -/
  block : Nat := 0
deriving DecidableEq, Repr
/-- A Recovering whose every field has its first value. -/
def Recovering.init : Recovering := {}

/-- The operand expanders (08_operand_expander.md). -/
structure Expander where
  /-- tables (R158; 8 x 4096 bits). -/
  tables : SMap (Option ExpTable) := []
  /-- activation tensors (R159; - bits). -/
  acts : SMap ActTensor := []
  /-- blocks whose HCHK failed, waiting for the serial decoder (R164; - bits). -/
  recovering : List Recovering := []
  /-- blocks recovered serially for a running operation (R164; - bits). -/
  recovered : List Recovering := []
  /-- POISONED weight blocks CC3 is to re-encode (R166; - bits). -/
  poisonedWeights : List Recovering := []
  /-- pods withdrawn from service (R164; 256 bits). -/
  withdrawn : List Nat := []
  /-- the expander self-test has not ended: every compressed block decodes serially (R164; 1 bits). -/
  selfTesting : Bool := true
deriving DecidableEq, Repr
/-- A Expander whose every field has its first value. -/
def Expander.init : Expander := {}

/-- R185,R186 (09_execution_plans.md). -/
inductive OpPhase where
  | waiting | dispatched | started | posted
deriving DecidableEq, Repr

/-- One operation in flight (keyed by work-queue slot) (09_execution_plans.md). -/
structure Op where
  /-- its descriptor (R172; 512 bits). -/
  d : Desc := Desc.init
  /-- model slot of its step (R192; 2 bits). -/
  slotModel : Nat := 0
  /-- step run it belongs to (R192; 32 bits). -/
  run : Nat := 0
  /-- layer group (R192; 16 bits). -/
  group : Nat := 0
  /-- instantiation order (R185; 64 bits). -/
  order : Nat := 0
  /-- waiting, dispatched on its unit, started, or completion record posted (R185; 2 bits). -/
  phase : OpPhase := .waiting
  /-- STATUS of its completion record (R186; 8 bits). -/
  status : FailSt := .none
  /-- status with which it stops at its boundary (R191; 8 bits). -/
  stopping : FailSt := .none
  /-- FLAGS bit 0 (R186; 1 bits). -/
  accSat : Bool := false
  /-- FLAGS bit 1 (R186; 1 bits). -/
  syncSat : Bool := false
  /-- FLAGS bit 2 (R186; 1 bits). -/
  shadow : Bool := false
  /-- HELD_HS (R186; 32 bits). -/
  heldHs : Nat := 0
  /-- outputs marked invalid (R183; 1 bits). -/
  invalid : Bool := false
  /-- all of its work has ended (R181; 1 bits). -/
  workDone : Bool := false
  /-- time it started, ns (R190; 64 bits). -/
  startAt : Nat := 0
  /-- a retry below it holds its timeout (R190; 1 bits). -/
  timerHeld : Bool := false
  /-- KV pages it reads on their present place, or writes (R143; - bits). -/
  pages : List Nat := []
  /-- KV pages whose moved source it still reads (R143; - bits). -/
  srcPages : List Nat := []
  /-- positions of the staged entries it reads (R145; - bits). -/
  staged : List Nat := []
  /-- place of its session in the batch (R172; 4 bits). -/
  member : Nat := 0
  /-- which range of a split attention it computes (R135; 4 bits). -/
  range : Nat := 0
  /-- adapter slot whose matrices it uses (R272; 4+1 bits). -/
  adapter : Option Nat := none
  /-- stratum-set record resolved for it (R176; - bits). -/
  sets : List Nat := []
  /-- W in force when it was instantiated (R42; 8 bits). -/
  window : Nat := 16
  /-- M in force when it was instantiated (R42; 32 bits). -/
  margin : BitVec 32 := 0x3F800000
  /-- positions that a KVSCAT has written (R144; 32 bits). -/
  scatDone : Nat := 0
  /-- time since which it finds the staging buffer full, ns (R144; 64 bits). -/
  waitAt : Nat := 0
  /-- table + 1 with which it encodes each marked tensor that it writes, keyed by handle, as EXP_ACT_ENABLE and the tables stood when it was instantiated (R159,R160,R167; 13 each bits). -/
  encTabs : SMap Nat := []
  /-- template of the VMVM whose object gates a CORR (R177; 16+1 bits). -/
  corrT : Option Nat := none
deriving DecidableEq, Repr
/-- A Op whose every field has its first value. -/
def Op.init : Op := {}

/-- One synchronisation object (keyed SY0..SY32767) (09_execution_plans.md). -/
structure SyncObj where
  /-- COUNT (R180; 32 bits). -/
  count : Nat := 0
  /-- THRESH (R180; 32 bits). -/
  thresh : Nat := 0
  /-- FAIL (R180; 3 bits). -/
  fail : FailSt := .none
  /-- OWNER, 0 when free (R180; 4 bits). -/
  owner : Nat := 0
  /-- keeps its count across steps (R180; 1 bits). -/
  persistent : Bool := false
  /-- step run whose group armed it (R192; 32 bits). -/
  run : Nat := 0
  /-- group that armed it (R192; 16 bits). -/
  group : Nat := 0
  /-- its group-local number (R169; 8 bits). -/
  num : Nat := 0
deriving DecidableEq, Repr
/-- A SyncObj whose every field has its first value. -/
def SyncObj.init : SyncObj := {}

/-- One token step in instantiation or execution (keyed by step-run number) (09_execution_plans.md). -/
structure StepRun where
  /-- session, or sessions of the batch (R192,R297; 16 x 12 bits). -/
  sessions : List Nat := []
  /-- tenant (R192; 4 bits). -/
  tenant : Nat := 0
  /-- model slot (R192; 2 bits). -/
  slot : Nat := 0
  /-- step graph kind (R169; 2 bits). -/
  graph : Nat := 0
  /-- class (R192; 2 bits). -/
  cls : Cls := .int
  /-- generation read once (R192; 32 bits). -/
  gen : Nat := 0
  /-- step sequence number (R172; 32 bits). -/
  step : Nat := 0
  /-- request handle (R172; 32 bits). -/
  req : Nat := 0
  /-- next layer group to instantiate (R192; 16 bits). -/
  nextGroup : Nat := 0
  /-- next invocation of that group, when its descriptors are partly written (R192; 16 bits). -/
  nextInv : Nat := 0
  /-- groups of the step graph (R192; 16 bits). -/
  groups : Nat := 0
  /-- its scratch is reserved (R206; 1 bits). -/
  reserved : Bool := false
  /-- SCRATCH reserved, KiB (R206; 32 bits). -/
  scratch : Nat := 0
  /-- tokens of the step (1 in decode) (R192; 32 bits). -/
  tokens : Nat := 0
  /-- position of the first token of each of its sessions (R136; 16 x 32 bits). -/
  poss : List Nat := []
  /-- operations resolved whose descriptors are not yet written (R187; - bits). -/
  due : List Op := []
  /-- LOOKAHEAD in force when the step began (R192,R194; 8 bits). -/
  look : Nat := 1
  /-- first failure of its operations (R183; 3 bits). -/
  failed : FailSt := .none
  /-- time a wait for a share began, ns (R187; 64 bits). -/
  waitAt : Nat := 0
  /-- its first operation has started (R319; 1 bits). -/
  began : Bool := false
  /-- scratch tensors of tier 1 that it was given room for: number, in the window rather than in SCRATCH, address there (R197,R199,R206; - bits). -/
  places : List (Nat × Bool × Nat) := []
  /-- its batch record (R172; 12+1 bits). -/
  batch : Option Nat := none
  /-- attention ranges complete, in the order of completion: template, member, range (R133; - bits). -/
  ranges : List (Nat × Nat × Nat) := []
  /-- pod + 1 of the first range of each attention template (R135; 8 each bits). -/
  firstPods : SMap Nat := []
  /-- scale that travels with each quantised vector, keyed site*16 + member (R42; 32 each bits). -/
  scales : SMap (BitVec 32) := []
deriving DecidableEq, Repr
/-- A StepRun whose every field has its first value. -/
def StepRun.init : StepRun := {}

/-- Work queues, dispatch and synchronisation (09_execution_plans.md). -/
structure Ops where
  /-- operations in flight (R172,R187; 16384 bits). -/
  slots : SMap (Option Op) := []
  /-- synchronisation objects (R180; 32768 bits). -/
  objs : SMap SyncObj := []
  /-- step runs (R192; - bits). -/
  runs : SMap (Option StepRun) := []
  /-- next step-run number (R192; 32 bits). -/
  nextRun : Nat := 1
  /-- next instantiation order (R185; 64 bits). -/
  nextOrder : Nat := 0
  /-- place of each dispatcher in its cycle: class in turn, dispatches it has taken and the weights of the cycle, keyed by unit (R302; - bits). -/
  credit : SMap Nat := []
  /-- slots whose completion record CC2 has not accepted (R186; - bits). -/
  records : List Nat := []
  /-- slots whose completion record also went to CC1 (R186; - bits). -/
  notified : List Nat := []
  /-- batch records: their sessions (R172; 4096 x 16 x 12 bits). -/
  batches : SMap (List Nat) := []
deriving DecidableEq, Repr
/-- A Ops whose every field has its first value. -/
def Ops.init : Ops := {}

/-- One system-cache line (keyed (slice*32 + way)*1024 + set) (10_tiers_and_placement.md). -/
structure Line where
  /-- holds a line (R207; 1 bits). -/
  valid : Bool := false
  /-- line address: channel and address / 128 (R207; 40 bits). -/
  tag : Nat := 0
  /-- written and not written back (R207; 1 bits). -/
  dirty : Bool := false
  /-- last use, for least recently used replacement (R206; 64 bits). -/
  used : Nat := 0
deriving DecidableEq, Repr
/-- A Line whose every field has its first value. -/
def Line.init : Line := {}

/-- Popularity profile of one layer (keyed (tenant*4 + slot)*65536 + layer) (10_tiers_and_placement.md). -/
structure Popular where
  /-- count per expert (R212; 256 x 32 bits). -/
  counts : SMap Nat := []
  /-- selections since the last halving (R212; 20 bits). -/
  selections : Nat := 0
  /-- a halving has fallen and the rebalance check is due (R212; 1 bits). -/
  checkDue : Bool := false
  /-- time of RUN at which it was last rebalanced, ns (R212; 64 bits). -/
  lastMove : Option Nat := none
deriving DecidableEq, Repr
/-- A Popular whose every field has its first value. -/
def Popular.init : Popular := {}

/-- A backing copy held hot in a cluster window (10_tiers_and_placement.md). -/
structure HotCopy where
  /-- cluster (R199; 4 bits). -/
  cluster : Nat := 0
  /-- stratum (R199; 18 bits). -/
  stratum : Nat := 0
  /-- the weights (R87,R199; - bits). -/
  content : WContent := WContent.init
deriving DecidableEq, Repr
/-- A HotCopy whose every field has its first value. -/
def HotCopy.init : HotCopy := {}

/-- Memory tiers, cache ways and placement (10_tiers_and_placement.md). -/
structure Tiers where
  /-- system-cache lines (R207; 8 x 32 x 1024 bits). -/
  lines : SMap Line := []
  /-- owner of each way + 1 (ways 0 and 1 belong to T0), 0 unallocated, keyed slice*32 + way (R208; 8 x 32 x 4 bits). -/
  wayOwner : SMap Nat := [(0, 1), (1, 1), (32, 1), (33, 1), (64, 1), (65, 1), (96, 1), (97, 1), (128, 1), (129, 1), (160, 1), (161, 1), (192, 1), (193, 1), (224, 1), (225, 1)]
  /-- hand-over pending: new owner + 1 (1 + 9 when the way becomes unallocated) (R209; 8 x 32 x 4 bits). -/
  wayNext : SMap Nat := []
  /-- popularity profiles (R212; - bits). -/
  popular : SMap Popular := []
  /-- copies held hot (R199; - bits). -/
  hotCopies : List HotCopy := []
  /-- die after the last one dealt, per tenant (R211; 9 x 5 bits). -/
  nextDie : SMap Nat := []
  /-- DRAM_KV value whose write completes when use fits, per tenant (R203; 9 x 32 bits). -/
  kvPending : SMap (Option Nat) := []
  /-- UFS_TENANT_MIB, set at start-up (R215; 32 bits). -/
  ufsTenantMib : Nat := 0
deriving DecidableEq, Repr
/-- A Tiers whose every field has its first value. -/
def Tiers.init : Tiers := {}

/-- Stream-list entry (11_weight_streaming.md). -/
structure SEntry where
  /-- SRC (R219; 64 bits). -/
  src : Nat := 0
  /-- LEN16 (R219; 16 bits). -/
  len16 : Nat := 0
  /-- FMT (R219; 8 bits). -/
  fmt : Nat := 0
  /-- FLAGS bit 0 COMP (R219; 1 bits). -/
  comp : Bool := false
  /-- FLAGS bit 1 RAW (R219; 1 bits). -/
  raw : Bool := false
  /-- FLAGS bit 2 EOL (R219; 1 bits). -/
  eol : Bool := false
  /-- FLAGS bit 3 PAIR (R219; 1 bits). -/
  pair : Bool := false
  /-- FLAGS bit 4 SRC_UFS (R219; 1 bits). -/
  ufs : Bool := false
  /-- TABLE (R219; 12 bits). -/
  table : Nat := 0
  /-- LAYER (R219; 16 bits). -/
  layer : Nat := 0
  /-- TILE (R219; 32 bits). -/
  tile : Nat := 0
  /-- TILES (R219; 16 bits). -/
  tiles : Nat := 1
  /-- GEN (R219; 32 bits). -/
  gen : Nat := 0
deriving DecidableEq, Repr
/-- A SEntry whose every field has its first value. -/
def SEntry.init : SEntry := {}

/-- One streamed operand of an operation placed on a pod (11_weight_streaming.md). -/
structure Stream where
  /-- operation (R221; 14 bits). -/
  slot : Nat := 0
  /-- operand 0..3 (OPA..OPD), or 4 + stratum for the copy that a shadow operation reads (R218; 19 bits). -/
  operand : Nat := 0
  /-- tenant of the tag (R225; 4 bits). -/
  tenant : Nat := 0
  /-- class IMM (R221; 1 bits). -/
  imm : Bool := false
  /-- weight or backing copy (counted), not KV (R217; 1 bits). -/
  weight : Bool := true
  /-- its stream list (R218; - bits). -/
  list : List SEntry := []
  /-- next entry to issue (R221; 32 bits). -/
  next : Nat := 0
  /-- its first block has landed (R225; 1 bits). -/
  firstLanded : Bool := false
  /-- blocks consumed (R220; 32 bits). -/
  consumed : Nat := 0
deriving DecidableEq, Repr
/-- A Stream whose every field has its first value. -/
def Stream.init : Stream := {}

/-- One transfer outstanding or block landed (11_weight_streaming.md). -/
structure Xfer where
  /-- operation of its tag (R225; 14 bits). -/
  slot : Nat := 0
  /-- list of its tag (R225; 2 bits). -/
  operand : Nat := 0
  /-- entry index of its tag (R225; 32 bits). -/
  entry : Nat := 0
  /-- credits held (R220; 5 bits). -/
  credits : Nat := 0
  /-- bytes of the block (R228; 13 bits). -/
  bytes : Nat := 0
  /-- where it comes from: a DRAM channel, or 32 for UFS (R21; 6 bits). -/
  source : Nat := 32
  /-- landed whole (R225; 1 bits). -/
  landed : Bool := false
  /-- lands to be discarded (R227; 1 bits). -/
  discard : Bool := false
deriving DecidableEq, Repr
/-- A Xfer whose every field has its first value. -/
def Xfer.init : Xfer := {}

/-- Stream engine of one pod (11_weight_streaming.md). -/
structure Engine where
  /-- streamed operands of the operations on the pod, in dispatch order (R221; - bits). -/
  streams : List Stream := []
  /-- transfers outstanding and blocks landed and not consumed (R221; - bits). -/
  xfers : List Xfer := []
deriving DecidableEq, Repr
/-- A Engine whose every field has its first value. -/
def Engine.init : Engine := {}

/-- Wait of an eligible operation for its first block (11_weight_streaming.md). -/
structure Late where
  /-- operation (R226; 14 bits). -/
  slot : Nat := 0
  /-- time it became eligible, ns (R226; 64 bits). -/
  since : Nat := 0
  /-- STREAM_LATE has risen for it (R226; 1 bits). -/
  counted : Bool := false
deriving DecidableEq, Repr
/-- A Late whose every field has its first value. -/
def Late.init : Late := {}

/-- Weight streaming (11_weight_streaming.md). -/
structure Streams where
  /-- stream engines, keyed as their pods (R217; 256 bits). -/
  engines : SMap Engine := []
  /-- operations waiting for their first block (R226; - bits). -/
  lates : List Late := []
deriving DecidableEq, Repr
/-- A Streams whose every field has its first value. -/
def Streams.init : Streams := {}

/-- R249 (12_dram_controller.md). -/
inductive ChState where
  | active | selfRefresh | partialRefresh | lost
deriving DecidableEq, Repr

/-- One queued read (12_dram_controller.md). -/
structure RdReq where
  /-- request (R238; 32 bits). -/
  id : Nat := 0
  /-- data unit number w (R234; 27 bits). -/
  unit : Nat := 0
  /-- tenant (0 the system domain) (R22; 4 bits). -/
  tenant : Nat := 0
  /-- of an IMM operation (R238; 1 bits). -/
  imm : Bool := false
  /-- operation that reads (R242; 15 bits). -/
  op : Option Nat := none
  /-- younger reads that have passed it (R238; 5 bits). -/
  passed : Nat := 0
  /-- correctable error the read will meet (R241; 2 bits). -/
  flaw : ReadFlaw := .clean
deriving DecidableEq, Repr
/-- A RdReq whose every field has its first value. -/
def RdReq.init : RdReq := {}

/-- One queued write (12_dram_controller.md). -/
structure WrReq where
  /-- data unit number (R234; 27 bits). -/
  unit : Nat := 0
  /-- key ID (R237; 4 bits). -/
  key : Nat := 0
  /-- bytes 0..63 of the unit (R231; 512 bits). -/
  data : SMap Nat := []
deriving DecidableEq, Repr
/-- A WrReq whose every field has its first value. -/
def WrReq.init : WrReq := {}

/-- One compaction-log entry (12_dram_controller.md). -/
structure Move where
  /-- source channel data address (R248; 33 bits). -/
  src : Nat := 0
  /-- destination channel data address (R248; 33 bits). -/
  dst : Nat := 0
  /-- length (R248; 33 bits). -/
  len : Nat := 0
deriving DecidableEq, Repr
/-- A Move whose every field has its first value. -/
def Move.init : Move := {}

/-- One DRAM channel (12_dram_controller.md). -/
structure Channel where
  /-- CH_STATE (R249,R251; 2 bits). -/
  state : ChState := .active
  /-- read queue, oldest first (R230,R238; 64 bits). -/
  reads : List RdReq := []
  /-- write queue, oldest first (R230,R238; 64 bits). -/
  writes : List WrReq := []
  /-- open row + 1 of each bank (rank*16 + bank), 0 closed (R238; 32 x 18 bits). -/
  openRow : SMap Nat := []
  /-- read re-issued after an uncorrectable error (R242; - bits). -/
  retrying : Option RdReq := none
  /-- time since which no request has been queued or issued, ns (R244; 64 bits). -/
  lastBusy : Nat := 0
  /-- SR_IDLE in force in the present idle period, ns (R249; 64 bits). -/
  idleLimit : Nat := 1000000
  /-- next row of the patrol scrub (R245; 22 bits). -/
  scrubRow : Nat := 0
  /-- refreshes postponed per bank pair (rank*8 + b) (R243; 16 x 4 bits). -/
  postponed : SMap Nat := []
  /-- DRAM temperature at the last timing adjustment, m degrees C (R250; 16 bits). -/
  oscTemp : Int := 0
  /-- time of the last adjustment, ns (R250; 64 bits). -/
  lastRetrain : Nat := 0
  /-- compaction log (R248; - bits). -/
  log : List Move := []
  /-- segments 0..(segments-1) refreshed besides segment 15 (R247; 5 bits). -/
  segments : Nat := 16
  /-- request of the last read issued (R239; - bits). -/
  lastRead : Option Nat := none
  /-- data the last read delivered (R239; 512 bits). -/
  lastData : SMap Nat := []
deriving DecidableEq, Repr
/-- A Channel whose every field has its first value. -/
def Channel.init : Channel := {}

/-- R197 (12_dram_controller.md). -/
inductive Alloc where
  | modelC | adapterC | sessionC | shadowC | kvC | scratchC
deriving DecidableEq, Repr

/-- One allocation of tenant DRAM (12_dram_controller.md). -/
structure Extent where
  /-- tenant (R203; 4 bits). -/
  tenant : Nat := 0
  /-- sub-quota it counts in (R203; 3 bits). -/
  kind : Alloc := .modelC
  /-- what it holds: model slot, adapter slot, session, stratum, page or step run (R197; 32 bits). -/
  owner : Nat := 0
  /-- cluster of the pair-local view, none in the spread view (R210; 5 bits). -/
  pair : Option Nat := none
  /-- address in its view (R233; 40 bits). -/
  base : Nat := 0
  /-- bytes (R233; 40 bits). -/
  len : Nat := 0
  /-- content dropped for DEEP_SLEEP and not reloaded (R247; 1 bits). -/
  dropped : Bool := false
deriving DecidableEq, Repr
/-- A Extent whose every field has its first value. -/
def Extent.init : Extent := {}

/-- One key slot of the controllers (12_dram_controller.md). -/
structure KeySlot where
  /-- the key, as the number of the TRNG draw that made it (R236; 256 bits). -/
  key : Option Nat := none
  /-- zeroisation requested (R237; 1 bits). -/
  zeroising : Bool := false
deriving DecidableEq, Repr
/-- A KeySlot whose every field has its first value. -/
def KeySlot.init : KeySlot := {}

/-- The DRAM controllers (12_dram_controller.md). -/
structure Dram where
  /-- channels (R230; 32 bits). -/
  channels : SMap Channel := []
  /-- key slots 0..8, the same in every controller (R236; 9 bits). -/
  keys : SMap KeySlot := []
  /-- allocations (R203; - bits). -/
  extents : List Extent := []
  /-- retained content is compacted (R248; 1 bits). -/
  compacted : Bool := false
  /-- writes discarded for a slot being zeroised (R237; 64 bits). -/
  lateWrites : Nat := 0
deriving DecidableEq, Repr
/-- A Dram whose every field has its first value. -/
def Dram.init : Dram := {}

/-- R252 (13_model_lifecycle.md). -/
inductive ImgKind where
  | base | adapter | dataset
deriving DecidableEq, Repr

/-- R256,R279 (13_model_lifecycle.md). -/
inductive SlotState where
  | empty | staged | installing | ready | swapping | removing | checking
deriving DecidableEq, Repr

/-- R270 (13_model_lifecycle.md). -/
inductive AdState where
  | empty | stored | resident | training
deriving DecidableEq, Repr

/-- R277 (13_model_lifecycle.md). -/
inductive JobState where
  | idle | running | suspended | done | failed
deriving DecidableEq, Repr

/-- An open upload of a tenant (13_model_lifecycle.md). -/
structure Upload where
  /-- KIND (R254; 8 bits). -/
  kind : Nat := 0
  /-- target slot (R254; 8 bits). -/
  slot : Nat := 0
  /-- BYTES (R254; 64 bits). -/
  bytes : Nat := 0
  /-- ranges written: first byte and end (R254; - bits). -/
  written : List (Nat × Nat) := []
  /-- the image that the bytes written so far spell (R254; - bits). -/
  img : Option Image := none
deriving DecidableEq, Repr
/-- A Upload whose every field has its first value. -/
def Upload.init : Upload := {}

/-- One model slot (keyed tenant*4 + slot), non-volatile (13_model_lifecycle.md). -/
structure ModelSlot where
  /-- MODEL_STATE (a slot of a tenant just formed is EMPTY) (R256; 3 bits). -/
  state : SlotState := .empty
  /-- while CHECKING: it came from READY (R256; 1 bits). -/
  fromReady : Bool := false
  /-- current image (R256; - bits). -/
  current : Option Image := none
  /-- its generation stamp (R260; 32 bits). -/
  stamp : Nat := 0
  /-- pending image (R256; - bits). -/
  pending : Option Image := none
  /-- image being replaced by a swap (R263; - bits). -/
  old : Option Image := none
  /-- its stamp (R261; 32 bits). -/
  oldStamp : Nat := 0
  /-- strata to write (R279; 32 bits). -/
  toWrite : Nat := 0
  /-- strata LIT so far (R279; 32 bits). -/
  litSoFar : Nat := 0
  /-- swap MODE is HELD (R262; 1 bits). -/
  held : Bool := false
  /-- swap CONTEXT is REPLAY_CONTEXT (R262; 1 bits). -/
  replay : Bool := false
  /-- no new step passes to CC2 (R263; 1 bits). -/
  barrier : Bool := false
  /-- the swap's pointer flip is done (R263; 1 bits). -/
  flipped : Bool := false
  /-- time the barrier rose, ns (R266; 64 bits). -/
  barrierAt : Nat := 0
  /-- MODEL contents are in DRAM (R257; 1 bits). -/
  loaded : Bool := false
deriving DecidableEq, Repr
/-- A ModelSlot whose every field has its first value. -/
def ModelSlot.init : ModelSlot := {}

/-- One adapter slot (keyed tenant*16 + slot) (13_model_lifecycle.md). -/
structure AdSlot where
  /-- ADAPTER_STATE (R270; 2 bits). -/
  state : AdState := .empty
  /-- stored image (R270; - bits). -/
  img : Option Image := none
  /-- bound model slot, none reads 0xFF (R270; 8 bits). -/
  binding : Option Nat := none
  /-- ADAPTER_LOAD in progress and its model slot (R269; 3 bits). -/
  loading : Option Nat := none
  /-- its matrices are in ADAPTER (R270; 1 bits). -/
  loaded : Bool := false
deriving DecidableEq, Repr
/-- A AdSlot whose every field has its first value. -/
def AdSlot.init : AdSlot := {}

/-- One checkpoint file (13_model_lifecycle.md). -/
structure Ckpt where
  /-- step number (R276; 64 bits). -/
  step : Nat := 0
  /-- dataset position (R276; 64 bits). -/
  pos : Nat := 0
  /-- TRAIN_CONFIG (R276; 384 bits). -/
  config : Nat := 0
  /-- BF16 master weights (R276; 16 each bits). -/
  weights : SMap (BitVec 16) := []
  /-- MXFP8 first moments, as decoded (R276; - bits). -/
  m1 : SMap (BitVec 32) := []
  /-- MXINT8 second moments, as decoded (R276; - bits). -/
  m2 : SMap (BitVec 32) := []
deriving DecidableEq, Repr
/-- A Ckpt whose every field has its first value. -/
def Ckpt.init : Ckpt := {}

/-- Training job of one tenant (13_model_lifecycle.md). -/
structure Job where
  /-- TRAIN_STATE (R277,R279; 3 bits). -/
  state : JobState := .idle
  /-- TRAIN_CONFIG in force for the job (R274; 384 bits). -/
  config : Nat := 0
  /-- TRAIN_STEP (R279; 64 bits). -/
  step : Nat := 0
  /-- TRAIN_LOSS (R279; 32 bits). -/
  loss : BitVec 32 := 0
  /-- dataset position (R275; 64 bits). -/
  pos : Nat := 0
  /-- the present step runs a second time (R275; 1 bits). -/
  retried : Bool := false
  /-- master weights (R50; 16 each bits). -/
  weights : SMap (BitVec 16) := []
  /-- first moments as held in MXFP8 (R50; - bits). -/
  m1 : SMap (BitVec 32) := []
  /-- second moments as held in MXINT8 (R50; - bits). -/
  m2 : SMap (BitVec 32) := []
  /-- delayed-scaling histories of the gradient tensors (R51; 32 x 32 each bits). -/
  hist : SMap (List (BitVec 32)) := []
  /-- persistent objects it holds (R180; 16 x 15 bits). -/
  persist : List Nat := []
  /-- it goes to IDLE at its next checkpoint (R312; 1 bits). -/
  drain : Bool := false
  /-- a TRAIN_STOP waits for it to be IDLE (R277,R358; 1 bits). -/
  stopCmd : Bool := false
  /-- state to enter when the current step completes (R277; 3 bits). -/
  stopAt : Option JobState := none
  /-- checkpoint file being written (R276; 2 bits). -/
  writing : Option Nat := none
  /-- what is being written into it (R276; - bits). -/
  wrote : Option Ckpt := none
  /-- the two checkpoint files (R276; 2 bits). -/
  files : SMap (Option Ckpt) := []
  /-- file that holds the newest complete checkpoint (R276; 2 bits). -/
  newest : Option Nat := none
deriving DecidableEq, Repr
/-- A Job whose every field has its first value. -/
def Job.init : Job := {}

/-- Models, adapters and training (13_model_lifecycle.md). -/
structure Models where
  /-- model slots (R256; 32 bits). -/
  slots : SMap ModelSlot := []
  /-- adapter slots (R270; 128 bits). -/
  adapters : SMap AdSlot := []
  /-- dataset slots, keyed tenant*4 + slot (R271; 32 bits). -/
  datasets : SMap (Option Image) := []
  /-- open uploads, per tenant (R254; 9 bits). -/
  uploads : SMap (Option Upload) := []
  /-- training jobs, per tenant (R277; 9 bits). -/
  jobs : SMap Job := []
  /-- generation pointers (0 before the tenant is formed) (R260; 9 x 32 bits). -/
  pointer : SMap Nat := []
deriving DecidableEq, Repr
/-- A Models whose every field has its first value. -/
def Models.init : Models := {}

/-- R280,R335 (14_sessions_and_service.md). -/
inductive ConnKind where
  | asx | bdp | mirror
deriving DecidableEq, Repr

/-- R281,R344 (14_sessions_and_service.md). -/
inductive Phase where
  | tcp | helloQueued | helloWork | shareWait | authWait | up | closed
deriving DecidableEq, Repr

/-- R11 (14_sessions_and_service.md). -/
inductive Principal where
  | none | mgmt | drv | ten | client
deriving DecidableEq, Repr

/-- R289 (14_sessions_and_service.md). -/
inductive SessState where
  | free | opened | idle | active | cold | closed
deriving DecidableEq, Repr

/-- R295 (14_sessions_and_service.md). -/
inductive ReqState where
  | queued | running | ended | refused
deriving DecidableEq, Repr

/-- One item of a BDP response (14_sessions_and_service.md). -/
structure RespItem where
  /-- entry code (R350; 24 bits). -/
  code : Nat := 0
  /-- TYPE (R350; 8 bits). -/
  ty : Nat := 0
  /-- LENGTH (R350; 16 bits). -/
  len : Nat := 0
  /-- STATUS of the item (R350; 16 bits). -/
  status : Nat := 0
  /-- VALUE as a little-endian number (R350; - bits). -/
  value : Nat := 0
deriving DecidableEq, Repr
/-- A RespItem whose every field has its first value. -/
def RespItem.init : RespItem := {}

/-- A frame in an egress queue (16_network_ports.md). -/
structure TxFrame where
  /-- frame length (R324; 11 bits). -/
  len : Nat := 64
  /-- tenant it belongs to (0 none) (R328; 4 bits). -/
  tenant : Nat := 0
  /-- kind (R330; 3 bits). -/
  kind : FrameKind := .tcp
  /-- datagram (R332; 1 bits). -/
  dgram : Bool := false
  /-- time it was queued, ns (R332; 64 bits). -/
  since : Nat := 0
  /-- preempted at least once (R330; 1 bits). -/
  cut : Bool := false
  /-- connection whose output it carries (R284; 16 bits). -/
  conn : Option Nat := none
  /-- egress queue it takes (R330; 3 bits). -/
  pcp : Nat := 4
deriving DecidableEq, Repr
/-- A TxFrame whose every field has its first value. -/
def TxFrame.init : TxFrame := {}

/-- R285,R416 (14_sessions_and_service.md). -/
inductive OutMsg where
  | busy (retryMs : Nat)
  | deviceHello (nonce pubKey : Nat) (report : List Nat) (signature : Nat)
  | authOk (channel maxClass : Nat)
  | opened (ctag status session contextMax vocab : Nat)
  | tokens (reqId index count : Nat) (final reprefilled resent : Bool) (stop reprefill status seed : Nat) (text : List Nat)
  | status (reqId session status retryMs : Nat)
  | pong (value : Nat)
  | notice (session event : Nat)
  | response (txn status failed stamp : Nat) (items : List RespItem)
  | event (lost : Nat) (records : List (List Nat))
  | mirrorData (status : Nat) (bytes : List Nat)
deriving DecidableEq, Repr

/-- One TCP connection and the channel on it (keyed by connection number) (14_sessions_and_service.md). -/
structure Conn where
  /-- service of the connection (R335; 2 bits). -/
  kind : ConnKind := .asx
  /-- 0 HP0, 1 HP1, 2 MP (R336; 2 bits). -/
  port : Nat := 0
  /-- place in the handshake (R281; 3 bits). -/
  phase : Phase := .closed
  /-- authenticated principal (R343; 3 bits). -/
  principal : Principal := .none
  /-- tenant of the channel or of TEN(n) (R281; 4 bits). -/
  tenant : Nat := 0
  /-- KEY_ID of the key that authenticated its principal (R343; 8 bits). -/
  keyId : Nat := 0
  /-- CLIENT_ID (R282; 32 bits). -/
  clientId : Nat := 0
  /-- MAX_CLASS (R282; 8 bits). -/
  maxClass : Nat := 0
  /-- TICKET_KEY in force when the handshake began (R282; 256 bits). -/
  ticketKey : BitVec 256 := 0
  /-- NONCE_C (R281; 256 bits). -/
  nonceC : Nat := 0
  /-- bodies of CLIENT_HELLO, DEVICE_HELLO and KEY_SHARE so far (R283; - bits). -/
  transcript : List Nat := []
  /-- number of the TRNG draw that made the ML-KEM key (R281; 64 bits). -/
  kem : Nat := 0
  /-- K (R283; 176 x 8 bits). -/
  keys : List Nat := []
  /-- next stream SEQ expected from the client (R283; 64 bits). -/
  rxSeq : Nat := 0
  /-- next stream SEQ of the device (R283; 64 bits). -/
  txSeq : Nat := 0
  /-- highest datagram SEQ accepted + 1 (0 none) (R283; 64 bits). -/
  dgHigh : Nat := 0
  /-- which of the 64 SEQs up to the highest have been accepted (R283; 64 bits). -/
  dgSeen : BitVec 64 := 0
  /-- next datagram SEQ of the device (R283; 64 bits). -/
  dgTx : Nat := 0
  /-- source address and port of the newest valid datagram (R284; 144 bits). -/
  dgSrc : Nat := 0
  /-- handshake deadline, ns (R281; 64 bits). -/
  deadline : Option Nat := none
  /-- time of the last valid record, ns (R283; 64 bits). -/
  idleSince : Nat := 0
  /-- output not yet sent, oldest first (R284; 256 KiB bits). -/
  out : List OutMsg := []
  /-- bytes of unsent output (R284; 19 bits). -/
  outBytes : Nat := 0
  /-- service number the connection keeps (R336; 16 bits). -/
  tcpPort : Nat := 0
  /-- EVENT_SUBSCRIBE mask of the connection (R416; 8 bits). -/
  eventMask : Nat := 0
  /-- SEQs of events queued for the connection (R416; 256 bits). -/
  events : List Nat := []
  /-- events lost for want of room in its queue (R416; 32 bits). -/
  eventsLost : Nat := 0
  /-- STRATUM_SELECT of the connection (R92; 32 bits). -/
  stratumSelect : Nat := 0
  /-- transaction number of its last request (R351; 32 bits). -/
  lastTxn : Nat := 0
  /-- requests outstanding on it (R351; 16 bits). -/
  waiting : Nat := 0
  /-- time since which sent data is unacknowledged, ns (R335; 64 bits). -/
  unacked : Option Nat := none
  /-- datagrams not yet sent, oldest first (R284; - bits). -/
  dgOut : List OutMsg := []
  /-- frames of its output that wait for room in their egress queue (R332; - bits). -/
  toQueue : List TxFrame := []
deriving DecidableEq, Repr
/-- A Conn whose every field has its first value. -/
def Conn.init : Conn := {}

/-- One request record of a session (14_sessions_and_service.md). -/
structure Req where
  /-- REQ_ID (R286; 64 bits). -/
  id : Nat := 0
  /-- queued, running, ended or refused (R295; 2 bits). -/
  state : ReqState := .refused
  /-- its STATUS (R288; 16 bits). -/
  status : Nat := 0
  /-- RETRY_MS of its refusal (R285; 16 bits). -/
  retryMs : Nat := 0
  /-- CLASS (R286; 2 bits). -/
  cls : Cls := .int
  /-- NO_GENERATE (R286; 1 bits). -/
  noGenerate : Bool := false
  /-- STREAM_N (R286; 9 bits). -/
  streamN : Nat := 0
  /-- MAX_TOKENS (R286; 18 bits). -/
  maxTokens : Nat := 0
  /-- PREFIX (R286; 32 bits). -/
  prefixLen : Nat := 0
  /-- TEMPERATURE (R286; 32 bits). -/
  temperature : BitVec 32 := 0
  /-- TOP_P (R286; 32 bits). -/
  topP : BitVec 32 := 0x3F800000
  /-- MIN_P (R286; 32 bits). -/
  minP : BitVec 32 := 0
  /-- REP_PENALTY (R286; 32 bits). -/
  repPenalty : BitVec 32 := 0x3F800000
  /-- REP_WINDOW (R286; 13 bits). -/
  repWindow : Nat := 0
  /-- TOP_K (R286; 7 bits). -/
  topK : Nat := 0
  /-- STOP strings (R286; 4 x 32 B bits). -/
  stops : List (List Nat) := []
  /-- seed used (R293; 64 bits). -/
  seed : Nat := 0
  /-- input token identifiers (R292; - bits). -/
  input : List Nat := []
  /-- channel to which later output goes (R295; 16 bits). -/
  conn : Nat := 0
  /-- answered by datagram (R284; 1 bits). -/
  dgram : Bool := false
  /-- time it entered its queue, ns (R297; 64 bits). -/
  queuedAt : Nat := 0
  /-- part of that time under a HELD swap, ns (R297; 64 bits). -/
  heldNs : Nat := 0
  /-- history position of its first output token (R295; 18 bits). -/
  outStart : Nat := 0
  /-- output tokens generated (R287; 18 bits). -/
  outCount : Nat := 0
  /-- output tokens covered by messages sent (R287; 18 bits). -/
  sent : Nat := 0
  /-- bytes of output text sent (R292; 32 bits). -/
  textSent : Nat := 0
  /-- tokens re-prefilled before it (R287; 32 bits). -/
  reprefill : Nat := 0
  /-- stop reason (R294; 8 bits). -/
  stop : Nat := 0
  /-- context limit in force when it was admitted (R150; 18 bits). -/
  limit : Nat := 0
  /-- KV limit in force when it was admitted (R151; 32 bits). -/
  kvLimit : Nat := 0
  /-- stop reason and status with which it is to end when its operations have stopped (R191; - bits). -/
  cancel : Option (Nat × Nat) := none
deriving DecidableEq, Repr
/-- A Req whose every field has its first value. -/
def Req.init : Req := {}

/-- One session (keyed by index 0..4095) (14_sessions_and_service.md). -/
structure Session where
  /-- the index has been used since start-up (R285; 1 bits). -/
  used : Bool := false
  /-- state (R289; 3 bits). -/
  state : SessState := .free
  /-- INCARN (a TRNG value at start-up) (R285; 16 bits). -/
  incarn : Nat := 0
  /-- tenant (R289; 4 bits). -/
  tenant : Nat := 0
  /-- CLIENT_ID (R289; 32 bits). -/
  clientId : Nat := 0
  /-- model slot (R285; 2 bits). -/
  slot : Nat := 0
  /-- adapter selected (R285; 8 bits). -/
  adapter : Option Nat := none
  /-- PERSISTENT (R285; 1 bits). -/
  persistent : Bool := false
  /-- its context limit (R204; 18 bits). -/
  ctxMax : Nat := 0
  /-- KV format when it opened (R152; 2 bits). -/
  kvFmt : KvFmt := .e4m3
  /-- token history (R147; 131072 x 24 bits). -/
  history : List Nat := []
  /-- scale history of each site, oldest first (R41; 32 x 32 each bits). -/
  scales : SMap (List (BitVec 32)) := []
  /-- positions whose KV records are written in every layer (R142; 18 bits). -/
  kvLen : Nat := 0
  /-- its 16 newest requests, newest first (R295; 16 bits). -/
  reqs : List Req := []
  /-- highest REQ_ID (R295; 64 bits). -/
  highest : Nat := 0
  /-- step sequence number (R172; 32 bits). -/
  stepSeq : Nat := 0
  /-- time of opening or of the end of its last request, ns (R289; 64 bits). -/
  openedAt : Nat := 0
  /-- time of the end of its last step, ns (R147; 64 bits). -/
  lastStep : Nat := 0
  /-- time it closed, ns (R289; 64 bits). -/
  closedAt : Nat := 0
  /-- its step waits for a page (R148; 1 bits). -/
  waitsPage : Bool := false
  /-- its step in flight (R192; 32 bits). -/
  run : Option Nat := none
  /-- made COLD with its request in flight (R148; 1 bits). -/
  preemptedCold : Bool := false
  /-- persistent objects it holds (R169; 16 x 15 bits). -/
  persist : SMap Nat := []
deriving DecidableEq, Repr
/-- A Session whose every field has its first value. -/
def Session.init : Session := {}

/-- One queued request (14_sessions_and_service.md). -/
structure QEntry where
  /-- session (R297; 12 bits). -/
  session : Nat := 0
  /-- REQ_ID (R297; 64 bits). -/
  req : Nat := 0
deriving DecidableEq, Repr
/-- A QEntry whose every field has its first value. -/
def QEntry.init : QEntry := {}

/-- Connections, channels, sessions and the ASX service (14_sessions_and_service.md). -/
structure Service where
  /-- connections (R280,R335; 1152 bits). -/
  conns : SMap (Option Conn) := []
  /-- sessions (R289; 4096 bits). -/
  sessions : SMap Session := []
  /-- class queues, keyed tenant*4 + class (R297; 32 bits). -/
  queues : SMap (List QEntry) := []
  /-- CC1's place in its cycle for each tenant: class in turn, requests it has taken and the weights of the cycle, keyed by tenant (R302; 9 bits). -/
  served : SMap Nat := []
  /-- handshakes the trust block works on (R281,R384; 8 bits). -/
  working : List Nat := []
  /-- handshakes queued for the trust block (R281,R384; 64 bits). -/
  waiting : List Nat := []
  /-- INCARN base drawn at start-up (R285; 16 bits). -/
  incarnBase : Nat := 0
  /-- times of the class's completions in the last second, keyed tenant*4 + class (R296; - bits). -/
  completions : SMap (List Nat) := []
deriving DecidableEq, Repr
/-- A Service whose every field has its first value. -/
def Service.init : Service := {}

/-- R320 (15_control_complex.md). -/
inductive CoreState where
  | running | restarting | waiting
deriving DecidableEq, Repr

/-- R310,R320 (15_control_complex.md). -/
inductive LeaseState where
  | held | grace | unattended
deriving DecidableEq, Repr

/-- R320 (15_control_complex.md). -/
inductive FwState where
  | committed | staged | activating | trial | rollingBack
deriving DecidableEq, Repr

/-- One control core (keyed 0..7) (15_control_complex.md). -/
structure Core where
  /-- CC_STATE (R320; 2 bits). -/
  state : CoreState := .running
  /-- runs the new image of an update in progress (R307; 1 bits). -/
  onNew : Bool := false
  /-- detections of its watchdog in the last 60 s, ns (R304; 2 x 64 bits). -/
  firings : List Nat := []
  /-- its restart was commanded by CC_RESTART (R304,R358; 1 bits). -/
  cmd : Bool := false
deriving DecidableEq, Repr
/-- A Core whose every field has its first value. -/
def Core.init : Core := {}

/-- An open firmware upload (15_control_complex.md). -/
structure FwUpload where
  /-- image length (R307; 64 bits). -/
  length : Nat := 0
  /-- ranges written (R307; - bits). -/
  written : List (Nat × Nat) := []
deriving DecidableEq, Repr
/-- A FwUpload whose every field has its first value. -/
def FwUpload.init : FwUpload := {}

/-- The driver lease (15_control_complex.md). -/
structure Lease where
  /-- LEASE_STATE (R310; 2 bits). -/
  state : LeaseState := .unattended
  /-- the lease has a holder (R309; 1 bits). -/
  holder : Bool := false
  /-- EPOCH, non-volatile, 0 from manufacturing (R309; 32 bits). -/
  epoch : Nat := 0
  /-- time to expiry or to the end of grace, ns (R310; 64 bits). -/
  remaining : Nat := 0
deriving DecidableEq, Repr
/-- A Lease whose every field has its first value. -/
def Lease.init : Lease := {}

/-- Control complex, firmware and lease (15_control_complex.md). -/
structure Ctl where
  /-- control cores (R24; 8 bits). -/
  cores : SMap Core := []
  /-- cores that wait to restart, in order (R306; 8 bits). -/
  queue : List Nat := []
  /-- cores still to restart in a rolling activation or a rollback (R307; 8 bits). -/
  rolling : List Nat := []
  /-- driver lease (R309; - bits). -/
  lease : Lease := Lease.init
  /-- FW_STATE (R320; 3 bits). -/
  fwState : FwState := .committed
  /-- firmware slots A (0) and B (1) (R307; 2 bits). -/
  fwSlots : SMap FwImage := [(0, { present := true })]
  /-- active slot (R307; 1 bits). -/
  fwActive : Nat := 0
  /-- upload into the inactive slot (R307; - bits). -/
  fwUpload : Option FwUpload := none
  /-- rest of the 60 s trial window, ns (R308; 64 bits). -/
  trialLeft : Nat := 0
  /-- the 60 s window of the image on trial has ended (R308; 1 bits). -/
  trialOver : Bool := false
  /-- the rollback in progress was commanded by FW_REVERT (R308,R358; 1 bits). -/
  revertCmd : Bool := false
  /-- policy + 1 in force for each tenant while UNATTENDED, 0 none (R312; 9 x 2 bits). -/
  policies : SMap Nat := []
  /-- service is ready (R444; 1 bits). -/
  serviceReady : Bool := false
deriving DecidableEq, Repr
/-- A Ctl whose every field has its first value. -/
def Ctl.init : Ctl := {}

/-- R341 (16_network_ports.md). -/
inductive LinkState where
  | down | training | up | sleep
deriving DecidableEq, Repr

/-- One MACsec secure association (16_network_ports.md). -/
structure Sa where
  /-- installed (R326; 1 bits). -/
  installed : Bool := false
  /-- SAK, as the key's number (R326; 256 bits). -/
  key : Nat := 0
  /-- next PN (transmit) or next expected PN (receive) (R326; 64 bits). -/
  pn : Nat := 1
  /-- PNs accepted inside the replay window (R326; 1024 bits). -/
  seen : List Nat := []
deriving DecidableEq, Repr
/-- A Sa whose every field has its first value. -/
def Sa.init : Sa := {}

/-- One Ethernet port (0 HP0, 1 HP1, 2 MP) (16_network_ports.md). -/
structure Port where
  /-- the port is enabled now (R322; 1 bits). -/
  on : Bool := false
  /-- values of its entries in effect since it was last enabled, keyed by subindex (R322,R341; - bits). -/
  eff : SMap Nat := []
  /-- link state (R341; 2 bits). -/
  link : LinkState := .down
  /-- speed, bit of SPEEDS (R341; 8 bits). -/
  speed : Nat := 0
  /-- role (R323; 1 bits). -/
  leader : Bool := false
  /-- role strapped on GPIO0 or GPIO1 at reset release (R323; 1 bits). -/
  strapLeader : Bool := false
  /-- SQI (R341; 3 bits). -/
  sqi : Nat := 0
  /-- egress queues by PCP (R330,R332; 8 x 256 KiB bits). -/
  egress : SMap (List TxFrame) := []
  /-- queue whose preemptable frame is in progress (R330; 3 bits). -/
  fragment : Option Nat := none
  /-- MAC merge verification has succeeded (R330; 1 bits). -/
  verified : Bool := false
  /-- operating gate list (R331; - bits). -/
  gcl : GclList := GclList.init
  /-- written list waiting for its first cycle start (R331; - bits). -/
  gclNext : Option GclList := none
  /-- entry of the operating list in force (R331; 8 bits). -/
  gateIdx : Nat := 0
  /-- rest of its interval, ns (R331; 32 bits). -/
  gateLeft : Nat := 0
  /-- transmit SAs (R326; 2 bits). -/
  txSa : SMap Sa := []
  /-- receive SAs (R326; 2 bits). -/
  rxSa : SMap Sa := []
  /-- transmit SA in use (R326; 1 bits). -/
  txAn : Nat := 0
  /-- MACSEC_MODE in effect since the last SAK (R326; 2 bits). -/
  mode : Nat := 2
  /-- CAK of the present MKA session (R326; 256 bits). -/
  cak : Nat := 0
  /-- CKN of the present MKA session (R326; 128 bits). -/
  ckn : Nat := 0
  /-- MKA has a live peer (R327; 1 bits). -/
  peerLive : Bool := false
  /-- a new SAK is requested (R326; 1 bits). -/
  sakAsked : Bool := false
  /-- frames in the ingress buffer, held for CC0, oldest first (R305,R325; 1 MiB bits). -/
  rxList : List RxFrame := []
  /-- CABLE_RESULT result (3 not tested) (R341; 8 bits). -/
  cable : Nat := 3
  /-- CABLE_RESULT distance (R341; 16 bits). -/
  cableDm : Nat := 0
  /-- a cable test runs (R323; 1 bits). -/
  cableBusy : Bool := false
  /-- measured path delay, ns (R333; 64 bits). -/
  peerDelay : Int := 0
  /-- it receives Sync from the grandmaster (R333; 1 bits). -/
  syncLive : Bool := false
  /-- BMCA selects it (R333; 1 bits). -/
  bmca : Bool := false
  /-- a sleep request waits for its acknowledgement (R334; 1 bits). -/
  tc10Wait : Bool := false
  /-- the partner acknowledged sleep (R334; 1 bits). -/
  tc10Asleep : Bool := false
  /-- a PLCA beacon has been received or sent (R337; 1 bits). -/
  beacon : Bool := false
  /-- MAC address (R341; 48 bits). -/
  mac : Nat := 0
deriving DecidableEq, Repr
/-- A Port whose every field has its first value. -/
def Port.init : Port := {}

/-- Host and management ports (16_network_ports.md). -/
structure Ports where
  /-- ports (R322; 3 bits). -/
  ports : SMap Port := []
deriving DecidableEq, Repr
/-- A Ports whose every field has its first value. -/
def Ports.init : Ports := {}

/-- Result record of a CMD entry (keyed by entry code index*256 + subindex) (17_banel_dictionary.md). -/
structure CmdRes where
  /-- STATUS of the latest completed execution (R358; 16 bits). -/
  status : Nat := 0
  /-- SEQ, counts executions (R358; 32 bits). -/
  seq : Nat := 0
deriving DecidableEq, Repr
/-- A CmdRes whose every field has its first value. -/
def CmdRes.init : CmdRes := {}

/-- One item of a write that waits for preparation (17_banel_dictionary.md). -/
structure PrepItem where
  /-- entry code (R354; 24 bits). -/
  code : Nat := 0
  /-- value to apply (R354; - bits). -/
  value : Nat := 0
deriving DecidableEq, Repr
/-- A PrepItem whose every field has its first value. -/
def PrepItem.init : PrepItem := {}

/-- A write that waits for preparation (17_banel_dictionary.md). -/
structure PrepWrite where
  /-- connection to answer (R354; 16 bits). -/
  conn : Nat := 0
  /-- transaction to answer (R354; 32 bits). -/
  txn : Nat := 0
  /-- values to apply at one instant (R354; 64 bits). -/
  items : List PrepItem := []
  /-- tenant whose sub-quotas it changes (R203; 4 bits). -/
  tenant : Nat := 0
  /-- EPOCH of the write (R348; 32 bits). -/
  epoch : Nat := 0
  /-- principal of the write (R343; 4 bits). -/
  principal : Nat := 0
deriving DecidableEq, Repr
/-- A PrepWrite whose every field has its first value. -/
def PrepWrite.init : PrepWrite := {}

/-- The dictionary store and the stored profiles (17_banel_dictionary.md). -/
structure Dict where
  /-- stored values that differ from the delivered default (non-volatile), keyed by entry code (R359,R360; - bits). -/
  stored : SMap Nat := []
  /-- present values of profile-scoped entries that differ from PF0's delivered value, keyed by entry code (R359; - bits). -/
  present : SMap Nat := []
  /-- edited profile values and defaults (non-volatile), keyed profile*2^24 + entry code (R361,R364; 4 x - bits). -/
  profiles : SMap Nat := []
  /-- result records of CMD entries (R358; 64 each bits). -/
  results : SMap CmdRes := []
  /-- PROFILE_ACTIVE (R362; 2 bits). -/
  active : Nat := 0
  /-- PROFILE_PINS (R362; 2 bits). -/
  pins : Nat := 0
  /-- profile accepted and not yet applied (R363; 2 bits). -/
  selected : Option Nat := none
  /-- the selection was answered PENDING (R363; 1 bits). -/
  selectPending : Bool := false
  /-- writes that wait for preparation, oldest first (R354; - bits). -/
  prep : List PrepWrite := []
  /-- the model's own: connection whose held transaction runs now (model; - bits). THE MODEL'S OWN. -/
  serving : Option Nat := none
deriving DecidableEq, Repr
/-- A Dict whose every field has its first value. -/
def Dict.init : Dict := {}

/-- R372 (18_tenants_and_trust.md). -/
inductive TenState where
  | free | forming | active | husk | scrubbing
deriving DecidableEq, Repr

/-- Latest release receipt of a tenant number (non-volatile); its 1,536 bytes are spelled by these fields (18_tenants_and_trust.md). -/
structure Receipt where
  /-- MAGIC (all zeros before the first removal) (R377; 32 bits). -/
  magic : Nat := 0
  /-- VERSION (R377; 16 bits). -/
  version : Nat := 0
  /-- TENANT (R377; 8 bits). -/
  tenant : Nat := 0
  /-- CAUSE (R377; 8 bits). -/
  cause : Nat := 0
  /-- COUNTER (R377; 64 bits). -/
  counter : Nat := 0
  /-- CAL_TIME (R377; 64 bits). -/
  calTime : Nat := 0
  /-- HUSK_MONO (R377; 64 bits). -/
  huskMono : Nat := 0
  /-- FREE_MONO (R377; 64 bits). -/
  freeMono : Nat := 0
  /-- FLAGS (R377; 32 bits). -/
  flags : Nat := 0
  /-- CLUSTERS (R377; 16 bits). -/
  clusters : Nat := 0
  /-- VAULT_DIES (R377; 32 bits). -/
  dies : Nat := 0
  /-- STRATA_RETIRED (R377; 32 bits). -/
  strataRetired : Nat := 0
  /-- DRAM_MIB_ZEROED (R377; 32 bits). -/
  dramMib : Nat := 0
  /-- OPS_CANCELLED (R377; 32 bits). -/
  opsCancelled : Nat := 0
  /-- XFERS_ABORTED (R377; 32 bits). -/
  xfersAborted : Nat := 0
  /-- FRAMES_PURGED (R377; 32 bits). -/
  framesPurged : Nat := 0
  /-- WRITES_LATE (R377; 32 bits). -/
  writesLate : Nat := 0
  /-- CONFIG_DIGEST (R377; 256 bits). -/
  digest : List Nat := []
  /-- NONCE (R377; 256 bits). -/
  nonce : Nat := 0
  /-- SIGNATURE (R377; 10240 bits). -/
  signature : Nat := 0
deriving DecidableEq, Repr
/-- A Receipt whose every field has its first value. -/
def Receipt.init : Receipt := {}

/-- A removal in progress (non-volatile in step, cause and nonce) (18_tenants_and_trust.md). -/
structure Removal where
  /-- CAUSE (R374; 2 bits). -/
  cause : Nat := 0
  /-- nonce of TENANT_REMOVE (R374; 256 bits). -/
  nonce : Nat := 0
  /-- step of R374 reached (R374; 3 bits). -/
  step : Nat := 1
  /-- monotonic time of step 1 (R377; 64 bits). -/
  huskMono : Nat := 0
  /-- operations cancelled in step 2 (R377; 32 bits). -/
  opsCancelled : Nat := 0
  /-- transfers aborted in step 3 (R377; 32 bits). -/
  xfersAborted : Nat := 0
  /-- frames purged in step 4 (R377; 32 bits). -/
  framesPurged : Nat := 0
  /-- late writes discarded (R237; 32 bits). -/
  writesLate : Nat := 0
  /-- tenant digest at step 1 (R377; 256 bits). -/
  digest : List Nat := []
  /-- parts of step 6 that have ended (R375; 5 bits). -/
  parts : List ScrubPart := []
  /-- owned dies whose erase has not ended (R375; 32 bits). -/
  diesLeft : List Nat := []
  /-- strata retired so far (R375; 32 bits). -/
  strataRetired : Nat := 0
  /-- tenant MiB zeroed (R377; 32 bits). -/
  dramMib : Nat := 0
  /-- an owned channel was lost (R377; 1 bits). -/
  skipped : Bool := false
  /-- resumed at a start-up (R373; 1 bits). -/
  resumed : Bool := false
  /-- a purge was issued for it (R376; 1 bits). -/
  purgePending : Bool := false
deriving DecidableEq, Repr
/-- A Removal whose every field has its first value. -/
def Removal.init : Removal := {}

/-- Tenants and their removal (18_tenants_and_trust.md). -/
structure Tenants where
  /-- TENANT_STATE (non-volatile), all FREE as delivered (R372; 8 x 3 bits). -/
  states : SMap TenState := []
  /-- removals in progress (R374; 8 bits). -/
  removals : SMap (Option Removal) := []
  /-- RELEASE_RECEIPT (R377; 8 bits). -/
  receipts : SMap Receipt := []
  /-- a UFS purge is running (R376; 1 bits). -/
  purging : Bool := false
  /-- a second purge follows (R376; 1 bits). -/
  purgeAgain : Bool := false
deriving DecidableEq, Repr
/-- A Tenants whose every field has its first value. -/
def Tenants.init : Tenants := {}

/-- The trust block (18_tenants_and_trust.md). -/
structure Trust where
  /-- REPORT_COUNTER, non-volatile (R381; 64 bits). -/
  counter : Nat := 0
  /-- SEC_COUNTER, blown bits of the fuse thermometer (R389; 7 bits). -/
  secCounter : Nat := 0
  /-- fused firmware-key digests (R379; 4 x 256 bits). -/
  fwDigests : List Nat := []
  /-- revoked firmware-key indexes (R389; 4 bits). -/
  revoked : List Nat := []
  /-- debug access is unlocked (locked at every reset) (R390; 1 bits). -/
  debug : Bool := false
  /-- number of the TRNG draw that made DEBUG_CHALLENGE (R390; 256 bits). -/
  challenge : Nat := 0
  /-- IDENTITY_PUB (R380; 14344 bits). -/
  identityPub : Nat := 0
  /-- IDENTITY_CERT (R380; - bits). -/
  identityCert : Bytes := []
  /-- SHAKE256 measurements of the running image (R382; 9 x 256 bits). -/
  measures : List Nat := []
  /-- the model's own: number of free values drawn so far (model; - bits). THE MODEL'S OWN. -/
  fresh : Nat := 0
deriving DecidableEq, Repr
/-- A Trust whose every field has its first value. -/
def Trust.init : Trust := {}

/-- R394,R411 (19_power.md). -/
inductive PState where
  | run | idle | entering | returning | sleep | deepSleep | off | held
deriving DecidableEq, Repr

/-- A power-state entry in progress (19_power.md). -/
structure Entry where
  /-- state it enters (R400; 3 bits). -/
  target : PState := .sleep
  /-- automatic entry (R396; 1 bits). -/
  auto : Bool := false
  /-- step of R400 reached (R400; 4 bits). -/
  step : Nat := 1
  /-- ports whose sleep acknowledgement is awaited (R334; 2 bits). -/
  waitPorts : List Nat := []
  /-- ports that have acknowledged (R400; 2 bits). -/
  asleep : List Nat := []
  /-- wake event latched before step 6, its code (R398; 3 bits). -/
  latched : Nat := 0
deriving DecidableEq, Repr
/-- A Entry whose every field has its first value. -/
def Entry.init : Entry := {}

/-- LAST_REFUSAL (19_power.md). -/
structure LastRefusal where
  /-- requested state (R411; 8 bits). -/
  state : Nat := 0
  /-- refuser code (R411; 8 bits). -/
  code : Nat := 0
  /-- tenant (R411; 8 bits). -/
  tenant : Nat := 0
  /-- port (R411; 8 bits). -/
  port : Nat := 0xFF
  /-- time (R411; 64 bits). -/
  mono : Nat := 0
deriving DecidableEq, Repr
/-- A LastRefusal whose every field has its first value. -/
def LastRefusal.init : LastRefusal := {}

/-- Power states, budgets and thermal control (19_power.md). -/
structure Power where
  /-- power state; held means RESET_N holds the device or its start-up has not reached service ready (R394; 3 bits). -/
  state : PState := .held
  /-- entry in progress (R400; - bits). -/
  entry : Option Entry := none
  /-- state from which a return runs (R401; 3 bits). -/
  returnFrom : PState := .idle
  /-- WAKE_SOURCE (R411; 8 bits). -/
  wakeSource : Nat := 0
  /-- LAST_REFUSAL (R411; 128 bits). -/
  lastRefusal : LastRefusal := LastRefusal.init
  /-- LAST_OFF_CAUSE, non-volatile (R411; 8 bits). -/
  lastOff : Nat := 0
  /-- VCORE_NOW, mV (R404,R411; 16 bits). -/
  vcore : Nat := 0
  /-- VCORE before the entry (R401; 16 bits). -/
  vcoreKept : Nat := 0
  /-- VCORE ceiling in force under thermal control, mV (R409; 16 bits). -/
  ceiling : Nat := 850
  /-- P_v in force under thermal control, tenths of its profile value (R409; 4 bits). -/
  pvTenths : Nat := 10
  /-- tenths by which measured excess lowers P_v (R406; 4 bits). -/
  pvCut : Nat := 0
  /-- THERMAL_STATE (R411; 8 bits). -/
  thermState : Nat := 0
  /-- HS_RATE, M hs/s (R411; 32 bits). -/
  hsRate : Nat := 0
  /-- TJ_NOW (R411; 32 bits). -/
  tj : Int := 0
  /-- TJ_PEAK (R411; 32 bits). -/
  tjPeak : Int := 0
  /-- always-on sensor reading at the last start-up (R409; 32 bits). -/
  aonTemp : Int := 0
  /-- POWER_NOW (R411; 5 x 32 bits). -/
  pNow : List Nat := []
  /-- SLEEP_AFTER count, ns (R396; 64 bits). -/
  sleepCount : Nat := 0
  /-- DEEP_AFTER count, ns (R396; 64 bits). -/
  deepCount : Nat := 0
  /-- time since which no data-path work ran, ns (R395; 64 bits). -/
  idleSince : Nat := 0
  /-- time spent in RUN, ns (R212; 64 bits). -/
  runNs : Nat := 0
  /-- time at which an entry stopped queue, idle and lease counts, ns (R403; 64 bits). -/
  stoppedAt : Option Nat := none
  /-- WRITE_SLOTS in force (R406; 16 bits). -/
  writeSlots : Nat := 512
deriving DecidableEq, Repr
/-- A Power whose every field has its first value. -/
def Power.init : Power := {}

/-- Event record of 32 bytes (20_faults_counters_mirror.md). -/
structure Event where
  /-- CODE (R414; 16 bits). -/
  code : Nat := 0
  /-- CLASS (R414; 8 bits). -/
  cls : Nat := 0
  /-- FLAGS (R414; 8 bits). -/
  flags : Nat := 0
  /-- SEQ (R414; 32 bits). -/
  seq : Nat := 0
  /-- MONO (R414; 64 bits). -/
  mono : Nat := 0
  /-- TENANT (R414; 8 bits). -/
  tenant : Nat := 0
  /-- LOCUS_KIND (R414; 8 bits). -/
  kind : Nat := 0
  /-- LOCUS (R414; 32 bits). -/
  locus : Nat := 0
  /-- DETAIL (R414; 64 bits). -/
  detail : Nat := 0
deriving DecidableEq, Repr
/-- A Event whose every field has its first value. -/
def Event.init : Event := {}

/-- Events, FAULT_N and counters (20_faults_counters_mirror.md). -/
structure Faults where
  /-- counters, keyed index*256 + subindex, all 0 (R420; 64 each bits). -/
  counters : SMap Nat := []
  /-- SAT_LIST, first saturated first (R421,R432; 64 x 32 bits). -/
  satList : List Nat := []
  /-- SAT_COUNT (R432; 32 bits). -/
  satCount : Nat := 0
  /-- next SEQ to assign (R414,R458; 32 bits). -/
  nextSeq : Nat := 0
  /-- non-volatile SEQ mark (R458; 32 bits). -/
  seqMark : Nat := 0
  /-- SEQ last written to FAULT_ACK, non-volatile (the number before the first, so that the first event is after it) (R417,R458; 32 bits). -/
  ackSeq : Nat := 0xFFFFFFFF
  /-- SEQs of masked events after ackSeq (R417; - bits). -/
  unacked : List Nat := []
  /-- CC6's hardware event queue, oldest first (R416; 4096 bits). -/
  queue : List Event := []
  /-- event log, newest first (R416; 65536 bits). -/
  log : List Event := []
  /-- fatal log, oldest first, non-volatile (R418; 64 bits). -/
  fatalLog : List Event := []
  /-- a device-fatal event waits for the self-reset (R418; 1 bits). -/
  fatalDue : Bool := false
  /-- events that arrived in a state not listing them (no counter of the dictionary is named for it) (R14; 64 bits). -/
  unlisted : Nat := 0
deriving DecidableEq, Repr
/-- A Faults whose every field has its first value. -/
def Faults.init : Faults := {}

/-- R425 (20_faults_counters_mirror.md). -/
inductive MBody where
  | time (cal : Nat) (unknown : Bool)
  | inbound (channel msg : Nat) (body : List Nat)
  | dictWrite (principal epoch : Nat) (items : List (Nat × Nat × List Nat))
  | seed (reqId value : Nat)
  | step (reqId stepNo gen cls split : Nat) (handles : List Nat)
  | cold (session cause : Nat)
  | event (record : List Nat)
  | power (powers : List Nat) (vcore : Nat) (tj : Int) (pstate profile : Nat)
  | output (reqId index count stop status : Nat) (digests : List (List Nat)) (textDigest : List Nat)
  | slots (info : List Nat)
  | loss (lost : Nat)
deriving DecidableEq, Repr

/-- Mirror record (20_faults_counters_mirror.md). -/
structure MRec where
  /-- SEQ (R425; 32 bits). -/
  seq : Nat := 0
  /-- MONO (R425; 64 bits). -/
  mono : Nat := 0
  /-- LENGTH (R425; 16 bits). -/
  len : Nat := 0
  /-- body (R425; - bits). -/
  body : MBody := (.loss 0)
deriving DecidableEq, Repr
/-- A MRec whose every field has its first value. -/
def MRec.init : MRec := {}

/-- Exported Mirror file (20_faults_counters_mirror.md). -/
structure MFile where
  /-- FILE_SEQ (R426; 32 bits). -/
  seq : Nat := 0
  /-- FIRST_SEQ (R426; 32 bits). -/
  first : Nat := 0
  /-- MIRROR_KEY it is sealed under (R426; 256 bits). -/
  key : Nat := 0
  /-- number of the TRNG draw that made its nonce (R426; 96 bits). -/
  nonce : Nat := 0
  /-- its records, oldest first (R426; - bits). -/
  records : List MRec := []
  /-- length in bytes (R426; 64 bits). -/
  bytes : Nat := 0
deriving DecidableEq, Repr
/-- A MFile whose every field has its first value. -/
def MFile.init : MFile := {}

/-- Replay in progress (20_faults_counters_mirror.md). -/
structure Replay where
  /-- first FILE_SEQ (R428; 32 bits). -/
  first : Nat := 0
  /-- last FILE_SEQ (R428; 32 bits). -/
  last : Nat := 0
  /-- MODE (R429; 8 bits). -/
  mode : Nat := 0
  /-- time it began, ns (R429; 64 bits). -/
  startAt : Nat := 0
  /-- MONO of its first record (R429; 64 bits). -/
  baseMono : Nat := 0
  /-- records still to inject (R429; - bits). -/
  todo : List MRec := []
  /-- REPLAY_STOP: ends at the next step boundary (R428; 1 bits). -/
  stopping : Bool := false
  /-- recorded OUTPUT records to compare with (R430; - bits). -/
  expected : List MRec := []
  /-- recorded device-entry writes, commands, power and thermal records not applied (R429; 32 bits). -/
  unapplied : Nat := 0
  /-- requests replayed (R430; 32 bits). -/
  replayed : Nat := 0
  /-- REQ_IDs diverged (R430; - bits). -/
  divergedReqs : List Nat := []
  /-- statuses differing (R430; 32 bits). -/
  statusDiff : Nat := 0
  /-- faults recorded (R430; 32 bits). -/
  faultsRec : Nat := 0
  /-- faults met again (R430; 32 bits). -/
  faultsMet : Nat := 0
  /-- codes of the faults recorded and not yet met (R430; - bits). -/
  recorded : List Nat := []
  /-- earliest divergence: REQ_ID, INDEX, recorded MONO (R430; 192 bits). -/
  earliest : Option (Nat × Nat × Nat) := none
  /-- largest injection lag, ns (R430; 64 bits). -/
  lag : Nat := 0
  /-- sessions opened by injection whose recorded handle is not yet known: recorded channel, session index (R429; - bits). -/
  opened : List (Nat × Nat) := []
  /-- session index + 1 that stands for a recorded handle (R429; - bits). -/
  handles : SMap Nat := []
  /-- recorded seeds: REQ_ID, SEED (R429; - bits). -/
  seeds : List (Nat × Nat) := []
  /-- STEP and COLD records still to enforce, in mode 1 (R429; - bits). -/
  steps : List MRec := []
  /-- SPLIT of the STEP record enforced last, 0 none (R429; 8 bits). -/
  split : Nat := 0
deriving DecidableEq, Repr
/-- A Replay whose every field has its first value. -/
def Replay.init : Replay := {}

/-- REPLAY_RESULT (20_faults_counters_mirror.md). -/
structure ReplayResult where
  /-- requests replayed (R430; 32 bits). -/
  replayed : Nat := 0
  /-- requests diverged (R430; 32 bits). -/
  diverged : Nat := 0
  /-- statuses differing (R430; 32 bits). -/
  statusDiff : Nat := 0
  /-- faults recorded (R430; 32 bits). -/
  faultsRec : Nat := 0
  /-- faults met again (R430; 32 bits). -/
  faultsMet : Nat := 0
  /-- earliest divergence, REQ_ID (R430; 64 bits). -/
  reqId : Nat := 0
  /-- earliest divergence, INDEX (R430; 32 bits). -/
  index : Nat := 0
  /-- earliest divergence, recorded MONO (R430; 64 bits). -/
  mono : Nat := 0
  /-- largest injection lag (R430; 64 bits). -/
  lag : Nat := 0
deriving DecidableEq, Repr
/-- A ReplayResult whose every field has its first value. -/
def ReplayResult.init : ReplayResult := {}

/-- Mirror recording of one tenant (20_faults_counters_mirror.md). -/
structure MTen where
  /-- records are captured (MIRROR_STATE 1) (R424; 1 bits). -/
  recording : Bool := false
  /-- next SEQ (R425; 32 bits). -/
  seq : Nat := 0
  /-- segment that takes records, oldest first (R426; 64 MiB bits). -/
  seg : List MRec := []
  /-- its bytes (R426; 27 bits). -/
  segBytes : Nat := 0
  /-- time of its first record, ns (R426; 64 bits). -/
  segSince : Nat := 0
  /-- key of the segment (R433; 256 bits). -/
  segKey : Nat := 0
  /-- other segment, closed and not yet exported (R426; 64 MiB bits). -/
  full : List MRec := []
  /-- its bytes (R426; 27 bits). -/
  fullBytes : Nat := 0
  /-- its key (R433; 256 bits). -/
  fullKey : Nat := 0
  /-- records lost since the previous record (R425; 32 bits). -/
  lost : Nat := 0
  /-- exported files (non-volatile), oldest first (R426; - bits). -/
  files : List MFile := []
  /-- next FILE_SEQ (non-volatile) (R426; 32 bits). -/
  nextFile : Nat := 0
  /-- replay in progress (R428; - bits). -/
  replay : Option Replay := none
  /-- REPLAY_RESULT (R430; 416 bits). -/
  result : ReplayResult := ReplayResult.init
deriving DecidableEq, Repr
/-- A MTen whose every field has its first value. -/
def MTen.init : MTen := {}

/-- Mirror recording and replay (20_faults_counters_mirror.md). -/
structure Mirror where
  /-- per tenant (R424; 8 bits). -/
  tenants : SMap MTen := []
deriving DecidableEq, Repr
/-- A Mirror whose every field has its first value. -/
def Mirror.init : Mirror := {}

/-- Pins and the IEEE 1149.1 port (21_pins_startup_clock.md). -/
structure Pins where
  /-- RESET_N level (R439; 1 bits). -/
  resetN : Bool := false
  /-- PWR_GOOD released high (R439; 1 bits). -/
  pwrGood : Bool := false
  /-- FAULT_N driven low (asserted) (R439; 1 bits). -/
  faultN : Bool := false
  /-- THERM_N driven low (asserted) (R409; 1 bits). -/
  thermN : Bool := false
  /-- pulses put out on GPIO[2] since start-up (the pin is low between them) (R439; - bits). -/
  gpio2 : Nat := 0
  /-- instruction register of the test port (R447; 8 bits). -/
  ir : Nat := 0xFF
  /-- boundary-scan register (R447; 39 bits). -/
  cells : Nat := 0
  /-- EXTEST drives the balls from the cells (R447; 1 bits). -/
  driven : Bool := false
  /-- bypass register (R447; 1 bits). -/
  bypass : Bool := false
  /-- data last captured for shifting out (R447,R448; - bits). -/
  tdo : Nat := 0
  /-- COMMISSION latch (R448; 14344 bits). -/
  latch : Option Nat := none
  /-- COMMISSION status byte (R448; 8 bits). -/
  commStatus : Nat := 0
deriving DecidableEq, Repr
/-- A Pins whose every field has its first value. -/
def Pins.init : Pins := {}

/-- Start-up record, monotonic time and the calendar clock (21_pins_startup_clock.md). -/
structure Clk where
  /-- RESET_CAUSE (R454; 8 bits). -/
  cause : Nat := 0
  /-- cause that the next start-up records (R446,R454; 8 bits). -/
  nextCause : Nat := 0
  /-- STRAPS (R454; 8 bits). -/
  straps : Nat := 0
  /-- STARTUP_TIME (R454; 64 bits). -/
  startupTime : Nat := 0
  /-- a start-up has begun and service is not ready (R444; 1 bits). -/
  starting : Bool := false
  /-- both slots failed: every core is held in reset (R388; 1 bits). -/
  noBoot : Bool := false
  /-- MONO_TIME, 0 at every start-up (R450; 64 bits). -/
  mono : Nat := 0
  /-- CAL_TIME (0: the calendar has never been kept) (R449; 64 bits). -/
  cal : Nat := 0
  /-- TIME_UNKNOWN (R452; 1 bits). -/
  timeUnknown : Bool := true
  /-- the calendar was lost: the next start-up finds it (R452; 1 bits). -/
  calLost : Bool := false
  /-- DISCIPLINED (R451; 1 bits). -/
  disciplined : Bool := false
  /-- monotonic time of the last Sync (R451; 64 bits). -/
  lastSync : Nat := 0
  /-- TIME_SOURCE (R454; 8 bits). -/
  source : Nat := 0
  /-- GPTP_OFFSET (R451; 64 bits). -/
  gptpOffset : Int := 0
  /-- correction still to slew, ns (R451; 64 bits). -/
  slew : Int := 0
  /-- V_AON is present (R441; 1 bits). -/
  vaon : Bool := true
deriving DecidableEq, Repr
/-- A Clk whose every field has its first value. -/
def Clk.init : Clk := {}

/-- The state of the VQ880. -/
structure State where
  /-- identity -/
  ident : Ident := Ident.init
  /-- the weight vault -/
  vault : Vault := Vault.init
  /-- matrix fabric and mesh -/
  fabric : Fabric := Fabric.init
  /-- vector engine -/
  vec : Vec := Vec.init
  /-- bytes of DRAM, cluster stores and tile buffers that differ from 0, at rising flat addresses (R195, R231, R101) -/
  mem : List Host.Cell := []
  /-- KV cache -/
  kv : Kv := Kv.init
  /-- operand expanders -/
  exp : Expander := Expander.init
  /-- work queues, dispatch and synchronisation -/
  ops : Ops := Ops.init
  /-- memory tiers and placement -/
  tiers : Tiers := Tiers.init
  /-- weight streaming -/
  streams : Streams := Streams.init
  /-- DRAM controllers -/
  dram : Dram := Dram.init
  /-- models, adapters and training -/
  models : Models := Models.init
  /-- connections, channels, sessions -/
  svc : Service := Service.init
  /-- control complex, firmware and lease -/
  ctl : Ctl := Ctl.init
  /-- ports -/
  ports : Ports := Ports.init
  /-- dictionary store -/
  dict : Dict := Dict.init
  /-- tenants -/
  tenants : Tenants := Tenants.init
  /-- trust block -/
  trust : Trust := Trust.init
  /-- power and thermal -/
  power : Power := Power.init
  /-- events and counters -/
  faults : Faults := Faults.init
  /-- Mirror recording -/
  mirror : Mirror := Mirror.init
  /-- pins and test port -/
  pins : Pins := Pins.init
  /-- start-up record and clocks -/
  clk : Clk := Clk.init
  /-- commands that wait for a restarting control core, oldest first (R305) -/
  held : List Instr := []
  /-- commands that wait, first in, first out; THE MODEL'S OWN queue of its one sender -/
  pending : List Instr := []
deriving DecidableEq, Repr

/-- Why the machine stops with a fault. -/
inductive Fault where
  /-- An access to an address that no tier of R195 has (a DRAM channel above 31, a data address at or above 5,952 MiB, a cluster store offset at or above 6 MiB, a tile buffer offset at or above 64 KiB). Raised by the memory operations. Safe: the spec says that the place does not exist. -/
  | noSuchAddress (tier place : Nat)
deriving DecidableEq, Repr

/-- Why the machine refuses a command. -/
inductive Refusal where
  /-- The command has no meaning yet. Raised by Dispatch alone. Safe. -/
  | notModelled (mnemonic : String)
  /-- The locked vendor test entries 0xF000..0xFFFF while debug access is unlocked (R12, R390): the spec names no entry there and no effect. Raised by the BDP meanings. Safe. -/
  | vendorTest (code : Nat)
deriving DecidableEq, Repr

/-- The machine as delivered, with RESET_N held low and the supplies present: the state just before step 1 of R444. Values the spec gives are these; every other value is log entry 1. -/
def State.reset : State := {}

end Sys2Proof.Machine
end

