-- ==== Sys2Proof/Machine/Access.lean ====
section
/-! DEFINITION. One read and one update for each numbered resource of the state; every other file goes through these. -/

namespace Sys2Proof.Machine

/-- The stratum at an 18-bit address (R93). -/
def State.stratum (s : State) (k : Nat) : Stratum := mget .init s.vault.strata k
/-- `f` applied to the stratum at an 18-bit address (R93). -/
def State.modStratum (s : State) (k : Nat) (f : Stratum → Stratum) : State :=
  { s with vault := { s.vault with strata := mmod .init s.vault.strata k f } }
/-- An array, by stratum address / 8. -/
def State.array (s : State) (k : Nat) : VArray := mget .init s.vault.arrays k
/-- `f` applied to an array, by stratum address / 8. -/
def State.modArray (s : State) (k : Nat) (f : VArray → VArray) : State :=
  { s with vault := { s.vault with arrays := mmod .init s.vault.arrays k f } }
/-- A vault die. -/
def State.die (s : State) (k : Nat) : VDie := mget .init s.vault.dies k
/-- `f` applied to a vault die. -/
def State.modDie (s : State) (k : Nat) (f : VDie → VDie) : State :=
  { s with vault := { s.vault with dies := mmod .init s.vault.dies k f } }
/-- A pod, by cluster * 16 + pod. -/
def State.pod (s : State) (k : Nat) : Pod := mget .init s.fabric.pods k
/-- `f` applied to a pod, by cluster * 16 + pod. -/
def State.modPod (s : State) (k : Nat) (f : Pod → Pod) : State :=
  { s with fabric := { s.fabric with pods := mmod .init s.fabric.pods k f } }
/-- A vector unit, by its pod. -/
def State.unit (s : State) (k : Nat) : VecUnit := mget .init s.vec.units k
/-- `f` applied to a vector unit, by its pod. -/
def State.modUnit (s : State) (k : Nat) (f : VecUnit → VecUnit) : State :=
  { s with vec := { s.vec with units := mmod .init s.vec.units k f } }
/-- A KV page. -/
def State.page (s : State) (k : Nat) : Option Page := mget none s.kv.pages k
/-- `f` applied to a KV page. -/
def State.modPage (s : State) (k : Nat) (f : Option Page → Option Page) : State :=
  { s with kv := { s.kv with pages := mmod none s.kv.pages k f } }
/-- The staging buffer of a session. -/
def State.stagingOf (s : State) (k : Nat) : List Staged := mget [] s.kv.staging k
/-- `f` applied to the staging buffer of a session. -/
def State.modStagingOf (s : State) (k : Nat) (f : List Staged → List Staged) : State :=
  { s with kv := { s.kv with staging := mmod [] s.kv.staging k f } }
/-- A compression table, by tenant * 4096 + identifier. -/
def State.table (s : State) (k : Nat) : Option ExpTable := mget none s.exp.tables k
/-- `f` applied to a compression table, by tenant * 4096 + identifier. -/
def State.modTable (s : State) (k : Nat) (f : Option ExpTable → Option ExpTable) : State :=
  { s with exp := { s.exp with tables := mmod none s.exp.tables k f } }
/-- Encoder state of an activation tensor, by (tenant * 4 + slot) * 2^32 + tensor. -/
def State.act (s : State) (k : Nat) : ActTensor := mget .init s.exp.acts k
/-- `f` applied to encoder state of an activation tensor, by (tenant * 4 + slot) * 2^32 + tensor. -/
def State.modAct (s : State) (k : Nat) (f : ActTensor → ActTensor) : State :=
  { s with exp := { s.exp with acts := mmod .init s.exp.acts k f } }
/-- The operation in a descriptor slot. -/
def State.op (s : State) (k : Nat) : Option Op := mget none s.ops.slots k
/-- `f` applied to the operation in a descriptor slot. -/
def State.modOp (s : State) (k : Nat) (f : Option Op → Option Op) : State :=
  { s with ops := { s.ops with slots := mmod none s.ops.slots k f } }
/-- A synchronisation object. -/
def State.obj (s : State) (k : Nat) : SyncObj := mget .init s.ops.objs k
/-- `f` applied to a synchronisation object. -/
def State.modObj (s : State) (k : Nat) (f : SyncObj → SyncObj) : State :=
  { s with ops := { s.ops with objs := mmod .init s.ops.objs k f } }
/-- A step run. -/
def State.run (s : State) (k : Nat) : Option StepRun := mget none s.ops.runs k
/-- `f` applied to a step run. -/
def State.modRun (s : State) (k : Nat) (f : Option StepRun → Option StepRun) : State :=
  { s with ops := { s.ops with runs := mmod none s.ops.runs k f } }
/-- Dispatches taken by a class in the present cycle of a unit. -/
def State.credit (s : State) (k : Nat) : Nat := mget 0 s.ops.credit k
/-- `f` applied to dispatches taken by a class in the present cycle of a unit. -/
def State.modCredit (s : State) (k : Nat) (f : Nat → Nat) : State :=
  { s with ops := { s.ops with credit := mmod 0 s.ops.credit k f } }
/-- A system-cache line. -/
def State.line (s : State) (k : Nat) : Line := mget .init s.tiers.lines k
/-- `f` applied to a system-cache line. -/
def State.modLine (s : State) (k : Nat) (f : Line → Line) : State :=
  { s with tiers := { s.tiers with lines := mmod .init s.tiers.lines k f } }
/-- Owner of a way + 1. -/
def State.wayOwner (s : State) (k : Nat) : Nat := mget 0 s.tiers.wayOwner k
/-- `f` applied to owner of a way + 1. -/
def State.modWayOwner (s : State) (k : Nat) (f : Nat → Nat) : State :=
  { s with tiers := { s.tiers with wayOwner := mmod 0 s.tiers.wayOwner k f } }
/-- Owner a way passes to + 1. -/
def State.wayNext (s : State) (k : Nat) : Nat := mget 0 s.tiers.wayNext k
/-- `f` applied to owner a way passes to + 1. -/
def State.modWayNext (s : State) (k : Nat) (f : Nat → Nat) : State :=
  { s with tiers := { s.tiers with wayNext := mmod 0 s.tiers.wayNext k f } }
/-- Popularity profile of a layer. -/
def State.popular (s : State) (k : Nat) : Popular := mget .init s.tiers.popular k
/-- `f` applied to popularity profile of a layer. -/
def State.modPopular (s : State) (k : Nat) (f : Popular → Popular) : State :=
  { s with tiers := { s.tiers with popular := mmod .init s.tiers.popular k f } }
/-- Die after the last one dealt. -/
def State.nextDie (s : State) (k : Nat) : Nat := mget 0 s.tiers.nextDie k
/-- `f` applied to die after the last one dealt. -/
def State.modNextDie (s : State) (k : Nat) (f : Nat → Nat) : State :=
  { s with tiers := { s.tiers with nextDie := mmod 0 s.tiers.nextDie k f } }
/-- DRAM_KV value that waits. -/
def State.kvPending (s : State) (k : Nat) : Option Nat := mget none s.tiers.kvPending k
/-- `f` applied to DRAM_KV value that waits. -/
def State.modKvPending (s : State) (k : Nat) (f : Option Nat → Option Nat) : State :=
  { s with tiers := { s.tiers with kvPending := mmod none s.tiers.kvPending k f } }
/-- The stream engine of a pod. -/
def State.engine (s : State) (k : Nat) : Engine := mget .init s.streams.engines k
/-- `f` applied to the stream engine of a pod. -/
def State.modEngine (s : State) (k : Nat) (f : Engine → Engine) : State :=
  { s with streams := { s.streams with engines := mmod .init s.streams.engines k f } }
/-- A DRAM channel. -/
def State.chan (s : State) (k : Nat) : Channel := mget .init s.dram.channels k
/-- `f` applied to a DRAM channel. -/
def State.modChan (s : State) (k : Nat) (f : Channel → Channel) : State :=
  { s with dram := { s.dram with channels := mmod .init s.dram.channels k f } }
/-- A key slot. -/
def State.keySlot (s : State) (k : Nat) : KeySlot := mget .init s.dram.keys k
/-- `f` applied to a key slot. -/
def State.modKeySlot (s : State) (k : Nat) (f : KeySlot → KeySlot) : State :=
  { s with dram := { s.dram with keys := mmod .init s.dram.keys k f } }
/-- A model slot, by tenant * 4 + slot. -/
def State.slot (s : State) (k : Nat) : ModelSlot := mget .init s.models.slots k
/-- `f` applied to a model slot, by tenant * 4 + slot. -/
def State.modSlot (s : State) (k : Nat) (f : ModelSlot → ModelSlot) : State :=
  { s with models := { s.models with slots := mmod .init s.models.slots k f } }
/-- An adapter slot, by tenant * 16 + slot. -/
def State.adapter (s : State) (k : Nat) : AdSlot := mget .init s.models.adapters k
/-- `f` applied to an adapter slot, by tenant * 16 + slot. -/
def State.modAdapter (s : State) (k : Nat) (f : AdSlot → AdSlot) : State :=
  { s with models := { s.models with adapters := mmod .init s.models.adapters k f } }
/-- A dataset slot, by tenant * 4 + slot. -/
def State.dataset (s : State) (k : Nat) : Option Image := mget none s.models.datasets k
/-- `f` applied to a dataset slot, by tenant * 4 + slot. -/
def State.modDataset (s : State) (k : Nat) (f : Option Image → Option Image) : State :=
  { s with models := { s.models with datasets := mmod none s.models.datasets k f } }
/-- The open upload of a tenant. -/
def State.upload (s : State) (k : Nat) : Option Upload := mget none s.models.uploads k
/-- `f` applied to the open upload of a tenant. -/
def State.modUpload (s : State) (k : Nat) (f : Option Upload → Option Upload) : State :=
  { s with models := { s.models with uploads := mmod none s.models.uploads k f } }
/-- The training job of a tenant. -/
def State.job (s : State) (k : Nat) : Job := mget .init s.models.jobs k
/-- `f` applied to the training job of a tenant. -/
def State.modJob (s : State) (k : Nat) (f : Job → Job) : State :=
  { s with models := { s.models with jobs := mmod .init s.models.jobs k f } }
/-- The generation pointer of a tenant. -/
def State.pointer (s : State) (k : Nat) : Nat := mget 0 s.models.pointer k
/-- `f` applied to the generation pointer of a tenant. -/
def State.modPointer (s : State) (k : Nat) (f : Nat → Nat) : State :=
  { s with models := { s.models with pointer := mmod 0 s.models.pointer k f } }
/-- A connection. -/
def State.conn (s : State) (k : Nat) : Option Conn := mget none s.svc.conns k
/-- `f` applied to a connection. -/
def State.modConn (s : State) (k : Nat) (f : Option Conn → Option Conn) : State :=
  { s with svc := { s.svc with conns := mmod none s.svc.conns k f } }
/-- A session, by index. -/
def State.session (s : State) (k : Nat) : Session := mget .init s.svc.sessions k
/-- `f` applied to a session, by index. -/
def State.modSession (s : State) (k : Nat) (f : Session → Session) : State :=
  { s with svc := { s.svc with sessions := mmod .init s.svc.sessions k f } }
/-- A class queue, by tenant * 4 + class. -/
def State.queue (s : State) (k : Nat) : List QEntry := mget [] s.svc.queues k
/-- `f` applied to a class queue, by tenant * 4 + class. -/
def State.modQueue (s : State) (k : Nat) (f : List QEntry → List QEntry) : State :=
  { s with svc := { s.svc with queues := mmod [] s.svc.queues k f } }
/-- Turns a class has taken, by tenant * 4 + class. -/
def State.served (s : State) (k : Nat) : Nat := mget 0 s.svc.served k
/-- `f` applied to turns a class has taken, by tenant * 4 + class. -/
def State.modServed (s : State) (k : Nat) (f : Nat → Nat) : State :=
  { s with svc := { s.svc with served := mmod 0 s.svc.served k f } }
/-- Completion times of a class, by tenant * 4 + class. -/
def State.completions (s : State) (k : Nat) : List Nat := mget [] s.svc.completions k
/-- `f` applied to completion times of a class, by tenant * 4 + class. -/
def State.modCompletions (s : State) (k : Nat) (f : List Nat → List Nat) : State :=
  { s with svc := { s.svc with completions := mmod [] s.svc.completions k f } }
/-- A control core. -/
def State.core (s : State) (k : Nat) : Core := mget .init s.ctl.cores k
/-- `f` applied to a control core. -/
def State.modCore (s : State) (k : Nat) (f : Core → Core) : State :=
  { s with ctl := { s.ctl with cores := mmod .init s.ctl.cores k f } }
/-- A firmware slot. -/
def State.fwSlot (s : State) (k : Nat) : FwImage := mget .init s.ctl.fwSlots k
/-- `f` applied to a firmware slot. -/
def State.modFwSlot (s : State) (k : Nat) (f : FwImage → FwImage) : State :=
  { s with ctl := { s.ctl with fwSlots := mmod .init s.ctl.fwSlots k f } }
/-- UNATTENDED policy in force + 1. -/
def State.policy (s : State) (k : Nat) : Nat := mget 0 s.ctl.policies k
/-- `f` applied to UNATTENDED policy in force + 1. -/
def State.modPolicy (s : State) (k : Nat) (f : Nat → Nat) : State :=
  { s with ctl := { s.ctl with policies := mmod 0 s.ctl.policies k f } }
/-- A port. -/
def State.port (s : State) (k : Nat) : Port := mget .init s.ports.ports k
/-- `f` applied to a port. -/
def State.modPort (s : State) (k : Nat) (f : Port → Port) : State :=
  { s with ports := { s.ports with ports := mmod .init s.ports.ports k f } }
/-- The result record of a CMD entry. -/
def State.result (s : State) (k : Nat) : CmdRes := mget .init s.dict.results k
/-- `f` applied to the result record of a CMD entry. -/
def State.modResult (s : State) (k : Nat) (f : CmdRes → CmdRes) : State :=
  { s with dict := { s.dict with results := mmod .init s.dict.results k f } }
/-- The state of a tenant. -/
def State.tenState (s : State) (k : Nat) : TenState := mget .free s.tenants.states k
/-- `f` applied to the state of a tenant. -/
def State.modTenState (s : State) (k : Nat) (f : TenState → TenState) : State :=
  { s with tenants := { s.tenants with states := mmod .free s.tenants.states k f } }
/-- The removal of a tenant. -/
def State.removal (s : State) (k : Nat) : Option Removal := mget none s.tenants.removals k
/-- `f` applied to the removal of a tenant. -/
def State.modRemoval (s : State) (k : Nat) (f : Option Removal → Option Removal) : State :=
  { s with tenants := { s.tenants with removals := mmod none s.tenants.removals k f } }
/-- The release receipt of a tenant number. -/
def State.receipt (s : State) (k : Nat) : Receipt := mget .init s.tenants.receipts k
/-- `f` applied to the release receipt of a tenant number. -/
def State.modReceipt (s : State) (k : Nat) (f : Receipt → Receipt) : State :=
  { s with tenants := { s.tenants with receipts := mmod .init s.tenants.receipts k f } }
/-- Mirror recording of a tenant. -/
def State.mten (s : State) (k : Nat) : MTen := mget .init s.mirror.tenants k
/-- `f` applied to Mirror recording of a tenant. -/
def State.modMten (s : State) (k : Nat) (f : MTen → MTen) : State :=
  { s with mirror := { s.mirror with tenants := mmod .init s.mirror.tenants k f } }

end Sys2Proof.Machine
end

