-- ==== Sys2Proof/Machine/Entries.lean ====
section
/-! DEFINITION. The dictionary: one row for each entry that a chapter's table defines (R367), with its type, access, principals, delivered defaults and range. -/

namespace Sys2Proof.Machine

/-- An entry, or a run of entries of one shape, of the Banel dictionary. -/
structure EntryDesc where
  /-- first index -/
  lo : Nat
  /-- last index -/
  hi : Nat
  /-- first subindex -/
  slo : Nat
  /-- last subindex -/
  shi : Nat
  name : String
  /-- TYPE code of R349 -/
  ty : Nat
  /-- LENGTH; 0 where it varies -/
  len : Nat
  /-- access (R11): 0 RO, 1 RW, 2 WO, 3 CMD -/
  acc : Nat
  /-- principals: 1 MGMT, 2 DRV, 4 TEN(n), 8 ANY -/
  who : Nat
  /-- where the tenant number stands: 0 nowhere, 1 in index bits 3:0, 2 in index bits 7:4, 3 in the subindex -/
  ten : Nat
  /-- values of the low index nibble that exist, 0 for all 16 -/
  low : Nat
  /-- delivered defaults of PF0..PF3; one value where all four agree -/
  dflt : List Nat
  /-- range of the value -/
  range : Option (Nat × Nat)
deriving DecidableEq, Repr

/-- Entries of the dictionary (R367), part 0. -/
def Entry.rows0 : List EntryDesc := [
  ⟨0x1000, 0x1000, 1, 1, "ORDER_CODE", 9, 16, 0, 8, 0, 0, [], none⟩,
  ⟨0x5101, 0x5108, 1, 1, "SCALE_WINDOW", 1, 1, 1, 6, 1, 0, [16], some (1, 32)⟩,
  ⟨0x5101, 0x5108, 2, 2, "SCALE_MARGIN", 7, 4, 1, 6, 1, 0, [1065353216], none⟩,
  ⟨0x5101, 0x5108, 3, 3, "GRAD_ROUNDING", 1, 1, 1, 6, 1, 0, [0], some (0, 1)⟩,
  ⟨0xA101, 0xA108, 1, 1, "CLAMP", 4, 8, 0, 6, 1, 0, [0], none⟩,
  ⟨0xA101, 0xA108, 2, 2, "ESCAPED", 4, 8, 0, 6, 1, 0, [0], none⟩,
  ⟨0xA101, 0xA108, 3, 3, "ESC_OVERFLOW", 4, 8, 0, 6, 1, 0, [0], none⟩,
  ⟨0xA101, 0xA108, 4, 4, "NAN_DROPPED", 4, 8, 0, 6, 1, 0, [0], none⟩,
  ⟨0xA101, 0xA108, 5, 5, "ACC_SAT", 4, 8, 0, 6, 1, 0, [0], none⟩,
  ⟨0x9000, 0x9000, 1, 1, "SLOTS_TOTAL", 4, 8, 0, 8, 0, 0, [549755813888], none⟩,
  ⟨0x9000, 0x9000, 2, 2, "ARRAYS_TOTAL", 3, 4, 0, 8, 0, 0, [32768], none⟩,
  ⟨0x9001, 0x9001, 1, 1, "GRANT_SLOTS", 2, 2, 0, 2, 0, 0, [], none⟩,
  ⟨0x9001, 0x9001, 2, 2, "CONVERTING", 2, 2, 0, 2, 0, 0, [], none⟩,
  ⟨0x9001, 0x9001, 3, 3, "ROUND_TIME", 8, 8, 0, 2, 0, 0, [], none⟩,
  ⟨0x9001, 0x9001, 4, 4, "DIE_CAP", 1, 1, 0, 8, 0, 0, [64], none⟩,
  ⟨0x9201, 0x9208, 1, 1, "GRANT_SHARE", 2, 2, 0, 6, 1, 0, [], none⟩,
  ⟨0xA201, 0xA208, 1, 1, "MVMS", 4, 8, 0, 6, 1, 0, [0], none⟩,
  ⟨0xA201, 0xA208, 2, 2, "ROUNDS", 4, 8, 0, 6, 1, 0, [0], none⟩,
  ⟨0xA201, 0xA208, 3, 3, "PLANES_SKIPPED", 4, 8, 0, 6, 1, 0, [0], none⟩,
  ⟨0xA201, 0xA208, 4, 4, "PLANES_SPLIT", 4, 8, 0, 6, 1, 0, [0], none⟩,
  ⟨0xA201, 0xA208, 5, 5, "SUSPENDS", 4, 8, 0, 6, 1, 0, [0], none⟩,
  ⟨0xA201, 0xA208, 6, 6, "SLOT_WAIT_NS", 4, 8, 0, 6, 1, 0, [0], none⟩,
  ⟨0xA201, 0xA208, 7, 7, "PORT_HOLD_NS", 4, 8, 0, 6, 1, 0, [0], none⟩,
  ⟨0x9002, 0x9002, 1, 1, "TV_PERIOD", 2, 2, 0, 8, 0, 0, [4096], none⟩]
/-- Entries of the dictionary (R367), part 1. -/
def Entry.rows1 : List EntryDesc := [
  ⟨0x9002, 0x9002, 2, 2, "TV_IDLE", 8, 8, 0, 8, 0, 0, [10000000000], none⟩,
  ⟨0x9002, 0x9002, 3, 3, "TV_TOL_LSB", 1, 1, 0, 8, 0, 0, [3], none⟩,
  ⟨0x9003, 0x9003, 1, 1, "STRATA_FREE", 3, 4, 0, 8, 0, 0, [], none⟩,
  ⟨0x9003, 0x9003, 2, 2, "STRATA_WRITING", 3, 4, 0, 8, 0, 0, [], none⟩,
  ⟨0x9003, 0x9003, 3, 3, "STRATA_LIT", 3, 4, 0, 8, 0, 0, [], none⟩,
  ⟨0x9003, 0x9003, 4, 4, "STRATA_DIM", 3, 4, 0, 8, 0, 0, [], none⟩,
  ⟨0x9003, 0x9003, 5, 5, "STRATA_RETIRED", 3, 4, 0, 8, 0, 0, [], none⟩,
  ⟨0x9003, 0x9003, 6, 6, "SLOTS_LIVE", 4, 8, 0, 8, 0, 0, [], none⟩,
  ⟨0x9004, 0x9004, 1, 1, "STRATUM_SELECT", 3, 4, 1, 6, 0, 0, [0], none⟩,
  ⟨0x9004, 0x9004, 2, 2, "STRATUM_INFO", 11, 0, 0, 6, 0, 0, [], none⟩,
  ⟨0x9301, 0x9308, 1, 1, "WRITE_CAP", 2, 2, 0, 6, 1, 0, [], none⟩,
  ⟨0x9301, 0x9308, 2, 2, "SHADOW_PINNED", 2, 2, 0, 6, 1, 0, [], none⟩,
  ⟨0xA301, 0xA308, 1, 1, "TESTS", 4, 8, 0, 6, 1, 0, [0], none⟩,
  ⟨0xA301, 0xA308, 2, 2, "TEST_FAILS", 4, 8, 0, 6, 1, 0, [0], none⟩,
  ⟨0xA301, 0xA308, 3, 3, "SHADOW_OPS", 4, 8, 0, 6, 1, 0, [0], none⟩,
  ⟨0xA301, 0xA308, 4, 4, "SHADOW_UFS", 4, 8, 0, 6, 1, 0, [0], none⟩,
  ⟨0xA301, 0xA308, 5, 5, "REWRITES", 4, 8, 0, 6, 1, 0, [0], none⟩,
  ⟨0xA301, 0xA308, 6, 6, "RETIRED", 4, 8, 0, 6, 1, 0, [0], none⟩,
  ⟨0xA301, 0xA308, 7, 7, "SHADOW_BOUND", 4, 8, 0, 6, 1, 0, [0], none⟩,
  ⟨0x7100, 0x7100, 1, 1, "FAB_RAMP_HS", 1, 1, 0, 8, 0, 0, [32], none⟩,
  ⟨0x7100, 0x7100, 2, 2, "FAB_LINK_DEPTH", 1, 1, 0, 8, 0, 0, [4], none⟩,
  ⟨0x7100, 0x7100, 3, 3, "FAB_IDLE_HS", 2, 2, 0, 8, 0, 0, [64], none⟩,
  ⟨0x7100, 0x7100, 4, 4, "FAB_MAX_INTERLEAVE", 1, 1, 0, 8, 0, 0, [8], none⟩,
  ⟨0xA401, 0xA408, 1, 1, "FAB_OPS", 4, 8, 0, 6, 1, 0, [0], none⟩]
/-- Entries of the dictionary (R367), part 2. -/
def Entry.rows2 : List EntryDesc := [
  ⟨0xA401, 0xA408, 2, 2, "FAB_BUSY_HS", 4, 8, 0, 6, 1, 0, [0], none⟩,
  ⟨0xA401, 0xA408, 3, 3, "FAB_LINE_STALL_HS", 4, 8, 0, 6, 1, 0, [0], none⟩,
  ⟨0xA401, 0xA408, 4, 4, "FAB_DRAIN_STALL_HS", 4, 8, 0, 6, 1, 0, [0], none⟩,
  ⟨0xA401, 0xA408, 5, 5, "FAB_RAMPS", 4, 8, 0, 6, 1, 0, [0], none⟩,
  ⟨0xA401, 0xA408, 6, 6, "FAB_IDLE_ROWS", 4, 8, 0, 6, 1, 0, [0], none⟩,
  ⟨0x7102, 0x7102, 1, 1, "VEC_LANES", 1, 1, 0, 8, 0, 0, [32], none⟩,
  ⟨0x7102, 0x7102, 2, 2, "VEC_BUFFER", 2, 2, 0, 8, 0, 0, [16384], none⟩,
  ⟨0x7102, 0x7102, 3, 3, "VEC_PROG_MAX", 2, 2, 0, 8, 0, 0, [2048], none⟩,
  ⟨0xA501, 0xA508, 1, 1, "VEC_PROGS", 4, 8, 0, 6, 1, 0, [0], none⟩,
  ⟨0xA501, 0xA508, 2, 2, "VEC_BUSY_HS", 4, 8, 0, 6, 1, 0, [0], none⟩,
  ⟨0xA501, 0xA508, 3, 3, "VEC_ACC_WAIT_HS", 4, 8, 0, 6, 1, 0, [0], none⟩,
  ⟨0xA501, 0xA508, 4, 4, "VEC_GRANT_WAIT_HS", 4, 8, 0, 6, 1, 0, [0], none⟩,
  ⟨0xA501, 0xA508, 5, 5, "VEC_IDX_OOR", 4, 8, 0, 6, 1, 0, [0], none⟩,
  ⟨0x6000, 0x6000, 1, 1, "KV_PAGE_BYTES", 3, 4, 0, 8, 0, 0, [65536], none⟩,
  ⟨0x6000, 0x6000, 2, 2, "CONTEXT_LIMIT", 3, 4, 0, 8, 0, 0, [131072], none⟩,
  ⟨0x6000, 0x6000, 3, 3, "STAGING_BYTES", 3, 4, 0, 8, 0, 0, [65536], none⟩,
  ⟨0x6101, 0x6108, 1, 1, "KV_FORMAT", 1, 1, 1, 6, 1, 0, [0], some (0, 2)⟩,
  ⟨0x6101, 0x6108, 2, 2, "CONTEXT_MAX", 3, 4, 1, 6, 1, 0, [131072], none⟩,
  ⟨0x6201, 0x6208, 1, 1, "KV_PAGES_HOT", 3, 4, 0, 6, 1, 0, [], none⟩,
  ⟨0x6201, 0x6208, 2, 2, "KV_PAGES_WARM", 3, 4, 0, 6, 1, 0, [], none⟩,
  ⟨0xA601, 0xA608, 1, 1, "KV_EVICTIONS", 4, 8, 0, 6, 1, 0, [0], none⟩,
  ⟨0xA601, 0xA608, 2, 2, "KV_PROMOTIONS", 4, 8, 0, 6, 1, 0, [0], none⟩,
  ⟨0xA601, 0xA608, 3, 3, "KV_STAGED", 4, 8, 0, 6, 1, 0, [0], none⟩,
  ⟨0xA601, 0xA608, 4, 4, "KV_SCAT_WAIT_NS", 4, 8, 0, 6, 1, 0, [0], none⟩]
/-- Entries of the dictionary (R367), part 3. -/
def Entry.rows3 : List EntryDesc := [
  ⟨0xA601, 0xA608, 5, 5, "COLD_SESSIONS", 4, 8, 0, 6, 1, 0, [0], none⟩,
  ⟨0xA601, 0xA608, 6, 6, "KV_PREEMPT", 4, 8, 0, 6, 1, 0, [0], none⟩,
  ⟨0xA601, 0xA608, 7, 7, "REPREFILL_TOKENS", 4, 8, 0, 6, 1, 0, [0], none⟩,
  ⟨0xA601, 0xA608, 8, 8, "ATT_EMPTY_ROWS", 4, 8, 0, 6, 1, 0, [0], none⟩,
  ⟨0x7104, 0x7104, 1, 1, "EXP_DECODERS", 1, 1, 0, 8, 0, 0, [16], none⟩,
  ⟨0x7104, 0x7104, 2, 2, "EXP_RATE", 1, 1, 0, 8, 0, 0, [32], none⟩,
  ⟨0x7104, 0x7104, 3, 3, "EXP_CODE_MAX", 1, 1, 0, 8, 0, 0, [12], none⟩,
  ⟨0x7104, 0x7104, 4, 4, "EXP_TABLES_MAX", 2, 2, 0, 8, 0, 0, [4096], none⟩,
  ⟨0x7411, 0x7418, 1, 1, "EXP_ACT_ENABLE", 0, 1, 1, 6, 1, 0, [1], some (0, 1)⟩,
  ⟨0x7411, 0x7418, 2, 2, "EXP_TABLES", 2, 2, 0, 6, 1, 0, [], none⟩,
  ⟨0xA701, 0xA708, 1, 1, "EXP_BLOCKS", 4, 8, 0, 6, 1, 0, [0], none⟩,
  ⟨0xA701, 0xA708, 2, 2, "EXP_RAW_BLOCKS", 4, 8, 0, 6, 1, 0, [0], none⟩,
  ⟨0xA701, 0xA708, 3, 3, "EXP_BYTES_SAVED", 4, 8, 0, 6, 1, 0, [0], none⟩,
  ⟨0xA701, 0xA708, 4, 4, "EXP_LAG_HS", 4, 8, 0, 6, 1, 0, [0], none⟩,
  ⟨0xA701, 0xA708, 5, 5, "EXP_SERIAL", 4, 8, 0, 6, 1, 0, [0], none⟩,
  ⟨0xA701, 0xA708, 6, 6, "EXP_HDR_RECOVER", 4, 8, 0, 6, 1, 0, [0], none⟩,
  ⟨0xA701, 0xA708, 7, 7, "EXP_POISONED", 4, 8, 0, 6, 1, 0, [0], none⟩,
  ⟨0xA701, 0xA708, 8, 8, "EXP_TABLE_FULL", 4, 8, 0, 6, 1, 0, [0], none⟩,
  ⟨0xA701, 0xA708, 9, 9, "EXP_REBUILDS", 4, 8, 0, 6, 1, 0, [0], none⟩,
  ⟨0x7200, 0x7200, 1, 1, "OPS_MAX", 2, 2, 0, 8, 0, 0, [16384], none⟩,
  ⟨0x7200, 0x7200, 2, 2, "SYNC_MAX", 2, 2, 0, 8, 0, 0, [32768], none⟩,
  ⟨0x7200, 0x7200, 3, 3, "OP_LIMIT", 8, 8, 0, 8, 0, 0, [50000], none⟩,
  ⟨0x7200, 0x7200, 4, 4, "OP_TIMEOUT", 8, 8, 0, 8, 0, 0, [1000000], none⟩,
  ⟨0x7201, 0x7201, 1, 1, "OPS_FREE", 2, 2, 0, 2, 0, 0, [], none⟩]
/-- Entries of the dictionary (R367), part 4. -/
def Entry.rows4 : List EntryDesc := [
  ⟨0x7201, 0x7201, 2, 2, "SYNC_FREE", 2, 2, 0, 2, 0, 0, [], none⟩,
  ⟨0x7301, 0x7308, 1, 1, "OPS_SHARE", 2, 2, 1, 2, 1, 0, [2048], none⟩,
  ⟨0x7301, 0x7308, 2, 2, "SYNC_SHARE", 2, 2, 1, 2, 1, 0, [4096], none⟩,
  ⟨0x7301, 0x7308, 3, 3, "IMM_RES_OPS", 2, 2, 1, 2, 1, 0, [512], none⟩,
  ⟨0x7301, 0x7308, 4, 4, "IMM_RES_SYNC", 2, 2, 1, 2, 1, 0, [128], none⟩,
  ⟨0x7301, 0x7308, 5, 5, "LOOKAHEAD", 1, 1, 1, 6, 1, 0, [1], some (1, 8)⟩,
  ⟨0x7301, 0x7308, 6, 6, "OPS_INFLIGHT", 2, 2, 0, 6, 1, 0, [], none⟩,
  ⟨0x7301, 0x7308, 7, 7, "SYNC_HELD", 2, 2, 0, 6, 1, 0, [], none⟩,
  ⟨0xA801, 0xA808, 1, 1, "OPS_DONE", 4, 8, 0, 6, 1, 0, [0], none⟩,
  ⟨0xA801, 0xA808, 2, 2, "OPS_POISONED", 4, 8, 0, 6, 1, 0, [0], none⟩,
  ⟨0xA801, 0xA808, 3, 3, "OPS_CANCELLED", 4, 8, 0, 6, 1, 0, [0], none⟩,
  ⟨0xA801, 0xA808, 4, 4, "OPS_TIMEOUT", 4, 8, 0, 6, 1, 0, [0], none⟩,
  ⟨0xA801, 0xA808, 5, 5, "OPS_FAILED", 4, 8, 0, 6, 1, 0, [0], none⟩,
  ⟨0xA801, 0xA808, 6, 6, "SYNC_SAT", 4, 8, 0, 6, 1, 0, [0], none⟩,
  ⟨0xA801, 0xA808, 7, 7, "SHARE_WAIT_NS", 4, 8, 0, 6, 1, 0, [0], none⟩,
  ⟨0x8000, 0x8000, 1, 1, "SRAM_BYTES", 3, 4, 0, 8, 0, 0, [167772160], none⟩,
  ⟨0x8000, 0x8000, 2, 2, "CH_USABLE_MIB", 2, 2, 0, 8, 0, 0, [5824], none⟩,
  ⟨0x8000, 0x8000, 3, 3, "UFS_TENANT_MIB", 3, 4, 0, 2, 0, 0, [], none⟩,
  ⟨0x8101, 0x8108, 1, 1, "CLUSTERS", 2, 2, 1, 2, 1, 0, [0], none⟩,
  ⟨0x8101, 0x8108, 2, 2, "VAULT_DIES", 3, 4, 1, 2, 1, 0, [0], none⟩,
  ⟨0x8101, 0x8108, 3, 3, "CACHE_WAYS", 1, 1, 1, 2, 1, 0, [2], some (2, 30)⟩,
  ⟨0x8101, 0x8108, 4, 4, "CS_KV_PAGES", 1, 1, 1, 6, 1, 0, [80], some (0, 88)⟩,
  ⟨0x8101, 0x8108, 5, 5, "SPARE_PER_BANK", 1, 1, 1, 2, 1, 0, [8], some (0, 64)⟩,
  ⟨0x8101, 0x8108, 6, 6, "SESSIONS_MAX", 2, 2, 1, 2, 1, 0, [512], some (0, 4096)⟩]
/-- Entries of the dictionary (R367), part 5. -/
def Entry.rows5 : List EntryDesc := [
  ⟨0x8101, 0x8108, 7, 7, "UFS_MIB", 3, 4, 1, 2, 1, 0, [0], none⟩,
  ⟨0x8101, 0x8108, 8, 8, "EXPERT_REBALANCE", 0, 1, 1, 6, 1, 0, [1], some (0, 1)⟩,
  ⟨0x8111, 0x8118, 1, 1, "DRAM_MODEL", 3, 4, 1, 2, 1, 0, [0], none⟩,
  ⟨0x8111, 0x8118, 2, 2, "DRAM_KV", 3, 4, 1, 2, 1, 0, [0], none⟩,
  ⟨0x8111, 0x8118, 3, 3, "DRAM_SESSION", 3, 4, 1, 2, 1, 0, [256], none⟩,
  ⟨0x8111, 0x8118, 4, 4, "DRAM_SHADOW", 3, 4, 1, 2, 1, 0, [2048], some (9, 4294967295)⟩,
  ⟨0x8111, 0x8118, 5, 5, "DRAM_ADAPTER", 3, 4, 1, 2, 1, 0, [0], none⟩,
  ⟨0x8111, 0x8118, 6, 6, "DRAM_SCRATCH", 3, 4, 0, 6, 1, 0, [], none⟩,
  ⟨0x8121, 0x8128, 1, 1, "DRAM_USED", 11, 0, 0, 6, 1, 0, [], none⟩,
  ⟨0xA901, 0xA908, 1, 1, "TILES_MOVED", 4, 8, 0, 6, 1, 0, [0], none⟩,
  ⟨0xA901, 0xA908, 2, 2, "CACHE_HITS", 4, 8, 0, 6, 1, 0, [0], none⟩,
  ⟨0xA901, 0xA908, 3, 3, "CACHE_MISSES", 4, 8, 0, 6, 1, 0, [0], none⟩,
  ⟨0xA901, 0xA908, 4, 4, "QUOTA_REFUSALS", 4, 8, 0, 6, 1, 0, [0], none⟩,
  ⟨0xA901, 0xA908, 5, 5, "SCRATCH_WAIT_NS", 4, 8, 0, 6, 1, 0, [0], none⟩,
  ⟨0xA901, 0xA908, 6, 6, "EXPERT_MOVES", 4, 8, 0, 6, 1, 0, [0], none⟩,
  ⟨0xA901, 0xA908, 7, 7, "XQ_RESULTS", 4, 8, 0, 6, 1, 0, [0], none⟩,
  ⟨0x8001, 0x8001, 1, 1, "STREAM_OUTSTANDING", 1, 1, 0, 8, 0, 0, [6], none⟩,
  ⟨0x8001, 0x8001, 2, 2, "STREAM_CREDIT_BYTES", 2, 2, 0, 8, 0, 0, [256], none⟩,
  ⟨0x8001, 0x8001, 3, 3, "STREAM_MIN_LAT", 8, 8, 0, 8, 0, 0, [640], none⟩,
  ⟨0x8001, 0x8001, 4, 4, "STREAM_LATE_AT", 8, 8, 0, 8, 0, 0, [20000], none⟩,
  ⟨0x8131, 0x8138, 1, 1, "STREAM_REGIONS", 1, 1, 1, 6, 1, 0, [6], none⟩,
  ⟨0xAA01, 0xAA08, 1, 1, "STREAM_BLOCKS", 4, 8, 0, 6, 1, 0, [0], none⟩,
  ⟨0xAA01, 0xAA08, 2, 2, "STREAM_BYTES", 4, 8, 0, 6, 1, 0, [0], none⟩,
  ⟨0xAA01, 0xAA08, 3, 3, "STREAM_LATE", 4, 8, 0, 6, 1, 0, [0], none⟩]
/-- Entries of the dictionary (R367), part 6. -/
def Entry.rows6 : List EntryDesc := [
  ⟨0xAA01, 0xAA08, 4, 4, "STREAM_WAIT_NS", 4, 8, 0, 6, 1, 0, [0], none⟩,
  ⟨0xAA01, 0xAA08, 5, 5, "STREAM_STALL_NS", 4, 8, 0, 6, 1, 0, [0], none⟩,
  ⟨0xAA01, 0xAA08, 6, 6, "STREAM_DISCARDS", 4, 8, 0, 6, 1, 0, [0], none⟩,
  ⟨0x8200, 0x8200, 1, 1, "DRAM_RATE", 2, 2, 0, 8, 0, 0, [9600], none⟩,
  ⟨0x8200, 0x8200, 2, 2, "CH_RAW_MIB", 2, 2, 0, 8, 0, 0, [6144], none⟩,
  ⟨0x8200, 0x8200, 3, 3, "CH_DATA_MIB", 2, 2, 0, 8, 0, 0, [5952], none⟩,
  ⟨0x8201, 0x8201, 1, 1, "SR_IDLE", 8, 8, 1, 2, 0, 0, [1000000, 1000000, 100000, 10000], some (10000, 100000000)⟩,
  ⟨0x8201, 0x8201, 2, 2, "SCRUB_PERIOD", 2, 2, 1, 2, 0, 0, [24], some (1, 168)⟩,
  ⟨0x8202, 0x8202, 1, 32, "CH_STATE", 1, 1, 0, 8, 0, 0, [], none⟩,
  ⟨0x8141, 0x8148, 1, 1, "INTERLEAVE_GRAIN", 1, 1, 1, 2, 1, 0, [2], some (0, 4)⟩,
  ⟨0xAB01, 0xAB08, 1, 1, "READ_RETRIES", 4, 8, 0, 6, 1, 0, [0], none⟩,
  ⟨0xAB01, 0xAB08, 2, 2, "READ_FAILED", 4, 8, 0, 6, 1, 0, [0], none⟩,
  ⟨0xAB01, 0xAB08, 3, 3, "HAZARD_WAITS", 4, 8, 0, 6, 1, 0, [0], none⟩,
  ⟨0xAB01, 0xAB08, 4, 4, "HAZARD_WAIT_NS", 4, 8, 0, 6, 1, 0, [0], none⟩,
  ⟨0xAC00, 0xAC00, 1, 32, "ECC_CORRECTED", 4, 8, 0, 2, 0, 0, [0], none⟩,
  ⟨0xAC01, 0xAC01, 1, 32, "ECC_UNCORRECTABLE", 4, 8, 0, 2, 0, 0, [0], none⟩,
  ⟨0xAC02, 0xAC02, 1, 32, "LINK_CORRECTED", 4, 8, 0, 2, 0, 0, [0], none⟩,
  ⟨0xAC03, 0xAC03, 1, 32, "SCRUB_ROWS", 4, 8, 0, 2, 0, 0, [0], none⟩,
  ⟨0xAC04, 0xAC04, 1, 32, "SR_ENTRIES", 4, 8, 0, 2, 0, 0, [0], none⟩,
  ⟨0x5000, 0x5000, 1, 1, "MODEL_SLOTS", 1, 1, 0, 8, 0, 0, [4], none⟩,
  ⟨0x5000, 0x5000, 2, 2, "ADAPTER_SLOTS", 1, 1, 0, 8, 0, 0, [16], none⟩,
  ⟨0x5000, 0x5000, 3, 3, "ADAPTER_RANK_MAX", 1, 1, 0, 8, 0, 0, [64], none⟩,
  ⟨0x5000, 0x5000, 4, 4, "IMG_REV_MAX", 2, 2, 0, 8, 0, 0, [1], none⟩,
  ⟨0x5301, 0x5308, 1, 1, "GEN_POINTER", 3, 4, 0, 6, 1, 0, [], none⟩]
/-- Entries of the dictionary (R367), part 7. -/
def Entry.rows7 : List EntryDesc := [
  ⟨0x5301, 0x5308, 2, 2, "UPLOAD_BEGIN", 11, 16, 3, 2, 1, 0, [], none⟩,
  ⟨0x5301, 0x5308, 3, 3, "UPLOAD_DATA", 10, 0, 2, 2, 1, 0, [], none⟩,
  ⟨0x5301, 0x5308, 4, 4, "UPLOAD_END", 0, 1, 3, 2, 1, 0, [], some (0, 1)⟩,
  ⟨0x5301, 0x5308, 5, 5, "UPLOAD_ABORT", 0, 1, 3, 2, 1, 0, [], some (0, 1)⟩,
  ⟨0x5301, 0x5308, 6, 6, "DATASETS", 11, 0, 0, 6, 1, 0, [], none⟩,
  ⟨0x5301, 0x5308, 7, 7, "DATASET_DELETE", 1, 1, 3, 2, 1, 0, [], some (0, 3)⟩,
  ⟨0x5210, 0x5283, 1, 1, "MODEL_STATE", 1, 1, 0, 6, 2, 4, [], none⟩,
  ⟨0x5210, 0x5283, 2, 2, "MODEL_INFO", 11, 0, 0, 6, 2, 4, [], none⟩,
  ⟨0x5210, 0x5283, 3, 3, "PENDING_INFO", 11, 0, 0, 6, 2, 4, [], none⟩,
  ⟨0x5210, 0x5283, 4, 4, "INSTALL", 0, 1, 3, 2, 2, 4, [], some (0, 1)⟩,
  ⟨0x5210, 0x5283, 5, 5, "SWAP", 11, 4, 3, 2, 2, 4, [], none⟩,
  ⟨0x5210, 0x5283, 6, 6, "REMOVE", 1, 1, 3, 2, 2, 4, [], none⟩,
  ⟨0x5210, 0x5283, 7, 7, "WRITE_PROGRESS", 11, 0, 0, 6, 2, 4, [], none⟩,
  ⟨0x5410, 0x548F, 1, 1, "ADAPTER_STATE", 1, 1, 0, 6, 2, 0, [], none⟩,
  ⟨0x5410, 0x548F, 2, 2, "ADAPTER_INFO", 11, 0, 0, 6, 2, 0, [], none⟩,
  ⟨0x5410, 0x548F, 3, 3, "ADAPTER_LOAD", 1, 1, 3, 2, 2, 0, [], some (0, 3)⟩,
  ⟨0x5410, 0x548F, 4, 4, "ADAPTER_UNLOAD", 0, 1, 3, 2, 2, 0, [], some (0, 1)⟩,
  ⟨0x5410, 0x548F, 5, 5, "ADAPTER_DELETE", 0, 1, 3, 2, 2, 0, [], some (0, 1)⟩,
  ⟨0x5501, 0x5508, 1, 1, "TRAIN_CONFIG", 11, 48, 1, 6, 1, 0, [22693028024124413822349192306980759543448439103737433199599863418513768054784], none⟩,
  ⟨0x5501, 0x5508, 2, 2, "TRAIN_START", 1, 1, 3, 2, 1, 0, [], some (0, 1)⟩,
  ⟨0x5501, 0x5508, 3, 3, "TRAIN_STOP", 0, 1, 3, 2, 1, 0, [], some (0, 1)⟩,
  ⟨0x5501, 0x5508, 4, 4, "TRAIN_STATE", 1, 1, 0, 6, 1, 0, [], none⟩,
  ⟨0x5501, 0x5508, 5, 5, "TRAIN_STEP", 4, 8, 0, 6, 1, 0, [], none⟩,
  ⟨0x5501, 0x5508, 6, 6, "TRAIN_LOSS", 7, 4, 0, 6, 1, 0, [], none⟩]
/-- Entries of the dictionary (R367), part 8. -/
def Entry.rows8 : List EntryDesc := [
  ⟨0xAD01, 0xAD08, 1, 1, "INSTALLS", 4, 8, 0, 6, 1, 0, [0], none⟩,
  ⟨0xAD01, 0xAD08, 2, 2, "SWAPS", 4, 8, 0, 6, 1, 0, [0], none⟩,
  ⟨0xAD01, 0xAD08, 3, 3, "SWAP_HOLD_NS", 4, 8, 0, 6, 1, 0, [0], none⟩,
  ⟨0xAD01, 0xAD08, 4, 4, "IMAGE_REFUSALS", 4, 8, 0, 6, 1, 0, [0], none⟩,
  ⟨0xAD01, 0xAD08, 5, 5, "CKPT_WRITTEN", 4, 8, 0, 6, 1, 0, [0], none⟩,
  ⟨0xAD01, 0xAD08, 6, 6, "CKPT_SKIPPED", 4, 8, 0, 6, 1, 0, [0], none⟩,
  ⟨0xAD01, 0xAD08, 7, 7, "TRAIN_STEPS", 4, 8, 0, 6, 1, 0, [0], none⟩,
  ⟨0xAD01, 0xAD08, 8, 8, "TRAIN_STEP_RETRIES", 4, 8, 0, 6, 1, 0, [0], none⟩,
  ⟨0x6001, 0x6001, 1, 1, "CHANNELS_MAX", 2, 2, 0, 8, 0, 0, [1024], none⟩,
  ⟨0x6001, 0x6001, 2, 2, "ASX_VERSION", 2, 2, 0, 8, 0, 0, [1], none⟩,
  ⟨0x6001, 0x6001, 3, 3, "CHANNEL_IDLE", 8, 8, 0, 8, 0, 0, [60000000000], none⟩,
  ⟨0x6101, 0x6108, 3, 3, "TICKET_KEY", 10, 32, 2, 2, 1, 0, [0], none⟩,
  ⟨0x6101, 0x6108, 4, 4, "IDLE_CLOSE", 8, 8, 1, 6, 1, 0, [3600000000000], none⟩,
  ⟨0x6101, 0x6108, 5, 5, "ADMIT_QUEUE", 2, 2, 1, 2, 1, 0, [256], some (1, 4096)⟩,
  ⟨0x6101, 0x6108, 6, 6, "QUEUE_TIMEOUT", 11, 32, 1, 2, 1, 0, [10208471007628153903938131711100465446912010000000], none⟩,
  ⟨0x6101, 0x6108, 7, 7, "IMM_MAX", 1, 1, 1, 2, 1, 0, [8], some (0, 64)⟩,
  ⟨0x6201, 0x6208, 3, 3, "SESSIONS_OPEN", 2, 2, 0, 6, 1, 0, [], none⟩,
  ⟨0x6201, 0x6208, 4, 4, "CHANNELS_OPEN", 2, 2, 0, 6, 1, 0, [], none⟩,
  ⟨0xAE00, 0xAE00, 1, 1, "HANDSHAKES", 4, 8, 0, 2, 0, 0, [0], none⟩,
  ⟨0xAE00, 0xAE00, 2, 2, "HANDSHAKE_FAILS", 4, 8, 0, 2, 0, 0, [0], none⟩,
  ⟨0xAE00, 0xAE00, 3, 3, "HANDSHAKE_BUSY", 4, 8, 0, 2, 0, 0, [0], none⟩,
  ⟨0xAE01, 0xAE08, 1, 1, "REQUESTS", 4, 8, 0, 6, 1, 0, [0], none⟩,
  ⟨0xAE01, 0xAE08, 2, 2, "TOKENS_IN", 4, 8, 0, 6, 1, 0, [0], none⟩,
  ⟨0xAE01, 0xAE08, 3, 3, "TOKENS_OUT", 4, 8, 0, 6, 1, 0, [0], none⟩]
/-- Entries of the dictionary (R367), part 9. -/
def Entry.rows9 : List EntryDesc := [
  ⟨0xAE01, 0xAE08, 4, 4, "DUPLICATES", 4, 8, 0, 6, 1, 0, [0], none⟩,
  ⟨0xAE01, 0xAE08, 5, 5, "OVERLOADED", 4, 8, 0, 6, 1, 0, [0], none⟩,
  ⟨0xAE01, 0xAE08, 6, 6, "QUEUE_TIMEOUTS", 4, 8, 0, 6, 1, 0, [0], none⟩,
  ⟨0xAE01, 0xAE08, 7, 7, "REQ_FAILED", 4, 8, 0, 6, 1, 0, [0], none⟩,
  ⟨0xAE01, 0xAE08, 8, 8, "AUTH_TAG_FAILS", 4, 8, 0, 6, 1, 0, [0], none⟩,
  ⟨0x1001, 0x1001, 1, 1, "IF_REV", 3, 4, 0, 8, 0, 0, [65536], none⟩,
  ⟨0x1001, 0x1001, 2, 2, "FW_VERSION", 11, 0, 0, 8, 0, 0, [], none⟩,
  ⟨0x7000, 0x7000, 1, 1, "LEASE_TIME", 8, 8, 1, 2, 0, 0, [3000000000], some (1000000000, 60000000000)⟩,
  ⟨0x7000, 0x7000, 2, 2, "LEASE_CLAIM", 0, 1, 3, 2, 0, 0, [], some (0, 1)⟩,
  ⟨0x7000, 0x7000, 3, 3, "LEASE_RENEW", 3, 4, 3, 2, 0, 0, [], none⟩,
  ⟨0x7000, 0x7000, 4, 4, "LEASE_RELEASE", 3, 4, 3, 2, 0, 0, [], none⟩,
  ⟨0x7000, 0x7000, 5, 5, "EPOCH", 3, 4, 0, 8, 0, 0, [], none⟩,
  ⟨0x7000, 0x7000, 6, 6, "LEASE_STATE", 1, 1, 0, 8, 0, 0, [], none⟩,
  ⟨0x7000, 0x7000, 7, 7, "LEASE_REMAINING", 8, 8, 0, 2, 0, 0, [], none⟩,
  ⟨0x7000, 0x7000, 8, 8, "LEASE_GRACE", 8, 8, 0, 8, 0, 0, [1000000000], none⟩,
  ⟨0x7011, 0x7018, 1, 1, "UNATTENDED_POLICY", 1, 1, 1, 2, 1, 0, [0], some (0, 2)⟩,
  ⟨0x7021, 0x7028, 1, 1, "CLASS_WEIGHTS", 11, 4, 1, 2, 1, 0, [66312], none⟩,
  ⟨0x7400, 0x7400, 1, 8, "CC_STATE", 1, 1, 0, 8, 0, 0, [], none⟩,
  ⟨0x7401, 0x7401, 1, 1, "CC_RESTART", 1, 1, 3, 1, 0, 0, [], some (0, 7)⟩,
  ⟨0x7402, 0x7402, 1, 1, "FW_BEGIN", 11, 8, 3, 1, 0, 0, [], none⟩,
  ⟨0x7402, 0x7402, 2, 2, "FW_DATA", 10, 0, 2, 1, 0, 0, [], none⟩,
  ⟨0x7402, 0x7402, 3, 3, "FW_END", 0, 1, 3, 1, 0, 0, [], some (0, 1)⟩,
  ⟨0x7402, 0x7402, 4, 4, "FW_ACTIVATE", 1, 1, 3, 1, 0, 0, [], some (0, 1)⟩,
  ⟨0x7402, 0x7402, 5, 5, "FW_COMMIT", 0, 1, 3, 1, 0, 0, [], some (0, 1)⟩]
/-- Entries of the dictionary (R367), part 10. -/
def Entry.rows10 : List EntryDesc := [
  ⟨0x7402, 0x7402, 6, 6, "FW_REVERT", 0, 1, 3, 1, 0, 0, [], some (0, 1)⟩,
  ⟨0x7402, 0x7402, 7, 7, "FW_STATE", 1, 1, 0, 8, 0, 0, [], none⟩,
  ⟨0xAF00, 0xAF00, 1, 8, "CC_RESTARTS", 4, 8, 0, 2, 0, 0, [0], none⟩,
  ⟨0xAF01, 0xAF01, 1, 1, "LEASE_EXPIRIES", 4, 8, 0, 2, 0, 0, [0], none⟩,
  ⟨0xAF01, 0xAF01, 2, 2, "UNATTENDED_ENTRIES", 4, 8, 0, 2, 0, 0, [0], none⟩,
  ⟨0xAF01, 0xAF01, 3, 3, "STALE_EPOCH_WRITES", 4, 8, 0, 2, 0, 0, [0], none⟩,
  ⟨0xAF01, 0xAF01, 4, 4, "FW_ROLLBACKS", 4, 8, 0, 3, 0, 0, [0], none⟩,
  ⟨0xAF01, 0xAF01, 5, 5, "PORT_RX_DROPS", 4, 8, 0, 2, 0, 0, [0], none⟩,
  ⟨0xAF01, 0xAF01, 6, 6, "EVENTS_LOST", 4, 8, 0, 2, 0, 0, [0], none⟩,
  ⟨0xAF11, 0xAF18, 1, 1, "IMM_START_MAX_NS", 4, 8, 0, 6, 1, 0, [0], none⟩,
  ⟨0xAF11, 0xAF18, 2, 2, "IMM_STARTS", 4, 8, 0, 6, 1, 0, [0], none⟩,
  ⟨0x3000, 0x3000, 1, 1, "PORT_NUMBERS", 11, 8, 1, 1, 0, 0, [13965031104714621386], none⟩,
  ⟨0x3000, 0x3000, 2, 2, "IP_MTU", 2, 2, 0, 8, 0, 0, [1468], none⟩,
  ⟨0x3000, 0x3000, 3, 3, "TCP_USER_TIMEOUT", 8, 8, 1, 1, 0, 0, [10000000000], some (1000000000, 120000000000)⟩,
  ⟨0x3000, 0x3000, 4, 4, "GPTP_DOMAIN", 1, 1, 1, 1, 0, 0, [0], some (0, 127)⟩,
  ⟨0x3000, 0x3000, 5, 5, "CLASS_PCP", 11, 6, 1, 1, 0, 0, [1121003373574], none⟩,
  ⟨0x3100, 0x3101, 1, 1, "PORT_ENABLE", 0, 1, 1, 1, 0, 0, [1], some (0, 1)⟩,
  ⟨0x3100, 0x3101, 2, 2, "MEDIA", 1, 1, 1, 1, 0, 0, [0], some (0, 1)⟩,
  ⟨0x3100, 0x3101, 3, 3, "SPEEDS", 1, 1, 1, 1, 0, 0, [15], none⟩,
  ⟨0x3100, 0x3101, 4, 4, "ROLE", 1, 1, 1, 1, 0, 0, [0], some (0, 2)⟩,
  ⟨0x3100, 0x3101, 5, 5, "LINK_STATUS", 11, 0, 0, 8, 0, 0, [], none⟩,
  ⟨0x3100, 0x3101, 6, 6, "PVID", 2, 2, 1, 1, 0, 0, [1], some (1, 4094)⟩,
  ⟨0x3100, 0x3101, 7, 7, "VLANS", 10, 32, 1, 1, 0, 0, [0], none⟩,
  ⟨0x3100, 0x3101, 8, 8, "EXPRESS_PCP", 1, 1, 1, 1, 0, 0, [192], none⟩]
/-- Entries of the dictionary (R367), part 11. -/
def Entry.rows11 : List EntryDesc := [
  ⟨0x3100, 0x3101, 9, 9, "PREEMPT", 0, 1, 1, 1, 0, 0, [1], some (0, 1)⟩,
  ⟨0x3100, 0x3101, 10, 10, "GCL", 11, 0, 1, 1, 0, 0, [6277101735386680763835789423207666416102355444464034512896], none⟩,
  ⟨0x3100, 0x3101, 11, 11, "MACSEC_MODE", 1, 1, 1, 1, 0, 0, [2], some (0, 2)⟩,
  ⟨0x3100, 0x3101, 12, 12, "MACSEC_REQUIRED", 0, 1, 1, 1, 0, 0, [1], some (0, 1)⟩,
  ⟨0x3100, 0x3101, 13, 13, "MKA_CAK", 10, 32, 2, 1, 0, 0, [0], none⟩,
  ⟨0x3100, 0x3101, 14, 14, "MKA_CKN", 10, 16, 2, 1, 0, 0, [0], none⟩,
  ⟨0x3100, 0x3101, 15, 15, "REPLAY_WINDOW", 3, 4, 1, 1, 0, 0, [64], some (0, 1024)⟩,
  ⟨0x3100, 0x3101, 16, 16, "IPV4", 11, 12, 1, 1, 0, 0, [0], none⟩,
  ⟨0x3100, 0x3101, 17, 17, "IPV6", 11, 40, 1, 1, 0, 0, [0], none⟩,
  ⟨0x3100, 0x3101, 18, 18, "SERVICES", 1, 1, 1, 1, 0, 0, [7], none⟩,
  ⟨0x3100, 0x3101, 19, 19, "TC10_ENABLE", 0, 1, 1, 1, 0, 0, [1], some (0, 1)⟩,
  ⟨0x3100, 0x3101, 20, 20, "TS_OFFSET", 5, 4, 1, 1, 0, 0, [0], none⟩,
  ⟨0x3100, 0x3101, 21, 21, "CABLE_TEST", 0, 1, 3, 1, 0, 0, [], some (0, 1)⟩,
  ⟨0x3100, 0x3101, 22, 22, "CABLE_RESULT", 11, 0, 0, 1, 0, 0, [], none⟩,
  ⟨0x3100, 0x3100, 23, 23, "MAC_ADDRESS", 10, 6, 0, 8, 0, 0, [], none⟩,
  ⟨0x3101, 0x3101, 23, 23, "MAC_ADDRESS", 10, 6, 0, 8, 0, 0, [], none⟩,
  ⟨0x3120, 0x3120, 23, 23, "MAC_ADDRESS", 10, 6, 0, 8, 0, 0, [], none⟩,
  ⟨0x3120, 0x3120, 1, 1, "MP_ENABLE", 0, 1, 1, 1, 0, 0, [1], some (0, 1)⟩,
  ⟨0x3120, 0x3120, 2, 2, "MP_PLCA_NODE", 1, 1, 1, 1, 0, 0, [255], none⟩,
  ⟨0x3120, 0x3120, 3, 3, "MP_PLCA_COUNT", 1, 1, 1, 1, 0, 0, [8], some (2, 255)⟩,
  ⟨0x3120, 0x3120, 4, 4, "MP_IPV4", 11, 12, 1, 1, 0, 0, [0], none⟩,
  ⟨0x3120, 0x3120, 5, 5, "MP_IPV6", 11, 40, 1, 1, 0, 0, [0], none⟩,
  ⟨0xA001, 0xA001, 1, 3, "RX_FRAMES", 4, 8, 0, 3, 0, 0, [0], none⟩,
  ⟨0xA002, 0xA002, 1, 3, "TX_FRAMES", 4, 8, 0, 3, 0, 0, [0], none⟩]
/-- Entries of the dictionary (R367), part 12. -/
def Entry.rows12 : List EntryDesc := [
  ⟨0xA003, 0xA003, 1, 3, "RX_ERRORS", 4, 8, 0, 3, 0, 0, [0], none⟩,
  ⟨0xA004, 0xA004, 1, 2, "MACSEC_DROPS", 4, 8, 0, 3, 0, 0, [0], none⟩,
  ⟨0xA005, 0xA005, 1, 3, "TX_DROPS", 4, 8, 0, 3, 0, 0, [0], none⟩,
  ⟨0xA006, 0xA006, 1, 3, "LINK_DOWNS", 4, 8, 0, 3, 0, 0, [0], none⟩,
  ⟨0xA007, 0xA007, 1, 2, "PREEMPTED", 4, 8, 0, 3, 0, 0, [0], none⟩,
  ⟨0xA008, 0xA008, 1, 3, "IP_DROPS", 4, 8, 0, 3, 0, 0, [0], none⟩,
  ⟨0x1000, 0x1000, 2, 2, "BDP_VERSION", 2, 2, 0, 8, 0, 0, [1], none⟩,
  ⟨0x1000, 0x1000, 3, 3, "CONN_PRINCIPAL", 1, 1, 0, 8, 0, 0, [], none⟩,
  ⟨0x2000, 0x2000, 1, 1, "PROFILE_ACTIVE", 1, 1, 0, 8, 0, 0, [], none⟩,
  ⟨0x2000, 0x2000, 2, 2, "PROFILE_PINS", 1, 1, 0, 8, 0, 0, [], none⟩,
  ⟨0x2000, 0x2000, 3, 3, "PROFILE_SOURCE", 1, 1, 1, 1, 0, 0, [0], some (0, 1)⟩,
  ⟨0x2000, 0x2000, 4, 4, "PROFILE_BOOT", 1, 1, 1, 1, 0, 0, [0], some (0, 3)⟩,
  ⟨0x2000, 0x2000, 5, 5, "PROFILE_SELECT", 1, 1, 3, 3, 0, 0, [], some (0, 3)⟩,
  ⟨0x2000, 0x2000, 6, 6, "FACTORY_RESET", 0, 1, 3, 1, 0, 0, [], some (0, 1)⟩,
  ⟨0x2001, 0x2001, 1, 1, "ENVELOPE_MW", 3, 4, 1, 1, 0, 0, [110000, 65000, 30000, 15000], some (10000, 110000)⟩,
  ⟨0x2001, 0x2001, 2, 2, "VCORE_CEIL_MV", 2, 2, 1, 1, 0, 0, [850, 780, 680, 620], some (600, 850)⟩,
  ⟨0xA010, 0xA010, 1, 1, "BDP_CONNECTIONS", 4, 8, 0, 3, 0, 0, [0], none⟩,
  ⟨0xA010, 0xA010, 2, 2, "BDP_AUTH_FAILS", 4, 8, 0, 3, 0, 0, [0], none⟩,
  ⟨0xA010, 0xA010, 3, 3, "BDP_BUSY", 4, 8, 0, 3, 0, 0, [0], none⟩,
  ⟨0xA010, 0xA010, 4, 4, "BDP_TXNS", 4, 8, 0, 3, 0, 0, [0], none⟩,
  ⟨0xA010, 0xA010, 5, 5, "BDP_REFUSED", 4, 8, 0, 3, 0, 0, [0], none⟩,
  ⟨0x4000, 0x4000, 1, 1, "DEVICE_ID", 10, 32, 0, 8, 0, 0, [], none⟩,
  ⟨0x4000, 0x4000, 2, 2, "IDENTITY_PUB", 10, 1793, 0, 8, 0, 0, [], none⟩,
  ⟨0x4000, 0x4000, 3, 3, "IDENTITY_CERT", 10, 0, 0, 8, 0, 0, [], none⟩]
/-- Entries of the dictionary (R367), part 13. -/
def Entry.rows13 : List EntryDesc := [
  ⟨0x4000, 0x4000, 4, 4, "SEC_COUNTER", 1, 1, 0, 8, 0, 0, [], none⟩,
  ⟨0x4000, 0x4000, 5, 5, "REPORT_COUNTER", 4, 8, 0, 8, 0, 0, [], none⟩,
  ⟨0x4001, 0x4001, 1, 4, "MGMT_KEY", 10, 1793, 1, 1, 0, 0, [0], none⟩,
  ⟨0x4002, 0x4002, 1, 4, "DRV_KEY", 10, 1793, 1, 1, 0, 0, [0], none⟩,
  ⟨0x4101, 0x4108, 1, 4, "TEN_KEY", 10, 1793, 1, 2, 1, 0, [0], none⟩,
  ⟨0x4201, 0x4208, 1, 1, "TENANT_STATE", 1, 1, 0, 8, 1, 0, [], none⟩,
  ⟨0x4201, 0x4208, 2, 2, "TENANT_FORM", 0, 1, 3, 2, 1, 0, [], some (0, 1)⟩,
  ⟨0x4201, 0x4208, 3, 3, "TENANT_ACTIVATE", 0, 1, 3, 2, 1, 0, [], some (0, 1)⟩,
  ⟨0x4201, 0x4208, 4, 4, "TENANT_REMOVE", 10, 32, 3, 3, 1, 0, [], none⟩,
  ⟨0x4201, 0x4208, 5, 5, "RELEASE_RECEIPT", 10, 1536, 0, 3, 1, 0, [], none⟩,
  ⟨0x4201, 0x4208, 6, 6, "TENANT_DIGEST", 10, 32, 0, 6, 1, 0, [], none⟩,
  ⟨0x4300, 0x4300, 1, 8, "ENVELOPE", 11, 20, 1, 1, 0, 0, [0], none⟩,
  ⟨0x4400, 0x4400, 1, 1, "DEBUG_STATE", 1, 1, 0, 8, 0, 0, [], none⟩,
  ⟨0x4400, 0x4400, 2, 2, "DEBUG_CHALLENGE", 10, 32, 0, 1, 0, 0, [], none⟩,
  ⟨0x4400, 0x4400, 3, 3, "DEBUG_UNLOCK", 10, 1280, 3, 1, 0, 0, [], none⟩,
  ⟨0xA020, 0xA020, 1, 1, "REMOVALS", 4, 8, 0, 3, 0, 0, [0], none⟩,
  ⟨0xA020, 0xA020, 2, 2, "REPORTS_SIGNED", 4, 8, 0, 3, 0, 0, [0], none⟩,
  ⟨0xA020, 0xA020, 3, 3, "DEBUG_UNLOCKS", 4, 8, 0, 1, 0, 0, [0], none⟩,
  ⟨0xA020, 0xA020, 4, 4, "BOOT_FALLBACKS", 4, 8, 0, 3, 0, 0, [0], none⟩,
  ⟨0x2002, 0x2002, 1, 1, "BUDGETS", 11, 16, 1, 1, 0, 0, [792281625364004304897263534125000, 554597137765871059861143289880000, 396140812663555408353447378953000, 316912650112397582603894390787000], none⟩,
  ⟨0x2002, 0x2002, 2, 2, "DIGITAL_BUDGET", 3, 4, 0, 8, 0, 0, [], none⟩,
  ⟨0x2002, 0x2002, 3, 3, "WRITE_SLOTS", 2, 2, 0, 2, 0, 0, [], none⟩,
  ⟨0x2003, 0x2003, 1, 1, "POWER_STATE", 1, 1, 0, 8, 0, 0, [], none⟩,
  ⟨0x2003, 0x2003, 2, 2, "POWER_REQUEST", 1, 1, 3, 3, 0, 0, [], some (0, 3)⟩]
/-- Entries of the dictionary (R367), part 14. -/
def Entry.rows14 : List EntryDesc := [
  ⟨0x2003, 0x2003, 3, 3, "WAKE_SOURCE", 1, 1, 0, 8, 0, 0, [], none⟩,
  ⟨0x2003, 0x2003, 4, 4, "LAST_REFUSAL", 11, 0, 0, 2, 0, 0, [], none⟩,
  ⟨0x2003, 0x2003, 5, 5, "LAST_OFF_CAUSE", 1, 1, 0, 8, 0, 0, [], none⟩,
  ⟨0x2004, 0x2004, 1, 1, "IDLE_ENTRY", 8, 8, 1, 3, 0, 0, [20000], some (5000, 10000000)⟩,
  ⟨0x2004, 0x2004, 2, 2, "SLEEP_AFTER", 8, 8, 1, 3, 0, 0, [0, 0, 300000000000, 60000000000], none⟩,
  ⟨0x2004, 0x2004, 3, 3, "DEEP_AFTER", 8, 8, 1, 3, 0, 0, [0, 0, 3600000000000, 600000000000], none⟩,
  ⟨0x2004, 0x2004, 4, 4, "AUTO_ATTENDED", 0, 1, 1, 3, 0, 0, [0, 0, 1, 1], some (0, 1)⟩,
  ⟨0x2005, 0x2005, 1, 1, "TJ_NOW", 5, 4, 0, 8, 0, 0, [], none⟩,
  ⟨0x2005, 0x2005, 2, 2, "TJ_PEAK", 5, 4, 0, 2, 0, 0, [], none⟩,
  ⟨0x2005, 0x2005, 3, 3, "THERMAL_STATE", 1, 1, 0, 8, 0, 0, [], none⟩,
  ⟨0x2005, 0x2005, 4, 4, "THERM_LIMITS", 11, 0, 0, 8, 0, 0, [10695801941731528584814573650035000], none⟩,
  ⟨0x2005, 0x2005, 5, 5, "VCORE_NOW", 2, 2, 0, 8, 0, 0, [], none⟩,
  ⟨0x2005, 0x2005, 6, 6, "HS_RATE", 3, 4, 0, 8, 0, 0, [], none⟩,
  ⟨0x2005, 0x2005, 7, 7, "POWER_NOW", 11, 0, 0, 2, 0, 0, [], none⟩,
  ⟨0x2010, 0x2010, 1, 8, "TENANT_SLEEP_POLICY", 1, 1, 1, 3, 0, 0, [0], some (0, 2)⟩,
  ⟨0xA030, 0xA030, 1, 8, "POWER_REFUSALS", 4, 8, 0, 3, 0, 0, [0], none⟩,
  ⟨0xA031, 0xA031, 1, 8, "POWER_ABORTS", 4, 8, 0, 3, 0, 0, [0], none⟩,
  ⟨0xA032, 0xA032, 1, 4, "STATE_ENTRIES", 4, 8, 0, 3, 0, 0, [0], none⟩,
  ⟨0xA033, 0xA033, 1, 1, "THROTTLE_NS", 4, 8, 0, 3, 0, 0, [0], none⟩,
  ⟨0xA033, 0xA033, 2, 2, "TRIPS", 4, 8, 0, 3, 0, 0, [0], none⟩,
  ⟨0xA033, 0xA033, 3, 3, "SHUTDOWNS", 4, 8, 0, 3, 0, 0, [0], none⟩,
  ⟨0xA033, 0xA033, 4, 4, "ENVELOPE_OVER_NS", 4, 8, 0, 3, 0, 0, [0], none⟩,
  ⟨0xB000, 0xB000, 1, 1, "FAULT_N_MASK", 1, 1, 1, 1, 0, 0, [96], none⟩,
  ⟨0xB000, 0xB000, 2, 2, "FAULT_ACK", 3, 4, 3, 3, 0, 0, [], none⟩]
/-- Entries of the dictionary (R367), part 15. -/
def Entry.rows15 : List EntryDesc := [
  ⟨0xB000, 0xB000, 3, 3, "FAULT_PENDING", 3, 4, 0, 8, 0, 0, [], none⟩,
  ⟨0xB000, 0xB000, 4, 4, "EVENT_SUBSCRIBE", 1, 1, 3, 7, 0, 0, [], none⟩,
  ⟨0xB000, 0xB000, 5, 5, "EVENT_SEQ", 3, 4, 0, 3, 0, 0, [], none⟩,
  ⟨0xB000, 0xB000, 6, 6, "EVENT_RECENT", 10, 8192, 0, 7, 0, 0, [], none⟩,
  ⟨0xB000, 0xB000, 7, 7, "FATAL_LOG", 10, 2048, 0, 3, 0, 0, [], none⟩,
  ⟨0xB101, 0xB108, 1, 1, "MIRROR_CONSENT", 0, 1, 1, 4, 1, 0, [0], some (0, 1)⟩,
  ⟨0xB101, 0xB108, 2, 2, "MIRROR_KEY", 10, 32, 2, 4, 1, 0, [0], none⟩,
  ⟨0xB101, 0xB108, 3, 3, "MIRROR_STATE", 1, 1, 0, 6, 1, 0, [], none⟩,
  ⟨0xB101, 0xB108, 4, 4, "MIRROR_FLUSH", 0, 1, 3, 6, 1, 0, [], some (0, 1)⟩,
  ⟨0xB101, 0xB108, 5, 5, "MIRROR_FILES", 11, 0, 0, 6, 1, 0, [], none⟩,
  ⟨0xB101, 0xB108, 6, 6, "REPLAY_START", 11, 16, 3, 2, 1, 0, [], none⟩,
  ⟨0xB101, 0xB108, 7, 7, "REPLAY_STOP", 0, 1, 3, 2, 1, 0, [], some (0, 1)⟩,
  ⟨0xB101, 0xB108, 8, 8, "REPLAY_RESULT", 11, 0, 0, 6, 1, 0, [], none⟩,
  ⟨0xA0F0, 0xA0F0, 1, 1, "SAT_COUNT", 3, 4, 0, 3, 0, 0, [0], none⟩,
  ⟨0xA0F0, 0xA0F0, 2, 2, "SAT_LIST", 11, 0, 0, 3, 0, 0, [], none⟩,
  ⟨0xA0F0, 0xA0F0, 3, 3, "COUNTERS_CLEAR", 1, 1, 3, 3, 0, 0, [], some (0, 8)⟩,
  ⟨0xA0F1, 0xA0F1, 1, 1, "ENERGY_UJ", 4, 8, 0, 3, 0, 0, [0], none⟩,
  ⟨0xA0F2, 0xA0F2, 1, 7, "EVENTS_BY_CLASS", 4, 8, 0, 3, 0, 0, [0], none⟩,
  ⟨0xA0F3, 0xA0F3, 1, 1, "FATAL_RESETS", 4, 8, 0, 3, 0, 0, [0], none⟩,
  ⟨0xA111, 0xA118, 1, 1, "MIRROR_RECORDS", 4, 8, 0, 6, 1, 0, [0], none⟩,
  ⟨0xA111, 0xA118, 2, 2, "MIRROR_BYTES", 4, 8, 0, 6, 1, 0, [0], none⟩,
  ⟨0xA111, 0xA118, 3, 3, "MIRROR_LOST", 4, 8, 0, 6, 1, 0, [0], none⟩,
  ⟨0xA111, 0xA118, 4, 4, "REPLAYS", 4, 8, 0, 6, 1, 0, [0], none⟩,
  ⟨0xA111, 0xA118, 5, 5, "REPLAY_DIVERGED", 4, 8, 0, 6, 1, 0, [0], none⟩]
/-- Entries of the dictionary (R367), part 16. -/
def Entry.rows16 : List EntryDesc := [
  ⟨0x1002, 0x1002, 1, 1, "RESET_CAUSE", 1, 1, 0, 8, 0, 0, [], none⟩,
  ⟨0x1002, 0x1002, 2, 2, "STRAPS", 1, 1, 0, 8, 0, 0, [], none⟩,
  ⟨0x1002, 0x1002, 3, 3, "STARTUP_TIME", 8, 8, 0, 8, 0, 0, [], none⟩,
  ⟨0xC000, 0xC000, 1, 1, "CAL_TIME", 8, 8, 0, 8, 0, 0, [], none⟩,
  ⟨0xC000, 0xC000, 2, 2, "MONO_TIME", 8, 8, 0, 8, 0, 0, [], none⟩,
  ⟨0xC000, 0xC000, 3, 3, "TIME_FLAGS", 1, 1, 0, 8, 0, 0, [], none⟩,
  ⟨0xC000, 0xC000, 4, 4, "TIME_SOURCE", 1, 1, 0, 8, 0, 0, [], none⟩,
  ⟨0xC000, 0xC000, 5, 5, "GPTP_OFFSET", 6, 8, 0, 2, 0, 0, [], none⟩,
  ⟨0xC001, 0xC001, 1, 1, "CAL_SET", 8, 8, 3, 3, 0, 0, [], none⟩,
  ⟨0xC001, 0xC001, 2, 2, "UTC_OFFSET", 5, 4, 1, 3, 0, 0, [37], none⟩,
  ⟨0xC001, 0xC001, 3, 3, "CAL_ALARM", 8, 8, 1, 3, 0, 0, [0], none⟩,
  ⟨0xC001, 0xC001, 4, 4, "GPIO_PPS", 0, 1, 1, 1, 0, 0, [0], some (0, 1)⟩,
  ⟨0xA040, 0xA040, 1, 1, "TIME_STEPS", 4, 8, 0, 3, 0, 0, [0], none⟩]
/-- Every entry of the dictionary. -/
def Entry.rows : List EntryDesc :=
  Entry.rows0 ++ Entry.rows1 ++ Entry.rows2 ++ Entry.rows3 ++ Entry.rows4 ++ Entry.rows5 ++ Entry.rows6 ++ Entry.rows7 ++ Entry.rows8 ++ Entry.rows9 ++ Entry.rows10 ++ Entry.rows11 ++ Entry.rows12 ++ Entry.rows13 ++ Entry.rows14 ++ Entry.rows15 ++ Entry.rows16

/-- The code of an entry: index * 256 + subindex. -/
def entryCode (index sub : Nat) : Nat := index * 256 + sub

/-- Whether a row describes the entry of a code. -/
def EntryDesc.has (e : EntryDesc) (code : Nat) : Bool :=
  let i := code / 256
  let b := code % 256
  decide (e.lo ≤ i) && decide (i ≤ e.hi) && decide (e.slo ≤ b) && decide (b ≤ e.shi) &&
    (e.low == 0 || decide (i % 16 < e.low)) && (e.ten != 2 || (decide (1 ≤ i / 16 % 16) && decide (i / 16 % 16 ≤ 8)))

/-- The row of an entry; none where the index and subindex name no entry (R352). -/
def Entry.find (code : Nat) : Option EntryDesc := Entry.rows.find? (·.has code)

/-- The tenant number that an entry belongs to; 0 for a device entry. -/
def EntryDesc.tenant (e : EntryDesc) (code : Nat) : Nat :=
  match e.ten with
  | 1 => code / 256 % 16
  | 2 => code / 256 / 16 % 16
  | 3 => code % 256
  | _ => 0

/-- Delivered default of an entry in a profile (R361). -/
def EntryDesc.default (e : EntryDesc) (profile : Nat) : Nat :=
  match e.dflt with
  | [] => 0
  | [v] => v
  | vs => vs.getD profile 0

/-- Whether an entry is profile-scoped (R359): RW in 0x2001..0x2FFF, and SR_IDLE. -/
def EntryDesc.profileScoped (e : EntryDesc) : Bool :=
  e.acc == 1 && (decide (0x2001 ≤ e.lo) && decide (e.lo ≤ 0x2FFF) || (e.lo == 0x8201 && e.slo == 1))

/-- Whether an entry is connection-scoped (R359): STRATUM_SELECT. -/
def EntryDesc.connScoped (e : EntryDesc) : Bool := e.lo == 0x9004 && e.slo == 1

/-- Whether an entry takes data that no value keeps: the pieces of an upload. -/
def EntryDesc.streamed (e : EntryDesc) : Bool := e.acc == 2 && e.len == 0

/-- Whether an entry is a stored entry (R359). -/
def EntryDesc.storedScoped (e : EntryDesc) : Bool := (e.acc == 1 || e.acc == 2) && !e.profileScoped && !e.connScoped && !e.streamed

/-- The delivered default of the entry of a code, in PF0. -/
def defaultOf (code : Nat) : Nat := match Entry.find code with | some e => e.default 0 | none => 0

end Sys2Proof.Machine
end

