-- ==== Sys2Proof/Machine/Ops.lean ====
section
/-! DEFINITION. The shared operations of the block: time, free values, settings, counters, events, Mirror capture, memory, output to connections, and the wait for a restarting control core. -/

namespace Sys2Proof.Machine

/-- The outcome of a command. -/
abbrev Res := Host.Outcome State Fault Refusal

/-- Monotonic time, ns (R450). -/
def State.now (s : State) : Nat := s.clk.mono

/-- A free value's number is used up (log entry 2). -/
def State.drawn (s : State) : State := { s with trust := { s.trust with fresh := s.trust.fresh + 1 } }

/-! ### Settings (R359) -/

/-- The stored value of entry `code`, whose delivered default is `d`. -/
def State.sv (s : State) (index sub d : Nat) : Nat := mget d s.dict.stored (entryCode index sub)

/-- The present value of profile-scoped entry `code`, whose PF0 default is `d`. -/
def State.pv (s : State) (index sub d : Nat) : Nat := mget d s.dict.present (entryCode index sub)

/-- The stored value of an entry, with its delivered default. -/
def State.setting (s : State) (index sub : Nat) : Nat := s.sv index sub (defaultOf (entryCode index sub))

/-- Index of the entries of a port: 2 is MP (R341). -/
def portIndex (p : Nat) : Nat := if p = 2 then 0x3120 else 0x3100 + p

/-- The value of an entry of a port that is in effect since the port was last enabled (R322, R341). -/
def State.eff (s : State) (p sub : Nat) : Nat := mget (defaultOf (entryCode (portIndex p) sub)) (s.port p).eff sub

/-- CLUSTERS of a tenant (R202). -/
def State.clustersOf (s : State) (t : Nat) : Nat := s.sv (0x8100 + t) 1 0
/-- VAULT_DIES of a tenant (R202). -/
def State.diesOf (s : State) (t : Nat) : Nat := s.sv (0x8100 + t) 2 0

/-- Whether a tenant owns what its entries name: it is neither FREE nor, for a removal that has ended, gone (R371, R372). -/
def State.formed (s : State) (t : Nat) : Bool := decide (s.tenState t ≠ .free)

/-- Whether tenant `t` owns cluster `c` (R369). -/
def State.ownsCluster (s : State) (t c : Nat) : Bool := s.formed t && nbit (s.clustersOf t) c

/-- Whether tenant `t` owns die `d` (R369). -/
def State.ownsDie (s : State) (t d : Nat) : Bool := s.formed t && nbit (s.diesOf t) d

/-- The tenant that owns cluster `c`, 0 for none. -/
def State.clusterOwner (s : State) (c : Nat) : Nat := ((List.range 9).find? fun t => decide (1 ≤ t) && s.ownsCluster t c).getD 0

/-- The tenant that owns die `d`, 0 for none. -/
def State.dieOwner (s : State) (d : Nat) : Nat := ((List.range 9).find? fun t => decide (1 ≤ t) && s.ownsDie t d).getD 0

/-- The die of a stratum address: bits 17:13 are stack and die (R93). -/
def dieOf (stratum : Nat) : Nat := stratum / 2 ^ 13 % 32
/-- The bank of a stratum address within its die: bits 12:8 (R93). -/
def bankOf (stratum : Nat) : Nat := stratum / 2 ^ 8 % 32
/-- The array of a stratum address: its bits 17:3 (R93). -/
def arrayOf (stratum : Nat) : Nat := stratum / 8

/-! ### Counters (R420, R421) -/

/-- The greatest value of a counter. -/
def counterMax : Nat := 2 ^ 64 - 1

/-- Counter `code` raised by `n`; it holds its maximum, and one that reaches it enters SAT_LIST once. -/
def Faults.bump (f : Faults) (code n : Nat) : Faults :=
  let old := mget 0 f.counters code
  let new := min (old + n) counterMax
  let f := { f with counters := mset 0 f.counters code new }
  if new = counterMax ∧ old ≠ counterMax then
    { f with satCount := f.satCount + 1, satList := if f.satList.length < 64 then f.satList ++ [code] else f.satList }
  else f

/-- Whether raising counter `code` by `n` takes it to its maximum. -/
def Faults.saturates (f : Faults) (code n : Nat) : Bool :=
  let old := mget 0 f.counters code
  decide (counterMax ≤ old + n) && decide (old ≠ counterMax)

/-- The value of a counter. -/
def State.counter (s : State) (index sub : Nat) : Nat := mget 0 s.faults.counters (entryCode index sub)

/-! ### Events (R413..R418, R458) -/

/-- FAULT_N_MASK, whose bit 6 reads 1 (R417). -/
def State.faultMask (s : State) : Nat := let v := s.sv 0xB000 1 0x60; if nbit v 6 then v else v + 64

/-- FAULT_PENDING (R417). -/
def State.faultPending (s : State) : Nat := s.faults.unacked.length

/-- Whether the FAULT_N pin is driven low (R417, R439, R388). -/
def State.faultLow (s : State) : Bool := s.pins.faultN || decide (0 < s.faultPending)

/-- Whether the power state lets control core `k` work: every core in RUN, IDLE and during an entry or the return from IDLE; CC5 alone in SLEEP (R394, R401). -/
def State.corePowered (s : State) (k : Nat) : Bool :=
  match s.power.state with
  | .run | .idle | .entering => true
  | .returning => decide (s.power.returnFrom = .idle) || k == 5
  | .sleep => k == 5
  | _ => false

/-- Whether control core `k` runs (R305). -/
def State.coreUp (s : State) (k : Nat) : Bool := decide ((s.core k).state = .running) && s.corePowered k

/-- Whether the counts that a power-state entry stops run: those of the lease, of queues and of idle channels and sessions (R403). -/
def State.countsRun (s : State) : Bool := decide (s.power.state = .run) || decide (s.power.state = .idle) || (decide (s.power.state = .returning) && decide (s.power.returnFrom = .idle))

/-- Whether the device is out of OFF and past service ready (R394, R444). -/
def State.powered (s : State) : Bool := decide (s.power.state ≠ .off) && decide (s.power.state ≠ .held)

/-- The SEQ of an event is used up; an event of a masked class counts in FAULT_PENDING (R414, R417). -/
def Faults.takeSeq (f : Faults) (mask cls : Nat) : Faults :=
  { f with nextSeq := (f.nextSeq + 1) % 2 ^ 32, unacked := if nbit mask cls then f.unacked ++ [f.nextSeq] else f.unacked }

/-- The SEQ mark moves 65,536 further when the SEQ assigned last comes within 4,096 of it (R458). -/
def Faults.moveMark (f : Faults) : Faults :=
  if (f.seqMark + 2 ^ 32 + 1 - f.nextSeq) % 2 ^ 32 ≤ 4096 then { f with seqMark := (f.seqMark + 65536) % 2 ^ 32 } else f

/-- A record enters the hardware queue of 4,096; one that finds it full is dropped and counted in EVENTS_LOST (R305, R416). -/
def Faults.enqueue (f : Faults) (e : Event) : Faults :=
  if f.queue.length < 4096 then { f with queue := f.queue ++ [e] } else f.bump (entryCode 0xAF01 6) 1

/-- A device-fatal record enters the fatal log of 64, the oldest making room, and the self-reset is due (R418). -/
def Faults.logFatal (f : Faults) (e : Event) : Faults :=
  if e.cls = 6 then { f with fatalLog := (f.fatalLog ++ [e]).drop (f.fatalLog.length - 63), fatalDue := true } else f

/-- An event is raised in the hardware (R414, R416, R417, R418, R458). -/
def Faults.push (f : Faults) (mask mono flags : Nat) (k : EvKind) (tenant kind locus detail : Nat) : Faults :=
  let e : Event := { code := k.code, cls := k.cls, flags := flags, seq := f.nextSeq, mono := mono, tenant := tenant, kind := kind, locus := locus, detail := detail }
  ((((f.takeSeq mask k.cls).moveMark).enqueue e).bump (entryCode 0xA0F2 (k.cls + 1)) 1).logFatal e

/-- Counter `code` raised by `n`, with COUNTER_SAT once when it reaches its maximum. -/
def Faults.count (f : Faults) (mask mono flags code n : Nat) : Faults :=
  let g := f.bump code n
  if f.saturates code n then
    let h := g.push mask mono flags Ev.counterSat 0 Locus.entry code code
    -- the class counter of COUNTER_SAT itself may saturate
    if g.saturates (entryCode 0xA0F2 2) 1 then h.push mask mono flags Ev.counterSat 0 Locus.entry (entryCode 0xA0F2 2) (entryCode 0xA0F2 2) else h
  else g

/-- FLAGS of an event raised now (R414). -/
def State.evFlags (s : State) : Nat := if s.clk.timeUnknown then 1 else 0

/-- Counter of entry `index.sub` raised by `n` (R420, R421). -/
def State.count (s : State) (index sub n : Nat) : State :=
  { s with faults := s.faults.count s.faultMask s.now s.evFlags (entryCode index sub) n }

/-- Per-tenant counter of block `base` raised by `n`; the system domain has no counters. -/
def State.tcount (s : State) (t base sub n : Nat) : State := if t = 0 then s else s.count (base + t) sub n

/-! ### Output to connections (R284, R416) -/

/-- Octets of a message: record header, MSG with 3 reserved bytes, body, and tag (R280). -/
def OutMsg.size : OutMsg → Nat
  | .busy _ => 16 + 2
  | .deviceHello _ _ report _ => 16 + 0x640 + report.length + 1280
  | .authOk .. => 36 + 5
  | .opened .. => 36 + 20
  | .tokens _ _ _ _ _ _ _ _ _ _ text => 36 + 0x20 + text.length
  | .status .. => 36 + 16
  | .pong _ => 36 + 8
  | .notice .. => 36 + 5
  | .response _ _ _ _ items => 36 + 16 + (items.map fun i => 8 + (i.len + 3) / 4 * 4).sum
  | .event _ records => 36 + 8 + 32 * records.length
  | .mirrorData _ bytes => 36 + 4 + bytes.length

/-! Frames (R324, R330, R332): a message is carried in frames of at most 1,522 octets, 1,420 of them payload (DESIGN CHOICE, log entry 40). -/

/-- Octets of payload that a frame carries, and of everything else in it. -/
def framePayload : Nat := 1420
/-- Headers, tags and check sequence of a frame. -/
def frameOverhead : Nat := 102
/-- Octets that an egress queue holds. -/
def queueLimit : Nat := 262144

/-- Whether a frame finds room in its queue. -/
def Port.takes (p : Port) (f : TxFrame) : Bool := decide (((mget [] p.egress f.pcp).map (·.len)).sum + f.len ≤ queueLimit)

/-- A frame joins its queue. -/
def Port.enqueue (p : Port) (f : TxFrame) : Port := { p with egress := mmod [] p.egress f.pcp (· ++ [f]) }

/-- Waiting frames that find room join their queues, none passing another of its queue; those that go on waiting. -/
def fillPort : List Nat → List TxFrame → Port → List TxFrame × Port
  | _, [], p => ([], p)
  | blocked, f :: l, p =>
    if p.takes f && !blocked.contains f.pcp then fillPort blocked l (p.enqueue f)
    else let r := fillPort (f.pcp :: blocked) l p; (f :: r.1, r.2)

/-- The frames of a message of `n` octets. -/
def framesOf (f : TxFrame) : Nat → Nat → List TxFrame
  | 0, _ => []
  | fuel + 1, n => { f with len := max 64 (min n framePayload + frameOverhead) } :: if n ≤ framePayload then [] else framesOf f fuel (n - framePayload)

/-- A connection's waiting frames join the queues of its port where there is room. -/
def State.fillConn (s : State) (c : Nat) : State :=
  match s.conn c with
  | none => s
  | some x =>
    let r := fillPort [] x.toQueue (s.port x.port)
    (s.modPort x.port fun _ => r.2).modConn c fun o => o.map fun k => { k with toQueue := r.1 }

/-- CLASS_PCP byte `i` (R330). -/
def State.classPcp (s : State) (i : Nat) : Nat := s.sv 0x3000 5 1121003373574 / 256 ^ i % 256 % 8

/-- The queue of a message that belongs to no request (R330). -/
def State.msgPcp (s : State) : OutMsg → Nat
  | .response .. | .event .. => s.classPcp 4
  | .mirrorData .. => s.classPcp 5
  | _ => 4

/-- Whether a message goes in clear. -/
def OutMsg.clear : OutMsg → Bool
  | .busy .. | .deviceHello .. => true
  | _ => false

/-- A message is sealed and joins the output of its connection: a stream record waits in the channel buffer until it is acknowledged, a datagram goes once (R283, R284, R330). -/
def State.post (s : State) (c : Nat) (msg : OutMsg) (pcp : Nat) (dgram : Bool) : State :=
  let now := s.now
  (s.modConn c fun o => o.map fun k =>
    let f : TxFrame := { tenant := k.tenant, kind := if dgram then .udp else .tcp, dgram := dgram, since := now, conn := some c, pcp := pcp }
    { k with out := if dgram then k.out else k.out ++ [msg], dgOut := if dgram then k.dgOut ++ [msg] else k.dgOut, outBytes := if dgram then k.outBytes else k.outBytes + msg.size,
             txSeq := if dgram || msg.clear then k.txSeq else k.txSeq + 1, dgTx := if dgram then k.dgTx + 1 else k.dgTx,
             unacked := if dgram then k.unacked else match k.unacked with | some t => some t | none => some now,
             toQueue := k.toQueue ++ framesOf f (msg.size / framePayload + 1) msg.size }).fillConn c

/-- A message that belongs to no request, on the stream. -/
def State.send (s : State) (c : Nat) (msg : OutMsg) : State := s.post c msg (s.msgPcp msg) false

/-- Whether connection `c` is an established channel of kind `k`. -/
def State.isUp (s : State) (c : Nat) (k : ConnKind) : Bool :=
  match s.conn c with
  | some x => decide (x.kind = k) && decide (x.phase = .up)
  | none => false

/-- The tenant a channel acts for; 0 for MGMT, DRV and ANY. -/
def Conn.tenantOf (c : Conn) : Nat := if c.kind = .asx ∨ c.principal = .ten then c.tenant else 0

/-- Whether a principal sees an event (R416). -/
def Conn.sees (c : Conn) (tenant : Nat) : Bool :=
  match c.principal with
  | .ten => decide (c.tenant = tenant)
  | .drv | .mgmt => true
  | _ => false

/-- CC6 queues an event for a subscribed connection: up to 256, and one beyond is lost (R416). -/
def Conn.queueEvent (c : Conn) (e : Event) : Conn :=
  if c.kind = .bdp ∧ c.phase = .up ∧ nbit c.eventMask e.cls = true ∧ c.sees e.tenant = true then
    if c.events.length < 256 then { c with events := c.events ++ [e.seq] } else { c with eventsLost := c.eventsLost + 1 }
  else c

/-! ### Mirror capture (R424..R426) -/

/-- Octets of a record's body (R425). -/
def MBody.size : MBody → Nat
  | .time .. => 8
  | .inbound _ _ body => 8 + body.length
  | .dictWrite _ _ items => 8 + (items.map fun i => 8 + (i.2.2.length + 3) / 4 * 4).sum
  | .seed .. => 16
  | .step _ _ _ _ _ handles => 20 + 4 * handles.length
  | .cold .. => 5
  | .event _ => 32
  | .power .. => 28
  | .output _ _ _ _ _ digests text => 20 + 4 * digests.length + text.length
  | .slots info => info.length
  | .loss _ => 4

/-- Size of a Mirror segment: 64 MiB. -/
def segmentBytes : Nat := 64 * 2 ^ 20

/-- A record joins the open segment. -/
def MTen.append (m : MTen) (mono : Nat) (b : MBody) : MTen :=
  let r : MRec := { seq := m.seq, mono := mono, len := b.size, body := b }
  { m with seq := (m.seq + 1) % 2 ^ 32, seg := m.seg ++ [r], segBytes := m.segBytes + 16 + b.size,
           segSince := if m.seg = [] then mono else m.segSince }

/-- Records the older of two full segments loses when a record of body `b` comes (R426). -/
def MTen.overwritten (m : MTen) (b : MBody) : Nat :=
  if m.segBytes + 16 + b.size ≤ segmentBytes then 0 else m.full.length

/-- A record is captured: a full segment is closed and the other takes records, the older one being overwritten where both are full; the new segment then begins with a LOSS record. -/
def MTen.capture (m : MTen) (key mono : Nat) (b : MBody) : MTen :=
  if m.segBytes + 16 + b.size ≤ segmentBytes then { (m.append mono b) with segKey := if m.seg = [] then key else m.segKey }
  else
    let lost := m.full.length
    let n := { m with full := m.seg, fullBytes := m.segBytes, fullKey := m.segKey, seg := [], segBytes := 0, segKey := key }
    let n := if lost = 0 then n else n.append mono (.loss lost)
    n.append mono b

/-- Records lost since the previous record are reported first, in a LOSS record (R425). -/
def MTen.noteLoss (m : MTen) (key mono : Nat) : MTen := if m.lost = 0 then m else { (m.capture key mono (.loss m.lost)) with lost := 0 }

/-- MIRROR_KEY of a tenant (R424). -/
def State.mirrorKeyOf (s : State) (t : Nat) : Nat := s.sv (0xB100 + t) 2 0

/-- A Mirror record of tenant `t`, while it records; one that CC6 cannot capture is lost (R424, R305). -/
def State.capture (s : State) (t : Nat) (b : MBody) : State :=
  if (s.mten t).recording then
    if s.coreUp 6 then
      let lost := ((s.mten t).noteLoss (s.mirrorKeyOf t) s.now).overwritten b
      let s := s.modMten t fun m => (m.noteLoss (s.mirrorKeyOf t) s.now).capture (s.mirrorKeyOf t) s.now b
      let s := s.tcount t 0xA110 1 1
      if lost = 0 then s
      else { (s.tcount t 0xA110 3 lost) with faults := (s.tcount t 0xA110 3 lost).faults.push s.faultMask s.now s.evFlags Ev.mirrorLost t Locus.none 0 lost }
    else (s.modMten t fun m => { m with lost := m.lost + 1 }).tcount t 0xA110 3 1
  else s

/-- A record for every recording tenant. -/
def State.captureAll (s : State) (b : MBody) : State := (List.range 8).foldl (fun s i => s.capture (i + 1) b) s

/-! ### Raising an event -/

/-- The 32 octets of an event. -/
def Event.bytes (e : Event) : Bytes := eventBytes e.code e.cls e.flags e.seq e.mono e.tenant e.kind e.locus e.detail

/-- A fault that a replay meets again (R430). -/
def Replay.met (r : Replay) (e : Event) : Replay :=
  if r.recorded.contains e.code then { r with recorded := r.recorded.eraseP fun c => decide (c = e.code), faultsMet := r.faultsMet + 1 } else r

/-- Replays of the tenants that an event names meet it. -/
def Mirror.met (m : Mirror) (e : Event) : Mirror :=
  if e.cls = 0 then m
  else { m with tenants := mmap .init (fun t (x : MTen) => if e.tenant = 0 ∨ e.tenant = t then { x with replay := x.replay.map fun r => r.met e } else x) m.tenants }

/-- CC6 copies one record of the hardware queue to the event log, to subscribed channels and to Mirror (R416, R425). -/
def State.deliverOne (s : State) (e : Event) : State :=
  let s := { s with faults := { s.faults with log := (e :: s.faults.log).take 65536 }, mirror := s.mirror.met e,
                    svc := { s.svc with conns := mmap none (fun _ (c : Option Conn) => c.map fun (k : Conn) => k.queueEvent e) s.svc.conns } }
  if e.tenant = 0 then s.captureAll (.event e.bytes) else s.capture e.tenant (.event e.bytes)

/-- CC6 copies what the hardware queue holds, while it runs. -/
def State.deliver (s : State) : State :=
  if s.coreUp 6 then
    s.faults.queue.foldl State.deliverOne { s with faults := { s.faults with queue := [] } }
  else s

/-- An event is raised (R414). -/
def State.raise (s : State) (k : EvKind) (tenant kind locus detail : Nat) : State :=
  { s with faults := s.faults.push s.faultMask s.now s.evFlags k tenant kind locus detail }.deliver

/-- An event that the state's table does not list: nothing changes, and it is counted (R14; DESIGN CHOICE, log entry 5: the dictionary names no counter for it). -/
def State.unlisted (s : State) : State := { s with faults := { s.faults with unlisted := s.faults.unlisted + 1 } }

/-! ### Memory (R195, R199, R101, R231) -/

/-- A place in memory: a DRAM channel's data address, a cluster store's offset, a tile buffer's offset. -/
inductive Place where
  | dram (ch a : Nat)
  | store (cluster off : Nat)
  | tile (pod off : Nat)
deriving DecidableEq, Repr

/-- Data octets of a DRAM channel: 5,952 MiB (R231). -/
def chData : Nat := 5952 * 2 ^ 20
/-- Octets of a cluster store: 6 MiB (R15, R198). -/
def storeBytes : Nat := 6291456
/-- Octets of a tile buffer: 64 KiB (R15, R101). -/
def tileBytes : Nat := 65536

/-- The flat address of a place; none where the spec says that it does not exist. -/
def Place.flat : Place → Option Nat
  | .dram ch a => if ch < 32 ∧ a < chData then some (ch * 2 ^ 33 + a) else none
  | .store c o => if c < 16 ∧ o < storeBytes then some (2 ^ 40 + c * 2 ^ 23 + o) else none
  | .tile p o => if p < 256 ∧ o < tileBytes then some (2 ^ 41 + p * 2 ^ 16 + o) else none

/-- The fault of an access to a place that does not exist. -/
def Place.fault : Place → Fault
  | .dram ch _ => .noSuchAddress 2 ch
  | .store c _ => .noSuchAddress 1 c
  | .tile p _ => .noSuchAddress 0 p

/-- What a byte of memory that nothing has written reads as (DESIGN CHOICE, log entry 4). -/
def memDefault : BitVec 8 := 0

/-- Canonical form of memory: addresses rise and no listed byte equals the default. -/
def Memory.wf (m : List Host.Cell) : Bool := mwf memDefault m

/-- The byte at a flat address. -/
def State.byte (s : State) (a : Nat) : Nat := (mget memDefault s.mem a).toNat

/-- A byte is written at a flat address. -/
def State.setByte (s : State) (a v : Nat) : State := { s with mem := mset memDefault s.mem a (BitVec.ofNat 8 v) }

/-- `n` bytes from a flat address. -/
def State.bytes (s : State) (a n : Nat) : Bytes := (List.range n).map fun i => s.byte (a + i)

/-- Bytes are written from a flat address on. -/
def writeBytes (m : List Host.Cell) (a : Nat) : Bytes → List Host.Cell
  | [] => m
  | b :: t => writeBytes (mset memDefault m a (BitVec.ofNat 8 b)) (a + 1) t

/-- Bytes are written from a flat address on. -/
def State.setBytes (s : State) (a : Nat) (bs : Bytes) : State := { s with mem := writeBytes s.mem a bs }

/-- The word of `n` bytes at a flat address, little-endian (R11). -/
def State.word (s : State) (a n : Nat) : Nat := unle (s.bytes a n)

/-- Every byte of flat addresses `lo` to `hi - 1` reads as the default again. -/
def State.zero (s : State) (lo hi : Nat) : State := { s with mem := s.mem.filter fun c => !(decide (lo ≤ c.1) && decide (c.1 < hi)) }

/-! ### Waiting for a control core (R305) -/

/-- The control cores that a command needs. -/
def needs : Instr → List Nat
  | .openSession .. | .adapt .. | .closeSession .. | .request .. | .cancel .. => [0, 1]
  | .ping .. | .unknownMsg .. | .badMessage .. | .tcpConnect .. | .bdpConnect .. | .clientHello .. | .handshakeJobStart .. | .keyShare .. | .auth .. | .bdpAuth .. |
    .handshakeDeadline .. | .channelIdleExpiry .. | .tcpConnectionEnd .. | .tcpUserTimeout .. | .tcpRetransmissionTimeout .. | .gptpSync .. | .outputBufferDrain .. | .removalXfersDone .. => [0]
  | .requestDequeue .. | .sample .. | .queueTimeout .. | .idleClose .. | .sessionIndexFree .. => [1]
  | .stepInstantiate .. | .groupInstantiate .. | .completionAccept .. | .expertRebalanceCheck .. | .removalOpsCancelled .. => [2]
  | .kvPreempt .. | .kvPromote .. | .pageMoveStart .. | .pageMoveSwitch .. | .blockReencode .. | .modelReloadDone .. => [3]
  | .writeSlotGrant .. | .copyLoadDone .. | .checkPassEnd .. | .installReady .. | .swapDrainDone .. | .swapComplete .. | .removeComplete .. | .adapterLoadDone .. => [4]
  | .profileApply | .idleEntry | .sleepAfterExpiry | .deepAfterExpiry | .entryProgress => [5]
  | .mirrorTimeRecord .. | .mirrorPowerRecord .. | .segmentExport .. | .bdpEventSend .. => [6]
  | .mirrorGet .. => [0, 6]
  | .bdpRead .. | .bdpWrite .. | .bdpSnapshot .. | .registerWrite .. | .profileEdit .. | .profileSelect .. | .factoryReset .. |
    .uploadBegin .. | .uploadData .. | .uploadEnd .. | .uploadAbort .. | .install .. | .swap .. | .remove .. | .adapterLoad .. |
    .adapterUnload .. | .adapterDelete .. | .datasetDelete .. | .trainStartNew .. | .trainResume .. | .trainStop .. |
    .ccRestart .. | .fwBegin .. | .fwData .. | .fwEnd .. | .fwActivateRolling .. | .fwActivateReset .. | .fwCommit .. | .fwRevert .. |
    .leaseClaim .. | .leaseRenew .. | .leaseRelease .. | .portEnable .. | .media .. | .speeds .. | .cableTest .. | .gcl .. |
    .tenantForm .. | .tenantActivate .. | .tenantRemove .. | .envelope .. | .principalKeyWrite .. | .debugUnlock .. |
    .faultAck .. | .eventSubscribe .. | .countersClear .. | .mirrorConsent .. | .mirrorKey .. | .mirrorFlush .. |
    .replayStart .. | .replayStop .. | .calAlarm .. | .calSet .. | .cacheWays .. | .csKvPages .. | .dramSubQuota .. => [0, 7]
  | .powerRequestRestartTimers .. | .powerRequestSleep .. | .powerRequestDeepSleep .. | .powerRequestOff .. => [0, 5, 7]
  | _ => []

/-- The request of a command that is a BDP transaction (R347). -/
def reqOf : Instr → Option Rq
  | .bdpRead r .. | .bdpWrite r .. | .bdpSnapshot r .. | .registerWrite r .. | .profileEdit r .. | .profileSelect r .. | .factoryReset r .. |
    .uploadBegin r .. | .uploadData r .. | .uploadEnd r .. | .uploadAbort r .. | .install r .. | .swap r .. | .remove r .. | .adapterLoad r .. |
    .adapterUnload r .. | .adapterDelete r .. | .datasetDelete r .. | .trainStartNew r .. | .trainResume r .. | .trainStop r .. |
    .ccRestart r .. | .fwBegin r .. | .fwData r .. | .fwEnd r .. | .fwActivateRolling r | .fwActivateReset r | .fwCommit r | .fwRevert r |
    .leaseClaim r | .leaseRenew r .. | .leaseRelease r .. | .portEnable r .. | .media r .. | .speeds r .. | .cableTest r .. | .gcl r .. |
    .tenantForm r .. | .tenantActivate r .. | .tenantRemove r .. | .envelope r .. | .principalKeyWrite r .. | .debugUnlock r .. |
    .faultAck r .. | .eventSubscribe r .. | .countersClear r .. | .mirrorConsent r .. | .mirrorKey r .. | .mirrorFlush r .. |
    .replayStart r .. | .replayStop r .. | .calAlarm r .. | .calSet r .. | .cacheWays r .. | .csKvPages r .. | .dramSubQuota r .. |
    .powerRequestRestartTimers r | .powerRequestSleep r | .powerRequestDeepSleep r | .powerRequestOff r => some r
  | _ => none

/-- The entries that a transaction names, of those that a write which waits for preparation can name: RW entries and WO entries of fixed length (R354). -/
def namedEntries : Instr → List Nat
  | .bdpRead _ b | .bdpWrite _ b => b.items.map (·.code)
  | .registerWrite _ it => [it.code]
  | .profileEdit _ _ l => l.map (·.code)
  | .portEnable _ p _ => [entryCode (portIndex p) 1]
  | .media _ p _ => [entryCode (portIndex p) 2]
  | .speeds _ p _ => [entryCode (portIndex p) 3]
  | .gcl _ p .. => [entryCode (portIndex p) 10]
  | .calAlarm .. => [entryCode 0xC001 3]
  | .cacheWays _ t _ => [entryCode (0x8100 + t) 3]
  | .csKvPages _ t _ => [entryCode (0x8100 + t) 4]
  | .dramSubQuota _ t w _ => [entryCode (0x8110 + t) w]
  | .envelope _ t _ => [entryCode 0x4300 t]
  | .principalKeyWrite _ c _ => [c]
  | .mirrorConsent _ t _ => [entryCode (0xB100 + t) 1]
  | .mirrorKey _ t _ => [entryCode (0xB100 + t) 2]
  | _ => []

/-- Whether a write that waits for preparation delays a transaction: one of its own connection, or one that names one of its entries (R355). -/
def State.prepBlocks (s : State) (conn : Nat) (codes : List Nat) : Bool :=
  s.dict.prep.any fun p => decide (p.conn = conn) || p.items.any fun i => codes.contains i.code

/-- Commands in the order of their arrival, each with whether a preparing write delays it, itself or through an earlier transaction of its connection (`conns`). -/
def State.delays (s : State) : List Nat → List Instr → List (Instr × Bool)
  | _, [] => []
  | conns, i :: l =>
    match reqOf i with
    | none => (i, false) :: s.delays conns l
    | some r => if s.prepBlocks r.conn (namedEntries i) || conns.contains r.conn then (i, true) :: s.delays (r.conn :: conns) l else (i, false) :: s.delays conns l

/-- The level of a class's work (R301). -/
def Cls.level : Cls → Nat
  | .imm => 0 | .int => 1 | .bkg => 2 | .bulk => 3

/-- The level of the work of a session's request. -/
def State.sessionLevel (s : State) (i : Nat) : Nat :=
  match (s.session i).reqs.find? fun r => decide (r.state = .running) with
  | some r => r.cls.level
  | none => 3

/-- The level of the task that a command is for: completion records and hardware events with IMM work, requests and steps by their class, all else with BULK, upkeep and the dictionary (R301; log entry 54). -/
def State.level (s : State) : Instr → Nat
  | .completionAccept .. | .pageMoveSwitch .. | .copyLoadDone .. | .tcpConnect .. | .bdpConnect .. | .tcpConnectionEnd .. | .tcpUserTimeout .. |
    .tcpRetransmissionTimeout .. | .gptpSync .. | .outputBufferDrain .. | .removalXfersDone .. | .removalOpsCancelled .. => 0
  | .groupInstantiate run => match s.run run with | some r => r.cls.level | none => 3
  | .stepInstantiate l => s.sessionLevel (l.headD 0)
  | .sample i .. | .cancel _ _ _ i _ | .queueTimeout i _ => s.sessionLevel i
  | .requestDequeue _ c => c.level
  | .request _ _ r => min 3 r.cls
  | _ => 3

/-- The connection whose records a command is one of: they are processed in the order of their arrival (R283, R347). -/
def connOf (i : Instr) : Option Nat :=
  match i with
  | .openSession c .. | .adapt c .. | .closeSession c .. | .request c .. | .cancel c .. | .ping c .. | .unknownMsg c .. | .badMessage c .. | .clientHello c .. | .keyShare c .. |
    .auth c .. | .bdpAuth c .. | .mirrorGet c .. => some c
  | _ => (reqOf i).map (·.conn)

/-- Levels of commands in the order of their arrival: none comes before an older one of its connection (`m`: connections with the level of their last command). -/
def State.levels (s : State) : List (Nat × Nat) → List Instr → List Nat
  | _, [] => []
  | m, i :: l =>
    match connOf i with
    | none => s.level i :: State.levels s m l
    | some c =>
      let v := max (s.level i) (((m.find? fun e => decide (e.1 = c)).map (·.2)).getD 0)
      v :: State.levels s ((c, v) :: m) l

/-- Whether a command must wait among the commands `before` and `after` it: a core it needs does not run, a preparing write delays it, or another command that no such write delays waits for one of its cores and comes before it: one of a higher level, or an older one of its level (R301, R305, R355). -/
def State.waitsBehind (s : State) (before after : List Instr) (i : Instr) : Bool :=
  let all := before ++ i :: after
  let xs := (s.delays [] all).zip (s.levels [] all)
  let n := before.length
  let me := (xs[n]?).getD ((i, false), 3)
  let up := fun (j : Instr) => (needs j).all s.coreUp
  !up i || me.1.2 ||
    xs.zipIdx.any fun x => !x.1.1.2 && ((needs i).any fun k => (needs x.1.1.1).contains k) &&
      if x.2 < n then decide (x.1.2 ≤ me.2) else decide (n < x.2) && decide (x.1.2 < me.2) && up x.1.1.1

/-- Whether a command waits. -/
def State.mustHold (s : State) (i : Instr) : Bool := s.waitsBehind s.held [] i

/-- The command waits. -/
def State.hold (s : State) (i : Instr) : State := { s with held := s.held ++ [i] }

/-- A command that needs control cores: it waits while one of them restarts or sleeps, and has its effect otherwise; nothing happens while the device is off. -/
def State.whenUp (s : State) (i : Instr) (r : Res) : Res :=
  if !s.powered then .next s.unlisted else if s.mustHold i then .next (s.hold i) else r

/-- A command with its guard: the effect where the state lists the event, else R14. -/
def State.listed (s : State) (g : Bool) (r : State) : Res := if g then .next r else .next s.unlisted

end Sys2Proof.Machine
end

