-- ==== Sys2Proof/Machine/PlanOps.lean ====
section
/-! DEFINITION. The shared operations of running work: the image of a generation, templates and tensors, tenant addresses, engine reads and writes with their ownership check, and the start and end of an operation. -/

namespace Sys2Proof.Machine

/-! ### Images by generation (R260, R261) -/

/-- The model slot of a tenant. -/
def State.mslot (s : State) (t slot : Nat) : ModelSlot := s.slot (t * 4 + slot)

/-- The image, and its stamp, that a step of generation `g` uses: the newest whose stamp is not after `g` (R261). -/
def ModelSlot.imageAt (m : ModelSlot) (g : Nat) : Option (Image × Nat) :=
  match m.current with
  | none => none
  | some i => if serialAfter 32 m.stamp g then m.old.map fun o => (o, m.oldStamp) else some (i, m.stamp)

/-- The image that an operation runs, with its stamp. -/
def State.opImage (s : State) (o : Op) : Option (Image × Nat) := (s.mslot o.d.tenant o.slotModel).imageAt o.d.gen

/-- The plan that an operation runs. -/
def State.opPlan (s : State) (o : Op) : Plan :=
  match s.opImage o with
  | some x => x.1.plan
  | none => Plan.init

/-- The template of an operation. -/
def State.opTemplate (s : State) (o : Op) : Template := ((s.opPlan o).templates[o.d.template]?).getD Template.init

/-- The stamp of the image that an operation runs. -/
def State.opStamp (s : State) (o : Op) : Nat :=
  match s.opImage o with
  | some x => x.2
  | none => 0

/-! ### Format codes (R115) -/

/-- The element format of a format code (R115): an MX code names its element. -/
def fmtOf : Nat → Option Fmt
  | 0 => some .fp32 | 1 => some .fp16 | 2 => some .bf16 | 3 => some .e4m3 | 4 => some .e5m2 | 5 => some .e3m2
  | 6 => some .e2m3 | 7 => some .e2m1 | 8 => some .int8 | 9 => some .int4 | 10 => some .e4m3 | 11 => some .e2m1
  | 12 => some .mxi8 | 13 => some .int4x | 14 => some .fp4x | _ => none

/-- Bits of an element of a format code. -/
def fmtBits (c : Nat) : Nat := match fmtOf c with | some f => f.bits | none => 8

/-- Whether a format code is a microscaling format. -/
def isMx (c : Nat) : Bool := c == 10 || c == 11 || c == 12

/-! ### What templates read and write (R174) -/

/-- An instruction word's opcode. -/
def vOpc (w : BitVec 64) : Nat := w.toNat / 2 ^ 56

/-- Whether a program moves words through scalar register `r` with opcode `opc`: LD 0x68 reads, ST 0x69 writes. -/
def progUses (opc r : Nat) (ws : List (BitVec 64)) : Bool := ws.any fun w => decide (vOpc w = opc) && decide (w.toNat / 64 % 16 = r)

/-- The program of a template. -/
def Plan.progOf (p : Plan) (t : Template) : List (BitVec 64) := (p.programs[t.program]?).getD []

/-- The operands a template's operation reads (R174). -/
def Plan.reads (p : Plan) (t : Template) : List Handle :=
  let d := t.d
  match d.kind with
  | .vprog => ([(0, d.opA), (1, d.opB), (2, d.opC), (3, d.opD)].filter fun x => progUses 0x68 x.1 (p.progOf t)).map (·.2)
  | .vmvm => [d.opA, d.opD]
  | .fgemm | .fattn | .corr => [d.opA, d.opB, d.opD]
  | .move | .kvscat | .kvflush | .route => [d.opA]
  | .sync => []

/-- The operands it writes. -/
def Plan.writesOf (p : Plan) (t : Template) : List Handle :=
  let d := t.d
  match d.kind with
  | .vprog => ([(0, d.opA), (1, d.opB), (2, d.opC), (3, d.opD)].filter fun x => progUses 0x69 x.1 (p.progOf t)).map (·.2)
  | .sync => []
  | _ => [d.opC]

/-- The descriptor of a static or scratch operand. -/
def Plan.desc (p : Plan) (h : Handle) : Option TDesc := if h.tab = 0 then p.tensors[h.idx]? else if h.tab = 2 then p.scratch[h.idx]? else none

/-- Whether some template of a plan writes a tensor: an activation or gradient, and no weight. -/
def Plan.written (p : Plan) (h : Handle) : Bool := p.templates.any fun t => (p.writesOf t).contains h

/-- The marked weight tensors of an image: static, in tier 2, with COMP set, and written by no template (R159). -/
def Image.marked (i : Image) : List (Nat × TDesc) :=
  (i.plan.tensors.zipIdx.map fun x => (x.2, x.1)).filter fun x => x.2.comp && decide (x.2.tier = 2) && !i.plan.written { tab := 0, idx := x.1 }

/-- The row-blocks of a column block. -/
def Proj.rowCount (p : Proj) : Nat := cdiv p.inputs 2048

/-- The column blocks of a projection. -/
def Proj.colBlocks (p : Proj) : Nat := cdiv p.outSlots 1024

/-- The copies of one column block, row-block by row-block (R253). -/
def Image.block (i : Image) (p : Proj) (cb : Nat) : List Copy := (i.copies.drop (p.firstCopy + cb * p.rowCount)).take p.rowCount

/-- The stratum set that a template's operand B names: BASE of a descriptor of tier 3 is the index of its record (R170, R174); the template's projection where B names none. -/
def Plan.setOf (p : Plan) (t : Template) : Nat :=
  match p.desc t.d.opB with
  | some d => if d.tier = 3 then d.base else t.proj
  | none => t.proj

/-- The projection an operation's template names; with INDIRECT, the one of the selected expert from there on (R178, log entry 22). -/
def Plan.projOf (p : Plan) (first : Nat) (expert : Option Nat) : Nat :=
  match expert with
  | none => first
  | some e => ((List.range p.projs.length).find? fun i => decide (first ≤ i) && decide (((p.projs[i]?).getD Proj.init).expert = some e)).getD first

/-- The projections that a VMVM template may run: its own, or every expert's of its expert table. -/
def Plan.projsOf (p : Plan) (t : Template) : List Nat :=
  match t.d.k with
  | .vmvm _ _ _ _ _ true _ _ => ((List.range (max 1 p.experts)).map fun e => p.projOf (p.setOf t) (some e)).dedup
  | _ => [p.setOf t]

/-- The template of an invocation. -/
def Plan.tmpl (p : Plan) (v : Invocation) : Template := (p.templates[v.template]?).getD Template.init

/-- The plan of a step run. -/
def State.runPlan (s : State) (r : StepRun) : Plan :=
  match (s.mslot r.tenant r.slot).imageAt r.gen with
  | some x => x.1.plan
  | none => Plan.init

/-- The invocations of a step run that are still to be instantiated. -/
def State.invsLeft (s : State) (r : StepRun) : List Invocation :=
  ((((s.runPlan r).graphs[r.graph]?).getD []).drop r.nextGroup).zipIdx.flatMap fun g => g.1.invs.drop (if g.2 = 0 then r.nextInv else 0)

/-! ### MODEL contents (R48, R126, R136, R257; log entry 72) -/

/-- Octets that the DIGITAL tensors and the block maps of the marked ones take (R158, R257). -/
def Image.digitalTop (i : Image) : Nat := cdiv (i.marked.foldl (fun n x => max n (x.2.aux + 2 * cdiv ((x.2.rows * x.2.cols * fmtBits x.2.fmt + 7) / 8) 4096)) i.digitalLen) 64 * 64

/-- A projection of an image. -/
def Image.proj (i : Image) (k : Nat) : Proj := (i.plan.projs[k]?).getD Proj.init

/-- The mapped rows of an image, in the order in which DRAM holds them: VMVM template, projection, input row, column block (R48). -/
def Image.mapKeys (i : Image) : List (Nat × Nat × Nat × Nat) :=
  i.params.maps.flatMap fun m =>
    (i.plan.projsOf ((i.plan.templates[m.1]?).getD Template.init)).flatMap fun k =>
      m.2.flatMap fun row => (List.range (i.proj k).colBlocks).map fun cb => (m.1, k, row, cb)

/-- Where the rotary frequencies stand: behind the DIGITAL tensors, d/2 FP32 words (R136). -/
def Image.freqOffset (i : Image) : Nat := i.digitalTop

/-- Where the outlier-map rows begin. -/
def Image.mapOffset (i : Image) : Nat := i.freqOffset + cdiv (2 * i.plan.headDim) 64 * 64

/-- Where a mapped row of a column block stands: 512 octets for each (R48); none for a row that is on no map. -/
def Image.mapRowOffset (i : Image) (tmpl proj row cb : Nat) : Option Nat :=
  (i.mapKeys.findIdx? fun x => decide (x = (tmpl, proj, row, cb))).map fun k => i.mapOffset + 512 * k

/-! ### Tenant addresses (R210, R233) -/

/-- Octets of a channel that serve tenants (R232). -/
def chTenant : Nat := 5824 * 2 ^ 20

/-- INTERLEAVE_GRAIN in octets (R233, R235). -/
def State.grain (s : State) (t : Nat) : Nat := 2 ^ (8 + 2 * s.sv (0x8140 + t) 1 2)

/-- The clusters of a tenant, rising. -/
def State.clusterList (s : State) (t : Nat) : List Nat := setBits (s.clustersOf t) 16

/-- The vault dies of a tenant, rising. -/
def State.dieList (s : State) (t : Nat) : List Nat := setBits (s.diesOf t) 32

/-- The channel and channel data address of address `x` in a tenant's spread view (R233). -/
def State.spread (s : State) (t x : Nat) : Nat × Nat :=
  let g := s.grain t
  let cl := s.clusterList t
  let n := 2 * cl.length
  let u := x / g
  let i := u % n
  (2 * (cl[i / 2]?).getD 0 + i % 2, u / n * g + x % g)

/-- The channel and channel data address of address `y` in the pair-local view of a cluster: from the top of the tenant region downward, one grain at a time (R233). -/
def State.pairLocal (s : State) (t cluster y : Nat) : Nat × Nat :=
  let g := s.grain t
  let u := y / g
  (2 * cluster + u % 2, chTenant - (u / 2 + 1) * g + y % g)

/-- The extent of a kind and owner. -/
def State.extentOf (s : State) (t : Nat) (k : Alloc) (owner : Nat) : Option Extent :=
  s.dram.extents.find? fun e => decide (e.tenant = t) && decide (e.kind = k) && decide (e.owner = owner)

/-- The place of offset `off` in an extent. -/
def State.extentPlace (s : State) (e : Extent) (off : Nat) : Place :=
  match e.pair with
  | none => let p := s.spread e.tenant (e.base + off); .dram p.1 p.2
  | some c => let p := s.pairLocal e.tenant c (e.base + off); .dram p.1 p.2

/-! ### Tensors (R170, R171, R200) -/

/-- A handle as the U32 that it is (R171). -/
def Handle.code (h : Handle) : Nat := h.tab * 2 ^ 30 + h.idx

/-- The handle that a U32 spells. -/
def Handle.ofCode (w : Nat) : Handle := { tab := w / 2 ^ 30 % 4, idx := w % 2 ^ 30 }

/-- Key of the encoder state of a tensor, which its handle's U32 names. -/
def actKey (tenant slot tensor : Nat) : Nat := (tenant * 4 + slot) * 2 ^ 32 + tensor

/-! ### Adapter operands (R269, R272) -/

/-- Octets of one target's two matrices. -/
def Target.octets (t : Target) : Nat := 2 * t.rank * (t.inputs + t.outputs)

/-- Where the record of a target begins among an adapter's matrices as they are loaded: each record's down matrix, then its up matrix. -/
def targetOffset (p : Target → Bool) : List Target → Nat
  | [] => 0
  | t :: l => if p t then 0 else t.octets + targetOffset p l

/-- Whether a target is for the projection of a template. -/
def Plan.targets (p : Plan) (proj : Nat) (t : Target) : Bool := decide (((p.templates[t.template]?).getD Template.init).proj = proj)

/-- The tensor of an adapter FGEMM's operand B: the matrix of its projection in the adapter's slot. -/
def State.adapterTensor (s : State) (o : Op) (ad : Nat) : Option TDesc :=
  let p := s.opPlan o
  let t := s.opTemplate o
  match (s.adapter (o.d.tenant * 16 + ad)).img with
  | none => none
  | some i =>
    match i.targets.find? (p.targets t.proj) with
    | none => none
    | some x =>
      let b := targetOffset (p.targets t.proj) i.targets
      some (if t.adapterPart = some true then { fmt := 2, tier := 2, rows := x.rank, cols := x.outputs, base := b + 2 * x.rank * x.inputs }
        else { fmt := 2, tier := 2, rows := x.inputs, cols := x.rank, base := b })

/-- Octets of a tensor's body: whole places of a compressed tensor, else its elements, to 16 octets. -/
def TDesc.body (d : TDesc) : Nat :=
  let n := (d.rows * d.cols * fmtBits d.fmt + 7) / 8
  if d.comp then cdiv n 4096 * 4096 else cdiv n 16 * 16

/-- The descriptor of a scratch tensor in a step: one of tier 1 stands where the step was given room, in its cluster's window or in SCRATCH, with what belongs at AUX behind it (R197, R199). -/
def StepRun.scratchAt (r : StepRun) (k : Nat) (d : TDesc) : TDesc :=
  match r.places.find? fun x => decide (x.1 = k) with
  | some (_, w, a) => if d.tier = 1 then { d with tier := if w then 1 else 2, base := a, aux := a + d.body } else d
  | none => d

/-- The scratch tensor of a number in an operation's step. -/
def State.scratchTensor (s : State) (o : Op) (k : Nat) : Option TDesc :=
  ((s.opPlan o).scratch[k]?).map fun d => match s.run o.run with | some r => r.scratchAt k d | none => d

/-- Whether a scratch tensor of tier 1 stands in SCRATCH, at an address of the spread view. -/
def State.spilled (s : State) (o : Op) (k : Nat) : Bool :=
  match s.run o.run with
  | some r => r.places.any fun x => decide (x.1 = k) && !x.2.1
  | none => false

/-- The tensor descriptor that a handle names; none for no operand and for the session's table, whose entries (page list, staging buffer, history) the machine holds as such and no engine reads through a descriptor (R171). -/
def State.tensor (s : State) (o : Op) (h : Handle) : Option TDesc :=
  match o.adapter with
  | some ad => if h = o.d.opB then s.adapterTensor o ad
    else if h.tab = 0 then (s.opPlan o).tensors[h.idx]? else if h.tab = 2 then s.scratchTensor o h.idx else none
  | none => if h.tab = 0 then (s.opPlan o).tensors[h.idx]? else if h.tab = 2 then s.scratchTensor o h.idx else none

/-- The extent of the step's scratch, or of the model's DRAM, that a tensor of tier 2 stands in; none for one that was given room in SCRATCH. -/
def State.planExtent (s : State) (o : Op) (h : Handle) : Option Extent :=
  if h.tab ≠ 2 then s.extentOf o.d.tenant .modelC o.slotModel
  else if s.spilled o h.idx then none
  else s.extentOf o.d.tenant .scratchC o.run

/-- The extent that a tensor of tier 2 stands in: the step's scratch, the adapter's matrices or the model's DRAM (log entry 20). -/
def State.tensorExtent (s : State) (o : Op) (h : Handle) : Option Extent :=
  match o.adapter with
  | some ad => if h = o.d.opB then s.extentOf o.d.tenant .adapterC ad else s.planExtent o h
  | none => s.planExtent o h

/-- The place of octet `off` of a tensor. -/
def State.tensorPlace (s : State) (o : Op) (h : Handle) (d : TDesc) (off : Nat) : Option Place :=
  match d.tier with
  | 0 => some (.tile (d.unit % 16 * 16 + d.unit / 16 % 16) (d.base + off))
  | 1 => some (.store (d.unit % 16) (d.base + off))
  | 2 =>
    match s.tensorExtent o h with
    | some e => some (s.extentPlace e (d.base + off))
    | none => let p := s.spread o.d.tenant (d.base + off); some (.dram p.1 p.2)
  | _ => none

/-- The flat address of octet `off` of a tensor; none where no tier has it. -/
def State.tensorFlat (s : State) (o : Op) (h : Handle) (d : TDesc) (off : Nat) : Option Nat :=
  match s.tensorPlace o h d off with
  | some p => p.flat
  | none => none

/-- Octet `off` of a backing copy's record, or of the reserve slot that holds it, with ADDR and GEN (R85). -/
def Copy.octetAt (c : Copy) (addr gen off : Nat) : Nat :=
  if off < 4 then addr / 256 ^ off % 256
  else if off < 8 then gen / 256 ^ (off - 4) % 256
  else if off = 8 then (match c.enc with | .int4 => 0 | .int8 => 1 | .int4x => 2)
  else if off = 10 ∨ off = 11 then c.side.length / 256 ^ (off - 10) % 256
  else if 0x800 ≤ off ∧ off < 0x1000 then (mget 0 c.scales ((off - 0x800) / 2)).toNat / 256 ^ ((off - 0x800) % 2) % 256
  else if 0x1000 ≤ off ∧ off < 0x101000 then
    let i := off - 0x1000
    let row := i / 512
    let b := i % 512
    if c.enc = .int8 then mget 0 c.codes (row * 1024 + 2 * b) % 256
    else mget 0 c.codes (row * 1024 + 2 * b) % 16 + 16 * (mget 0 c.codes (row * 1024 + 2 * b + 1) % 16)
  else if 0x101000 ≤ off ∧ off < 0x109000 then
    match c.side[(off - 0x101000) / 8]? with
    | some e => (e.row + 2 ^ 16 * e.col + 2 ^ 32 * e.value.toNat) / 256 ^ ((off - 0x101000) % 8) % 256
    | none => 0
  else 0

/-- Octet `off` of a backing copy's record in an image: ADDR is 0 there (R85, R253). -/
def Copy.octet (c : Copy) (off : Nat) : Nat := c.octetAt 0 c.gen off

/-- Octets of a backing copy's slot or record (R85). -/
def copyBytes : Nat := 0x110000

/-- The tenant that owns the resource at a flat address; 0 the system domain. -/
def State.ownerAt (s : State) (a : Nat) : Nat :=
  if a < 2 ^ 40 then (if a % 2 ^ 33 < chTenant then s.clusterOwner (a / 2 ^ 33 / 2) else 0)
  else if a < 2 ^ 41 then s.clusterOwner ((a - 2 ^ 40) / 2 ^ 23)
  else s.clusterOwner ((a - 2 ^ 41) / 2 ^ 16 / 16)

/-- Octet `off` of a tensor as it is read: from its place, or from the image's backing copies on UFS (tier 4). A read addressed to a place that the tenant does not own is discarded there (R22), and the spec gives it no data: a free value (DESIGN CHOICE, log entry 69). -/
def State.tensorOctet (s : State) (o : Op) (h : Handle) (d : TDesc) (off : Nat) : Nat :=
  if d.tier = 4 then
    match s.opImage o with
    | some x => ((x.1.copies[(d.base + off) / copyBytes]?).getD Copy.init).octet ((d.base + off) % copyBytes)
    | none => 0
  else
    match s.tensorFlat o h d off with
    | some a => if s.ownerAt a = o.d.tenant then s.byte a else (Config.freeWord 22 a).toNat % 256
    | none => 0

/-- `n` octets of a tensor. -/
def State.tensorOctets (s : State) (o : Op) (h : Handle) (d : TDesc) (off n : Nat) : Bytes :=
  (List.range n).map fun i => s.tensorOctet o h d (off + i)

/-- Bit offset of element (r, c) in the 16 x 16 tiles of a tensor, row-major in tile order (R170, R200). -/
def tileBit (d : TDesc) (r c : Nat) : Nat :=
  (((r / 16) * (d.cols / 16) + c / 16) * 256 + r % 16 * 16 + c % 16) * fmtBits d.fmt

/-- Bit offset of element `i` of vector `v` where vectors of `n` elements stand one after another (log entry 21). -/
def runBit (d : TDesc) (n v i : Nat) : Nat := (v * n + i) * fmtBits d.fmt

/-- The element code at a bit offset of a tensor. -/
def State.codeAt (s : State) (o : Op) (h : Handle) (d : TDesc) (bit : Nat) : Nat :=
  let b := fmtBits d.fmt
  nbits (unle (s.tensorOctets o h d (bit / 8) ((bit % 8 + b + 7) / 8))) (bit % 8) b

/-- The scale byte of element (r, c) of an MX tensor: 16 scales for each pair of tiles along the columns, in the scale run at AUX (R36, R170). -/
def State.scaleAt (s : State) (o : Op) (h : Handle) (d : TDesc) (r c : Nat) : Nat :=
  s.tensorOctet o h { d with base := d.aux } ((((r / 16) * (d.cols / 32)) + c / 32) * 16 + r % 16)

/-- The value of element (r, c) of a raw tensor. -/
def State.elemRaw (s : State) (o : Op) (h : Handle) (d : TDesc) (r c : Nat) : Val :=
  match fmtOf d.fmt with
  | none => .nan
  | some f =>
    let code := s.codeAt o h d (tileBit d r c)
    if isMx d.fmt then mxDecode f (s.scaleAt o h d r c) code else decodeVal f code

/-! ### Engine writes and the ownership check of a destination (R22) -/

/-- A transfer that reaches a resource its tenant does not own: discarded, and reported as device-fatal (R22). -/
def State.discardXfer (s : State) (t a : Nat) : State :=
  { s with fabric := { s.fabric with discards := s.fabric.discards + 1 } }.raise Ev.xferNotOwned t Locus.none 0 a

/-- The first of the flat addresses that a transfer reaches and tenant `t` does not own (R22). -/
def State.foreign (s : State) (t : Nat) (as : List Nat) : Option Nat := as.find? fun a => decide (s.ownerAt a ≠ t)

/-- Octets written by an engine of tenant `t` at a flat address; a transfer that reaches a resource it does not own is discarded whole (R22). -/
def State.put (s : State) (t a : Nat) (bs : Bytes) : State :=
  match s.foreign t ((List.range bs.length).map (a + ·)) with
  | none => s.setBytes a bs
  | some b => s.discardXfer t b

/-- Octets written at offset `off` of a tensor, each in its place. -/
def State.writeTensor (s : State) (o : Op) (h : Handle) (d : TDesc) (off : Nat) : Bytes → State
  | [] => s
  | b :: t =>
    match s.tensorFlat o h d off with
    | none => s.writeTensor o h d (off + 1) t
    | some a => (s.setByte a b).writeTensor o h d (off + 1) t

/-- The flat addresses of `n` octets of a tensor. -/
def State.tensorSpan (s : State) (o : Op) (h : Handle) (d : TDesc) (off n : Nat) : List Nat := (List.range n).filterMap fun i => s.tensorFlat o h d (off + i)

/-- Octets sent to a tensor by its operation: written where the operation's tenant owns every place they reach, else discarded whole (R22). -/
def State.putTensor (s : State) (o : Op) (h : Handle) (d : TDesc) (off : Nat) (bs : Bytes) : State :=
  match s.foreign o.d.tenant (s.tensorSpan o h d off bs.length) with
  | none => s.writeTensor o h d off bs
  | some a => s.discardXfer o.d.tenant a

/-- An element code written at a bit offset of a tensor. -/
def State.putCode (s : State) (o : Op) (h : Handle) (d : TDesc) (bit code : Nat) : State :=
  let b := fmtBits d.fmt
  let n := (bit % 8 + b + 7) / 8
  let old := unle (s.tensorOctets o h d (bit / 8) n)
  let new := old - nbits old (bit % 8) b * 2 ^ (bit % 8) + code % 2 ^ b * 2 ^ (bit % 8)
  s.putTensor o h d (bit / 8) (le n new)

/-- The reads of an operation whose operand lies in a cluster that its tenant does not own are discarded there and reported (R22). -/
def State.readForeign (s : State) (o : Op) : State :=
  [o.d.opA, o.d.opB, o.d.opD].foldl (fun s h =>
    match s.tensor o h with
    | none => s
    | some d =>
      match s.foreign o.d.tenant (s.tensorSpan o h d 0 1) with
      | none => s
      | some a => s.discardXfer o.d.tenant a) s

/-- FP32 words written from offset `off` of a tensor. -/
def State.putWords (s : State) (o : Op) (h : Handle) (d : TDesc) (off : Nat) (ws : List (BitVec 32)) : State :=
  s.putTensor o h d off (ws.flatMap fun w => le 4 w.toNat)

/-- The first and last octet of `n` octets of a tensor have places; else the fault of the first that has none. -/
def State.tensorFault (s : State) (o : Op) (h : Handle) (d : TDesc) (n : Nat) : Option Fault :=
  if d.tier = 3 ∨ d.tier = 4 then none
  else
    let bad := fun off => match s.tensorPlace o h d off with
      | none => some (Fault.noSuchAddress d.tier d.unit)
      | some p => if p.flat = none then some p.fault else none
    match bad 0 with
    | some f => some f
    | none => bad (n - 1)

/-- The octets that a tensor's elements take. -/
def TDesc.octets (d : TDesc) : Nat := (d.rows * d.cols * fmtBits d.fmt + 7) / 8

/-- The effect `r` where each operand's octets have places, and the fault of the first operand that has none. -/
def State.withPlaces (s : State) (o : Op) (hs : List (Handle × Nat)) (r : Res) : Res :=
  match hs.findSome? (fun x => match s.tensor o x.1 with | some d => s.tensorFault o x.1 d x.2 | none => none) with
  | some f => .fault f
  | none => r

/-! ### Operations in flight -/

/-- The operation in a slot when it is of the kind and in the phase. -/
def State.opIn (s : State) (slot : Nat) (k : OpKind) (p : OpPhase) : Option Op :=
  match s.op slot with
  | some o => if o.d.kind = k ∧ o.phase = p then some o else none
  | none => none

/-- The operation in a slot, changed. -/
def State.setOp (s : State) (slot : Nat) (f : Op → Op) : State := s.modOp slot fun o => o.map f

/-- An operation's work has all ended: it may complete (R181). -/
def State.workDone (s : State) (slot : Nat) : State := s.setOp slot fun o => { o with workDone := true }

/-- The status byte of a completion record (R186). -/
def FailSt.code : FailSt → Nat
  | .none => 0 | .poisoned => 1 | .cancelled => 2 | .timeout => 3 | .failed => 4

/-- An operation is to stop at its boundary with a status; the first cause is kept (R191). -/
def State.stopOp (s : State) (slot : Nat) (st : FailSt) : State :=
  s.setOp slot fun o => { o with stopping := if o.stopping = .none then st else o.stopping }

/-- The pod of an operation, as cluster * 16 + pod. -/
def Op.podOf (o : Op) : Nat := o.d.cluster * 16 + o.d.pod

/-- Tenant counter of block `base` raised for an operation. -/
def State.ocount (s : State) (o : Op) (base sub n : Nat) : State := if n = 0 then s else s.tcount o.d.tenant base sub n

end Sys2Proof.Machine
end

