-- ==== Sys2Proof/Machine/Codec.lean ====
section
/-! DEFINITION. Exponent compression: canonical codes, block layout, encoding, and the parallel and serial decoders (R153..R166). -/

namespace Sys2Proof.Machine

/-- Octets of a place (R155). -/
def placeBytes : Nat := 4096

/-- Bits of an exponent, tail bits and octets of an element, by the format codes 0 FP32, 1 FP16, 2 BF16 (R156, R157). -/
def expBits (fmt : Nat) : Nat := if fmt = 1 then 5 else 8
/-- Sign and mantissa bits of an element (R157). -/
def tailBits (fmt : Nat) : Nat := if fmt = 0 then 24 else if fmt = 1 then 11 else 8
/-- Octets of an element. -/
def elemBytes (fmt : Nat) : Nat := if fmt = 0 then 4 else 2
/-- S of R157: elements of a full sub-stream. -/
def subElems (fmt : Nat) : Nat := 256 / elemBytes fmt

/-- One bit more in a CRC-16 with polynomial 0x1021. -/
def crcShift (c : Nat) : Nat := if nbit c 15 then (c * 2 % 65536) ^^^ 0x1021 else c * 2 % 65536

/-- CRC-16, polynomial 0x1021, initial value 0xFFFF (R156). -/
def crc16 (bs : Bytes) : Nat :=
  bs.foldl (fun c b => crcShift (crcShift (crcShift (crcShift (crcShift (crcShift (crcShift (crcShift (c ^^^ (b * 256))))))))) ) 0xFFFF

/-- The exponent of an element code, and its tail: sign, then mantissa. -/
def splitElem (fmt v : Nat) : Nat × Nat :=
  let m := tailBits fmt - 1
  (nbits v m (expBits fmt), v / 2 ^ (m + expBits fmt) % 2 * 2 ^ m + v % 2 ^ m)

/-- The element of an exponent and a tail. -/
def joinElem (fmt ex tail : Nat) : Nat :=
  let m := tailBits fmt - 1
  tail / 2 ^ m * 2 ^ (m + expBits fmt) + ex * 2 ^ m + tail % 2 ^ m

/-- Canonical codes: ascending length, ascending exponent value within a length, from all zeros (R158): length, code, value. -/
def canonFrom (lens : SMap Nat) (alphabet : Nat) : Nat → Nat → Nat → List (Nat × Nat × Nat)
  | 0, _, _ => []
  | n + 1, len, code =>
    let es := (List.range alphabet).filter fun e => mget 0 lens e == len
    ((List.range es.length).map fun i => (len, code + i, (es[i]?).getD 0)) ++ canonFrom lens alphabet n (len + 1) ((code + es.length) * 2)

/-- The canonical code of a table. -/
def canon (fmt : Nat) (lens : SMap Nat) : List (Nat × Nat × Nat) := canonFrom lens (2 ^ expBits fmt) 12 1 0

/-- Whether lengths are 1..12 over the whole alphabet and the code is complete: the sum of 2^-L is 1 (R158). -/
def completeCode (fmt : Nat) (lens : SMap Nat) : Bool :=
  let ls := (List.range (2 ^ expBits fmt)).map (mget 0 lens)
  ls.all (fun l => decide (1 ≤ l ∧ l ≤ 12)) && decide ((ls.map fun l => 2 ^ (12 - l)).sum = 4096)

/-- Neighbours of a list of weighted packages joined; a last one without a neighbour is left out. -/
def packagePairs : List (Nat × List Nat) → List (Nat × List Nat)
  | a :: b :: t => (a.1 + b.1, a.2 ++ b.2) :: packagePairs t
  | _ => []

/-- Package merge: the packages of `n` levels above the leaves, by rising weight. -/
def packageMerge (leaves : List (Nat × List Nat)) : Nat → List (Nat × List Nat)
  | 0 => leaves
  | n + 1 => (leaves ++ packagePairs (packageMerge leaves n)).mergeSort fun a b => decide (a.1 ≤ b.1)

/-- n' of R159. -/
def countOf (counts : List Nat) (e : Nat) : Nat := max 1 ((counts[e]?).getD 0)

/-- Lengths of at most 12 that minimise the sum of n' * L: a value's length is the number of packages taken that hold it. -/
def mergedLens (fmt : Nat) (counts : List Nat) : SMap Nat :=
  let n := 2 ^ expBits fmt
  let leaves := ((List.range n).map fun e => (countOf counts e, [e])).mergeSort fun a b => decide (a.1 ≤ b.1)
  let taken := ((packageMerge leaves 11).take (2 * n - 2)).flatMap (·.2)
  (List.range n).map fun e => (e, taken.count e)

/-- The sum of n' * L over an alphabet (R159). -/
def codeCost (fmt : Nat) (counts : List Nat) (lens : SMap Nat) : Nat := ((List.range (2 ^ expBits fmt)).map fun e => countOf counts e * mget 0 lens e).sum

/-- The lengths that the table builder gives the counts: a complete code of lengths 1..12 with the least sum of n' * L. Which one of several is open, and the one fixed algorithm chooses (R159; log entry 24). -/
def buildLens (fmt : Nat) (counts : List Nat) : SMap Nat :=
  let lens := (List.range (2 ^ expBits fmt)).map fun e => (e, Config.codeLength counts e)
  if completeCode fmt lens && decide (codeCost fmt counts lens ≤ codeCost fmt counts (mergedLens fmt counts)) then lens else mergedLens fmt counts

/-- `n` bits of a number, most significant first. -/
def bitsOf : Nat → Nat → List Bool
  | 0, _ => []
  | n + 1, v => nbit v n :: bitsOf n v

/-- Bits packed into octets from bit 7 down, zero bits filling the last one (R157). -/
def packBits : Nat → List Bool → Bytes
  | 0, _ => []
  | _ + 1, [] => []
  | k + 1, bs => ((bs.take 8 ++ List.replicate 8 false).take 8).foldl (fun n b => 2 * n + if b then 1 else 0) 0 :: packBits k (bs.drop 8)

/-- Octets as bits, bit 7 first. -/
def unpackBits (bs : Bytes) : List Bool := bs.flatMap (bitsOf 8)

/-- A number from bits, most significant first. -/
def ofBits (bs : List Bool) : Nat := bs.foldl (fun n b => 2 * n + if b then 1 else 0) 0

/-- Sub-stream of elements: tails, then codes from the next octet (R157). -/
def encodeSub (fmt : Nat) (code : List (Nat × Nat × Nat)) (elems : List Nat) : Bytes :=
  let tails := elems.flatMap fun v => bitsOf (tailBits fmt) (splitElem fmt v).2
  let codes := elems.flatMap fun v =>
    match code.find? fun c => c.2.2 == (splitElem fmt v).1 with
    | some c => bitsOf c.1 c.2.1
    | none => []
  packBits (tails.length + 1) tails ++ packBits (codes.length + 1) codes

/-- Offsets of the 16 sub-streams, from 0x30 on (R156). -/
def subOffsets : Nat → List Bytes → List Nat
  | _, [] => []
  | at', b :: t => at' :: subOffsets (at' + b.length) t

/-- The 48-octet header with HCHK (R156). -/
def blockHeader (fmt table count : Nat) (offs : List Nat) : Bytes :=
  let body := fun (chk : Nat) => le 1 fmt ++ [0] ++ le 2 table ++ le 2 count ++ le 2 chk ++ (offs.flatMap fun o => le 2 o) ++ List.replicate 8 0
  body (crc16 (body 0))

/-- A block encoded with a table; none where it would take 4,096 octets or more and is stored raw (R157). -/
def encodeBlock (fmt table : Nat) (lens : SMap Nat) (elems : List Nat) : Option Bytes :=
  let code := canon fmt lens
  let n := subElems fmt
  let subs := (List.range 16).map fun j => encodeSub fmt code ((elems.drop (n * j)).take n)
  let bs := blockHeader fmt table elems.length (subOffsets 0x30 subs) ++ subs.flatten
  let len := (bs.length + 15) / 16 * 16
  if placeBytes ≤ len then none else some (bs ++ List.replicate (len - bs.length) 0)

/-- Codes decoded from bits: the values, and the bits left; none where the bits end first (R165). -/
def decodeCodes (code : List (Nat × Nat × Nat)) : Nat → List Bool → Option (List Nat × List Bool)
  | 0, bs => some ([], bs)
  | n + 1, bs =>
    match code.find? fun c => decide (c.1 ≤ bs.length) && ofBits (bs.take c.1) == c.2.1 with
    | none => none
    | some c =>
      match decodeCodes code n (bs.drop c.1) with
      | none => none
      | some r => some (c.2.2 :: r.1, r.2)

/-- A sub-stream of `c` elements decoded: the elements and the octets that follow its last code; none where its bits end early or its padding bits are not zero. -/
def decodeSub (fmt : Nat) (code : List (Nat × Nat × Nat)) (c : Nat) (bs : Bytes) : Option (List Nat × Bytes) :=
  let tb := tailBits fmt
  let t := (c * tb + 7) / 8
  if bs.length < t then none
  else
    let tails := unpackBits (bs.take t)
    match decodeCodes code c (unpackBits (bs.drop t)) with
    | none => none
    | some (es, rest) =>
      let pad := rest.length % 8
      if (tails.drop (c * tb)).all (!·) && (rest.take pad).all (!·) then
        some ((List.range c).map fun i => joinElem fmt ((es[i]?).getD 0) (ofBits ((tails.drop (i * tb)).take tb)), bs.drop (bs.length - rest.length / 8))
      else none

/-- What a place of a compressed tensor holds for a reader. -/
inductive BlockRead where
  | raw (elems : List Nat)
  | good (elems : List Nat)
  | badHeader
  | poisoned
deriving DecidableEq, Repr

/-- c_j of R157. -/
def subCount (fmt count j : Nat) : Nat := min (subElems fmt) (count - subElems fmt * j)

/-- The sub-streams read by the parallel decoders, each between its offsets; the last may be followed by the zero octets that pad the block to its length (R157, R165). -/
def decodeParallel (fmt count : Nat) (code : List (Nat × Nat × Nat)) (offs : List Nat) (bs : Bytes) : Option (List Nat) :=
  let subs := (List.range 16).map fun j =>
    let lo := (offs[j]?).getD 0
    let hi := (offs[j + 1]?).getD bs.length
    match decodeSub fmt code (subCount fmt count j) ((bs.drop lo).take (hi - lo)) with
    | none => none
    | some (es, rest) => if rest.all (· == 0) && decide (rest.length ≤ if j = 15 then 15 else 0) then some es else none
  if subs.all (·.isSome) then some (subs.flatMap fun x => x.getD []) else none

/-- The sub-streams read one after another by the serial decoder (R164). -/
def decodeSerial (fmt count : Nat) (code : List (Nat × Nat × Nat)) : Nat → Nat → Bytes → Option (List Nat)
  | 0, _, bs => if bs.all (· == 0) && decide (bs.length ≤ 15) then some [] else none
  | n + 1, j, bs =>
    match decodeSub fmt code (subCount fmt count j) bs with
    | none => none
    | some (es, rest) =>
      match decodeSerial fmt count code n (j + 1) rest with
      | none => none
      | some more => some (es ++ more)

/-- Whether a header that passes its check agrees with the tensor descriptor and with R156. -/
def headerOk (fmt table count : Nat) (bs : Bytes) : Bool :=
  let u16 := fun i => unle ((bs.drop i).take 2)
  let offs := (List.range 16).map fun j => u16 (8 + 2 * j)
  decide (unle (bs.take 1) = fmt) && decide ((bs[1]?).getD 0 = 0) && decide (u16 2 = table) && decide (u16 4 = count) &&
  ((bs.drop 0x28).take 8).all (· == 0) && decide ((offs[0]?).getD 0 = 0x30) &&
  (List.range 16).all fun j => decide ((offs[j]?).getD 0 ≤ (offs[j + 1]?).getD bs.length)

/-- Raw elements of a place. -/
def rawElems (fmt count : Nat) (bs : Bytes) : List Nat :=
  (List.range count).map fun i => unle ((bs.drop (i * elemBytes fmt)).take (elemBytes fmt))

/-- A place read through its map entry: raw, decoded in parallel (or serially throughout while the self-test has not ended), with a header that fails HCHK, or POISONED, as a header that passes HCHK and is wrong always is (R155, R164, R165). -/
def readBlock (selfTest : Bool) (fmt table count entry : Nat) (lens : SMap Nat) (bs : Bytes) : BlockRead :=
  let raw := nbit entry 15
  let len16 := entry % 512
  if nbits entry 9 6 ≠ 0 ∨ (raw = true ∧ len16 ≠ 256) ∨ (raw = false ∧ (len16 < 3 ∨ 255 < len16)) then .poisoned
  else if raw then .raw (rawElems fmt count bs)
  else
    let b := bs.take (len16 * 16)
    let code := canon fmt lens
    let checked := decide (crc16 (b.take 6 ++ [0, 0] ++ (b.take 0x30).drop 8) = unle ((b.drop 6).take 2))
    if checked && !headerOk fmt table count b then .poisoned
    else if selfTest then
      match decodeSerial fmt count code 16 0 (b.drop 0x30) with
      | some es => .good es
      | none => .poisoned
    else if !checked then .badHeader
    else
      match decodeParallel fmt count code ((List.range 16).map fun j => unle ((b.drop (8 + 2 * j)).take 2)) b with
      | some es => .good es
      | none => .poisoned

/-! ### Compressed tensors in memory -/

/-- Elements of place `b` of a tensor: only the last place may hold fewer (R155). -/
def TDesc.placeCount (d : TDesc) (b : Nat) : Nat := min (placeBytes / elemBytes d.fmt) (d.rows * d.cols - b * (placeBytes / elemBytes d.fmt))

/-- Places of a tensor. -/
def TDesc.places (d : TDesc) : Nat := cdiv (d.rows * d.cols * elemBytes d.fmt) placeBytes

/-- The block map entry of a place; the map stands at AUX (R155, R170). -/
def State.mapEntry (s : State) (o : Op) (h : Handle) (d : TDesc) (b : Nat) : Nat :=
  unle (s.tensorOctets o h { d with base := d.aux } (2 * b) 2)

/-- The table of a tenant as the expanders hold it. -/
def State.lensOf (s : State) (t id : Nat) : SMap Nat :=
  match s.table (t * 4096 + id) with
  | some x => x.lens
  | none => []

/-- A place of a compressed tensor, read. -/
def State.readPlace (s : State) (o : Op) (h : Handle) (d : TDesc) (b : Nat) : BlockRead :=
  let e := s.mapEntry o h d b
  let n := if nbit e 15 then placeBytes else e % 512 * 16
  readBlock s.exp.selfTesting d.fmt d.table (d.placeCount b) e (s.lensOf o.d.tenant d.table) (s.tensorOctets o h d (b * placeBytes) n)

/-- A place recovered by the serial decoder. -/
def State.serialPlace (s : State) (o : Op) (h : Handle) (d : TDesc) (b : Nat) : Option (List Nat) :=
  let e := s.mapEntry o h d b
  decodeSerial d.fmt (d.placeCount b) (canon d.fmt (s.lensOf o.d.tenant d.table)) 16 0 ((s.tensorOctets o h d (b * placeBytes) (e % 512 * 16)).drop 0x30)

/-- The occurrence of a tensor that an operation means: that of its step for a scratch tensor, the one there is for a static tensor. -/
def Op.occurrence (o : Op) (h : Handle) : Nat := if h.tab = 2 then o.run else 0

/-- The table with which the occurrence of a tensor is encoded; none while it is raw throughout. -/
def State.codedWith (s : State) (o : Op) (h : Handle) : Option Nat :=
  match mget 0 (s.act (actKey o.d.tenant o.slotModel h.code)).coded (o.occurrence h) with
  | 0 => none
  | t + 1 => some t

/-- The tensor descriptor that readers and writers of an activation use: the table is the one that its present occurrence is encoded with (R159). -/
def State.actTable (s : State) (o : Op) (h : Handle) (d : TDesc) : TDesc :=
  match s.codedWith o h with
  | some t => { d with table := t }
  | none => d

/-- The value of element (r, c) of a compressed tensor. -/
def State.elemComp (s : State) (o : Op) (h : Handle) (d : TDesc) (r c : Nat) : Val :=
  let i := tileBit d r c / fmtBits d.fmt
  let per := placeBytes / elemBytes d.fmt
  let es := match s.readPlace o h d (i / per) with
    | .raw es => es
    | .good es => es
    | .badHeader => (s.serialPlace o h d (i / per)).getD []
    | .poisoned => []
  match fmtOf d.fmt with
  | some f => decodeVal f ((es[i % per]?).getD 0)
  | none => .nan

/-- The value of element (r, c) of a tensor, raw or compressed. -/
def State.elem (s : State) (o : Op) (h : Handle) (r c : Nat) : Val :=
  match s.tensor o h with
  | none => .fin false 0 0
  | some d => if d.comp then s.elemComp o h (s.actTable o h d) r c else s.elemRaw o h d r c

/-- The counts of the exponent values among elements. -/
def exponentCounts (fmt : Nat) (es : List Nat) : SMap Nat := es.foldl (fun m v => mmod 0 m (splitElem fmt v).1 (· + 1)) []

/-- A place written with its map entry: encoded by a table, or raw (R155, R157). -/
def State.writePlace (s : State) (o : Op) (h : Handle) (d : TDesc) (table : Option Nat) (b : Nat) (es : List Nat) : State × Bool :=
  let coded := match table with
    | some t => encodeBlock d.fmt t (s.lensOf o.d.tenant t) es
    | none => none
  match coded with
  | some bs => ((s.putTensor o h d (b * placeBytes) bs).putTensor o h { d with base := d.aux } (2 * b) (le 2 (bs.length / 16)), false)
  | none => ((s.putTensor o h d (b * placeBytes) (es.flatMap fun v => le (elemBytes d.fmt) v)).putTensor o h { d with base := d.aux } (2 * b) (le 2 (2 ^ 15 + 256)), true)

/-- A place of an occurrence that earlier operations have left compressed, made raw again for the next one that writes it: no element is lost (R153). -/
def State.unpackPlace (s : State) (o : Op) (h : Handle) (d : TDesc) (b : Nat) : State :=
  match s.readPlace o h (s.actTable o h d) b with
  | .good es => (s.writePlace o h d none b es).1
  | .badHeader => match s.serialPlace o h (s.actTable o h d) b with
    | some es => (s.writePlace o h d none b es).1
    | none => s
  | _ => s

/-- The marked tensors that an operation writes: the handles, with their descriptors. -/
def State.markedOutputs (s : State) (o : Op) : List (Handle × TDesc) :=
  (((s.opPlan o).writesOf (s.opTemplate o)).dedup).filterMap fun h => match s.tensor o h with
    | some d => if d.comp then some (h, d) else none
    | none => none

/-- An operation that writes a part of a marked tensor finds its places raw (R153, R159). -/
def State.openOutputs (s : State) (o : Op) : State :=
  (s.markedOutputs o).foldl (fun s x => (List.range x.2.places).foldl (fun s b => s.unpackPlace o x.1 x.2 b) s) s

end Sys2Proof.Machine
end

