-- ==== Sys2Proof/Machine/StreamOps.lean ====
section
/-! DEFINITION. The shared operations of weight streaming and of the system cache: stream lists, credits, first blocks, lateness, consumption and discard; lines and their ways (R207..R209, R217..R227). -/

namespace Sys2Proof.Machine

/-! ### Pods (R164, R213) -/

/-! ### Units and shares (R174, R185, R187) -/

/-- The dispatcher of an operation: pods, vector units, movers, and per tenant the vault and the synchronisation engine. -/
def Op.unit (o : Op) : Nat :=
  match o.d.kind with
  | .fgemm | .fattn => o.podOf
  | .vprog | .corr | .route => 256 + o.podOf
  | .move | .kvscat | .kvflush => 512 + o.d.cluster
  | .vmvm => 528 + o.d.tenant
  | .sync => 540 + o.d.tenant

/-- The shadow operations that hold a pod (R84, R87). -/
def State.podShadows (s : State) (p : Nat) : Nat := (s.vault.shadows.filter fun x => decide (x.pod = some p)).length

/-- Operations that a pod has: planned ones and shadow operations. -/
def State.podLoad (s : State) (p : Nat) : Nat :=
  mcount (fun _ o => match o with | some x => decide (x.podOf = p) && decide (x.phase ≠ .posted) | none => false) s.ops.slots + s.podShadows p

/-- Whether an operation holds its unit; a KVSCAT that waits for a KVFLUSH leaves its mover to it (R144; DESIGN CHOICE, log entry 33). -/
def Op.holds (o : Op) : Bool := decide (o.phase = .dispatched) || (decide (o.phase = .started) && decide (o.waitAt = 0))

/-- Planned fabric operations that hold a pod. -/
def State.podHeld (s : State) (p : Nat) : Nat :=
  mcount (fun _ o => match o with | some x => decide (x.podOf = p) && x.holds && (decide (x.d.kind = .fgemm) || decide (x.d.kind = .fattn)) | none => false) s.ops.slots

/-- How many operations hold a unit; shadow operations count on their pods (R105, R110). -/
def State.unitHeld (s : State) (u : Nat) : Nat :=
  mcount (fun _ o => match o with | some x => x.holds && decide (x.unit = u) | none => false) s.ops.slots + if u < 256 then s.podShadows u else 0

/-- Operations that a unit holds at once: two on a pod, one on a vector unit or mover; the vault's arrays queue their MVMs (R105, R185). -/
def unitCap (u : Nat) : Nat := if u < 256 then 2 else if u < 528 then 1 else 16384

/-- Operations of a tenant in flight (OPS_INFLIGHT, R187). -/
def State.opsInFlight (s : State) (t : Nat) : Nat := mcount (fun _ o => match o with | some x => decide (x.d.tenant = t) | none => false) s.ops.slots
/-- OPS_SHARE, SYNC_SHARE and their IMM reserves (R194). -/
def State.shareLeft (s : State) (t : Nat) (imm : Bool) : Nat :=
  s.sv (0x7300 + t) 1 2048 - (if imm then 0 else s.sv (0x7300 + t) 3 512) - s.opsInFlight t
/-- The pod of a cluster that a shadow operation takes: one that holds fewer than two operations and no other shadow operation, and is not withdrawn; the least loaded (R84, R87, R105, R164). -/
def State.shadowPod (s : State) (c : Nat) : Option Nat :=
  minBy s.podLoad (((List.range 16).map fun k => c * 16 + k).filter fun p =>
    !s.exp.withdrawn.contains p && decide (s.podHeld p < 2) && decide (s.podShadows p = 0))

/-- The pod of a cluster with the fewest operations; a withdrawn pod receives nothing (R164, R213). -/
def State.leastPod (s : State) (c : Nat) : Nat :=
  match minBy s.podLoad (((List.range 16).map fun k => c * 16 + k).filter fun p => !s.exp.withdrawn.contains p) with
  | some p => p % 16
  | none => 0

/-- A pod's cores begin k-steps for a tenant: a start from idle is counted, and its ramp adds 28 hs (R106, R109). -/
def State.wakePod (s : State) (pod t : Nat) : State :=
  let s := if (s.pod pod).idle then (s.tcount t 0xA400 5 1).tcount t 0xA400 2 28 else s
  s.modPod pod fun q => { q with idle := false, stopped := true }

/-! ### Stream lists (R218, R219) -/

/-- Octets of a block. -/
def SEntry.octets (e : SEntry) : Nat := e.len16 * 16

/-- Credits of a block: 256 octets each (R220). -/
def SEntry.credits (e : SEntry) : Nat := cdiv e.octets 256

/-- Octets of a tile (R200). -/
def TDesc.tileOctets (d : TDesc) : Nat := 32 * fmtBits d.fmt

/-- LEN16 of block `b`: that of its map entry for a compressed tensor, else what is left of 4 KiB. -/
def State.blockLen16 (s : State) (o : Op) (h : Handle) (d : TDesc) (b : Nat) : Nat :=
  if d.comp then s.mapEntry o h d b % 512 else min 256 (cdiv (d.octets - b * placeBytes) 16)

/-- One entry of the stream list of a weight operand. -/
def State.weightEntry (s : State) (o : Op) (h : Handle) (d : TDesc) (layer n b : Nat) : SEntry :=
  let per := max 1 (placeBytes / d.tileOctets)
  let e := s.mapEntry o h d b
  { src := (match s.tensorExtent o h with | some x => x.base | none => 0) + d.base + b * placeBytes, len16 := s.blockLen16 o h d b, fmt := d.fmt,
    comp := d.comp, raw := d.comp && nbit e 15, eol := decide (b + 1 = n), table := d.table, layer := layer, tile := b * per, tiles := per, gen := o.d.gen }

/-- The stream list of a weight operand: a compressed block for each place, or at most 4 KiB of consecutive tiles. -/
def State.weightList (s : State) (o : Op) (h : Handle) (d : TDesc) (layer : Nat) : List SEntry :=
  let n := if d.comp then d.places else cdiv d.octets placeBytes
  (List.range n).map fun b => s.weightEntry o h d layer n b

/-- The list of a shadow operation: 257 entries of 4 KiB of the copy, from its first octet on (R219). -/
def copyList (base gen layer : Nat) (ufs : Bool) : List SEntry :=
  (List.range 257).map fun b => { src := base + b * placeBytes, len16 := 256, fmt := 9, eol := decide (b = 256), pair := true, ufs := ufs, layer := layer, tile := b, tiles := 1, gen := gen }

/-- The entries of a warm KV page: 16 of 4 KiB in the pair-local view (R210, R217). -/
def pageList (page layer gen : Nat) : List SEntry :=
  (List.range 16).map fun b => { src := page * 65536 + b * placeBytes, len16 := 256, fmt := 3, pair := true, layer := layer, tile := b, tiles := 1, gen := gen }

/-! ### Engines (R220, R221) -/

/-- Whether an engine has entries to issue. -/
def Engine.wants (e : Engine) : Bool := e.streams.any fun x => decide (x.next < x.list.length)

/-- Credits that an engine holds. -/
def Engine.held (e : Engine) : Nat := (e.xfers.map (·.credits)).sum

/-- Transfers outstanding. -/
def Engine.outstanding (e : Engine) : Nat := (e.xfers.filter fun x => !x.landed).length

/-- A stream joins the engine of a pod; one of the same operation and operand reads on. -/
def Engine.add (e : Engine) (x : Stream) : Engine :=
  if x.list = [] then e
  else if e.streams.any fun y => decide (y.slot = x.slot ∧ y.operand = x.operand) then
    { e with streams := e.streams.map fun y => if y.slot = x.slot ∧ y.operand = x.operand then { y with list := y.list ++ x.list } else y }
  else { e with streams := e.streams ++ [x] }

/-- The landed blocks of an operation are consumed and their credits return (R220). -/
def Engine.consume (e : Engine) (slot : Nat) : Engine :=
  let mine := fun (x : Xfer) => decide (x.slot = slot) && x.landed && !x.discard
  { streams := e.streams.map fun y => if y.slot = slot then { y with consumed := y.consumed + (e.xfers.filter fun x => mine x && decide (x.operand = y.operand)).length } else y,
    xfers := e.xfers.filter fun x => !mine x }

/-- Blocks of an operation that have landed and are not consumed. -/
def Engine.landedOf (e : Engine) (slot : Nat) : Nat := (e.xfers.filter fun x => decide (x.slot = slot) && x.landed).length

/-- The streams of an operation that will read no more: its landed blocks are discarded, its outstanding transfers land to be discarded (R225, R227). -/
def Engine.drop (e : Engine) (slot : Nat) : Engine :=
  { streams := e.streams.filter fun y => decide (y.slot ≠ slot),
    xfers := (e.xfers.filter fun x => !(decide (x.slot = slot) && x.landed)).map fun x => if x.slot = slot then { x with discard := true } else x }

/-- The streams of an operation, over all engines. -/
def State.streamsOf (s : State) (slot : Nat) : List Stream := s.streams.engines.flatMap fun e => e.2.streams.filter fun y => decide (y.slot = slot)

/-- Whether the first block of each streamed operand has landed (R225). -/
def State.firstBlocks (s : State) (slot : Nat) : Bool := (s.streamsOf slot).all (·.firstLanded)

/-- Whether every streamed operand has been consumed whole. -/
def State.streamed (s : State) (slot : Nat) : Bool := (s.streamsOf slot).all fun y => decide (y.list.length ≤ y.consumed)

/-- Every engine changed; an engine with nothing left is not listed. -/
def State.mapEngines (s : State) (f : Engine → Engine) : State :=
  { s with streams := { s.streams with engines := mmap Engine.init (fun _ e => f e) s.streams.engines } }

/-- An operation begins on its unit and consumes what has landed for it (R182, R190, R220); reads that reach another tenant's cluster are reported (R22), and the compressed tensors that it writes are open for it. -/
def State.startOp (s : State) (slot : Nat) : State :=
  let t := (s.setOp slot fun o => { o with phase := .started, startAt := s.now }).mapEngines fun e => e.consume slot
  match s.op slot with
  | some o => (t.readForeign o).openOutputs o
  | none => t

/-- The streams of an operation end; blocks that it will not read are discarded (R227). -/
def State.endStreams (s : State) (slot : Nat) : State :=
  let n := (s.streams.engines.map fun e => e.2.landedOf slot).sum
  let t := match s.op slot with | some o => o.d.tenant | none => 0
  let s := s.mapEngines fun e => e.drop slot
  let s : State := { s with streams := { s.streams with lates := s.streams.lates.filter fun l => decide (l.slot ≠ slot) } }
  if n = 0 then s else s.tcount t 0xAA00 6 n

/-- The streams of an operation placed on a pod: the static or adapter operands of an FGEMM that lie in DRAM (R217). -/
def State.openWeights (s : State) (slot : Nat) (o : Op) (layer : Nat) : State :=
  let x := fun (h : Handle) (k : Nat) (e : Engine) =>
    match s.tensor o h with
    | some d => if d.tier = 2 ∧ (h.tab = 0 ∨ o.adapter.isSome = true ∧ h = o.d.opB) then
        e.add { slot := slot, operand := k, tenant := o.d.tenant, imm := decide (o.d.cls = .imm), weight := true, list := s.weightList o h d layer }
      else e
    | none => e
  s.modEngine o.podOf fun e => x o.d.opB 1 (x o.d.opA 0 e)

/-- Whether the copy of weights is held hot in a cluster's store (R87, R199). -/
def State.copyHot (s : State) (cluster : Nat) (w : WContent) : Bool := s.tiers.hotCopies.any fun x => decide (x.cluster = cluster ∧ x.content = w)

/-- Number of a copy in the COPIES section of its image, which holds them projection by projection (R253). -/
def State.copyIndex (s : State) (w : WContent) : Nat :=
  match (s.mslot w.tenant w.slot).imageAt w.gen with
  | some x => let p := (x.1.plan.projs[w.proj]?).getD Proj.init; p.firstCopy + w.cb * p.rowCount + w.rb
  | none => 0

/-- Where the copy of a shadow operation begins: in its reserve slot's pair-local view, or among the records of its image on UFS. -/
def State.copyStart (s : State) (stratum : Nat) (w : WContent) (ufs : Bool) : Nat :=
  match ufs, (s.stratum stratum).copyAt with
  | false, some c => c.base
  | _, _ => s.copyIndex w * copyBytes

/-- The stream of a shadow operation on its pod; its operand number is 4 + the stratum (R84, R217). A copy held hot in the cluster's store is not fetched (R87). -/
def State.openCopy (s : State) (slot pod stratum : Nat) (w : WContent) (ufs : Bool) : State :=
  match s.op slot with
  | none => s
  | some o =>
    if s.copyHot (pod / 16) w then s
    else s.modEngine pod fun e => e.add { slot := slot, operand := 4 + stratum, tenant := o.d.tenant, imm := decide (o.d.cls = .imm), weight := true,
                                          list := copyList (s.copyStart stratum w ufs) w.gen (s.opTemplate o).layer ufs }

/-- A shadow operation that waits for a pod takes one of its cluster's, where one is open (R87, R185). -/
def State.placeShadow (s : State) (x : ShadowOp) : State :=
  if x.pod.isSome then s
  else match s.shadowPod x.cluster with
    | none => s
    | some p => ({ s with vault := { s.vault with shadows := modFirst (fun y => decide (y = x)) (fun y => { y with pod := some p }) s.vault.shadows } } : State).openCopy x.op p x.stratum x.content x.fromUfs

/-- Whether the operation that a shadow operation serves is IMM. -/
def State.shadowImm (s : State) (x : ShadowOp) : Bool := match s.op x.op with | some o => decide (o.d.cls = .imm) | none => false

/-- The shadow operations that wait for a pod take those that are open: IMM ones first, then in the order of their forming (R87, R185). -/
def State.placeShadows (s : State) : State :=
  ((s.vault.shadows.filter s.shadowImm) ++ s.vault.shadows.filter fun x => !s.shadowImm x).foldl State.placeShadow s

/-- Whether the copy of a shadow operation has been consumed whole. -/
def State.copyStreamed (s : State) (slot stratum : Nat) : Bool := (s.streamsOf slot).all fun y => decide (y.operand ≠ 4 + stratum) || decide (y.list.length ≤ y.consumed)

/-! ### Channels (R244) -/

/-- SR_IDLE (R249). -/
def State.srIdle (s : State) : Nat := s.pv 0x8201 1 1000000

/-- A request reaches a channel: it leaves self-refresh, and its next idle period begins after it (R244). -/
def State.wakeChan (s : State) (ch : Nat) : State :=
  s.modChan ch fun c => { c with state := if c.state = .selfRefresh then .active else c.state, lastBusy := s.now, idleLimit := s.srIdle }

/-! ### System cache (R207..R209) -/

/-- Whether tenant `t` places lines in a way: it owns the way and no hand-over is pending (R209). -/
def State.mayUseWay (s : State) (t slice way : Nat) : Bool :=
  decide (s.wayOwner (slice * 32 + way) = t + 1) && decide (s.wayNext (slice * 32 + way) = 0)

/-- The line address of a channel data address: lines of 128 octets. -/
def lineAddress (ch a : Nat) : Nat := ch * 2 ^ 26 + a / 128

/-- The lines that tenant `t` may use for a line address: their keys, way by way. -/
def State.lineKeys (s : State) (t ch a : Nat) : List Nat :=
  let slice := ch / 4
  let set' := Config.cacheSet (lineAddress ch a) % 1024
  ((List.range 32).filter fun w => s.mayUseWay t slice w).map fun w => (slice * 32 + w) * 1024 + set'

/-- The key at which a line stands in a tenant's ways. -/
def State.lineAt (s : State) (t ch a : Nat) : Option Nat :=
  (s.lineKeys t ch a).find? fun k => (s.line k).valid && decide ((s.line k).tag = lineAddress ch a)

/-- The key that a new line takes: an empty one, else the least recently used (R206). -/
def State.lineVictim (s : State) (t ch a : Nat) : Option Nat :=
  minBy (fun k => if (s.line k).valid then (s.line k).used + 1 else 0) (s.lineKeys t ch a)

/-- An access of a tenant to a line: a hit, or a miss that allocates where its kind does (R207). -/
def State.cacheAccess (s : State) (t ch a : Nat) (allocates write : Bool) : State × Bool :=
  match s.lineAt t ch a with
  | some k => ((s.modLine k fun l => { l with used := s.now, dirty := l.dirty || write }).tcount t 0xA900 2 1, true)
  | none =>
    let s := s.tcount t 0xA900 3 1
    if allocates then
      match s.lineVictim t ch a with
      | none => (s, false)
      | some k => (s.modLine k fun _ => { valid := true, tag := lineAddress ch a, dirty := write, used := s.now }, false)
    else (s, false)

/-! ### Lateness (R226) -/

/-- The operations that wait for a first block of a weight or a copy, each from the time it became eligible. -/
def State.noteLates (s : State) (eligible : Op → Bool) : State :=
  let new := s.ops.slots.filterMap fun e => match e.2 with
    | some o =>
      if o.phase = .waiting ∧ eligible o = true ∧ (s.streams.lates.all fun l => decide (l.slot ≠ e.1)) = true ∧
          ((s.streamsOf e.1).any fun y => y.weight && !y.firstLanded) = true
      then some { slot := e.1, since := s.now } else none
    | none => none
  if new = [] then s else { s with streams := { s.streams with lates := s.streams.lates ++ new } }

end Sys2Proof.Machine
end

