-- ==== Sys2Proof/Machine/Transcend.lean ====
section
/-! DEFINITION. The functions of R121 to R123 to 320 fractional bits, so that an error bound can be held against the exact result rounded to FP32. -/

namespace Sys2Proof.Machine

/-- Fractional bits of the fixed-point numbers here. -/
def fixBits : Nat := 320

/-- One. -/
def fixOne : Nat := 2 ^ fixBits

/-- The natural logarithm of 2. -/
def fixLn2 : Nat := 0xb17217f7d1cf79abc9e3b39803f2f6af40f343267298b62d8a0d175b8baafa2be7b876206debac98

/-- Half of pi. -/
def fixHalfPi : Nat := 0x1921fb54442d18469898cc51701b839a252049c1114cf98e804177d4c76273644a29410f31c6809bb

/-- 1 / sqrt (2 pi). -/
def fixGauss : Nat := 0x662114cf50d942343f2cf1402eae38bfd3829f30512706d8c0471b4802639d2e9df8ac55447d3db7

/-- A finite value as a fixed-point number; what lies below the last bit is dropped. -/
def fixOf : Val → Int
  | .fin neg m e =>
    let k : Int := (if 0 ≤ e + fixBits then m * 2 ^ (e + fixBits).toNat else m / 2 ^ (-(e + fixBits)).toNat : Nat)
    if neg then -k else k
  | _ => 0

/-- A fixed-point number as a value. -/
def ofFix (i : Int) : Val := Val.ofInt i (-(fixBits : Int))

/-- The terms of the exponential series from a term on: `r` the argument, `n` the next divisor. -/
def expTerms (r : Nat) : Nat → Nat → Nat → Nat
  | 0, _, t => t
  | k + 1, n, t => t + expTerms r k (n + 1) (t * r / fixOne / n)

/-- A magnitude below every FP32 result. -/
def tiny (neg : Bool) : Val := .fin neg 1 (-400)

/-- e^x of a fixed-point number below 200. -/
def expOf (x : Int) : Val :=
  if x < -(200 * fixOne : Nat) then tiny false
  else
    let k := x / (fixLn2 : Int)
    .fin false (expTerms (x - k * fixLn2).toNat 90 1 fixOne) (k - fixBits)

/-- The terms of the area tangent series: `z2` the squared argument, `n` the next odd divisor. -/
def atanhTerms (z2 : Nat) : Nat → Nat → Nat → Nat
  | 0, _, _ => 0
  | k + 1, n, t => t / n + atanhTerms z2 k (n + 2) (t * z2 / fixOne)

/-- ln (m * 2^e) of a mantissa that is not 0. -/
def lnOf (m : Nat) (e : Int) : Val :=
  let l := Nat.log2 m
  let y := m * 2 ^ fixBits / 2 ^ l
  let z := (y - fixOne) * fixOne / (y + fixOne)
  ofFix (2 * (atanhTerms (z * z / fixOne) 110 1 z : Nat) + ((l : Int) + e) * fixLn2)

/-- The terms of the sine (from `n = 1`) or cosine (from `n = 0`) series, with alternating signs. -/
def sinTerms (r2 : Nat) : Nat → Nat → Nat → Int
  | 0, _, _ => 0
  | k + 1, n, t => (t : Int) - sinTerms r2 k (n + 2) (t * r2 / fixOne / ((n + 1) * (n + 2)))

/-- The sine of an angle, or of the angle and `q` quarter turns. -/
def sinOf (q : Nat) (x : Int) : Val :=
  let k := x / (fixHalfPi : Int)
  let r := (x - k * fixHalfPi).toNat
  let r2 := r * r / fixOne
  match ((k + q) % 4).toNat with
  | 0 => ofFix (sinTerms r2 48 1 r)
  | 1 => ofFix (sinTerms r2 48 0 fixOne)
  | 2 => ofFix (-(sinTerms r2 48 1 r))
  | _ => ofFix (-(sinTerms r2 48 0 fixOne))

/-- The terms of the series of the normal distribution: `x2` the squared argument, `n` the next odd divisor. -/
def gaussTerms (x2 : Nat) : Nat → Nat → Nat → Nat
  | 0, _, _ => 0
  | k + 1, n, t => t + gaussTerms x2 k (n + 2) (t * x2 / fixOne / n)

/-- x times the normal distribution at x, the error-function form of GELU (R121). -/
def geluOf (v : Val) : Val :=
  match v with
  | .fin neg _ _ =>
    if (Val.fin false 15 0).lt v.abs then (if neg then tiny true else v)
    else
      let x := (fixOf v.abs).toNat
      let x2 := x * x / fixOne
      let density := (fixOf (expOf (-((x2 / 2 : Nat) : Int)))).toNat * fixGauss / fixOne
      let part := density * gaussTerms x2 700 3 x / fixOne
      v.mul (ofFix (if neg then (fixOne / 2 : Nat) - (part : Int) else (fixOne / 2 : Nat) + (part : Int)))
  | v => v

/-- e^-|x|. -/
def expMinus (v : Val) : Val := expOf (-(fixOf v.abs))

/-- 1 / (1 + e^-x). -/
def sigOf (v : Val) : Val :=
  let t := expMinus v
  match v with
  | .fin true _ _ => t.div ((Val.fin false 1 0).add t)
  | _ => (Val.fin false 1 0).div ((Val.fin false 1 0).add t)

/-- tanh x. -/
def tanhOf (v : Val) : Val :=
  let t := expMinus (v.mul (.fin false 2 0))
  let r := ((Val.fin false 1 0).sub t).div ((Val.fin false 1 0).add t)
  match v with
  | .fin true _ _ => r.neg
  | _ => r

/-- An open FP32 result held to a bound: it is `w` where `w` lies within `ulps` units in the last place of the rounded result `ref`, or within 2^`low` of it, and `ref` elsewhere (R121; log entry 6). -/
def holdTo (ulps : Nat) (low : Option Int) (ref w : BitVec 32) : BitVec 32 :=
  match f32 ref, f32 w with
  | .fin a m e, .fin b n f =>
    let d := ((Val.fin a m e).sub (.fin b n f)).abs
    let near := !((Val.fin false ulps e).lt d)
    let small := match low with
      | some k => !((Val.fin false 1 k).lt d)
      | none => false
    if near || small then w else ref
  | _, _ => ref

/-- A function's result: within its bound of the exact result rounded, and otherwise open (R121; log entry 6). -/
def openFn (fn ulps : Nat) (low : Option Int) (x : BitVec 32) (exact : Val) : BitVec 32 := holdTo ulps low (toF32 exact) (Config.transcend fn x)

end Sys2Proof.Machine
end

