-- ==== Sys2Proof/Machine/VecMath.lean ====
section
/-! DEFINITION. The vector unit's transcendental functions and FP32 helpers (R116, R121). -/

namespace Sys2Proof.Machine

/-- FP32 canonical NaN, infinities, zero and one (R32). -/
def nanF : BitVec 32 := 0x7FC00000
/-- +Inf. -/
def infF : BitVec 32 := 0x7F800000
/-- -Inf. -/
def ninfF : BitVec 32 := 0xFF800000
/-- 1.0. -/
def oneF : BitVec 32 := 0x3F800000

/-- Codes of the functions whose results the spec bounds. -/
def fnExp : Nat := 0
/-- ln. -/
def fnLog : Nat := 1
/-- 1/x. -/
def fnRcp : Nat := 2
/-- 1/sqrt x. -/
def fnRsq : Nat := 3
/-- Logistic sigmoid. -/
def fnSig : Nat := 4
/-- tanh. -/
def fnTanh : Nat := 5
/-- GELU. -/
def fnGelu : Nat := 6
/-- SiLU. -/
def fnSilu : Nat := 7

/-- Whether a value exceeds 88.72 (R121). -/
def aboveExp (v : Val) : Bool := (Val.fin false 8872 0).lt (v.mul (.fin false 100 0))

/-- e^x: its special values, and elsewhere within 2 ulp (R121). -/
def vexp (x : BitVec 32) : BitVec 32 :=
  match f32 x with
  | .nan => nanF
  | .inf neg => if neg then 0 else infF
  | .fin neg m e => if aboveExp (.fin neg m e) then infF else openFn fnExp 2 none x (expOf (fixOf (.fin neg m e)))

/-- ln x, within 2 ulp (R121). -/
def vlog (x : BitVec 32) : BitVec 32 :=
  match f32 x with
  | .nan => nanF
  | .inf neg => if neg then nanF else infF
  | .fin neg m e => if m = 0 then ninfF else if neg then nanF else openFn fnLog 2 none x (lnOf m e)

/-- 1/x, within 1 ulp of the exact result rounded (R121). -/
def vrcp (x : BitVec 32) : BitVec 32 := openFn fnRcp 1 none x ((Val.fin false 1 0).div (f32 x))

/-- The clamp that R39 counts where 1/x exceeds the range. -/
def rcpClamp (x : BitVec 32) : Nat := clampF32 ((Val.fin false 1 0).div (f32 x))

/-- 1/sqrt x, within 1 ulp of the exact result rounded (R121). -/
def vrsq (x : BitVec 32) : BitVec 32 := openFn fnRsq 1 none x (f32 x).rsqrt

/-- A function with given values at the infinities, and elsewhere within `ulps` or 2^`low` of its exact result (R121). -/
def vbounded (fn ulps : Nat) (low : Int) (atNeg atPos : BitVec 32) (exact : Val → Val) (x : BitVec 32) : BitVec 32 :=
  match f32 x with
  | .nan => nanF
  | .inf neg => if neg then atNeg else atPos
  | v => openFn fn ulps (some low) x (exact v)

/-- -0, -1 as FP32 words. -/
def nzeroF : BitVec 32 := 0x80000000
/-- -1. -/
def noneF : BitVec 32 := 0xBF800000

/-- Logistic sigmoid: 2 ulp or 2^-24 (R121). -/
def vsig (x : BitVec 32) : BitVec 32 := vbounded fnSig 2 (-24) 0 oneF sigOf x
/-- tanh: 2 ulp or 2^-24 (R121). -/
def vtanh (x : BitVec 32) : BitVec 32 := vbounded fnTanh 2 (-24) noneF oneF tanhOf x
/-- GELU, error-function form: 4 ulp or 2^-22 (R121). -/
def vgelu (x : BitVec 32) : BitVec 32 := vbounded fnGelu 4 (-22) nzeroF infF geluOf x
/-- SiLU: 3 ulp or 2^-23 (R121). -/
def vsilu (x : BitVec 32) : BitVec 32 := vbounded fnSilu 3 (-23) nzeroF infF (fun v => v.mul (sigOf v)) x

/-- Codes of sine and cosine. -/
def fnSin : Nat := 8
/-- cos. -/
def fnCos : Nat := 9

/-- Whether the magnitude of an angle exceeds 2^24 (R123). -/
def angleOver (x : BitVec 32) : Bool :=
  match f32 x with
  | .nan => false
  | v => (Val.fin false 1 24).lt v.abs

/-- An angle held to ±2^24 (R123). -/
def angleHeld (x : BitVec 32) : BitVec 32 := if angleOver x then (if x.msb then 0xCB800000 else 0x4B800000) else x

/-- sin of an angle held to ±2^24, within 2 ulp (R123). -/
def vsin (x : BitVec 32) : BitVec 32 := if f32 x = .nan then nanF else openFn fnSin 2 none x (sinOf 0 (fixOf (f32 x)))
/-- cos of an angle held to ±2^24, within 2 ulp (R123). -/
def vcos (x : BitVec 32) : BitVec 32 := if f32 x = .nan then nanF else openFn fnCos 2 none x (sinOf 1 (fixOf (f32 x)))

/-! ### FP32 results with the clamps that R39 counts -/

/-- An FP32 word and the clamps taken on the way to it. -/
structure Fw where
  w : BitVec 32
  clamps : Nat := 0
deriving DecidableEq, Repr

/-- A value rounded to FP32 (R38, R39). -/
def rnd (v : Val) (before : Nat := 0) : Fw := { w := toF32 v, clamps := before + clampF32 v }
/-- A sum. -/
def Fw.add (a b : Fw) : Fw := rnd ((f32 a.w).add (f32 b.w)) (a.clamps + b.clamps)
/-- A difference. -/
def Fw.sub (a b : Fw) : Fw := rnd ((f32 a.w).sub (f32 b.w)) (a.clamps + b.clamps)
/-- A product. -/
def Fw.mul (a b : Fw) : Fw := rnd ((f32 a.w).mul (f32 b.w)) (a.clamps + b.clamps)
/-- A sum of words. -/
def addF (a b : BitVec 32) : Fw := Fw.add { w := a } { w := b }
/-- A difference of words. -/
def subF (a b : BitVec 32) : Fw := Fw.sub { w := a } { w := b }
/-- A product of words. -/
def mulF (a b : BitVec 32) : Fw := Fw.mul { w := a } { w := b }
/-- A word as the arithmetic reads it: every NaN the canonical one (R32). -/
def canonF (w : BitVec 32) : Fw := { w := toF32 (f32 w) }

/-! ### Reductions (R119, R120) -/

/-- The order of the lanes in the pairwise tree: the fixed one where it names each lane once, else rising (DESIGN CHOICE, log entry 6: R119 does not give the tree). -/
def laneOrder : List Nat :=
  if Config.laneOrder.length = 32 ∧ (List.range 32).all (Config.laneOrder.contains ·) then Config.laneOrder else List.range 32

/-- One level of the tree: neighbours added; a lane with no element adds nothing. -/
def pairUp : List (Option Fw) → List (Option Fw)
  | a :: b :: t =>
    (match a, b with
      | some x, some y => some (x.add y)
      | some x, none => some x
      | none, y => y) :: pairUp t
  | l => l

/-- `f` repeated. -/
def times {α : Type} (f : α → α) : Nat → α → α
  | 0, a => a
  | n + 1, a => times f n (f a)

/-- What the lanes make of elements, each with its index: a lane begins with `first` of its first element and goes on with `next` in ascending order, and the tree combines the lanes (R119). -/
def laneFold (first : BitVec 32 → Fw) (next : Fw → BitVec 32 → Fw) (xs : List (Nat × BitVec 32)) : Fw :=
  let lanes := laneOrder.map fun l =>
    match (xs.filter fun x => decide (x.1 % 32 = l)).map (·.2) with
    | [] => none
    | v :: t => some (t.foldl next (first v))
  match times pairUp 5 lanes with
  | some v :: _ => v
  | _ => { w := 0 }

/-- The sum of elements with its clamps; a single NaN gives the canonical one (R32, R119). -/
def laneSumF (xs : List (Nat × BitVec 32)) : Fw := laneFold canonF (fun a x => a.add { w := x }) xs

/-- The sum of elements (R119). -/
def laneSum (xs : List (Nat × BitVec 32)) : BitVec 32 := (laneSumF xs).w

/-- Whether `a` ranks below `b` where both zeros are equal and NaN ranks below -Inf (R119, R120). -/
def rankBelow (a b : Val) : Bool :=
  match a, b with
  | .nan, .nan => false
  | .nan, _ => true
  | _, .nan => false
  | a, b => a.lt b && !(a.isZero && b.isZero)

/-- The first of the greatest elements: its index and value. -/
def argMax : List (Nat × BitVec 32) → Option (Nat × BitVec 32)
  | [] => none
  | x :: t =>
    match argMax t with
    | none => some x
    | some y => if rankBelow (f32 x.2) (f32 y.2) then some y else some x

/-- Whether element `x` comes before `y` in a selection: the greater value, and of equal values the lower index (R120). -/
def rankAhead (x y : Nat × BitVec 32) : Bool :=
  rankBelow (f32 y.2) (f32 x.2) || (!rankBelow (f32 x.2) (f32 y.2) && decide (x.1 < y.1))

/-- An element put into a list in descending order. -/
def rankInsert (x : Nat × BitVec 32) : List (Nat × BitVec 32) → List (Nat × BitVec 32)
  | [] => [x]
  | y :: t => if rankAhead x y then x :: y :: t else y :: rankInsert x t

/-- The `k` greatest elements in descending order, equal values by rising index (R120). -/
def topK (k : Nat) (xs : List (Nat × BitVec 32)) : List (Nat × BitVec 32) :=
  let idx := xs.foldl (fun l x => (rankInsert x l).take k) []
  let idx := idx.map fun x => (x.1, if f32 x.2 = .nan then nanF else x.2)
  idx ++ List.replicate (k - idx.length) (0xFFFFFFFF, ninfF)

end Sys2Proof.Machine
end

