-- ==== Sys2Proof/Machine/FabricOps.lean ====
section
/-! DEFINITION. The shared operations of the matrix fabric: passes, accumulation, accumulator sets and the reading of compressed operands (R95..R106, R163..R166). -/

namespace Sys2Proof.Machine

/-! ### Accumulation (R40, R96) -/

/-- Whether a format code is an integer format. -/
def isInt (c : Nat) : Bool := c == 8 || c == 9 || c == 13

/-- A value in an FP32 accumulator: an overflow becomes an infinity and is not counted (R96). -/
def accF32 (v : Val) : BitVec 32 :=
  let n := narrow .fp32 v
  match v with
  | .fin neg _ _ => if n.clamp = 0 then BitVec.ofNat 32 n.code else if neg then ninfF else infF
  | _ => BitVec.ofNat 32 n.code

/-- The next FP32 accumulation of an exact product. -/
def fmaAcc (acc : BitVec 32) (a b : Val) : BitVec 32 := accF32 ((f32 acc).add (a.mul b))

/-- The next INT32 accumulation, and whether it saturated (R40). -/
def intAcc (acc : Int × Bool) (p : Int) : Int × Bool :=
  let v := acc.1 + p
  if v < -(2 ^ 31) then (-(2 ^ 31), true) else if 2 ^ 31 - 1 < v then (2 ^ 31 - 1, true) else (v, acc.2)

/-- A value as an integer (integer formats only). -/
def Val.toInt : Val → Int
  | .fin neg m e => let k : Int := (rneScale m e : Nat); if neg then -k else k
  | _ => 0

/-- The order in which the contraction axis of operand B is stored: along its columns for an MX tensor, as R36 asks, along its rows otherwise (log entry 25). -/
def bElem (s : State) (o : Op) (d : TDesc) (k n : Nat) : Val := if isMx d.fmt then s.elem o o.d.opB n k else s.elem o o.d.opB k n

/-- A block of up to 32 products in an FP32 partial, its scales apart (R96). -/
def mxPartial (f g : Fmt) (xs : List (Nat × Nat)) : BitVec 32 := xs.foldl (fun p x => fmaAcc p (decodeVal f x.1) (decodeVal g x.2)) 0

/-- The codes of element (r, k) of A and of B for (k, n), both MX. -/
def State.mxCodes (s : State) (o : Op) (da db : TDesc) (r n k : Nat) : Nat × Nat :=
  (s.codeAt o o.d.opA da (tileBit da r k), s.codeAt o o.d.opB db (tileBit db n k))

/-- One output over an MX contraction: per block of 32, the partial times 2^(X_A + X_B) is added (R96). -/
def State.mxDot (s : State) (o : Op) (da db : TDesc) (f g : Fmt) (r n K : Nat) : BitVec 32 :=
  (List.range (cdiv K 32)).foldl (fun acc b =>
    let sa := s.scaleAt o o.d.opA da r (32 * b)
    let sb := s.scaleAt o o.d.opB db n (32 * b)
    if sa = 0xFF ∨ sb = 0xFF then nanF
    else
      let p := mxPartial f g ((List.range (min 32 (K - 32 * b))).map fun i => s.mxCodes o da db r n (32 * b + i))
      fmaAcc acc (f32 p) (.fin false 1 ((sa : Int) + sb - 254))) 0

/-- One output of an FGEMM in the form its accumulator holds it, and whether an integer accumulation saturated (R96). -/
def State.dot (s : State) (o : Op) (backward : Bool) (r n K : Nat) : BitVec 32 × Bool :=
  match s.tensor o o.d.opA, s.tensor o o.d.opB with
  | some da, some db =>
    if isInt da.fmt && isInt db.fmt && !backward then
      let x := (List.range K).foldl (fun acc k => intAcc acc ((s.elem o o.d.opA r k).toInt * (bElem s o db k n).toInt)) ((0 : Int), false)
      (BitVec.ofInt 32 x.1, x.2)
    else if isMx da.fmt && isMx db.fmt then
      match fmtOf da.fmt, fmtOf db.fmt with
      | some f, some g => (s.mxDot o da db f g r n K, false)
      | _, _ => (nanF, false)
    else ((List.range K).foldl (fun acc k => fmaAcc acc (s.elem o o.d.opA r k) (bElem s o db k n)) 0, false)
  | _, _ => (0, false)

/-! ### Shapes and passes (R95, R97..R99) -/

/-- The shape of a code of R175: 0 square, 1 wide, 2 strip. -/
def Shape.ofCode : Nat → Shape
  | 0 => .square | 1 => .wide | _ => .strip

/-- Output rows of a shape. -/
def Shape.rows : Shape → Nat
  | .square => 16 | .wide => 4 | .strip => 1
/-- Output columns of a shape. -/
def Shape.cols : Shape → Nat
  | .square => 16 | .wide => 64 | .strip => 256

/-- Contraction values in an entry, and the duration of an entry in hs (R95). -/
def entryOf (fa fb : Nat) : Nat × Nat :=
  if fa = 0 then (1, 8)
  else if fa = 1 ∨ fa = 2 then (1, 2)
  else if (fa = 7 ∧ fb = 7) ∨ (fa = 14 ∧ fb = 14) ∨ (isInt fa = true ∧ isInt fb = true ∧ (fa ≠ 8 ∨ fb ≠ 8)) then (2, 1)
  else (1, 1)

/-- The passes of an operation of M rows and N columns (R99). -/
def passesOf (sh : Shape) (i m n : Nat) : Nat := cdiv m (sh.rows * i) * cdiv n sh.cols

/-- The time of one pass in hs, without ramp or stall (R98). -/
def passHs (fa fb K i : Nat) : Nat := cdiv K (entryOf fa fb).1 * i * (entryOf fa fb).2

/-- Column block and row block of pass `k`: ascending column block, then row block (R99). -/
def passAt (sh : Shape) (i m k : Nat) : Nat × Nat := (k / cdiv m (sh.rows * i), k % cdiv m (sh.rows * i))

/-- Formats of an operation's A and B. -/
def State.fabFmts (s : State) (o : Op) : Nat × Nat :=
  (match s.tensor o o.d.opA with | some d => d.fmt | none => 0, match s.tensor o o.d.opB with | some d => d.fmt | none => 0)

/-! ### Compressed operands (R155, R161, R164..R166) -/

/-- The compressed operands that feeders read. -/
def State.compOperands (s : State) (o : Op) : List (Handle × TDesc) :=
  [o.d.opA, o.d.opB].filterMap fun h => match s.tensor o h with
    | some d => if d.comp then some (h, s.actTable o h d) else none
    | none => none

/-- A block read is counted (R167). -/
def State.countBlock (s : State) (o : Op) (h : Handle) (d : TDesc) (b : Nat) : State :=
  match s.readPlace o h d b with
  | .raw _ => s.ocount o 0xA700 2 1
  | .good _ => ((s.ocount o 0xA700 1 1).ocount o 0xA700 3 (placeBytes - s.mapEntry o h d b % 512 * 16)).ocount o 0xA700 5 (if s.exp.selfTesting then 1 else 0)
  | _ => s

/-- BLOCK_POISONED (R166): the reading operation stops at its next pass boundary; a weight block is to be encoded again. -/
def State.poisonBlock (s : State) (slot : Nat) (o : Op) (h : Handle) (b : Nat) : State :=
  let s := (s.ocount o 0xA700 7 1).raise Ev.blockPoisoned o.d.tenant Locus.slot slot b
  let w := match s.tensor o h with | some d => h.tab == 0 && d.comp | none => false
  let s := if w && !(s.opPlan o).written h then { s with exp := { s.exp with poisonedWeights := s.exp.poisonedWeights ++ [{ slot := o.d.tenant * 4 + o.slotModel, tensor := h.idx, block := b }] } } else s
  ((s.stopOp slot .poisoned).workDone slot).modPod o.podOf fun p => { p with ops := p.ops.map fun f => if f.slot = slot then { f with poisoned := true } else f }

/-- One block met by an operation's feeders: counted, poisoned, or handed to the serial decoder (R164, R166). -/
def State.meetBlock (s : State) (slot : Nat) (o : Op) (x : Handle × TDesc) (b : Nat) : State :=
  match s.readPlace o x.1 x.2 b with
  | .poisoned => s.poisonBlock slot o x.1 b
  | .badHeader =>
    { (s.setOp slot fun y => { y with timerHeld := true }) with exp := { s.exp with recovering := s.exp.recovering ++ [{ slot := slot, tensor := x.1.code, block := b }] } }
  | _ => s.countBlock o x.1 x.2 b

/-- All blocks of an operation's compressed operands. -/
def State.meetBlocks (s : State) (slot : Nat) (o : Op) : State :=
  (s.compOperands o).foldl (fun s x => (List.range x.2.places).foldl (fun s b => s.meetBlock slot o x b) s) s

/-! ### Accumulator sets (R104, R105) -/

/-- The lowest free accumulator sets of a pod. -/
def Pod.freeSets (p : Pod) : List Nat := (List.range 32).filter fun k => decide (mget .free p.setState k = .free)

/-- A set filled by a pass: its 256 outputs, what holds it and where the drain takes it. -/
def Pod.fill (p : Pod) (set slot dest : Nat) (int : Bool) (ws : List (BitVec 32)) : Pod :=
  { p with acc := (List.range ws.length).foldl (fun m i => mset 0 m (set * 256 + i) ((ws[i]?).getD 0)) p.acc,
           setState := mset .free p.setState set .full, setInt := mset false p.setInt set int,
           setDest := mset 0 p.setDest set dest, setOwner := mset 0 p.setOwner set (slot + 1) }

/-- A set freed. -/
def Pod.drop (p : Pod) (set : Nat) : Pod :=
  { p with acc := mfilter (fun k _ => decide (k / 256 ≠ set)) p.acc, setState := mset .free p.setState set .free,
           setInt := mset false p.setInt set false, setDest := mset 0 p.setDest set 0, setOwner := mset 0 p.setOwner set 0,
           ops := p.ops.map fun f => { f with sets := f.sets.filter (· ≠ set) } }

/-- The outputs of row set `j` of a pass and whether an accumulation saturated. -/
def State.setOutputs (s : State) (o : Op) (sh : Shape) (m n K : Nat) (backward : Bool) (row0 col0 : Nat) : List (BitVec 32 × Bool) :=
  (List.range 256).map fun x =>
    let r := row0 + x / sh.cols
    let c := col0 + x % sh.cols
    if r < m ∧ c < n then s.dot o backward r c K else (0, false)

/-- The FGEMM fields of a descriptor. -/
def Kspec.gemm : Kspec → Option (Nat × Nat × Nat × Shape × Nat × Bool × Bool)
  | .fgemm m n k sh i acc bw => some (m, n, k, Shape.ofCode sh, i, acc, bw)
  | _ => none

/-- One pass of an FGEMM into `i` free sets (R98, R99). -/
def State.onePass (s : State) (slot : Nat) (o : Op) (m n K : Nat) (sh : Shape) (i : Nat) (backward : Bool) (k : Nat) : State :=
  let p := o.podOf
  let at' := passAt sh i m k
  let fm := s.fabFmts o
  let int := isInt fm.1 && isInt fm.2 && !backward
  let sets := (s.pod p).freeSets.take i
  let s := s.wakePod p o.d.tenant
  let s := (List.range i).foldl (fun s j =>
    let outs := s.setOutputs o sh m n K backward (at'.2 * sh.rows * i + j * sh.rows) (at'.1 * sh.cols)
    let set := (sets[j]?).getD 0
    s.modPod p fun q =>
      let q := q.fill set slot (k * 8 + j) int (outs.map (·.1))
      { q with ops := q.ops.map fun f => if f.slot = slot then { f with sets := f.sets ++ [set], accSat := f.accSat || outs.any (·.2) } else f }) s
  let s := s.modPod p fun q => { q with ops := q.ops.map fun f => if f.slot = slot then { f with passes := k + 1 } else f }
  let idleRows := if at'.2 + 1 = cdiv m (sh.rows * i) then sh.rows * i * (at'.2 + 1) - m else 0
  (s.ocount o 0xA400 2 (passHs fm.1 fm.2 K i)).ocount o 0xA400 6 idleRows

/-- Passes run while the pod has free sets for them, the operation holds at most 16, and none of its blocks waits for the serial decoder (R104, R105). -/
def State.runPasses (s : State) (slot : Nat) (o : Op) : Nat → State
  | 0 => s
  | fuel + 1 =>
    let p := s.pod o.podOf
    match p.ops.find? fun f => decide (f.slot = slot), o.d.k.gemm with
    | some f, some (m, n, K, sh, i, _, bw) =>
      if f.poisoned = false ∧ f.passes < f.total ∧ f.sets.length + i ≤ 16 ∧ i ≤ p.freeSets.length ∧
         (s.exp.recovering.all fun r => decide (r.slot ≠ slot)) = true then
        (s.onePass slot o m n K sh i bw f.passes).runPasses slot o fuel
      else s
    | _, _ => s

end Sys2Proof.Machine
end

