-- ==== Sys2Proof/Machine/ReplayOps.lean ====
section
/-! DEFINITION. What a replay takes from the service: the outputs to compare, and in mode 1 the recorded steps (R429, R430). -/

namespace Sys2Proof.Machine

/-! ### Comparison of outputs (R430) -/

/-- The recorded digest of a request's token, with the MONO of its record. -/
def Replay.digestAt (r : Replay) (id k : Nat) : Option (Bytes × Nat) :=
  r.expected.findSome? fun m => match m.body with
    | .output i index count _ _ digests _ => if i = id ∧ index ≤ k ∧ k < index + count then (digests[k - index]?).map fun d => (d, m.mono) else none
    | _ => none

/-- The first divergent token among those of a message: its index, and the MONO of its record. -/
def Replay.divergence (r : Replay) (id : Nat) : Nat → List Bytes → Option (Nat × Nat)
  | _, [] => none
  | k, d :: l => match r.digestAt id k with
    | some x => if x.1 = d then r.divergence id (k + 1) l else some (k, x.2)
    | none => r.divergence id (k + 1) l

/-- The STOP and STATUS with which a request ended when it was recorded. -/
def Replay.finalOf (r : Replay) (id : Nat) : Option (Nat × Nat) :=
  r.expected.findSome? fun m => match m.body with
    | .output i _ _ stop status _ _ => if i = id ∧ stop ≠ 0 then some (stop, status) else none
    | _ => none

/-- A message's tokens are compared until the request has diverged. -/
def Replay.tokensSeen (r : Replay) (id index : Nat) (digests : List Bytes) : Replay :=
  if r.divergedReqs.contains id then r
  else match r.divergence id index digests with
    | none => r
    | some x =>
      { r with divergedReqs := r.divergedReqs ++ [id],
               earliest := match r.earliest with
                 | some e => if e.2.2 ≤ x.2 then some e else some (id, x.1, x.2)
                 | none => some (id, x.1, x.2) }

/-- A final message's STOP and STATUS are compared. -/
def Replay.endSeen (r : Replay) (id stop status : Nat) : Replay :=
  if stop = 0 then r
  else match r.finalOf id with
    | some f => if f = (stop, status) then r else { r with statusDiff := r.statusDiff + 1 }
    | none => r

/-- An output that a replayed request produces, in the form of its record. -/
def Replay.outputSeen (r : Replay) : MBody → Replay
  | .output id index _ stop status digests _ => (r.tokensSeen id index digests).endSeen id stop status
  | _ => r

/-- An output of a tenant that replays is compared. -/
def State.noteOutput (s : State) (t : Nat) (b : MBody) : State :=
  if (s.mten t).replay.isSome then s.modMten t fun m => { m with replay := m.replay.map fun r => r.outputSeen b } else s

/-! ### Pinned replay (R429) -/

/-- Whether a tenant runs a replay in mode 1. -/
def State.pinned (s : State) (t : Nat) : Bool := match (s.mten t).replay with | some r => decide (r.mode = 1) | none => false

/-- The sessions of the STEP record that comes next, in the replay's own indices; none where no record asks for one. -/
def Replay.nextBatch (r : Replay) : Option (List (Option Nat) × Nat) :=
  match r.steps with
  | m :: _ => match m.body with
    | .step _ _ _ _ split handles => some (handles.map fun h => match mget 0 r.handles h with | 0 => none | k + 1 => some k, split)
    | _ => none
  | [] => none

/-- Whether CC1 may hand a batch to CC2: in mode 1 it is the batch of the next STEP record, and no step passes a COLD record that stands before it. -/
def State.batchAllowed (s : State) (t : Nat) (sessions : List Nat) : Bool :=
  match (s.mten t).replay with
  | some r => if r.mode = 1 ∧ r.steps ≠ [] then (match r.nextBatch with | some b => decide (b.1 = sessions.map some) | none => false) else true
  | none => true

/-- The STEP record of a batch is used up, and its SPLIT is in force. -/
def State.batchTaken (s : State) (t : Nat) : State :=
  if s.pinned t then
    s.modMten t fun m => { m with replay := m.replay.map fun r => match r.nextBatch with | some b => { r with steps := r.steps.drop 1, split := b.2 } | none => { r with split := 0 } }
  else s

/-- SPLIT that a replay enforces on the present step. -/
def State.pinnedSplit (s : State) (t : Nat) : Option Nat :=
  match (s.mten t).replay with
  | some r => if r.mode = 1 ∧ r.split ≠ 0 then some r.split else none
  | none => none

end Sys2Proof.Machine
end

