-- ==== Sys2Proof/Machine/KvOps.lean ====
section
/-! DEFINITION. The shared operations of the KV cache: page layout, records, allocation, eviction, cold sessions and staging (R138..R151). -/

namespace Sys2Proof.Machine

/-! ### Layout (R138, R139, R144) -/

/-- Bytes per element. -/
def KvFmt.size : KvFmt → Nat
  | .bf16 => 2 | _ => 1

/-- Octets of one token's record: K and V of every head, and the block scales of MXFP8 (R139). -/
def kvRecord (f : KvFmt) (h d : Nat) : Nat := 2 * h * d * f.size + if f = .mxfp8 then 2 * h * d / 32 else 0

/-- T: whole records in the 65,280 octets after the header (R139). -/
def kvSlots (f : KvFmt) (h d : Nat) : Nat := 65280 / kvRecord f h d

/-- Where octet `off` of the record of slot `t` stands in a page, from offset 0x0100 on (R138). -/
def Page.recordAt (p : Page) (t off : Nat) : Nat :=
  let row := p.headDim * p.fmt.size
  let part := p.heads * row
  let sc := p.headDim / 32
  if off < 2 * part then
    let v := off / part
    let i := off % part
    v * (p.heads * p.slots * row) + ((i / row) * p.slots + t) * row + i % row
  else
    let i := off - 2 * part
    let v := i / (p.heads * sc)
    let j := i % (p.heads * sc)
    2 * (p.heads * p.slots * row) + v * (p.heads * p.slots * sc) + ((j / sc) * p.slots + t) * sc + j % sc

/-- A record written into a slot of a page. -/
def Page.putRecord (p : Page) (t : Nat) (bs : Bytes) : Page :=
  { p with data := (List.range bs.length).foldl (fun m i => mset 0 m (p.recordAt t i) ((bs[i]?).getD 0)) p.data }

/-- An octet of a record, in a page or staged. -/
def Page.octet (p : Page) (t off : Nat) : Nat := mget 0 p.data (p.recordAt t off)

/-! ### Records (R132, R140) -/

/-- KV format, head count and head size of a session. -/
def State.kvShape (s : State) (sess : Nat) : KvFmt × Nat × Nat :=
  let x := s.session sess
  match (s.mslot x.tenant x.slot).current with
  | some i => (x.kvFmt, i.plan.kvHeads, i.plan.headDim)
  | none => (x.kvFmt, 1, 1)

/-- One element narrowed to a KV format that is not MX: code and clamps (R140). -/
def kvCode (f : KvFmt) (v : Val) (scale : BitVec 32) : Narrow :=
  match f with
  | .bf16 => narrow .bf16 v
  | _ => narrow .e4m3 (f32 (toF32 (v.div (f32 scale))))

/-- The record of one token from its K and V elements, with the clamps counted and the MX blocks that held a NaN: K of every head, V of every head, then the scales (R138, R140, R144). -/
def kvEncode (f : KvFmt) (d : Nat) (kv : List (Val × BitVec 32)) : Bytes × Nat × Nat :=
  match f with
  | .mxfp8 =>
    let n := kv.length / 32
    let bl := (List.range n).map fun b => mxEncode .e4m3 8 (((kv.drop (32 * b)).take 32).map (·.1))
    (bl.flatMap (·.elems) ++ bl.map (·.scale), (bl.map (·.clamp)).sum, (bl.map (·.drop)).sum)
  | _ =>
    let ns := kv.map fun x => kvCode f x.1 x.2
    (ns.flatMap fun n => le f.size n.code, (ns.map (·.clamp)).sum, d * 0)

/-- Element `i` (of the K elements, then the V elements) of a record read through `oct`. -/
def kvDecode (f : KvFmt) (h d : Nat) (oct : Nat → Nat) (i : Nat) : Val :=
  match f with
  | .e4m3 => decodeVal .e4m3 (oct i)
  | .bf16 => decodeVal .bf16 (oct (2 * i) + 256 * oct (2 * i + 1))
  | .mxfp8 => mxDecode .e4m3 (oct (2 * h * d + i / 32)) (oct i)

/-! ### Finding pages (R139, R144) -/

/-- The page of a session's layer that holds a position. -/
def State.pageOf (s : State) (sess layer pos : Nat) : Option Nat :=
  match s.kv.pages.find? fun e => match e.2 with
    | some p => decide (p.session = sess) && decide (p.layer = layer) && decide (p.firstPos ≤ pos) && decide (pos < p.firstPos + p.slots)
    | none => false with
  | some e => some e.1
  | none => none

/-- The entries staged for a page. -/
def State.stagedFor (s : State) (sess page : Nat) : List Staged := (s.stagingOf sess).filter fun e => decide (e.page = page)

/-- An octet of the record of a position, from its page or from the staging buffer; none where neither holds it (R144). -/
def State.kvOctet (s : State) (sess layer pos off : Nat) : Option Nat :=
  match (s.stagingOf sess).find? fun e => decide (e.layer = layer) && decide (e.pos = pos) with
  | some e => some (mget 0 e.data off)
  | none => ((s.pageOf sess layer pos).bind s.page).map fun p => p.octet (pos - p.firstPos) off

/-- Element `i` of the record of a position; 0 where there is none. -/
def State.kvElem (s : State) (sess layer pos i : Nat) : Val :=
  let sh := s.kvShape sess
  match s.kvOctet sess layer pos 0 with
  | some _ => kvDecode sh.1 sh.2.1 sh.2.2 (fun o => (s.kvOctet sess layer pos o).getD 0) i
  | none => .fin false 0 0

/-- Code and block scale of element `i` of the record of a position in MXFP8 (R138). -/
def State.kvMxCode (s : State) (sess layer pos i : Nat) : Nat × Nat :=
  let sh := s.kvShape sess
  let at' := fun o => (s.kvOctet sess layer pos o).getD 0
  (at' i, at' (2 * sh.2.1 * sh.2.2 + i / 32))

/-- A page changed. -/
def State.setPage (s : State) (n : Nat) (f : Page → Page) : State := s.modPage n fun o => o.map f

/-! ### Pools (R141, R146, R151) -/

/-- CS_KV_PAGES of a tenant (R199). -/
def State.csKvPages (s : State) (t : Nat) : Nat := s.sv (0x8100 + t) 4 80

/-- Whether a page takes a region of a cluster's pool: it is hot there, moves there, or is the source of a move and not yet released (R143). -/
def Page.inPool (p : Page) (c : Nat) : Bool := decide (p.hot = some c) || decide (p.moving = some (some c)) || (p.srcHeld && decide (p.src = some c))

/-- Whether a page takes DRAM: it is warm, moves there, or is a source there and not yet released (R143). -/
def Page.inDram (p : Page) : Bool := p.hot.isNone || decide (p.moving = some none) || (p.srcHeld && p.src.isNone)

/-- Regions of a cluster's KV pool in use. -/
def State.hotUsed (s : State) (c : Nat) : Nat := mcount (fun _ o => match o with | some p => p.inPool c | none => false) s.kv.pages

/-- The owned cluster whose pool takes page `k` of a layer: the first with room from cluster (k + session) mod c on (R210). -/
def State.hotCluster (s : State) (t sess k : Nat) : Option Nat :=
  let cl := s.clusterList t
  ((List.range cl.length).map fun i => (cl[(k + sess + i) % cl.length]?).getD 0).find? fun c => decide (s.hotUsed c < s.csKvPages t)

/-- A tenant's warm pages. -/
def State.warmPages (s : State) (t : Nat) : Nat := mcount (fun _ o => match o with | some p => decide (p.tenant = t) && p.hot.isNone | none => false) s.kv.pages
/-- Pages of a tenant that take DRAM, the ones that move included. -/
def State.warmUsed (s : State) (t : Nat) : Nat := mcount (fun _ o => match o with | some p => decide (p.tenant = t) && p.inDram | none => false) s.kv.pages
/-- A tenant's hot pages. -/
def State.hotPages (s : State) (t : Nat) : Nat := mcount (fun _ o => match o with | some p => decide (p.tenant = t) && p.hot.isSome | none => false) s.kv.pages

/-- DRAM_KV in pages: 16 for each MiB (R151); a lower value whose write waits for use to fit already bounds new pages (R203). -/
def State.warmCap (s : State) (t : Nat) : Nat :=
  16 * match s.kvPending t with
    | some v => min v (s.sv (0x8110 + t) 2 0)
    | none => s.sv (0x8110 + t) 2 0

/-- Whether eviction may take a page: hot, and not read, written or moved (R146). -/
def Page.evictable (p : Page) (t : Nat) : Bool :=
  decide (p.tenant = t) && p.hot.isSome && decide (p.readers = 0) && decide (p.writesOut = 0) && p.moving.isNone && !p.srcHeld

/-- The oldest hot page that may be evicted; ties to the lower session, layer, FIRST_POS (R146). -/
def State.oldestHot (s : State) (t : Nat) : Option Nat :=
  let ps := s.kv.pages.filterMap fun e => match e.2 with
    | some p => if p.evictable t then some (e.1, p) else none
    | none => none
  match minBy (fun (x : Nat × Page) => ((x.2.lastUse * 4096 + x.2.session) * 65536 + x.2.layer) * 2 ^ 32 + x.2.firstPos) ps.reverse with
  | some x => some x.1
  | none => none

/-- KV_EVICT (R146): a hot page begins its move to DRAM (R143). -/
def State.evict (s : State) (n : Nat) : State := s.setPage n fun p => { p with moving := some none }

/-- Whether a page of a tenant is on its way out of a cluster store: it moves to DRAM, or its hot source is not yet released. -/
def State.evicting (s : State) (t : Nat) : Bool :=
  s.kv.pages.any fun e => match e.2 with
    | some p => decide (p.tenant = t) && (decide (p.moving = some none) || (p.srcHeld && p.src.isSome))
    | none => false

/-- Pages of a session. -/
def State.sessionPages (s : State) (sess : Nat) : List Nat := mkeys (mfilter (fun _ o => match o with | some p => decide (p.session = sess) | none => false) s.kv.pages)

/-- A session's pages and staging buffer are dropped (R141, R147). -/
def State.dropPages (s : State) (sess : Nat) : State :=
  { s with kv := { s.kv with pages := mfilter (fun _ o => match o with | some p => decide (p.session ≠ sess) | none => false) s.kv.pages,
                             staging := mset [] s.kv.staging sess [] } }

/-- A session's handle: INCARN above the index (R285). -/
def State.handleOf (s : State) (sess : Nat) : Nat := (s.session sess).incarn % 65536 * 65536 + sess

/-- Connections that a test selects. -/
def State.connsWhere (s : State) (p : Conn → Bool) : List Nat :=
  s.svc.conns.filterMap fun e => match e.2 with | some c => if p c then some e.1 else none | none => none

/-- Whether a connection is an established channel of a tenant. -/
def Conn.channelOf (c : Conn) (t : Nat) : Bool := decide (c.kind = .asx ∧ c.phase = .up ∧ c.tenant = t)

/-- NOTICE about one session, on every channel of its tenant and client (R285, R289). -/
def State.notice (s : State) (sess ev : Nat) : State :=
  let x := s.session sess
  (s.connsWhere fun c => c.channelOf x.tenant && decide (c.clientId = x.clientId)).foldl (fun s k => s.send k (.notice (s.handleOf sess) ev)) s

/-- SESSION_COLD (R147): the session loses its pages and keeps its history and scales; Mirror records it. -/
def State.makeCold (s : State) (sess cause : Nat) : State :=
  let t := (s.session sess).tenant
  let s := (s.dropPages sess).modSession sess fun x => { x with state := .cold, kvLen := 0, waitsPage := false }
  ((s.tcount t 0xA600 5 1).capture t (.cold (s.handleOf sess) cause)).notice sess 0

/-- The IDLE session with pages whose last step ended first; ties to the lower index (R147); a pinned replay takes the decision from its records (R429). -/
def State.oldestIdle (s : State) (t : Nat) : Option Nat :=
  let xs := s.svc.sessions.filter fun e => !s.pinned t && decide (e.2.tenant = t) && decide (e.2.state = .idle) && decide (s.sessionPages e.1 ≠ [])
  match minBy (fun (e : Nat × Session) => e.2.lastStep * 4096 + e.1) xs with
  | some e => some e.1
  | none => none

/-- Room for a new page (R141, R146, R147): a free hot region, else the oldest hot page begins its move to DRAM and the allocation waits for its region, one such move at a time; with no page to evict, a warm place. Where DRAM has no room, IDLE sessions are made COLD one at a time until the page fits, hot or warm. The cluster that takes the page, `some none` for DRAM; none while the allocation waits. -/
def State.pageRoom (s : State) (t sess k : Nat) : Nat → State × Option (Option Nat)
  | 0 => (s, none)
  | fuel + 1 =>
    match s.hotCluster t sess k with
    | some c => (s, some (some c))
    | none =>
      if s.evicting t then (s, none)
      else if s.warmUsed t < s.warmCap t then
        match s.oldestHot t with
        | some n => (s.evict n, none)
        | none => (s, some none)
      else match s.oldestIdle t with
        | some x => (s.makeCold x 0).pageRoom t sess k fuel
        | none => (s, none)

/-- KV_PAGE_ALLOC (R141): the page of a layer that begins at `first` is allocated; none where there is no room yet. -/
def State.allocPage (s : State) (sess layer first gen : Nat) : State × Option Nat :=
  let x := s.session sess
  let sh := s.kvShape sess
  let T := kvSlots sh.1 sh.2.1 sh.2.2
  let r := s.pageRoom x.tenant sess (first / max 1 T) 4097
  match r.2 with
  | none => (r.1, none)
  | some c =>
    let n := r.1.kv.nextPage
    let p : Page := { session := sess, tenant := x.tenant, fmt := sh.1, layer := layer, slots := T, firstPos := first, gen := gen, heads := sh.2.1, headDim := sh.2.2, hot := c, lastUse := s.now }
    ({ r.1 with kv := { r.1.kv with pages := mset none r.1.kv.pages n (some p), nextPage := n + 1 } }, some n)

/-! ### The KV limit (R148, R151) -/

/-- Pages that a layer of a history of `h` positions holds: under a sliding window only those that R141 does not release. -/
def layerPages (slots h : Nat) (t : Template) : Nat :=
  let n := cdiv h (max 1 slots)
  if t.mask = .sliding then min n (cdiv (t.window - 2) (max 1 slots) + 1) else n

/-- Pages that a history of `h` positions holds in every layer. -/
def Plan.kvPages (p : Plan) (slots h : Nat) : Nat :=
  ((List.range p.layers).map fun l => layerPages slots h ((p.templates.find? fun t => decide (t.d.kind = .fattn) && decide (t.layer = l)).getD Template.init)).sum

/-- The plan of a session's model. -/
def State.kvPlan (s : State) (i : Nat) : Plan :=
  match (s.mslot (s.session i).tenant (s.session i).slot).current with
  | some im => im.plan
  | none => Plan.init

/-- Pages that a tenant's KV capacity holds (R151). -/
def State.kvCapacity (s : State) (t : Nat) : Nat := s.csKvPages t * (s.clusterList t).length + s.warmCap t

/-- h_max of a session: the largest history whose pages fit the tenant's KV capacity, at most 2^20 - 1. -/
def State.kvLimit (s : State) (i : Nat) : Nat :=
  let x := s.session i
  let p := s.kvPlan i
  let slots := kvSlots x.kvFmt p.kvHeads p.headDim
  let cap := s.kvCapacity x.tenant
  ((List.range 20).reverse).foldl (fun h k => if p.kvPages slots (h + 2 ^ k) ≤ cap then h + 2 ^ k else h) 0

/-- Whether a running request has reached the KV limit: the one in force where it was raised since the admission or stands, else it ends once its history lies above the lowered one (R151). -/
def State.kvOver (s : State) (i : Nat) (r : Req) : Bool :=
  let c := s.kvLimit i
  let h := (s.session i).history.length
  if r.kvLimit ≤ c then decide (c ≤ h) else decide (c < h)

/-- Whether a session's history lies above a limit that was lowered since its request was admitted: the request ends at its next step (R151). -/
def State.kvLowered (s : State) (i : Nat) (r : Req) : Bool := decide (s.kvLimit i < r.kvLimit) && decide (s.kvLimit i < (s.session i).history.length)

/-- Whether the pages of a preempted session's history fit beside those of the tenant's other sessions that are not IDLE, whose pages R147 would free (R148). -/
def State.pagesFit (s : State) (i : Nat) : Bool :=
  let x := s.session i
  let p := s.kvPlan i
  let others := mcount (fun _ o => match o with
    | some (q : Page) => decide (q.tenant = x.tenant) && decide (q.session ≠ i) && decide ((s.session q.session).state ≠ .idle)
    | none => false) s.kv.pages
  decide (others + p.kvPages (kvSlots x.kvFmt p.kvHeads p.headDim) x.history.length ≤ s.kvCapacity x.tenant)

/-! ### Masks (R137) -/

/-- Whether the key at `pk` is visible to the query at `pq`. -/
def visible (t : Template) (prefixLen pk pq : Nat) : Bool :=
  match t.mask with
  | .causal => decide (pk ≤ pq)
  | .sliding => decide (pq < pk + t.window) && decide (pk ≤ pq)
  | .prefixed => decide (pk < prefixLen) || decide (pk ≤ pq)
  | .sparse =>
    let bq := pq / 64
    let bk := pk / 64
    decide (pk ≤ pq) && (decide (bk < t.globals) || (decide (bq - bk < 256) && t.blockMap.getLsbD (bq - bk)))

/-- The keys that some query at the positions from `p` on sees, rising (R135, R137). -/
def seenKeys (t : Template) (prefixLen p tokens : Nat) : List Nat :=
  (List.range (p + tokens)).filter fun pk => (List.range tokens).any fun i => visible t prefixLen pk (p + i)

/-- Whether a page of a session's layer lies behind a sliding window and nothing uses it (R141). -/
def Page.behind (p : Page) (sess : Nat) (t : Template) (next' : Nat) : Bool :=
  decide (p.session = sess) && decide (p.layer = t.layer) && decide (p.firstPos + p.slots - 1 + t.window ≤ next') &&
  decide (p.readers = 0) && decide (p.writesOut = 0) && p.moving.isNone && !p.srcHeld

/-- Pages that a sliding window leaves behind are released: no query from position `next'` on can see them (R141). -/
def State.slidePages (s : State) (sess : Nat) (t : Template) (next' : Nat) : State :=
  if t.mask = .sliding then
    let keep := fun (o : Option Page) => match o with
      | some p => !p.behind sess t next'
      | none => false
    { s with kv := { s.kv with pages := mfilter (fun _ o => keep o) s.kv.pages } }
  else s

end Sys2Proof.Machine
end

