-- ==== Sys2Proof/Machine/Fabric.lean ====
section
/-! DEFINITION. The matrix fabric's commands: FGEMM, FATTN, the drain of accumulator sets, pod idleness (R95..R110, R131..R137). -/

namespace Sys2Proof.Machine

/-! ### Compressed outputs (R159, R160) -/

/-- EXP_ACT_ENABLE of a tenant (R167). -/
def State.expEnabled (s : State) (t : Nat) : Bool := s.sv (0x7410 + t) 1 1 != 0

/-- One more block encoded with a table: 256 raw ones among the last 1,024 make a rebuild due (R160). -/
def ExpTable.block (t : ExpTable) (raw : Bool) : ExpTable := { t with recentRaw := (t.recentRaw ++ [raw]).drop (t.recentRaw.length - 1023) }

/-- Whether a table's last 1,024 blocks make a rebuild due (R160). -/
def ExpTable.worn (t : ExpTable) : Bool := !t.weight && decide (256 ≤ (t.recentRaw.filter id).length)

/-- One place of a marked activation tensor is encoded in place with a table, or its map entry says that it is raw. -/
def State.encodePlace (s : State) (o : Op) (h : Handle) (d : TDesc) (tab : Option Nat) (b : Nat) : State :=
  let es := rawElems d.fmt (d.placeCount b) (s.tensorOctets o h d (b * placeBytes) placeBytes)
  let r := s.writePlace o h d tab b es
  match tab with
  | none => r.1
  | some t => r.1.modTable (o.d.tenant * 4096 + t) fun x => x.map fun y => y.block r.2

/-- The table that an operation took for a marked tensor when it was instantiated (R159, R167). -/
def Op.encTable (o : Op) (h : Handle) : Option Nat :=
  match mget 0 o.encTabs h.code with
  | 0 => none
  | t + 1 => some t

/-- Whether the exponents of an occurrence written in a step run are counted: those of the first occurrence, and those of the one after a rebuild fell due (R159, R160). -/
def ActTensor.counting (a : ActTensor) (run : Nat) : Bool :=
  if a.occurred then decide (a.writers = run) else a.table.isNone || (a.rebuild && decide (a.writers ≠ run))

/-- Whether a tenant's table is due to be rebuilt. -/
def State.tableWorn (s : State) (t : Nat) (id : Option Nat) : Bool :=
  match id with
  | none => false
  | some k => match s.table (t * 4096 + k) with | some x => x.worn | none => false

/-- What an encoder notes of an operation's part of an occurrence. -/
def ActTensor.note (a : ActTensor) (run key fmt : Nat) (tab : Option Nat) (es : List Nat) (worn : Bool) : ActTensor :=
  let a := if a.counting run then { a with occurred := true, writers := run, counts := exponentCounts fmt es } else a
  let a := { a with fmt := fmt, coded := mset 0 a.coded key (match tab with | some t => t + 1 | none => 0) }
  if worn && !a.rebuild then { a with rebuild := true, writers := run } else a

/-- One marked tensor that an operation has written: its places are encoded with the operation's table or stay raw, and its exponents are counted where a table is to be built (R159, R160). -/
def State.encodeTensor (s : State) (o : Op) (h : Handle) (d : TDesc) : State :=
  let es := (List.range d.places).flatMap fun b => rawElems d.fmt (d.placeCount b) (s.tensorOctets o h d (b * placeBytes) placeBytes)
  let tab := o.encTable h
  let s := (List.range d.places).foldl (fun s b => s.encodePlace o h d tab b) s
  s.modAct (actKey o.d.tenant o.slotModel h.code) fun a => a.note o.run (o.occurrence h) d.fmt tab es (s.tableWorn o.d.tenant tab)

/-- The marked tensors that an operation has written are encoded (R159). -/
def State.encodeOutputs (s : State) (o : Op) : State := (s.markedOutputs o).foldl (fun s x => s.encodeTensor o x.1 x.2) s

/-! ### FGEMM (R98, R99, R104) -/

/-- Whether a pod can take one more operation (R105, R110, R164). -/
def State.podOpen (s : State) (o : Op) : Bool := decide ((s.pod o.podOf).ops.length + s.podShadows o.podOf < 2) && !s.exp.withdrawn.contains o.podOf

/-- An operation joins its pod. -/
def State.joinPod (s : State) (slot : Nat) (o : Op) (total : Nat) : State :=
  s.modPod o.podOf fun p => { p with ops := p.ops ++ [{ slot := slot, total := total }] }

/-- The value drained for one output: with ACC_IN, D's FP32 element is added; the spec states no sum for an INT32 output (R175; log entry 26). -/
def State.drainWord (s : State) (o : Op) (int accIn : Bool) (r c : Nat) (w : BitVec 32) : BitVec 32 :=
  if accIn then
    if int then Config.freeWord 175 s.trust.fresh
    else accF32 ((f32 w).add (s.elem o o.d.opD r c))
  else w

/-- The outputs of a set that lie inside the result: row, column and word. -/
def State.setWords (s : State) (pod set m n : Nat) (sh : Shape) (i : Nat) : List (Nat × Nat × BitVec 32) :=
  let p := s.pod pod
  let dest := mget 0 p.setDest set
  let at' := passAt sh i m (dest / 8)
  let row0 := at'.2 * sh.rows * i + dest % 8 * sh.rows
  let col0 := at'.1 * sh.cols
  ((List.range 256).map fun x => (row0 + x / sh.cols, col0 + x % sh.cols, mget 0 p.acc (set * 256 + x))).filter fun e => decide (e.1 < m) && decide (e.2.1 < n)

/-- The outputs of a set written to the result tensor, in its tiles; a destination that the tenant does not own takes none (R22, R105). -/
def State.writeSet (s : State) (o : Op) (int accIn : Bool) (ws : List (Nat × Nat × BitVec 32)) : State :=
  match s.tensor o o.d.opC with
  | none => s
  | some d =>
    match s.tensorFlat o o.d.opC d 0 with
    | none => s
    | some a =>
      if s.ownerAt a = o.d.tenant then
        ws.foldl (fun s' e => s'.writeTensor o o.d.opC d (tileBit { d with fmt := 0 } e.1 e.2.1 / 8) (le 4 (s.drainWord o int accIn e.1 e.2.1 e.2.2).toNat)) s
      else s.discardXfer o.d.tenant a

/-- An operation whose passes have run and whose sets are all free has done its work. -/
def State.fabCheck (s : State) (slot : Nat) (o : Op) : State :=
  match (s.pod o.podOf).ops.find? fun f => decide (f.slot = slot) with
  | none => s
  | some f =>
    if f.total ≤ f.passes ∧ f.sets = [] ∧ f.poisoned = false then
      ((s.encodeOutputs o).setOp slot fun x => { x with accSat := x.accSat || f.accSat }).workDone slot
    else s

/-- POD_IDLE (R106): no core has performed a k-step for 64 hs, whether or not operations wait on the pod. -/
def execPodIdle (pod : Nat) (s : State) : Res :=
  let p := s.pod pod
  s.listed (decide (pod < 256) && p.stopped && !p.idle) (s.modPod pod fun q => { q with idle := true })

/-! ### FATTN (R131, R132, R134) -/

/-- Running result of one query row, with the clamps and dropped NaNs on the way to it. -/
structure AttRow where
  m : BitVec 32
  l : BitVec 32
  o : List (BitVec 32)
  clamps : Nat := 0
  drops : Nat := 0
deriving DecidableEq, Repr

/-- The scale x_r of a query row: a power of two by R37 with emax 8, NaN for a row with a NaN; 1 for BF16 and MXFP8 (R132). -/
def rowScale (f : KvFmt) (xs : List Val) : Val :=
  match f with
  | .e4m3 => if xs.any (fun v => decide (v = .nan)) then .nan else .fin false 1 (mxExp 8 xs)
  | _ => .fin false 1 0

/-- A query row in its operand format: the codes of its elements, each with its block scale for MXFP8, and what the narrowing counts (R37, R39, R132). -/
structure Query where
  codes : List (Nat × Nat)
  clamps : Nat
  drops : Nat
deriving DecidableEq, Repr

/-- A query row narrowed to a format other than MXFP8. -/
def queryOf (ns : List Narrow) : Query := { codes := ns.map fun n => (n.code, 127), clamps := (ns.map (·.clamp)).sum, drops := (ns.map (·.drop)).sum }

/-- A query row in its operand format (R132). -/
def queryRow (f : KvFmt) (xs : List Val) : Query :=
  match f with
  | .e4m3 => queryOf (xs.map fun v => narrow .e4m3 (v.div (rowScale f xs)))
  | .bf16 => queryOf (xs.map (narrow .bf16))
  | .mxfp8 =>
    let bl := (List.range (cdiv xs.length 32)).map fun b => mxEncode .e4m3 8 ((xs.drop (32 * b)).take 32)
    { codes := bl.flatMap fun b => b.elems.map fun c => (c, b.scale), clamps := (bl.map (·.clamp)).sum, drops := (bl.map (·.drop)).sum }

/-- The format of a query's elements. -/
def KvFmt.queryFmt : KvFmt → Fmt
  | .bf16 => .bf16 | _ => .e4m3

/-- A dot product in an FP32 accumulator, ascending k (R96). -/
def dotF32 (xs ys : List Val) : BitVec 32 := (List.zipWith (fun a b => (a, b)) xs ys).foldl (fun acc p => fmaAcc acc p.1 p.2) 0

/-- A dot product of microscaling operands, codes with their block scales: per block of 32, the FP32 partial times 2^(X_A + X_B) is added (R96). -/
def dotMx (f g : Fmt) (xs ys : List (Nat × Nat)) : BitVec 32 :=
  let ps := List.zipWith (fun a b => (a, b)) xs ys
  (List.range (cdiv ps.length 32)).foldl (fun acc b =>
    let bl := (ps.drop (32 * b)).take 32
    let sa := (bl.head?.map (·.1.2)).getD 127
    let sb := (bl.head?.map (·.2.2)).getD 127
    if sa = 0xFF ∨ sb = 0xFF then nanF
    else fmaAcc acc (f32 (mxPartial f g (bl.map fun p => (p.1.1, p.2.1)))) (.fin false 1 ((sa : Int) + sb - 254))) 0

/-- c_r = x_r * sK_h / sqrt d (R132). -/
def rowFactor (f : KvFmt) (xs : List Val) (sK : BitVec 32) (d : Nat) : BitVec 32 :=
  toF32 (((rowScale f xs).mul (f32 sK)).mul (Val.fin false d 0).rsqrt)

/-- The largest of FP32 words, from `m` on. -/
def maxF32 (m : BitVec 32) (xs : List (BitVec 32)) : BitVec 32 := xs.foldl (fun a b => toF32 ((f32 a).max (f32 b))) m

/-- P of a score: e^(s - m') times 256 in the P format, with its clamps; a hidden key gives +0 (R131, R132). -/
def pValue (f : KvFmt) (m : BitVec 32) (x : Option (BitVec 32)) : Val × Nat :=
  match x with
  | none => (.fin false 0 0, 0)
  | some sc =>
    let e := subF sc m
    let p := (f32 (vexp e.w)).mul (.fin false 1 8)
    let g : Fmt := match f with | .e4m3 => .e4m3 | _ => .bf16
    let n := narrow g p
    (decodeVal g n.code, e.clamps + n.clamp)

/-- One key tile of one row: scores (none for a hidden key) and the rows of V (R131). -/
def attTile (f : KvFmt) (a : AttRow) (scores : List (Option Fw)) (vs : List (List Val)) : AttRow :=
  let m := maxF32 a.m (scores.filterMap fun x => x.map (·.w))
  let a := { a with clamps := a.clamps + ((scores.filterMap id).map (·.clamps)).sum }
  if m = ninfF then a
  else
    let pn := scores.map fun x => pValue f m (x.map (·.w))
    let al : Fw := if a.m = ninfF then { w := 0 } else if a.m = m then { w := oneF } else let e := subF a.m m; { w := vexp e.w, clamps := e.clamps }
    let sum := pn.foldl (fun (acc : Fw) p => rnd ((f32 acc.w).add p.1) acc.clamps) { w := 0 }
    let l := (mulF a.l al.w).add sum
    let os := (List.range a.o.length).map fun j =>
      let x := mulF ((a.o[j]?).getD 0) al.w
      ({ w := accF32 ((f32 x.w).add (f32 (dotF32 (pn.map (·.1)) (vs.map fun v => (v[j]?).getD (.fin false 0 0))))), clamps := x.clamps } : Fw)
    { a with m := m, l := l.w, o := os.map (·.w), clamps := a.clamps + al.clamps + (pn.map (·.2)).sum + l.clamps + (os.map (·.clamps)).sum }

/-- Keys in a tile: floor(16 / i) * C, never more than 512 (R131). -/
def keysPerTile (sh : Shape) (i : Nat) : Nat := max 1 (min 512 (16 / max 1 i * sh.cols))

/-- Tokens of the step of a query row, and the position of row `r` of them: rows stand head by head, and in each head by position (R134, R136; log entry 27). -/
def StepRun.rowPos (r : StepRun) (member row : Nat) : Nat := (r.poss[member]?).getD 0 + row % max 1 r.tokens

/-- Query rows of an attention operation over one KV head: its g query heads times the step's tokens (R134). -/
def StepRun.attRows (r : StepRun) (g : Nat) : Nat := g * max 1 r.tokens

/-- One key position seen by a row: its score, times c_r, where the mask shows it (R131, R132). -/
def State.attScore (s : State) (sess layer head d : Nat) (f : KvFmt) (t : Template) (pre pq : Nat) (q : Query) (c : BitVec 32) (pk : Nat) : Option Fw :=
  if visible t pre pk pq then
    let k := fun j => head * d + j
    some (match f with
      | .mxfp8 => mulF (dotMx .e4m3 .e4m3 q.codes ((List.range d).map fun j => s.kvMxCode sess layer pk (k j))) c
      | _ => mulF (dotF32 (q.codes.map fun x => decodeVal f.queryFmt x.1) ((List.range d).map fun j => s.kvElem sess layer pk (k j))) c)
  else none

/-- Element `j` of V of a key, as the values pass reads it: MXFP8 widened and narrowed to BF16, with its clamp (R132). -/
def State.attValue (s : State) (f : KvFmt) (sess layer i : Nat) (pk : Nat) : Val × Nat :=
  let v := s.kvElem sess layer pk i
  match f with
  | .mxfp8 => let n := narrow .bf16 v; (decodeVal .bf16 n.code, n.clamp)
  | _ => (v, 0)

/-- sK_h of an operation's image; 1.0 for BF16 and MXFP8 (R140). -/
def State.keyScale (s : State) (o : Op) (f : KvFmt) (layer heads head : Nat) : BitVec 32 :=
  match f, (s.opImage o).map (·.1.params) with
  | .e4m3, some p => (p.kScale[layer * heads + head]?).getD oneF
  | _, _ => oneF

/-- The key tiles of a range. -/
def keyTiles (n : Nat) (keys : List Nat) : List (List Nat) := (List.range (cdiv keys.length n)).map fun i => (keys.drop (i * n)).take n

/-- One query row over the keys of its operation (R131). -/
def State.attRow (s : State) (o : Op) (t : Template) (run : StepRun) (head g pre : Nat) (keys : List Nat) (row : Nat) : AttRow :=
  let sess := o.d.session
  let sh := s.kvShape sess
  let d := sh.2.2
  let xs := (List.range d).map fun j => s.elem o o.d.opA (o.member * run.attRows g + row) j
  let q := queryRow sh.1 xs
  let c := rowFactor sh.1 xs (s.keyScale o sh.1 t.layer sh.2.1 head) d
  (keyTiles (keysPerTile t.shape t.inter) keys).foldl (fun a ks =>
    attTile sh.1 a (ks.map (s.attScore sess t.layer head d sh.1 t pre (run.rowPos o.member row) q c))
      (ks.map fun pk => (List.range d).map fun j => (s.attValue sh.1 sess t.layer (sh.2.1 * d + head * d + j) pk).1))
    { m := ninfF, l := 0, o := List.replicate d 0, clamps := q.clamps, drops := q.drops }

/-- The clamps of widening a range's V to BF16, taken once for each tile. -/
def State.valueClamps (s : State) (o : Op) (layer head : Nat) (keys : List Nat) : Nat :=
  let sh := s.kvShape o.d.session
  (keys.map fun pk => ((List.range sh.2.2).map fun j => (s.attValue sh.1 o.d.session layer (sh.2.1 * sh.2.2 + head * sh.2.2 + j) pk).2).sum).sum

/-- Formats of the scores pass and of the values pass (R132). -/
def KvFmt.passFmts : KvFmt → Nat × Nat
  | .e4m3 => (3, 3) | .bf16 => (2, 2) | .mxfp8 => (10, 2)

/-- Time in hs of one key tile of `n` keys for `m` rows run `reps` times (R98, R99, R108). -/
def tileHs (sh : Shape) (i m d n reps : Nat) (f : KvFmt) : Nat :=
  reps * (passesOf sh i m n * passHs f.passFmts.1 f.passFmts.1 d i + passesOf sh i m d * passHs f.passFmts.2 f.passFmts.2 n i)

/-- Row slots of one key tile that run with zero operands (R99). -/
def tileIdle (sh : Shape) (i m d n reps : Nat) : Nat :=
  reps * (cdiv n sh.cols + cdiv d sh.cols) * (cdiv m (sh.rows * i) * (sh.rows * i) - m)

/-- Rows that a pass takes and how often: the group's heads in decode; the chunk's positions, head after head, in prefill (R134). -/
def StepRun.attReps (r : StepRun) (g : Nat) : Nat × Nat := if r.tokens ≤ 1 then (g, 1) else (r.tokens, g)

/-- The keys of an attention operation: the visible ones of its range (R135, R137). -/
def State.opKeys (s : State) (o : Op) (run : StepRun) : List Nat :=
  match o.d.k with
  | .fattn _ _ first keys pre =>
    ((seenKeys (s.opTemplate o) pre ((run.poss[o.member]?).getD 0) (max 1 run.tokens)).dropWhile fun k => decide (k < first)).take keys
  | _ => []

/-- The pages in which keys stand. -/
def State.rangePages (s : State) (sess layer : Nat) (keys : List Nat) : List Nat := (keys.filterMap fun k => s.pageOf sess layer k).dedup

/-- An operation reads pages and the staged entries of a layer: they are held until it completes (R143, R145). -/
def State.holdPages (s : State) (slot sess layer : Nat) (ps : List Nat) : State :=
  let st := ((s.stagingOf sess).filter fun e => decide (e.layer = layer)).map (·.pos)
  let s := ps.foldl (fun s n => s.setPage n fun p => { p with readers := p.readers + 1, lastUse := s.now }) s
  let s := s.modStagingOf sess fun l => l.map fun e => if e.layer = layer then { e with readers := e.readers + 1 } else e
  s.setOp slot fun o => { o with pages := ps, staged := st }

/-- The words of a row's result: o, then m, then l. -/
def AttRow.words (a : AttRow) : List (BitVec 32) := a.o ++ [a.m, a.l]

/-- What the key tiles of an attention operation count: busy hs, idle row slots, clamps and dropped NaNs (R39, R109). -/
def State.countAtt (s : State) (o : Op) (run : StepRun) (g : Nat) (keys : List Nat) (extra : Nat) (rows : List AttRow) : State :=
  let t := s.opTemplate o
  let sh := s.kvShape o.d.session
  let rr := run.attReps g
  let ns := (keyTiles (keysPerTile t.shape t.inter) keys).map (·.length)
  let s := (s.ocount o 0xA400 2 ((ns.map fun n => tileHs t.shape t.inter rr.1 sh.2.2 n rr.2 sh.1).sum)).ocount o 0xA400 6 ((ns.map fun n => tileIdle t.shape t.inter rr.1 sh.2.2 n rr.2).sum)
  (s.ocount o 0xA100 1 ((rows.map (·.clamps)).sum + extra)).ocount o 0xA100 4 ((rows.map (·.drops)).sum)

/-- Where the result of a range begins in OPC: ranges and sessions of a batch stand one after another, 16 ranges a session (log entry 27). -/
def attOffset (member range rows d : Nat) : Nat := (member * 16 + range) * (rows * (d + 2) * 4)

/-- The key tiles of a FATTN run on its pod: the rows' results in OPC (R131). -/
def State.runTiles (s : State) (slot : Nat) (o : Op) (run : StepRun) (head g pre : Nat) : State :=
  let t := s.opTemplate o
  let d := (s.kvShape o.d.session).2.2
  let keys := s.opKeys o run
  let rows := (List.range (run.attRows g)).map (s.attRow o t run head g pre keys)
  let extra := s.valueClamps o t.layer head keys
  let s := (s.wakePod o.podOf o.d.tenant).countAtt o run g keys extra rows
  let s := match s.tensor o o.d.opC with
    | none => s
    | some td => s.putWords o o.d.opC td (attOffset o.member o.range (run.attRows g) d) (rows.flatMap AttRow.words)
  s.modPod o.podOf fun q => { q with ops := q.ops.map fun f => if f.slot = slot then { f with passes := f.total } else f }

/-- A FATTN runs once its pod has free sets for its interleave, and none of its blocks waits for the serial decoder (R104, R105, R164). -/
def State.runAtt (s : State) (slot : Nat) (o : Op) : State :=
  let p := s.pod o.podOf
  match p.ops.find? fun f => decide (f.slot = slot), o.d.k, s.run o.run with
  | some f, .fattn head g _ _ pre, some run =>
    if f.poisoned = false ∧ f.passes < f.total ∧ max 1 (s.opTemplate o).inter ≤ p.freeSets.length ∧
       (s.exp.recovering.all fun r => decide (r.slot ≠ slot)) = true then
      (s.runTiles slot o run head g pre).fabCheck slot o
    else s
  | _, _, _ => s

/-! ### A pod's operations (R104, R105) -/

/-- The passes that one operation of a pod can run now. -/
def State.runOne (s : State) (slot : Nat) : State :=
  match s.op slot with
  | none => s
  | some o => if o.d.kind = .fattn then s.runAtt slot o else s.runPasses slot o 16

/-- The passes that a pod's operations can run now, the older operation's first; the next one may hold the other 16 sets (R105). -/
def State.runPod (s : State) (pod : Nat) : State := ((s.pod pod).ops.map (·.slot)).foldl State.runOne s

/-- An operation leaves its pod: its sets are freed, and the other operation goes on. -/
def State.leavePod (s : State) (slot : Nat) (o : Op) : State :=
  let p := s.pod o.podOf
  let sets := (p.ops.filter fun f => decide (f.slot = slot)).flatMap (·.sets)
  (s.modPod o.podOf fun q => { (sets.foldl Pod.drop q) with ops := q.ops.filter fun f => decide (f.slot ≠ slot) }).runPod o.podOf

/-- DRAIN_SET (R104, R105): the drain port writes a full set and frees it, and passes that waited for sets run. -/
def execDrainSet (pod set : Nat) (s : State) : Res :=
  let p := s.pod pod
  match s.op (mget 0 p.setOwner set - 1) with
  | none => .next s.unlisted
  | some o =>
    match o.d.k.gemm with
    | some (m, n, _, sh, i, accIn, _) =>
      s.listed (decide (mget .free p.setState set = .full))
        (((((s.writeSet o (mget false p.setInt set) accIn (s.setWords pod set m n sh i)).modPod pod fun q => q.drop set).drawn).runPod pod).fabCheck (mget 0 p.setOwner set - 1) o)
    | _ => .next s.unlisted

/-- FGEMM (R99): the operation starts on its pod, its compressed blocks are met, and its passes run as sets allow; one of no pass has done its work. -/
def execFgemm (slot : Nat) (s : State) : Res :=
  match s.opIn slot .fgemm .dispatched with
  | none => .next s.unlisted
  | some o =>
    match o.d.k.gemm with
    | some (m, n, _, sh, i, _, _) =>
      if s.podOpen o then
        s.withPlaces o [(o.d.opA, 1), (o.d.opB, 1), (o.d.opC, 1)]
          (.next (((((s.startOp slot).joinPod slot o (passesOf sh i m n)).meetBlocks slot o).runPod o.podOf).fabCheck slot o))
      else .next s.unlisted
    | _ => .next s.unlisted

/-- FATTN (R131): (o, m, l) of every query row over one key range of one KV head; the blocks of a compressed A are met first (R166). -/
def execFattn (slot : Nat) (s : State) : Res :=
  match s.opIn slot .fattn .dispatched with
  | none => .next s.unlisted
  | some o =>
    match o.d.k, s.run o.run with
    | .fattn _ g _ _ _, some run =>
      if s.podOpen o then
        let d := (s.kvShape o.d.session).2.2
        let l := (s.opTemplate o).layer
        s.withPlaces o [(o.d.opA, 1), (o.d.opC, attOffset o.member (o.range + 1) (run.attRows g) d)]
          (.next ((((((s.startOp slot).joinPod slot o 1).holdPages slot o.d.session l (s.rangePages o.d.session l (s.opKeys o run))).meetBlocks slot o).runPod o.podOf)))
      else .next s.unlisted
    | _, _ => .next s.unlisted

end Sys2Proof.Machine
end

