-- ==== Sys2Proof/Machine/Vector.lean ====
section
/-! DEFINITION. The vector engine's commands: VPROG and one command for each instruction a unit issues (R111..R130, R41, R42, R48, R49). -/

namespace Sys2Proof.Machine

/-! ### Buffer and operand runs (R112) -/

/-- A word of the vector buffer; beyond word 4,095 there is none, and what is read there is open. -/
def VecUnit.word (u : VecUnit) (a : Nat) : BitVec 32 := if a < 4096 then mget 0 u.buf a else Config.freeWord 112 a

/-- `n` bits from bit `bit` on of the run at word `a`. -/
def VecUnit.bits (u : VecUnit) (a bit n : Nat) : Nat :=
  nbits ((u.word (a + bit / 32)).toNat + 2 ^ 32 * (u.word (a + bit / 32 + 1)).toNat) (bit % 32) n

/-- A word written; a word beyond the buffer takes nothing. -/
def VecUnit.put (u : VecUnit) (a : Nat) (w : BitVec 32) : VecUnit := if a < 4096 then { u with buf := mset 0 u.buf a w } else u

/-- Words written from `a` on. -/
def VecUnit.puts (u : VecUnit) (a : Nat) : List (BitVec 32) → VecUnit
  | [] => u
  | w :: t => (u.put a w).puts (a + 1) t

/-- `n` bits written at bit `bit` of the run at word `a`; the other bits keep their contents. -/
def VecUnit.putBits (u : VecUnit) (a bit n v : Nat) : VecUnit :=
  let k := a + bit / 32
  let old := (u.word k).toNat + 2 ^ 32 * (u.word (k + 1)).toNat
  let new := old - nbits old (bit % 32) n * 2 ^ (bit % 32) + v % 2 ^ n * 2 ^ (bit % 32)
  let u := u.put k (BitVec.ofNat 32 new)
  if bit % 32 + n ≤ 32 then u else u.put (k + 1) (BitVec.ofNat 32 (new / 2 ^ 32))

/-- Codes of `n` bits written one after another from code `i` of the run at word `a`. -/
def VecUnit.putCodes (u : VecUnit) (a n i : Nat) : List Nat → VecUnit
  | [] => u
  | c :: t => (u.putBits a (i * n) n c).putCodes a n (i + 1) t

/-- A scalar register. -/
def VecUnit.scalar (u : VecUnit) (k : Nat) : BitVec 32 := mget 0 u.sc k
/-- A scalar register written. R122's `k ≤ 12` is no condition of R114, so a group of registers that runs past SC15 refuses nothing: its words beyond SC15 are held like registers (DESIGN CHOICE, log entry 65). -/
def VecUnit.setScalar (u : VecUnit) (k : Nat) (w : BitVec 32) : VecUnit := { u with sc := mset 0 u.sc k w }

/-- Word `x` of a pod's accumulator space (set * 256 + word), an INT32 set converted to FP32 (R112). -/
def Pod.accWord (p : Pod) (x : Nat) : BitVec 32 :=
  let w := mget 0 p.acc x
  if mget false p.setInt (x / 256) then f32OfInt w.toInt else w

/-- Element count of an instruction. -/
def VF.n (f : VF) : Nat := f.cnt + 1
/-- The scalar register that SRCB names. -/
def VF.scB (f : VF) : Nat := f.srcb % 16
/-- The scalar register that DST names. -/
def VF.scD (f : VF) : Nat := f.dst % 16
/-- MOD bit `k`. -/
def VF.mbit (f : VF) (k : Nat) : Bool := nbit f.mod k

/-- FP32 word `i` of source A. -/
def State.srcA (s : State) (unit : Nat) (f : VF) (i : Nat) : BitVec 32 :=
  if f.spa = 1 then (s.pod unit).accWord (f.addra + i) else (s.unit unit).word (f.addra % 4096 + i)

/-- The value of element `i` of source A, packed as format `fm`; accumulator words are FP32 (R112). -/
def State.srcVal (s : State) (unit : Nat) (f : VF) (fm : Fmt) (i : Nat) : Val :=
  if f.spa = 1 then f32 (s.srcA unit f i) else decodeVal fm ((s.unit unit).bits (f.addra % 4096) (i * fm.bits) fm.bits)

/-- Elements 0..n-1 of source A as FP32 words, each with its index. -/
def State.srcWords (s : State) (unit : Nat) (f : VF) : List (Nat × BitVec 32) := (List.range f.n).map fun i => (i, s.srcA unit f i)

/-- The sets that a run of `n` words of source A reads. -/
def VF.setsOf (f : VF) (n : Nat) : List Nat :=
  if f.spa = 1 then ((List.range 32).filter fun k => decide (f.addra / 256 ≤ k) && decide (k ≤ (f.addra + n - 1) / 256)) else []
/-- The sets that source A reads. -/
def VF.setsRead (f : VF) : List Nat := f.setsOf f.n

/-! ### Issue (R113, R115, R117, R118) -/

/-- The 64-bit word of an instruction. -/
def VF.encode (opc : Nat) (f : VF) : BitVec 64 :=
  BitVec.ofNat 64 (opc * 2 ^ 56 + f.cnt * 2 ^ 44 + f.dst * 2 ^ 32 + f.spa * 2 ^ 31 + f.addra * 2 ^ 18 + f.srcb * 2 ^ 6 + f.mod)

/-- The program of a unit whose next word is `w`. -/
def State.nextWord (s : State) (unit : Nat) (w : BitVec 64) : Option Running :=
  match (s.unit unit).running with
  | some r => if r.words[r.pc]? = some w then some r else none
  | none => none

/-- The operation whose program a unit runs. -/
def State.runningOp (s : State) (r : Running) : Option Op := s.op r.slot

/-- A read with RELEASE frees a full set, and the passes that waited for sets run (R105, R110, R118). -/
def State.releaseSet (s : State) (unit set : Nat) : State :=
  let p := s.pod unit
  if mget .free p.setState set = .full then
    let owner := mget 0 p.setOwner set - 1
    let s := (s.modPod unit fun q => q.drop set).runPod unit
    match s.op owner with
    | some o => s.fabCheck owner o
    | none => s
  else s

/-- An instruction of a unit: it must be the next word of the unit's program, and it waits while a pass fills a set that it reads (R117, R118). Its beats are counted, its effect happens, the sets it releases are freed and the program goes on. -/
def vecIssue (unit opc lanes : Nat) (f : VF) (sets : List Nat) (release : Bool) (s : State) (eff : Running → State → State) : Res :=
  match s.nextWord unit (f.encode opc) with
  | none => .next s.unlisted
  | some r =>
    if sets.any fun k => decide (mget .free (s.pod unit).setState k = .filling) then .next s.unlisted
    else
      let s := eff r (s.tcount r.tenant 0xA500 2 (cdiv f.n lanes))
      let s := if release && f.mbit 5 then sets.foldl (fun s k => s.releaseSet unit k) s else s
      .next (s.modUnit unit fun u => { u with running := u.running.map fun q => { q with pc := q.pc + 1 } })

/-- Clamps and dropped NaNs of a narrowing, counted to the tenant (R39, R53). -/
def State.countNarrow (s : State) (t : Nat) (ns : List Narrow) : State :=
  let c := (ns.map (·.clamp)).sum
  let d := (ns.map (·.drop)).sum
  let s := if c = 0 then s else s.tcount t 0xA100 1 c
  if d = 0 then s else s.tcount t 0xA100 4 d

/-- Clamps of FP32 results, counted to the tenant (R39, R53). -/
def State.countClamps (s : State) (t n : Nat) : State := if n = 0 then s else s.tcount t 0xA100 1 n

/-- Narrowed elements written as a packed run at DST. -/
def State.putRun (s : State) (unit : Nat) (f : VF) (r : Running) (bits : Nat) (ns : List Narrow) : State :=
  (s.countNarrow r.tenant ns).modUnit unit fun u => u.putCodes f.dst bits 0 (ns.map (·.code))

/-! ### Element-wise arithmetic (R116) -/

/-- The format that MOD bit 0 selects. -/
def VF.ewFmt (f : VF) : Fmt := if f.mbit 0 then .bf16 else .fp32

/-- Element `i` of the destination run. -/
def State.dstVal (s : State) (unit : Nat) (f : VF) (i : Nat) : Val :=
  decodeVal f.ewFmt ((s.unit unit).bits f.dst (i * f.ewFmt.bits) f.ewFmt.bits)

/-- Element `i` of source B. -/
def State.srcB (s : State) (unit : Nat) (f : VF) (i : Nat) : Val :=
  decodeVal f.ewFmt ((s.unit unit).bits f.srcb (i * f.ewFmt.bits) f.ewFmt.bits)

/-- Elements 32 FP32 or 64 BF16 per hs. -/
def VF.ewLanes (f : VF) : Nat := if f.mbit 0 then 64 else 32

/-- An element-wise instruction: `g a b d` for each element. -/
def vecEw (unit opc : Nat) (f : VF) (g : Val → Val → Val → Val) (s : State) : Res :=
  vecIssue unit opc f.ewLanes f f.setsRead true s fun r s =>
    s.putRun unit f r f.ewFmt.bits ((List.range f.n).map fun i => narrow f.ewFmt (g (s.srcVal unit f f.ewFmt i) (s.srcB unit f i) (s.dstVal unit f i)))

/-- The same with b := SC[SRCB], which is read as FP32 with either format of MOD bit 0: R116 gives the scalar no other format (DESIGN CHOICE, log entry 65). -/
def vecEwS (unit opc : Nat) (f : VF) (g : Val → Val → Val → Val) (s : State) : Res :=
  vecIssue unit opc f.ewLanes f f.setsRead true s fun r s =>
    let b := f32 ((s.unit unit).scalar f.scB)
    s.putRun unit f r f.ewFmt.bits ((List.range f.n).map fun i => narrow f.ewFmt (g (s.srcVal unit f f.ewFmt i) b (s.dstVal unit f i)))

/-- ADD: a + b. -/
def execVAdd (unit : Nat) (f : VF) (s : State) : Res := vecEw unit 0x01 f (fun a b _ => a.add b) s
/-- SUB: a - b. -/
def execVSub (unit : Nat) (f : VF) (s : State) : Res := vecEw unit 0x02 f (fun a b _ => a.sub b) s
/-- MUL: a * b. -/
def execVMul (unit : Nat) (f : VF) (s : State) : Res := vecEw unit 0x03 f (fun a b _ => a.mul b) s
/-- FMA: a * b + d, rounded once. -/
def execVFma (unit : Nat) (f : VF) (s : State) : Res := vecEw unit 0x04 f (fun a b d => (a.mul b).add d) s
/-- MAX. -/
def execVMax (unit : Nat) (f : VF) (s : State) : Res := vecEw unit 0x05 f (fun a b _ => a.max b) s
/-- MIN. -/
def execVMin (unit : Nat) (f : VF) (s : State) : Res := vecEw unit 0x06 f (fun a b _ => a.min b) s
/-- ABS. -/
def execVAbs (unit : Nat) (f : VF) (s : State) : Res := vecEw unit 0x07 f (fun a _ _ => a.abs) s
/-- NEG. -/
def execVNeg (unit : Nat) (f : VF) (s : State) : Res := vecEw unit 0x08 f (fun a _ _ => a.neg) s
/-- MOV. -/
def execVMov (unit : Nat) (f : VF) (s : State) : Res := vecEw unit 0x09 f (fun a _ _ => a) s
/-- ADDS. -/
def execVAdds (unit : Nat) (f : VF) (s : State) : Res := vecEwS unit 0x11 f (fun a b _ => a.add b) s
/-- SUBS. -/
def execVSubs (unit : Nat) (f : VF) (s : State) : Res := vecEwS unit 0x12 f (fun a b _ => a.sub b) s
/-- MULS. -/
def execVMuls (unit : Nat) (f : VF) (s : State) : Res := vecEwS unit 0x13 f (fun a b _ => a.mul b) s
/-- FMAS. -/
def execVFmas (unit : Nat) (f : VF) (s : State) : Res := vecEwS unit 0x14 f (fun a b d => (a.mul b).add d) s
/-- MAXS. -/
def execVMaxs (unit : Nat) (f : VF) (s : State) : Res := vecEwS unit 0x15 f (fun a b _ => a.max b) s
/-- MINS. -/
def execVMins (unit : Nat) (f : VF) (s : State) : Res := vecEwS unit 0x16 f (fun a b _ => a.min b) s

/-! ### Functions (R121) -/

/-- A transcendental instruction, FP32 only; `c` counts the clamp of an element. -/
def vecFnC (unit opc : Nat) (f : VF) (c : BitVec 32 → Nat) (g : BitVec 32 → BitVec 32) (s : State) : Res :=
  vecIssue unit opc 16 f f.setsRead true s fun r s =>
    let xs := s.srcWords unit f
    (s.countClamps r.tenant (xs.map fun x => c x.2).sum).modUnit unit fun u => u.puts f.dst (xs.map fun x => g x.2)

/-- A transcendental instruction whose results never leave the range. -/
def vecFn (unit opc : Nat) (f : VF) (g : BitVec 32 → BitVec 32) (s : State) : Res := vecFnC unit opc f (fun _ => 0) g s

/-- EXP. -/
def execVExp (unit : Nat) (f : VF) (s : State) : Res := vecFn unit 0x21 f vexp s
/-- LOG. -/
def execVLog (unit : Nat) (f : VF) (s : State) : Res := vecFn unit 0x22 f vlog s
/-- RCP. -/
def execVRcp (unit : Nat) (f : VF) (s : State) : Res := vecFnC unit 0x23 f rcpClamp vrcp s
/-- RSQ. -/
def execVRsq (unit : Nat) (f : VF) (s : State) : Res := vecFn unit 0x24 f vrsq s
/-- SIG. -/
def execVSig (unit : Nat) (f : VF) (s : State) : Res := vecFn unit 0x25 f vsig s
/-- TANH. -/
def execVTanh (unit : Nat) (f : VF) (s : State) : Res := vecFn unit 0x26 f vtanh s
/-- GELU. -/
def execVGelu (unit : Nat) (f : VF) (s : State) : Res := vecFn unit 0x27 f vgelu s
/-- SILU. -/
def execVSilu (unit : Nat) (f : VF) (s : State) : Res := vecFn unit 0x28 f vsilu s

/-! ### Normalisation and rotary codes (R116, R122, R123) -/

/-- The sum of squares in the lanes with its clamps: each lane adds its squares by FMA (R116, R119). -/
def squareSumF (xs : List (Nat × BitVec 32)) : Fw := laneFold (fun v => mulF v v) (fun a x => rnd ((f32 a.w).add ((f32 x).mul (f32 x))) a.clamps) xs

/-- The sum of squares (R116, R119). -/
def squareSum (xs : List (Nat × BitVec 32)) : BitVec 32 := (squareSumF xs).w

/-- STAT: SC[k] += sum a, SC[k+1] += sum a^2. -/
def execVStat (unit : Nat) (f : VF) (s : State) : Res :=
  vecIssue unit 0x30 32 f f.setsRead true s fun r s =>
    let xs := s.srcWords unit f
    let u := s.unit unit
    let k := f.scD
    let a := Fw.add { w := u.scalar k } (laneSumF xs)
    let b := Fw.add { w := u.scalar (k + 1) } (squareSumF xs)
    (s.countClamps r.tenant (a.clamps + b.clamps)).modUnit unit fun u => (u.setScalar k a.w).setScalar (k + 1) b.w

/-- The mean and r of a NORM with their clamps: r is 1 / sqrt of the variance and epsilon, with the error of RSQ (R122). -/
def normRF (layer : Bool) (sum sq n eps : BitVec 32) : Fw × Fw :=
  let mu := if layer then rnd ((f32 sum).div (f32 n)) else { w := 0 }
  let ms := rnd ((f32 sq).div (f32 n))
  let v := Fw.add (if layer then ms.sub (mulF mu.w mu.w) else ms) { w := eps }
  (mu, { w := vrsq v.w, clamps := v.clamps })

/-- The mean and r of a NORM (R122). -/
def normR (layer : Bool) (sum sq n eps : BitVec 32) : BitVec 32 × BitVec 32 := ((normRF layer sum sq n eps).1.w, (normRF layer sum sq n eps).2.w)

/-- One element of a NORM with its clamps; each operation rounds (R38, R122). -/
def normYF (layer : Bool) (mu r x g b : BitVec 32) : Fw :=
  if layer then (((subF x mu).mul { w := r }).mul { w := g }).add { w := b } else (mulF x r).mul { w := g }

/-- One element of a NORM (R122). -/
def normY (layer : Bool) (mu r x g b : BitVec 32) : BitVec 32 := (normYF layer mu r x g b).w

/-- NORM (R122). -/
def execVNorm (unit : Nat) (f : VF) (s : State) : Res :=
  vecIssue unit 0x31 32 f f.setsRead true s fun r s =>
    let u := s.unit unit
    let k := nbits f.mod 1 4
    let layer := f.mbit 0
    let mr := normRF layer (u.scalar k) (u.scalar (k + 1)) (u.scalar (k + 2)) (u.scalar (k + 3))
    let ys := (s.srcWords unit f).map fun x => normYF layer mr.1.w mr.2.w x.2 (u.word (f.srcb + x.1)) (if layer then u.word (f.srcb + f.n + x.1) else 0)
    (s.countClamps r.tenant (mr.1.clamps + mr.2.clamps + (ys.map (·.clamps)).sum)).modUnit unit fun u => u.puts f.dst (ys.map (·.w))

/-- One rotated pair with its clamps (R123). -/
def rotateF (p fr x y : BitVec 32) : List Fw :=
  let a := angleHeld (mulF32 p fr)
  [(mulF x (vcos a)).sub (mulF y (vsin a)), (mulF x (vsin a)).add (mulF y (vcos a))]

/-- One rotated pair (R123). -/
def rotate (p fr x y : BitVec 32) : List (BitVec 32) := (rotateF p fr x y).map (·.w)

/-- ROPE (R123): an angle beyond ±2^24 counts one clamp for its pair, results beyond the range one each. -/
def execVRope (unit : Nat) (f : VF) (s : State) : Res :=
  vecIssue unit 0x32 16 f f.setsRead true s fun r s =>
    let u := s.unit unit
    let p := u.scalar (f.mod % 16)
    let js := List.range (f.n / 2)
    let beyond := (js.filter fun j => angleOver (mulF32 p (u.word (f.srcb + j)))).length
    let ys := js.flatMap fun j => rotateF p (u.word (f.srcb + j)) (s.srcA unit f (2 * j)) (s.srcA unit f (2 * j + 1))
    (s.countClamps r.tenant (beyond + (ys.map (·.clamps)).sum)).modUnit unit fun u => u.puts f.dst (ys.map (·.w))

/-! ### Conversion (R116, R37) -/

/-- An element narrowed to the format that a code of R115 names. -/
def qntElem (code : Nat) (v : Val) : Narrow :=
  match fmtOf code with
  | some fm => if isMx code then narrowMx fm v else narrow fm v
  | none => { code := (Config.freeWord 0x40 code).toNat % 2 ^ fmtBits code }

/-- QNT: a / SC[SRCB] narrowed to the format in MOD bits 3:0. A microscaling format takes each quotient into its element format by R39's last column and writes no scale: QNT has no operand for scales, which are MXQ's (DEDUCED, log entry 65). Code 15 is reserved and refused at install (R114). -/
def execVQnt (unit : Nat) (f : VF) (s : State) : Res :=
  vecIssue unit 0x40 32 f f.setsRead true s fun r s =>
    let d := f32 ((s.unit unit).scalar f.scB)
    s.putRun unit f r (fmtBits (f.mod % 16)) ((s.srcWords unit f).map fun x => qntElem (f.mod % 16) ((f32 x.2).div d))

/-- DQT: FP32(a) times SC[SRCB], from the format in MOD bits 3:0; the elements of a microscaling format count as their element format. DQT has no operand for a scale run: the program puts a block's scale into SC[SRCB], and a scale of 0xFF is a NaN there, so its 32 elements become canonical NaNs (R35, R37; DEDUCED, log entry 65). -/
def execVDqt (unit : Nat) (f : VF) (s : State) : Res :=
  vecIssue unit 0x41 32 f f.setsRead true s fun r s =>
    let m := f32 ((s.unit unit).scalar f.scB)
    let ns := (List.range f.n).map fun i => narrow .fp32 ((s.srcVal unit f ((fmtOf (f.mod % 16)).getD .fp32) i).mul m)
    s.putRun unit f r 32 ns

/-- MXQ: MX encoding to format 10, 11 or 12, blocks of 32; scales to the run at SRCB, one byte a block (R37, R112). -/
def execVMxq (unit : Nat) (f : VF) (s : State) : Res :=
  match mxElem (f.mod % 16) with
  | none => .next s.unlisted
  | some (fm, emax) =>
    vecIssue unit 0x42 32 f f.setsRead true s fun r s =>
      let bl := (List.range (f.n / 32)).map fun b => mxEncode fm emax ((List.range 32).map fun i => f32 (s.srcA unit f (32 * b + i)))
      let s := s.countNarrow r.tenant (bl.map fun b => { code := 0, clamp := b.clamp, drop := b.drop })
      s.modUnit unit fun u => (u.putCodes f.dst fm.bits 0 (bl.flatMap (·.elems))).putCodes f.srcb 8 0 (bl.map (·.scale))

/-! ### Scale sites and escapes (R41, R42, R48, R124) -/

/-- Q of MOD bit 4. -/
def VF.q (f : VF) : Nat := if f.mbit 4 then 7 else 127

/-- RNE(x / scale) as an integer; none for NaN and the infinities. -/
def quantOf (x scale : Val) : Option Int :=
  match x.div scale with
  | .fin neg m e => let k : Int := (rneScale m e : Nat); some (if neg then -k else k)
  | _ => none

/-- Whether an element is an outlier of a scale: out of range, an infinity among them; a NaN is none (R42). -/
def isOutlier (q : Nat) (x scale : Val) : Bool :=
  match x with
  | .nan => false
  | .inf _ => true
  | _ => match quantOf x scale with
    | some i => decide ((q : Int) < i.natAbs)
    | none => true

/-- EMAP: the outlier map is loaded, the candidate list cleared and SC11 set to 0. -/
def execVEmap (unit : Nat) (f : VF) (s : State) : Res :=
  vecIssue unit 0x45 32 f f.setsRead true s fun _ s =>
    let rows := (List.range f.n).map fun i => (s.srcA unit f i).toNat
    s.modUnit unit fun u => { (u.setScalar 11 0) with mapRows := rows, cands := [] }

/-- The value that an escaped outlier keeps: itself, and for an infinity the clamped code's value, ±Q times the scale; narrowed to BF16 (R49, R54). -/
def escValue (q : Nat) (scale x : Val) : Narrow :=
  narrow .bf16 (match x with
    | .inf neg => (Val.fin neg q 0).mul scale
    | x => x)

/-- OSCAN: the largest finite magnitude into SC14, candidates, the count of outliers off the map into SC11, and SC13 advanced; a candidate's value that BF16 cannot hold is clamped and counted (R39). -/
def execVOscan (unit : Nat) (f : VF) (s : State) : Res :=
  vecIssue unit 0x43 32 f f.setsRead true s fun r s =>
    let u := s.unit unit
    let sc := f32 (u.scalar f.scB)
    let pos := (u.scalar 13).toNat
    let xs := s.srcWords unit f
    let out := xs.filter fun x => isOutlier f.q (f32 x.2) sc
    let on := out.filter fun x => u.mapRows.contains (pos + x.1)
    let top := xs.foldl (fun a x => let v := f32 x.2; if v.finite then toF32 ((f32 a).max v.abs) else a) (u.scalar 14)
    let fin := xs.any fun x => (f32 x.2).finite
    (s.countNarrow r.tenant (on.map fun x => escValue f.q sc (f32 x.2))).modUnit unit fun u =>
      let u := ((u.setScalar 14 top).setScalar 11 (u.scalar 11 + BitVec.ofNat 32 (out.length - on.length))).setScalar 13 (BitVec.ofNat 32 (pos + f.n))
      { u with cands := u.cands ++ on.map fun x => { pos := pos + x.1, value := BitVec.ofNat 16 (escValue f.q sc (f32 x.2)).code },
               running := u.running.map fun r => { r with finite := r.finite || fin } }

/-- Whether candidate `a` comes before `b` in the choice of R48: the larger magnitude, and of equal ones the lower row. The magnitudes compared are those of the BF16 values that the candidate list keeps (R124), so two that round alike count as equal (DESIGN CHOICE, log entry 65). -/
def Cand.ahead (a b : Cand) : Bool :=
  let x := (bf16 a.value).abs
  let y := (bf16 b.value).abs
  y.lt x || (!x.lt y && decide (a.pos < b.pos))

/-- The at most 8 candidates that are kept, in their order in the list (R48, R124). -/
def keep8 (l : List Cand) : List Cand := l.filter fun c => decide ((l.filter fun d => d.ahead c).length < 8)

/-- ESCF: the kept candidates at DST as position and value words, SC12 their count, ESCAPED, and ESC_OVERFLOW for a vector with more outliers (R124). Its beats are counted as one for each element, since R116 gives only 64 candidates in 72 hs (DESIGN CHOICE, log entry 65). -/
def execVEscf (unit : Nat) (f : VF) (s : State) : Res :=
  vecIssue unit 0x44 1 f [] false s fun r s =>
    let u := s.unit unit
    let ks := keep8 u.cands
    let beyond := decide (8 < u.cands.length) || decide (u.scalar 11 ≠ 0)
    let s := if ks = [] then s else s.tcount r.tenant 0xA100 2 ks.length
    let s := if beyond then s.tcount r.tenant 0xA100 3 1 else s
    s.modUnit unit fun u => (u.puts f.dst (ks.flatMap fun c => [BitVec.ofNat 32 c.pos, c.value.setWidth 32])).setScalar 12 (BitVec.ofNat 32 ks.length)

/-- The history of a scale site in a session: what it holds, or the site's initial maximum (R41). -/
def State.history (s : State) (sess site : Nat) : List (BitVec 32) :=
  match mget [] (s.session sess).scales site with
  | [] =>
    let x := s.session sess
    match (s.mslot x.tenant x.slot).current with
    | some i => match i.params.siteMax[site]? with | some m => [m] | none => []
    | none => []
  | h => h

/-- The scale of R42 from a history: W, M and Q. -/
def siteScale (h : List (BitVec 32)) (w : Nat) (margin : BitVec 32) (q : Nat) : BitVec 32 :=
  let m := maxF32 0 (h.drop (h.length - min w h.length))
  let v := toF32 ((f32 (mulF32 m margin)).div (Val.fin false q 0))
  if (f32 v).lt (.fin false 1 (-24)) then 0x33800000 else v

/-- The scale that an operation's site has for its session; a program of no site has none (log entry 28). -/
def State.opScale (s : State) (o : Op) (q : Nat) : BitVec 32 :=
  match (s.opTemplate o).site with
  | some site => siteScale (s.history o.d.session site) o.window o.margin q
  | none => Config.freeWord 42 q

/-- The scale travels with the quantised vector of its session (R42). -/
def State.sendScale (s : State) (o : Op) (sc : BitVec 32) : State :=
  match (s.opTemplate o).site with
  | some site => s.modRun o.run fun r => r.map fun x => { x with scales := mset 0 x.scales (site * 16 + o.member) sc }
  | none => s

/-- One element of a QSITE: its code, and what is counted (R42, R48). -/
def quantSite (q : Nat) (scale x : Val) (escaped : Bool) : Narrow :=
  if escaped then { code := 0 } else narrowInt (if q = 7 then 4 else 8) q 0 (x.div scale)

/-- QSITE: a chunk, whose first element stands at SC13, quantised per R42; the positions of the first SC12 pairs at SRCB are written as 0, and the scale goes with the vector (R124; log entry 28). -/
def execVQsite (unit : Nat) (f : VF) (s : State) : Res :=
  vecIssue unit 0x46 32 f f.setsRead true s fun r s =>
    match s.runningOp r with
    | none => s
    | some o =>
      let u := s.unit unit
      let scale := s.opScale o f.q
      let sc := f32 scale
      let esc := (List.range (u.scalar 12).toNat).map fun i => (u.word (f.srcb + 2 * i)).toNat
      let pos := (u.scalar 13).toNat
      let ns := (s.srcWords unit f).map fun x => quantSite f.q sc (f32 x.2) (esc.contains (pos + x.1))
      (s.putRun unit f r (if f.mbit 4 then 4 else 8) ns).sendScale o scale

/-! ### Corrections (R125, R126) -/

/-- The weights of a row by its codes, each escape taking the next side-list value. -/
def rowWeights (bits : Nat) (side : List Val) : List Nat → List Val
  | [] => []
  | c :: t =>
    if bits = 4 ∧ c = 8 then side.headD (.fin false 0 0) :: rowWeights bits side.tail t
    else Val.ofInt (sint bits c) 0 :: rowWeights bits side t

/-- CORR: one escaped element's products added to the run at DST (R49, R125). -/
def execVCorr (unit : Nat) (f : VF) (s : State) : Res :=
  vecIssue unit 0x48 32 f f.setsRead true s fun r s =>
    let u := s.unit unit
    let x := bf16 ((u.scalar (f.mod % 16)).setWidth 16)
    let bits := if f.mbit 4 then 8 else 4
    let codes := (List.range f.n).map fun i => u.bits (f.addra % 4096) (i * bits) bits
    let half := fun i => bf16 (BitVec.ofNat 16 (u.bits f.srcb (i * 16) 16))
    let ws := rowWeights bits ((List.range (codes.filter fun c => decide (bits = 4 ∧ c = 8)).length).map fun j => half (f.n + j)) codes
    let ns := (ws.zipIdx).map fun w => narrow .fp32 ((f32 (u.word (f.dst + w.2))).add (x.mul (f32 (toF32 (w.1.mul (half w.2))))))
    (s.countClamps r.tenant ((ws.zipIdx).map fun w => clampF32 (w.1.mul (half w.2))).sum).putRun unit f r 32 ns

/-- One entry of a weight-escape table applied to a unit's buffer: the unit, whether the entry is masked, and the clamps (R126). R126 masks an entry whose COL − SC[k+3] lies outside 0..4,095; one whose target word lies beyond word 4,095 of the buffer has nowhere to add, and is masked and counted like it (DESIGN CHOICE, log entry 65). -/
def wcorrEntry (f : VF) (u : VecUnit) (e : Nat) : VecUnit × Bool × Nat :=
  let k := f.mod % 16
  let row := e % 2 ^ 24
  let col := nbits e 24 24
  let first := (u.scalar (k + 3)).toNat
  if col < first ∨ 4095 < col - first ∨ 4095 < f.dst + (col - first) then (u, true, 0)
  else
    let i := col - first
    let b := if f.mbit 4 then 4 else 8
    let q := Val.ofInt (sint b (u.bits (u.scalar k).toNat (row * b) b)) 0
    let sc := bf16 (BitVec.ofNat 16 (u.bits (u.scalar (k + 1)).toNat (i * 16) 16))
    let p := (rnd ((bf16 (BitVec.ofNat 16 (e / 2 ^ 48))).mul sc)).mul { w := u.scalar (k + 2) }
    let y := rnd ((f32 (u.word (f.dst + i))).add (q.mul (f32 p.w))) p.clamps
    (u.put (f.dst + i) y.w, false, y.clamps)

/-- The entries of a weight-escape table in order, how many were masked, and the clamps. -/
def wcorrAll (f : VF) (u : VecUnit) : List Nat → VecUnit × Nat × Nat
  | [] => (u, 0, 0)
  | e :: t =>
    let r := wcorrEntry f u e
    let q := wcorrAll f r.1 t
    (q.1, (q.2.1 + if r.2.1 then 1 else 0), q.2.2 + r.2.2)

/-- WCORR (R126). -/
def execVWcorr (unit : Nat) (f : VF) (s : State) : Res :=
  vecIssue unit 0x49 16 f (f.setsOf (2 * f.n)) true s fun r s =>
    let u := s.unit unit
    let es := (List.range f.n).map fun i => (s.srcA unit f (2 * i)).toNat + 2 ^ 32 * (s.srcA unit f (2 * i + 1)).toNat
    let q := wcorrAll f u es
    let s := if q.2.1 = 0 then s else s.tcount r.tenant 0xA500 5 q.2.1
    (s.countClamps r.tenant q.2.2).modUnit unit fun _ => q.1

/-! ### Reductions and selections (R119, R120) -/

/-- The groups of elements an axis reduces: rows or columns of each tile, or the whole run. -/
def axisGroups (axis n : Nat) (xs : List (Nat × BitVec 32)) : List (List (Nat × BitVec 32)) :=
  if axis = 2 then [xs]
  else (List.range (n / 256 * 16)).map fun g =>
    xs.filter fun x => decide (x.1 / 256 = g / 16) && decide ((if axis = 0 then x.1 % 256 / 16 else x.1 % 16) = g % 16)

/-- A reduction: `g` of each group, with its clamps; axis 2 leaves its result in SC[DST]. Axis 3 is reserved. -/
def vecRed (unit opc : Nat) (f : VF) (g : List (Nat × BitVec 32) → Fw) (s : State) : Res :=
  let axis := f.mod % 4
  if axis = 3 then .next s.unlisted
  else vecIssue unit opc 32 f f.setsRead true s fun r s =>
    let rs := (axisGroups axis f.n (s.srcWords unit f)).map g
    (s.countClamps r.tenant (rs.map (·.clamps)).sum).modUnit unit fun u =>
      if axis = 2 then u.setScalar f.scD (rs.headD { w := 0 }).w else u.puts f.dst (rs.map (·.w))

/-- RSUM. -/
def execVRsum (unit : Nat) (f : VF) (s : State) : Res := vecRed unit 0x50 f laneSumF s
/-- RMAX. -/
def execVRmax (unit : Nat) (f : VF) (s : State) : Res :=
  vecRed unit 0x51 f (fun xs => { w := toF32 ((xs.map fun x => f32 x.2).foldl Val.max (f32 ninfF)) }) s
/-- RMIN. -/
def execVRmin (unit : Nat) (f : VF) (s : State) : Res :=
  vecRed unit 0x52 f (fun xs => { w := toF32 ((xs.map fun x => f32 x.2).foldl Val.min (f32 infF)) }) s

/-- The result of RAMX over a group: index and value; all NaN gives index 0 and the canonical NaN. -/
def ramx (xs : List (Nat × BitVec 32)) : Nat × BitVec 32 :=
  match argMax xs with
  | some x => if f32 x.2 = .nan then (0, nanF) else x
  | none => (0, nanF)

/-- RAMX: with axis 2 the value in SC[DST] and the index in SC[DST+1]; the tile axes write the values and no indices, since R119 names a place for the index with axis 2 only (DESIGN CHOICE, log entry 65). -/
def execVRamx (unit : Nat) (f : VF) (s : State) : Res :=
  let axis := f.mod % 4
  if axis = 3 then .next s.unlisted
  else vecIssue unit 0x53 32 f f.setsRead true s fun _ s =>
    let rs := (axisGroups axis f.n (s.srcWords unit f)).map ramx
    let r := rs.headD (0, nanF)
    s.modUnit unit fun u =>
      if axis = 2 then (u.setScalar f.scD r.2).setScalar (f.scD + 1) (BitVec.ofNat 32 r.1) else u.puts f.dst (rs.map (·.2))

/-- The k selected elements written: values, then indices. -/
def State.putTop (s : State) (unit : Nat) (f : VF) (xs : List (Nat × BitVec 32)) : State :=
  let top := topK (f.mod + 1) xs
  s.modUnit unit fun u => (u.puts f.dst (top.map (·.2))).puts (f.dst + f.mod + 1) (top.map fun x => BitVec.ofNat 32 x.1)

/-- TOPK: the index of element i is SC15 + i. -/
def execVTopk (unit : Nat) (f : VF) (s : State) : Res :=
  vecIssue unit 0x54 4 f f.setsRead false s fun _ s =>
    let b := ((s.unit unit).scalar 15).toNat
    s.putTop unit f ((s.srcWords unit f).map fun x => (b + x.1, x.2))
/-- TOPKI: the indices come from the run at SRCB. -/
def execVTopki (unit : Nat) (f : VF) (s : State) : Res :=
  vecIssue unit 0x55 4 f f.setsRead false s fun _ s =>
    s.putTop unit f ((s.srcWords unit f).map fun x => (((s.unit unit).word (f.srcb + x.1)).toNat, x.2))

/-! ### Indexed moves, load and store (R127, R128) -/

/-- Indices beyond the buffer are masked and counted. -/
def State.countOor (s : State) (t n : Nat) : State := if n = 0 then s else s.tcount t 0xA500 5 n

/-- GATH: d[i] := buffer[b[i]]. -/
def execVGath (unit : Nat) (f : VF) (s : State) : Res :=
  vecIssue unit 0x60 16 f [] false s fun r s =>
    let u := s.unit unit
    let ix := (List.range f.n).map fun i => (i, (u.word (f.srcb + i)).toNat)
    let s := s.countOor r.tenant (ix.filter fun x => decide (4095 < x.2)).length
    s.modUnit unit fun v => ix.foldl (fun v x => if 4095 < x.2 then v else v.put (f.dst + x.1) (u.word x.2)) v
/-- SCAT: buffer[b[i]] := a[i] in ascending i. -/
def execVScat (unit : Nat) (f : VF) (s : State) : Res :=
  vecIssue unit 0x61 16 f f.setsRead true s fun r s =>
    let u := s.unit unit
    let xs := (s.srcWords unit f).map fun x => ((u.word (f.srcb + x.1)).toNat, x.2)
    let s := s.countOor r.tenant (xs.filter fun x => decide (4095 < x.1)).length
    s.modUnit unit fun v => xs.foldl (fun v x => if 4095 < x.1 then v else v.put x.1 x.2) v

/-- The place a load or store begins at: space of MOD bits 1:0, byte address of SC[SRCB] without its two low bits. -/
def State.lsPlace (s : State) (unit : Nat) (f : VF) : Option Place :=
  let a := ((s.unit unit).scalar f.scB).toNat / 4 * 4
  match f.mod % 4 with
  | 0 => some (.tile unit a)
  | 1 => some (.store (unit / 16) (a % 2 ^ 24))
  | 2 => some (.store (nbits a 24 4) (a % 2 ^ 24))
  | _ => none

/-- A place `n` octets further. -/
def Place.plus : Place → Nat → Place
  | .dram c a, n => .dram c (a + n)
  | .store c o, n => .store c (o + n)
  | .tile p o, n => .tile p (o + n)

/-- A load or store: the fault of a place that does not exist, the discard of R22, or its effect at the flat address. -/
def vecMem (unit opc : Nat) (f : VF) (sets : List Nat) (s : State) (eff : Nat → State → State) : Res :=
  match s.lsPlace unit f, s.nextWord unit (f.encode opc) with
  | some p, some r =>
    match p.flat, (p.plus (4 * f.n - 1)).flat with
    | some a, some _ =>
      vecIssue unit opc 16 f sets true s fun _ s => if s.ownerAt a = r.tenant then eff a s else s.discardXfer r.tenant a
    | none, _ => .fault p.fault
    | _, none => .fault (p.plus (4 * f.n - 1)).fault
  | _, _ => .next s.unlisted

/-- LD. -/
def execVLd (unit : Nat) (f : VF) (s : State) : Res :=
  vecMem unit 0x68 f [] s fun a s =>
    s.modUnit unit fun u => u.puts f.dst ((List.range f.n).map fun i => BitVec.ofNat 32 (s.word (a + 4 * i) 4))
/-- ST. -/
def execVSt (unit : Nat) (f : VF) (s : State) : Res :=
  vecMem unit 0x69 f f.setsRead s fun a s => s.setBytes a ((s.srcWords unit f).flatMap fun x => le 4 x.2.toNat)

/-! ### Scalars and the end of a program (R115, R116) -/

/-- SET: SC[DST] := immediate. -/
def execVSet (unit dst : Nat) (imm : BitVec 32) (s : State) : Res :=
  match s.nextWord unit (BitVec.ofNat 64 (0x70 * 2 ^ 56 + dst * 2 ^ 32 + imm.toNat)) with
  | none => .next s.unlisted
  | some r => .next ((s.tcount r.tenant 0xA500 2 1).modUnit unit fun u =>
      { (u.setScalar (dst % 16) imm) with running := u.running.map fun q => { q with pc := q.pc + 1 } })

/-- A scalar operation: SC[DST] := g SC[DST] SC[SRCB], its clamps counted; the operation stands in MOD. -/
def vecSop (unit code : Nat) (f : VF) (g : BitVec 32 → BitVec 32 → Fw) (s : State) : Res :=
  if f.mod = code then
    vecIssue unit 0x71 4096 f [] false s fun r s =>
      let y := g ((s.unit unit).scalar f.scD) ((s.unit unit).scalar f.scB)
      (s.countClamps r.tenant y.clamps).modUnit unit fun u => u.setScalar f.scD y.w
  else .next s.unlisted

/-- SOP add. -/
def execVSopAdd (unit : Nat) (f : VF) (s : State) : Res := vecSop unit 0 f addF s
/-- SOP sub. -/
def execVSopSub (unit : Nat) (f : VF) (s : State) : Res := vecSop unit 1 f subF s
/-- SOP mul. -/
def execVSopMul (unit : Nat) (f : VF) (s : State) : Res := vecSop unit 2 f mulF s
/-- SOP max. -/
def execVSopMax (unit : Nat) (f : VF) (s : State) : Res := vecSop unit 3 f (fun a b => { w := toF32 ((f32 a).max (f32 b)) }) s
/-- SOP rcp. -/
def execVSopRcp (unit : Nat) (f : VF) (s : State) : Res := vecSop unit 4 f (fun a _ => { w := vrcp a, clamps := rcpClamp a }) s
/-- SOP rsqrt. -/
def execVSopRsqrt (unit : Nat) (f : VF) (s : State) : Res := vecSop unit 5 f (fun a _ => { w := vrsq a }) s

/-- The step maximum joins the history of the operation's site and session, the oldest entry making room at 32; a step with no finite element appends nothing, nor does a session that has left the step (R42, R191; log entry 28). -/
def State.appendMax (s : State) (o : Op) (r : Running) (m : BitVec 32) : State :=
  match (s.opTemplate o).site with
  | none => s
  | some site =>
    if r.finite ∧ (s.session o.d.session).run = some o.run then
      let h := s.history o.d.session site ++ [m]
      s.modSession o.d.session fun q => { q with scales := mset [] q.scales site (h.drop (h.length - 32)) }
    else s

/-! ### The merge of attention ranges (R133) -/

/-- The result of one range for a row: o, m and l as its FATTN wrote them. -/
def State.rangeRow (s : State) (o : Op) (att : Template) (d rows member range row : Nat) : AttRow :=
  match s.tensor o att.d.opC with
  | none => { m := ninfF, l := 0, o := List.replicate d 0 }
  | some td =>
    let at' := attOffset member range rows d + row * ((d + 2) * 4)
    let w := fun i => BitVec.ofNat 32 (unle (s.tensorOctets o att.d.opC td (at' + 4 * i) 4))
    { o := (List.range d).map w, m := w d, l := w (d + 1) }

/-- One range added to a sum of weighted words. -/
def mergeAdd (acc : Fw) (x e : BitVec 32) : Fw := acc.add (mulF x e)

/-- The merged row y of the ranges in the order of their completion, with its clamps; none where no range saw a key (R133). -/
def mergeRow (d : Nat) (sV : BitVec 32) (rs : List AttRow) : Option (List Fw) :=
  let m := maxF32 ninfF (rs.map (·.m))
  if m = ninfF then none
  else
    let es := rs.map fun r => (r, if r.m = m then oneF else vexp (subF r.m m).w)
    let l := es.foldl (fun acc x => mergeAdd acc x.1.l x.2) { w := 0 }
    some ((List.range d).map fun j =>
      let o := es.foldl (fun acc x => mergeAdd acc ((x.1.o[j]?).getD 0) x.2) { w := 0 }
      let y := o.mul { w := sV }
      rnd ((f32 y.w).div (f32 l.w)) y.clamps)

/-- sV_h of an operation's image; 1.0 for BF16 and MXFP8 (R140). -/
def State.valueScale (s : State) (o : Op) (f : KvFmt) (layer heads head : Nat) : BitVec 32 :=
  match f, (s.opImage o).map (·.1.params) with
  | .e4m3, some p => (p.vScale[layer * heads + head]?).getD oneF
  | _, _ => oneF

/-- One merged row written to C: its y, or zeros and one more in ATT_EMPTY_ROWS (R133). -/
def State.putMerged (s : State) (o : Op) (td : TDesc) (d at' : Nat) (y : Option (List Fw)) : State :=
  match y with
  | some ws => (s.putWords o o.d.opC td at' (ws.map (·.w))).countClamps o.d.tenant (ws.map (·.clamps)).sum
  | none => (s.putWords o o.d.opC td at' (List.replicate d 0)).ocount o 0xA600 8 1

/-- The rows of one session merged. -/
def State.mergeMember (s : State) (o : Op) (run : StepRun) (tmpl : Nat) (att : Template) (td : TDesc) (member sess : Nat) : State :=
  match att.d.k with
  | .fattn head g _ _ _ =>
    let sh := s.kvShape sess
    let d := sh.2.2
    let rows := run.attRows g
    let order := (run.ranges.filter fun x => decide (x.1 = tmpl ∧ x.2.1 = member)).map (·.2.2)
    let sV := s.valueScale o sh.1 att.layer sh.2.1 head
    (List.range rows).foldl (fun s row =>
      s.putMerged o td d ((member * rows + row) * (d * 4)) (mergeRow d sV (order.map fun k => s.rangeRow o att d rows member k row))) s
  | _ => s

/-- The VPROG that merges the ranges of an attention template leaves y in its C: the spec gives the merge and its order, and the model takes them as the program's effect (R133; DESIGN CHOICE, log entry 70). -/
def State.mergeRanges (s : State) (o : Op) : State :=
  match (s.opTemplate o).merge, s.run o.run, s.tensor o o.d.opC with
  | some k, some run, some td =>
    run.sessions.zipIdx.foldl (fun s x => s.mergeMember o run k (((s.opPlan o).templates[k]?).getD Template.init) td x.2 x.1) s
  | _, _, _ => s

/-- The program of a unit ends: every write has landed, and the operation's work is done. -/
def State.endProgram (s : State) (unit : Nat) (r : Running) : State :=
  let s := s.modUnit unit fun u => { u with running := none }
  match s.op r.slot with
  | none => s
  | some o => (((s.appendMax o r ((s.unit unit).scalar 14)).mergeRanges o).encodeOutputs o).workDone r.slot

/-- END. -/
def execVEnd (unit : Nat) (s : State) : Res :=
  match (s.unit unit).running with
  | none => .next s.unlisted
  | some r =>
    if ((r.words[r.pc]?).getD 0).toNat / 2 ^ 56 = 0x7F then .next ((s.tcount r.tenant 0xA500 2 1).endProgram unit r) else .next s.unlisted

/-! ### VPROG -/

/-- The program of an operation's template. -/
def State.opProgram (s : State) (o : Op) : List (BitVec 64) := ((s.opPlan o).programs[(s.opTemplate o).program]?).getD []

/-- A unit takes the program of an operation. -/
def State.startUnit (s : State) (slot : Nat) (o : Op) (words : List (BitVec 64)) : State :=
  (s.startOp slot).modUnit o.podOf fun u => { u with running := some { slot := slot, tenant := o.d.tenant, words := words } }

/-- Where the part of a scratch operand that belongs to an operation's session begins: a program of a scale site runs once for each session of a batch, and its scratch operands hold one equal part for each (DESIGN CHOICE, log entry 28). -/
def State.memberPart (s : State) (o : Op) (h : Handle) (d : TDesc) : Nat :=
  match (s.opTemplate o).site, s.run o.run with
  | some _, some r => if h.tab = 2 then o.member * (d.octets / max 1 r.sessions.length) else 0
  | _, _ => 0

/-- The byte address of an operand as LD and ST take it: the offset in a tile buffer, or the cluster in bits 27:24 and the offset in its store (R128, R174). -/
def State.lsAddress (s : State) (o : Op) (h : Handle) : Option (BitVec 32) :=
  match s.tensor o h with
  | none => none
  | some d =>
    let a := d.base + s.memberPart o h d
    some (BitVec.ofNat 32 (if d.tier = 1 then d.unit % 16 * 2 ^ 24 + a else a))

/-- SC0..SC3 take the resolved addresses of the operands, SC4..SC7 the four words of KSPEC (R174, R175). -/
def State.loadScalars (s : State) (o : Op) : State :=
  let hs := [o.d.opA, o.d.opB, o.d.opC, o.d.opD].zipIdx
  let s := hs.foldl (fun s h => match s.lsAddress o h.1 with
    | some a => s.modUnit o.podOf fun u => u.setScalar h.2 a
    | none => s) s
  match o.d.k with
  | .vprog a b c d => s.modUnit o.podOf fun u =>
      (((u.setScalar 4 (BitVec.ofNat 32 a)).setScalar 5 (BitVec.ofNat 32 b)).setScalar 6 (BitVec.ofNat 32 c)).setScalar 7 (BitVec.ofNat 32 d)
  | _ => s

/-- VPROG (R111, R117): the unit of the operation's pod begins its program. -/
def execVprog (slot : Nat) (s : State) : Res :=
  match s.opIn slot .vprog .dispatched with
  | none => .next s.unlisted
  | some o => s.listed (decide ((s.unit o.podOf).running = none)) ((s.startUnit slot o (s.opProgram o)).loadScalars o)

end Sys2Proof.Machine
end

