-- ==== Sys2Proof/Machine/Kv.lean ====
section
/-! DEFINITION. The KV cache's commands: KVSCAT, KVFLUSH, promotion, preemption and page moves (R140..R148). -/

namespace Sys2Proof.Machine

/-! ### KVSCAT (R140, R142, R144) -/

/-- The FP32 scale of an element of a record: sK of its head, then sV; 1 for BF16 and MXFP8 (R140). -/
def State.kvScale (s : State) (o : Op) (f : KvFmt) (layer h d i : Nat) : BitVec 32 :=
  match f, (s.opImage o).map (·.1.params) with
  | .e4m3, some p =>
    if i < h * d then (p.kScale[layer * h + i / d]?).getD oneF else (p.vScale[layer * h + (i - h * d) / d]?).getD oneF
  | _, _ => oneF

/-- Element `i` of vector `v` of an operand whose vectors of `n` elements stand one after another (log entry 21). -/
def State.runElem (s : State) (o : Op) (hd : Handle) (d : TDesc) (n v i : Nat) : Val :=
  match fmtOf d.fmt with
  | some f => decodeVal f (s.codeAt o hd d (runBit d n v i))
  | none => .nan

/-- The record of the `v`-th position of a KVSCAT, the clamps and the MX blocks set to NaN. -/
def State.kvNew (s : State) (o : Op) (layer v : Nat) : Bytes × Nat × Nat :=
  let sh := s.kvShape o.d.session
  let n := 2 * sh.2.1 * sh.2.2
  match s.tensor o o.d.opA with
  | none => ([], 0, 0)
  | some d => kvEncode sh.1 sh.2.2 ((List.range n).map fun i => (s.runElem o o.d.opA d n v i, s.kvScale o sh.1 layer sh.2.1 sh.2.2 i))

/-- What a record's narrowing counts (R39, R140). -/
def State.countRecord (s : State) (t : Nat) (r : Bytes × Nat × Nat) : State :=
  let s := if r.2.1 = 0 then s else s.tcount t 0xA100 1 r.2.1
  if r.2.2 = 0 then s else s.tcount t 0xA100 4 r.2.2

/-- One position's record written into its slot of its page (R142). -/
def State.scatPage (s : State) (o : Op) (layer pos v : Nat) : State :=
  let r := s.kvNew o layer v
  match s.pageOf o.d.session layer pos with
  | none => s
  | some n => (s.countRecord o.d.tenant r).setPage n fun p => { (p.putRecord (pos - p.firstPos) r.1) with fill := p.fill + 1, lastUse := s.now }

/-- One position's record written into the session's staging buffer (R144). -/
def State.scatStage (s : State) (o : Op) (layer pos v : Nat) : State :=
  let r := s.kvNew o layer v
  let page := (s.pageOf o.d.session layer pos).getD 0
  let data : SMap Nat := (List.range r.1.length).foldl (fun m i => mset 0 m i ((r.1[i]?).getD 0)) []
  ((s.countRecord o.d.tenant r).modStagingOf o.d.session fun l => l ++ [{ layer := layer, pos := pos, gen := o.d.gen, page := page, data := data }]).tcount o.d.tenant 0xA600 3 1

/-- The attention template of a layer in an operation's plan; it holds the layer's mask. -/
def State.attTemplate (s : State) (o : Op) (layer : Nat) : Template :=
  ((s.opPlan o).templates.find? fun t => decide (t.d.kind = .fattn) && decide (t.layer = layer)).getD Template.init

/-- A KVSCAT's writes to its pages are no longer outstanding (R143). -/
def State.scatRetire (s : State) (o : Op) : State :=
  o.pages.foldl (fun s n => s.setPage n fun p => { p with writesOut := p.writesOut - 1 }) s

/-- The positions whose records are written in every layer, once the last layer's are (R142). -/
def State.kvGrow (s : State) (o : Op) (layer next' : Nat) : State :=
  if (s.opPlan o).layers ≤ layer + 1 then s.modSession o.d.session fun x => { x with kvLen := max x.kvLen next' } else s

/-- Whether an earlier KVSCAT of the session and layer is not complete: they complete in position order (R142). -/
def State.scatBehind (s : State) (slot : Nat) (o : Op) (layer pos : Nat) : Bool :=
  s.ops.slots.any fun e => match e.2 with
    | some x => decide (e.1 ≠ slot) && decide (x.d.session = o.d.session) && decide (x.phase ≠ .posted) && decide (x.run = o.run) &&
        (match x.d.k with | .kvscat l p _ _ => decide (l = layer) && decide (p < pos) | _ => false)
    | none => false

/-- Entries that the staging buffer of a session takes: T (R144). -/
def State.stageCap (s : State) (sess : Nat) : Nat := let sh := s.kvShape sess; kvSlots sh.1 sh.2.1 sh.2.2

/-- Whether a KVSCAT writes a position into the staging buffer: its page was MOVING when the operation was instantiated. -/
def State.scatStaged (s : State) (o : Op) (layer pos : Nat) (staged : Bool) : Bool :=
  staged && !o.pages.contains ((s.pageOf o.d.session layer pos).getD 0)

/-- The end of a KVSCAT: its writes are no longer outstanding, the history's KV has grown, and pages that the window leaves behind the step's first query are released (R141, R142, R143). -/
def State.scatEnd (s : State) (slot : Nat) (o : Op) (layer pos count : Nat) : State :=
  (((s.scatRetire o).kvGrow o layer (pos + count)).slidePages o.d.session (s.attTemplate o layer) pos).workDone slot

/-- The positions that a KVSCAT can write now, in ascending order: with the staging buffer full it waits (R144). -/
def State.scatLoop (slot : Nat) (o : Op) (layer pos count : Nat) (staged : Bool) : Nat → State → State
  | 0, s => s.scatEnd slot o layer pos count
  | n + 1, s =>
    let v := count - (n + 1)
    if s.scatStaged o layer (pos + v) staged then
      if s.stageCap o.d.session ≤ (s.stagingOf o.d.session).length then s.setOp slot fun x => { x with waitAt := max 1 s.now }
      else State.scatLoop slot o layer pos count staged n ((s.scatStage o layer (pos + v) (o.member * count + v)).setOp slot fun x => { x with scatDone := v + 1 })
    else State.scatLoop slot o layer pos count staged n ((s.scatPage o layer (pos + v) (o.member * count + v)).setOp slot fun x => { x with scatDone := v + 1 })

/-- The KVSCAT in a slot that may write: one that begins, or one that waits for staging and finds its mover free. -/
def State.scatReady (s : State) (slot : Nat) : Option Op :=
  match s.opIn slot .kvscat .dispatched with
  | some o => some o
  | none => match s.opIn slot .kvscat .started with
    | some o => if o.workDone || decide (0 < s.unitHeld o.unit) then none else some o
    | none => none

/-- The KVSCAT begins, or its wait for staging ends and is counted (R144, R152). -/
def State.scatBegin (s : State) (slot : Nat) (o : Op) : State :=
  if o.phase = .dispatched then s.startOp slot
  else (if o.waitAt = 0 then s else s.tcount o.d.tenant 0xA600 4 (s.now - o.waitAt)).setOp slot fun x => { x with waitAt := 0 }

/-- KVSCAT: the new K and V into the page, or into the staging buffer while the page moves; with the buffer full it waits, and the wait is counted when it ends (R142, R144). -/
def execKvscat (slot : Nat) (s : State) : Res :=
  match s.scatReady slot with
  | none => .next s.unlisted
  | some o =>
    match o.d.k with
    | .kvscat layer pos count staged =>
      if s.scatBehind slot o layer pos then .next s.unlisted
      else s.withPlaces o [(o.d.opA, 1)] (.next (State.scatLoop slot o layer pos count staged (count - o.scatDone) (s.scatBegin slot o)))
    | _ => .next s.unlisted

/-! ### KVFLUSH (R144, R145) -/

/-- One staged entry written into its page. -/
def Page.flushEntry (p : Page) (bytes : Nat) (e : Staged) : Page :=
  { (p.putRecord (e.pos - p.firstPos) ((List.range bytes).map fun i => mget 0 e.data i)) with fill := p.fill + 1 }

/-- KVFLUSH: the staged entries of the page, in position order, once no read holds them (R144, R145). -/
def execKvflush (slot : Nat) (s : State) : Res :=
  match s.opIn slot .kvflush .dispatched with
  | none => .next s.unlisted
  | some o =>
    let n := o.pages.headD 0
    let es := (s.stagedFor o.d.session n).mergeSort fun a b => decide (a.pos ≤ b.pos)
    let sh := s.kvShape o.d.session
    s.listed (es.all fun e => decide (e.readers = 0))
      ((((s.setPage n fun p => { (es.foldl (fun p e => p.flushEntry (kvRecord sh.1 sh.2.1 sh.2.2) e) p) with lastUse := s.now }).modStagingOf o.d.session fun l =>
        l.filter fun e => decide (e.page ≠ n)).startOp slot).workDone slot)

/-- The lowest free work-queue slot. -/
def State.freeSlot (s : State) : Option Nat := (List.range 16384).find? fun k => (s.op k).isNone

/-- The KVFLUSH of a page that has entries staged and no flush in flight takes a free slot of its tenant's share; without one it is tried again when a record is accepted (R144, R187). -/
def State.queueFlush (s : State) (n : Nat) : State :=
  match s.page n with
  | none => s
  | some p =>
    let es := s.stagedFor p.session n
    let flying := s.ops.slots.any fun e => match e.2 with | some o => decide (o.d.kind = .kvflush) && o.pages.contains n | none => false
    if es = [] || flying || p.moving.isSome || decide (s.shareLeft p.tenant false = 0) then s
    else match s.freeSlot with
      | none => s
      | some k =>
        let d : Desc := { kind := .kvflush, tenant := p.tenant, session := p.session, gen := p.gen,
                          cluster := (p.hot).getD ((s.clusterList p.tenant).headD 0), k := .kvflush p.layer p.firstPos es.length }
        let s := s.modOp k fun _ => some { d := d, slotModel := (s.session p.session).slot, order := s.ops.nextOrder, pages := [n] }
        { s with ops := { s.ops with nextOrder := s.ops.nextOrder + 1 } }

/-! ### Moves (R143, R146) -/

/-- Whether a page may begin a move: not moving, its last source released, no KVSCAT write outstanding (R143). -/
def Page.movable (p : Page) : Bool := p.moving.isNone && !p.srcHeld && decide (p.writesOut = 0)

/-- Whether a place can take one more page: a cluster of the tenant with room, or the DRAM sub-quota. -/
def State.takesPage (s : State) (t : Nat) (dst : Option Nat) : Bool :=
  match dst with
  | some c => s.ownsCluster t c && decide (s.hotUsed c < s.csKvPages t)
  | none => decide (s.warmUsed t < s.warmCap t)

/-- PAGE_MOVE_START (R143): the page is MOVING. -/
def execPageMoveStart (page : Nat) (toHot : Option Nat) (s : State) : Res :=
  s.whenUp (.pageMoveStart page toHot) <|
    match s.page page with
    | none => .next s.unlisted
    | some p => s.listed (p.movable && decide (p.hot ≠ toHot) && s.takesPage p.tenant toHot) (s.setPage page fun p => { p with moving := some toHot })

/-- A FATTN that reads a page goes on reading the source of its move (R143). -/
def Op.moved (o : Op) (page : Nat) : Op :=
  if o.d.kind = .fattn ∧ o.pages.contains page = true then
    { o with pages := o.pages.filter fun n => decide (n ≠ page), srcPages := o.srcPages ++ [page] }
  else o

/-- What a switch counts: a hot page moved to DRAM an eviction, a warm page moved to a cluster store a promotion (R152). -/
def State.countMove (s : State) (t : Nat) (src dst : Option Nat) : State :=
  match src, dst with
  | some _, none => s.tcount t 0xA600 1 1
  | none, some _ => s.tcount t 0xA600 2 1
  | _, _ => s

/-- PAGE_MOVE_SWITCH (R143): the page-table entry switches; reads in progress keep the source, and staged entries are to be flushed. -/
def execPageMoveSwitch (page : Nat) (s : State) : Res :=
  s.whenUp (.pageMoveSwitch page) <|
    match s.page page with
    | none => .next s.unlisted
    | some p =>
      match p.moving with
      | none => .next s.unlisted
      | some dst =>
        let s := { s with ops := { s.ops with slots := mmap none (fun _ (o : Option Op) => o.map fun (x : Op) => x.moved page) s.ops.slots } }
        let s := s.setPage page fun p => { p with hot := dst, moving := none, srcHeld := true, src := p.hot, srcReaders := p.readers, readers := 0 }
        .next ((s.countMove p.tenant p.hot dst).queueFlush page)

/-- PAGE_SOURCE_RELEASE (R143): the last read of the source has ended. -/
def execPageSourceRelease (page : Nat) (s : State) : Res :=
  match s.page page with
  | none => .next s.unlisted
  | some p => s.listed (p.srcHeld && decide (p.srcReaders = 0)) (s.setPage page fun p => { p with srcHeld := false, src := none })

/-- Warm pages of ACTIVE sessions of a tenant that may move. -/
def State.promotable (s : State) (t : Nat) : List (Nat × Page) :=
  s.kv.pages.filterMap fun e => match e.2 with
    | some p => if p.tenant = t ∧ p.hot = none ∧ (s.session p.session).state = .active ∧ p.movable = true then some (e.1, p) else none
    | none => none

/-- KV_PROMOTE (R146): with a region free, the warm page of an ACTIVE session that has the newest FIRST_POS begins its move to a cluster store. -/
def execKvPromote (tenant page cluster : Nat) (s : State) : Res :=
  s.whenUp (.kvPromote tenant page cluster) <|
    match (s.promotable tenant).find? fun e => decide (e.1 = page) with
    | none => .next s.unlisted
    | some e =>
      s.listed ((s.promotable tenant).all (fun x => decide (x.2.firstPos ≤ e.2.firstPos)) && s.takesPage tenant (some cluster))
        (s.setPage page fun p => { p with moving := some (some cluster) })

/-! ### Preemption (R148) -/

/-- The class of a session's request in flight. -/
def Session.reqClass (x : Session) : Cls :=
  match x.reqs.find? fun r => decide (r.state = .running) with
  | some r => r.cls
  | none => .bulk

/-- Rank of a class, the lowest class greatest. -/
def Cls.rank : Cls → Nat
  | .imm => 0 | .int => 1 | .bkg => 2 | .bulk => 3

/-- ACTIVE sessions of a tenant that wait for a page. -/
def State.pageWaiters (s : State) (t : Nat) : List (Nat × Session) :=
  s.svc.sessions.filter fun e => decide (e.2.tenant = t) && decide (e.2.state = .active) && e.2.waitsPage

/-- When the running request of a session was admitted. -/
def Session.admittedAt (x : Session) : Nat :=
  match x.reqs.find? fun r => decide (r.state = .running) with
  | some r => r.queuedAt
  | none => 0

/-- The waiting session of the lowest class, the last admitted of them (R148). -/
def State.preemptee (s : State) (t : Nat) : Option Nat :=
  match minBy (fun (e : Nat × Session) => (3 - e.2.reqClass.rank) * 2 ^ 64 + (2 ^ 64 - 1 - e.2.admittedAt)) (s.pageWaiters t) with
  | some e => some e.1
  | none => none

/-- Whether a page of a tenant moves, or the source of a move waits for its release. -/
def State.pageMoving (s : State) (t : Nat) : Bool := s.kv.pages.any fun e => match e.2 with | some p => decide (p.tenant = t) && (p.moving.isSome || p.srcHeld) | none => false

/-- Whether a tenant's ACTIVE sessions that hold pages all wait for a page, no IDLE session holds pages, and no move is under way that would free a place (R148). -/
def State.kvStuck (s : State) (t : Nat) : Bool :=
  (s.oldestIdle t).isNone && !s.pageMoving t && s.svc.sessions.all fun e =>
    !(decide (e.2.tenant = t) && decide (e.2.state = .active) && decide (s.sessionPages e.1 ≠ [])) || e.2.waitsPage

end Sys2Proof.Machine
end

