-- ==== Sys2Proof/Machine/Quotas.lean ====
section
/-! DEFINITION. DRAM sub-quotas and the extents in them (R158, R203, R206, R233). -/

namespace Sys2Proof.Machine

/-- Subindex of a sub-quota in 0x811n. -/
def Alloc.sub : Alloc → Nat
  | .modelC => 1 | .kvC => 2 | .sessionC => 3 | .shadowC => 4 | .adapterC => 5 | .scratchC => 6

/-- Delivered default of a sub-quota, MiB (R215). -/
def subDefault (sub : Nat) : Nat := if sub = 3 then 256 else if sub = 4 then 2048 else 0

/-- DRAM of a tenant in MiB: 11,648 for each cluster (R203). -/
def State.dramMib (s : State) (t : Nat) : Nat := 11648 * (s.clusterList t).length

/-- The sum of the five sub-quotas that the driver sets, MiB. -/
def State.subSum (s : State) (t : Nat) : Nat := ((List.range 5).map fun i => s.sv (0x8110 + t) (i + 1) (subDefault (i + 1))).sum

/-- A sub-quota in MiB; DRAM_SCRATCH is the remainder. -/
def State.subQuota (s : State) (t sub : Nat) : Nat := if sub = 6 then s.dramMib t - s.subSum t else s.sv (0x8110 + t) sub (subDefault sub)

/-- Octets of a compression table's record (R158). -/
def tableBytes : Nat := 144

/-- The tables of a tenant that serve activations and gradients; a weight's table stands in its image's MODEL contents (R158). -/
def State.actTables (s : State) (t : Nat) : Nat := mcount (fun k o => decide (k / 4096 = t) && (match o with | some (x : ExpTable) => !x.weight | none => false)) s.exp.tables

/-- Octets that the extents of a kind use, and in MODEL the tables of activations and gradients (R158). -/
def State.usedOf (s : State) (t : Nat) (k : Alloc) : Nat :=
  ((s.dram.extents.filter fun e => decide (e.tenant = t) && decide (e.kind = k)).map (·.len)).sum + if k = .modelC then tableBytes * s.actTables t else 0

/-- Whether `len` octets more fit in a sub-quota. -/
def State.fits (s : State) (t : Nat) (k : Alloc) (len : Nat) : Bool := decide (s.usedOf t k + len ≤ s.subQuota t k.sub * 2 ^ 20)

/-- The lowest address of a tenant's view from which `len` octets are free. -/
def State.freeBase (s : State) (t : Nat) (pair : Option Nat) (len : Nat) : Nat :=
  let es := s.dram.extents.filter fun e => decide (e.tenant = t) && decide (e.pair = pair)
  let ok := fun b => es.all fun e => decide (b + len ≤ e.base) || decide (e.base + e.len ≤ b)
  match minBy id ((0 :: es.map fun e => e.base + e.len).filter ok) with
  | some b => b
  | none => 0

/-- An extent is allocated where it fits its sub-quota. -/
def State.allocExtent (s : State) (t : Nat) (k : Alloc) (owner : Nat) (pair : Option Nat) (len : Nat) : Option State :=
  if s.fits t k len then
    some { s with dram := { s.dram with extents := s.dram.extents ++ [{ tenant := t, kind := k, owner := owner, pair := pair, base := s.freeBase t pair len, len := len }] } }
  else none

/-- Extents released. -/
def State.freeExtents (s : State) (t : Nat) (k : Alloc) (owner : Nat) : State :=
  { s with dram := { s.dram with extents := s.dram.extents.filter fun e => !(decide (e.tenant = t) && decide (e.kind = k) && decide (e.owner = owner)) } }

/-- A refusal with QUOTA_FULL is counted (R215). -/
def State.quotaRefused (s : State) (t : Nat) : State := s.tcount t 0xA900 4 1

end Sys2Proof.Machine
end

