-- ==== Sys2Proof/Machine/Expander.lean ====
section
/-! DEFINITION. The operand expanders' commands: table builds, serial recovery, re-encoding of poisoned weights, the self-test (R158..R166). -/

namespace Sys2Proof.Machine

/-- The lowest free table identifier of a tenant (R158: at most 4,096 tables). -/
def State.freeTable (s : State) (t : Nat) : Option Nat := (List.range 4096).find? fun k => (s.table (t * 4096 + k)).isNone

/-- An identifier for a table of an activation or gradient: free, with room for its record in DRAM_MODEL; where there is no room the spec names no status, and the tensor stays raw as at the limit of tables (R158, R160; DESIGN CHOICE, log entry 72). -/
def State.freeActTable (s : State) (t : Nat) : Option Nat := if s.fits t .modelC tableBytes then s.freeTable t else none

/-- The tables a tenant holds (EXP_TABLES). -/
def State.tableCount (s : State) (t : Nat) : Nat := mcount (fun k o => decide (k / 4096 = t) && o.isSome) s.exp.tables

/-- A table built from counts takes an identifier. -/
def State.addTable (s : State) (t slot tensor id fmt : Nat) (counts : SMap Nat) (weight : Bool) : State :=
  s.modTable (t * 4096 + id) fun _ => some {
    fmt := fmt, gen := (s.mslot t slot).stamp,
    lens := buildLens fmt ((List.range (2 ^ expBits fmt)).map fun e => mget 0 counts e), weight := weight, tensor := tensor, slot := slot }

/-- Whether an operation writes a tensor. -/
def State.opWrites (s : State) (o : Op) (h : Handle) : Bool := ((s.opPlan o).writesOf (s.opTemplate o)).contains h

/-- Whether an operation that produces the counted occurrence of a tensor is not complete, or still to be instantiated (R159). -/
def State.producing (s : State) (tenant slot tensor : Nat) : Bool :=
  let run := (s.act (actKey tenant slot tensor)).writers
  let h := Handle.ofCode tensor
  (s.ops.slots.any fun e => match e.2 with
    | some o => decide (o.d.tenant = tenant ∧ o.slotModel = slot ∧ o.run = run ∧ o.phase ≠ .posted) && s.opWrites o h
    | none => false) ||
  match s.run run with
  | some r => (r.due.any fun o => s.opWrites o h) || (s.invsLeft r).any fun v => ((s.runPlan r).writesOf ((s.runPlan r).tmpl v)).contains h
  | none => false

/-- TABLE_BUILD (R159): once the last operation that produces a first occurrence has completed, its counts give the tensor a table; at the limit the tensor stays raw and is tried again at its next occurrence. -/
def execTableBuild (tenant slot tensor : Nat) (s : State) : Res :=
  let k := actKey tenant slot tensor
  let a := s.act k
  if a.occurred && a.table.isNone && !s.producing tenant slot tensor then
    match s.freeActTable tenant with
    | none => .next ((s.modAct k fun a => { a with occurred := false, counts := [] }).tcount tenant 0xA700 8 1)
    | some id => .next ((s.addTable tenant slot tensor id a.fmt a.counts false).modAct k fun a => { a with table := some id, occurred := false, counts := [] })
  else .next s.unlisted

/-- The instantiation orders of a tenant's operations that are in flight and not complete. -/
def State.ordersInFlight (s : State) (t : Nat) : List Nat :=
  s.ops.slots.filterMap fun e => match e.2 with
    | some o => if o.d.tenant = t ∧ o.phase ≠ .posted then some o.order else none
    | none => none

/-- The activations and gradients of a model slot begin anew with a raw occurrence: their tables serve no later operation, and are freed when those instantiated before have completed (R159, R160). -/
def State.resetActs (s : State) (t slot : Nat) : State :=
  let w := s.ordersInFlight t
  let old := s.exp.acts.filterMap fun e => if e.1 / 2 ^ 32 = t * 4 + slot then e.2.table else none
  { s with exp := { s.exp with
      tables := old.foldl (fun m k => mmod none m (t * 4096 + k) fun o => o.map fun x => { x with retiring := true, waitOps := w }) s.exp.tables
      acts := mmap .init (fun k a => if k / 2 ^ 32 = t * 4 + slot then { a with table := none, rebuild := false, occurred := false, counts := [] } else a) s.exp.acts } }

/-- TABLE_REBUILD (R160): the counted occurrence gives a new table under a new identifier; with none free the current table is kept. -/
def execTableRebuild (tenant slot tensor : Nat) (s : State) : Res :=
  let k := actKey tenant slot tensor
  let a := s.act k
  match a.table with
  | none => .next s.unlisted
  | some old =>
    if a.rebuild && a.occurred && !s.producing tenant slot tensor then
      match s.freeActTable tenant with
      | none => .next (s.modAct k fun a => { a with rebuild := false, occurred := false, counts := [] })
      | some id =>
        let w := s.ordersInFlight tenant
        let s := s.modTable (tenant * 4096 + old) fun o => o.map fun x => { x with retiring := true, waitOps := w }
        .next (((s.addTable tenant slot tensor id a.fmt a.counts false).modAct k fun a => { a with table := some id, rebuild := false, occurred := false, counts := [] }).tcount tenant 0xA700 9 1)
    else .next s.unlisted

/-- TABLE_ID_FREE (R160): every operation instantiated before the switch has completed. -/
def execTableIdFree (tenant table : Nat) (s : State) : Res :=
  match s.table (tenant * 4096 + table) with
  | none => .next s.unlisted
  | some x =>
    s.listed (x.retiring && x.waitOps.all fun k => !(s.ordersInFlight tenant).contains k) (s.modTable (tenant * 4096 + table) fun _ => none)

/-- Where the 16 sub-streams of a block begin, as the serial decoder finds them (R164). -/
def serialOffsets (fmt count : Nat) (code : List (Nat × Nat × Nat)) (total : Nat) : Nat → Nat → Bytes → List Nat
  | 0, _, _ => []
  | n + 1, j, bs =>
    (total - bs.length) :: match decodeSub fmt code (subCount fmt count j) bs with
      | some x => serialOffsets fmt count code total n (j + 1) x.2
      | none => []

/-- The header of a weight block written anew from what the serial decoder found (R164). -/
def State.rewriteHeader (s : State) (o : Op) (h : Handle) (d : TDesc) (b : Nat) : State :=
  let n := s.mapEntry o h d b % 512 * 16
  let bs := s.tensorOctets o h d (b * placeBytes) n
  let offs := serialOffsets d.fmt (d.placeCount b) (canon d.fmt (s.lensOf o.d.tenant d.table)) n 16 0 (bs.drop 0x30)
  s.putTensor o h d (b * placeBytes) (blockHeader d.fmt d.table (d.placeCount b) offs)

/-- SERIAL_RECOVERY (R164, R165): the serial decoder delivers a block whose HCHK failed, or finds it POISONED. -/
def execSerialRecovery (slot tensor block : Nat) (s : State) : Res :=
  let r : Recovering := { slot := slot, tensor := tensor, block := block }
  if s.exp.recovering.contains r then
    match s.op slot with
    | none => .next { s with exp := { s.exp with recovering := s.exp.recovering.filter fun x => decide (x ≠ r) } }
    | some o =>
      let h := Handle.ofCode tensor
      match s.tensor o h with
      | none => .next s.unlisted
      | some d0 =>
        let d := s.actTable o h d0
        let s := { s with exp := { s.exp with recovering := s.exp.recovering.filter fun x => decide (x ≠ r) } }
        let s := (s.setOp slot fun x => { x with timerHeld := s.exp.recovering.any fun y => decide (y.slot = slot) }).ocount o 0xA700 5 1
        .next (match s.serialPlace o h d block with
          | none => s.poisonBlock slot o h block
          | some _ =>
            let s := { s with exp := { s.exp with recovered := s.exp.recovered ++ [r] } }
            let s := ((s.ocount o 0xA700 6 1).ocount o 0xA700 1 1).ocount o 0xA700 3 (placeBytes - s.mapEntry o h d block % 512 * 16)
            let s := if h.tab = 0 ∧ (s.opPlan o).written h = false then s.rewriteHeader o h d block else s
            s.runPod o.podOf)
  else .next s.unlisted

/-- The raw elements of a place of a static weight tensor as the image holds them (R166, R253). -/
def Image.placeElems (i : Image) (d : TDesc) (b : Nat) : List Nat :=
  rawElems d.fmt (d.placeCount b) ((List.range placeBytes).map fun x => mget 0 i.digital (d.base + b * placeBytes + x))

/-- A stand-in descriptor for work of the control complex in a tenant's model slot. -/
def State.slotOp (s : State) (t slot : Nat) : Op := { d := { tenant := t, gen := s.pointer t }, slotModel := slot }

/-- A place of a weight tensor encoded from the image into the model's DRAM with its map entry (R159, R166). -/
def State.encodeWeight (s : State) (i : Image) (t slot tensor : Nat) (d : TDesc) (b : Nat) : State :=
  (s.writePlace (s.slotOp t slot) { tab := 0, idx := tensor } d (s.codedWith (s.slotOp t slot) { tab := 0, idx := tensor }) b (i.placeElems d b)).1

/-- BLOCK_REENCODE (R166): CC3 encodes a poisoned weight block again and rewrites the block and its map entry. -/
def execBlockReencode (tenant slot tensor block : Nat) (s : State) : Res :=
  s.whenUp (.blockReencode tenant slot tensor block) <|
    let r : Recovering := { slot := tenant * 4 + slot, tensor := tensor, block := block }
    match (s.mslot tenant slot).current with
    | none => .next s.unlisted
    | some i =>
      match i.plan.tensors[tensor]? with
      | none => .next s.unlisted
      | some d =>
        s.listed (s.exp.poisonedWeights.contains r)
          { (s.encodeWeight i tenant slot tensor d block) with exp := {
              (s.encodeWeight i tenant slot tensor d block).exp with
              poisonedWeights := s.exp.poisonedWeights.filter fun x => decide (x ≠ r) } }

/-- EXPANDER_SELFTEST_END (R164): pods whose decoders disagree are withdrawn, each with EXPANDER_FAULT. -/
def execExpanderSelftestEnd (disagreeing : List Nat) (s : State) : Res :=
  let bad := (disagreeing.filter fun p => decide (p < 256)).dedup
  s.listed (s.clk.starting && s.exp.selfTesting)
    (bad.foldl (fun s p => s.raise Ev.expanderFault (s.clusterOwner (p / 16)) Locus.pod p 0)
      { s with exp := { s.exp with selfTesting := false, withdrawn := bad } })

end Sys2Proof.Machine
end

