-- ==== Sys2Proof/Machine/VaultOps.lean ====
section
/-! DEFINITION. The shared operations of the weight vault: drives and rounds, plane arithmetic, the converting grant, the bank adders, the backing copies and the move of MVMs to the shadow path (R55..R91). -/

namespace Sys2Proof.Machine

/-! ### From an input element to drives (R59, R60) -/

/-- T of R59: 6 for INT8, 2 for INT4. -/
def VFmt.top : VFmt → Nat
  | .int8 => 6 | .int4 => 2

/-- Planes of an input format (R34): eight or four. -/
def VFmt.planes (f : VFmt) : Nat := f.top + 2

/-- The number one above the highest plane in 0..T whose bit of `u` is 0; 0 where there is none. -/
def aboveTopZero (u : Nat) : Nat → Nat
  | 0 => if nbit u 0 then 0 else 1
  | n + 1 => if nbit u (n + 1) then aboveTopZero u n else n + 2

/-- The drive of an element on plane `p`: -1, 0 or +1 (R59). -/
def drive (f : VFmt) (q : Int) (p : Nat) : Int :=
  if 0 ≤ q then (if p ≤ f.top ∧ nbit q.toNat p then 1 else 0)
  else
    let u := uint f.planes q
    let j := aboveTopZero u f.top
    if p = j then -1 else if p < j ∧ nbit u p then 1 else 0

/-- The drives of a row-block's slice on plane `p`, by rising row, the rows that are not active left out (R60). -/
def activeRows (f : VFmt) (q : SMap Int) (p : Nat) : List (Nat × Int) :=
  (q.map fun e => (e.1, drive f e.2 p)).filter fun e => e.2 != 0

/-- Rounds of a plane of `n` active rows (R60). -/
def roundsOf (n : Nat) : Nat := cdiv n 128

/-- Rounds of a whole MVM. -/
def Mvm.rounds (m : Mvm) : Nat := ((List.range m.fmt.planes).map fun p => roundsOf (activeRows m.fmt m.q p).length).sum
/-- Planes of an MVM with no active row. -/
def Mvm.skipped (m : Mvm) : Nat := ((List.range m.fmt.planes).filter fun p => (activeRows m.fmt m.q p).length == 0).length
/-- Planes of an MVM split into two rounds or more. -/
def Mvm.split (m : Mvm) : Nat := ((List.range m.fmt.planes).filter fun p => decide (128 < (activeRows m.fmt m.q p).length)).length

/-! ### Conversion (R62, R63, R65, R73) -/

/-- The ideal sum of a column over driven rows. -/
def idealSum (cells : SMap Int) (rows : List (Nat × Int)) (c : Nat) : Int :=
  (rows.map fun r => r.2 * mget 0 cells (r.1 * 1024 + c)).sum

/-- The conversion error of a column over the rounds of a plane: each round's within 3 LSB (R73), and open beyond that. -/
def planeError (stratum draw p rounds c : Nat) : Int :=
  ((List.range rounds).map fun i => within 3 (Config.convError stratum c (p * 16 + i) draw)).sum

/-- The sum of a plane's round codes in one column. -/
def planeCode (st : Stratum) (stratum draw : Nat) (m : Mvm) (p c : Nat) : Int :=
  let rows := activeRows m.fmt m.q p
  idealSum st.cells rows c + planeError stratum draw p (roundsOf rows.length) c

/-- A column-keyed table of integers that lists the nonzero ones. -/
def columns (n : Nat) (f : Nat → Int) : SMap Int := ((List.range n).map fun c => (c, f c)).filter fun e => e.2 != 0

/-- The array converts the plane that comes next: acc := 2 * acc + (sum of the plane's round codes) (R65). -/
def Mvm.plane (m : Mvm) (st : Stratum) (draw : Nat) : Mvm :=
  let p := m.nextPlane - 1
  { m with nextPlane := p, acc := columns 1024 fun c => 2 * mget 0 m.acc c + planeCode st m.stratum draw m p c }

/-- The array converts `n` planes. -/
def Mvm.planesRun (m : Mvm) (st : Stratum) (draw : Nat) : Nat → Mvm
  | 0 => m
  | n + 1 => (m.plane st draw).planesRun st draw n

/-- The row-block result: the accumulators, shift-added in pairs for INT8 weights (R56, R65). -/
def rowBlockResult (e : Enc) (acc : SMap Int) : SMap Int :=
  match e with
  | .int8 => columns 512 fun k => 16 * mget 0 acc (2 * k) + mget 0 acc (2 * k + 1)
  | _ => acc

/-- Result columns of a column block (R56). -/
def Enc.width : Enc → Nat
  | .int8 => 512 | _ => 1024

/-! ### The converting grant (R71, R25) -/

/-- BUDGETS of PF0 as delivered (R405). -/
def pf0Budgets : Nat := 792281625364004304897263534125000

/-- P_v in force, mW: the budget of the profile, less what thermal control and measured excess take (R71, R406, R409). -/
def State.convertingBudget (s : State) : Nat := s.pv 0x2002 1 pf0Budgets % 2 ^ 32 * max 1 (s.power.pvTenths - s.power.pvCut) / 10

/-- The handshake rate of R8's table at a VCORE in mV, M hs/s, interpolated linearly between the listed voltages. -/
def tableRate (mv : Nat) : Nat :=
  if mv ≤ 650 then 580 + (mv - 600) * 130 / 50
  else if mv ≤ 700 then 710 + (mv - 650) * 140 / 50
  else if mv ≤ 750 then 850 + (mv - 700) * 150 / 50
  else if mv ≤ 800 then 1000 + (mv - 750) * 120 / 50
  else 1120 + (mv - 800) * 100 / 50
/-- The guaranteed floor of the rate at a VCORE: the table's factor x 0.50 / 0.58 x the reference rate (R456). -/
def floorRate (mv : Nat) : Nat := cdiv (tableRate mv * 50) 58
/-- The rate that a measurement reports: the table's at 85 C with typical silicon (R8); elsewhere at least the floor wherever R456 guarantees it, and open above it (log entry 74). -/
def Power.heldRate (p : Power) (measured : Nat) : Nat :=
  if 600 ≤ p.vcore ∧ p.vcore ≤ 850 then
    if p.tj = 85000 ∧ Config.typicalSilicon = true then tableRate p.vcore
    else if -40000 ≤ p.tj ∧ p.tj ≤ 125000 then max (floorRate p.vcore) measured else measured
  else measured

/-- G = floor(P_v * t_round / 20 nJ) (R71). -/
def State.grantOf (s : State) : Nat := s.convertingBudget * s.vault.roundNs / 20000

/-- Arrays that hold a converting slot (CONVERTING, R74). -/
def State.convertingCount (s : State) : Nat := mcount (fun _ a => a.slotOf.isSome) s.vault.arrays
/-- Arrays of a die that hold a converting slot. -/
def State.convertingOn (s : State) (die : Nat) : Nat := mcount (fun k a => a.slotOf.isSome && decide (dieOf (8 * k) = die)) s.vault.arrays
/-- Slots of a tenant's share in use. -/
def State.slotsPaid (s : State) (t : Nat) : Nat := mcount (fun _ a => decide (a.slotOf = some t)) s.vault.arrays

/-- Vault dies that tenants own. -/
def State.ownedDies (s : State) : Nat := ((List.range 8).map fun i => if s.formed (i + 1) then popcount (s.diesOf (i + 1)) 32 else 0).sum

/-- A tenant's share of G before lending: in proportion to the dies it owns (R71). -/
def State.grantShare (s : State) (t : Nat) : Nat :=
  if s.ownedDies = 0 ∨ s.formed t = false then 0 else s.vault.grant * popcount (s.diesOf t) 32 / s.ownedDies

/-- Whether an array of a die may take a converting slot now: the grant, the die's limit of 64 and its ramp of 16 in a microsecond. -/
def State.slotFree (s : State) (die : Nat) : Bool :=
  decide (s.convertingCount < s.vault.grant) && decide (s.convertingOn die < 64) && (decide (0 < (s.die die).lowered) || decide ((s.die die).raised < 16))

/-- Whether an array of a die may give its slot back now (ramp of R25). -/
def State.slotFalls (s : State) (die : Nat) : Bool := decide (0 < (s.die die).raised) || decide ((s.die die).lowered < 16)

/-- A start that follows an end in the same microsecond leaves the count unchanged (R25). -/
def VDie.up (d : VDie) : VDie := if 0 < d.lowered then { d with lowered := d.lowered - 1 } else { d with raised := d.raised + 1 }
/-- The same for an end. -/
def VDie.down (d : VDie) : VDie := if 0 < d.raised then { d with raised := d.raised - 1 } else { d with lowered := d.lowered + 1 }

/-- An array gives its converting slot back. -/
def State.dropSlot (s : State) (arr : Nat) : State :=
  (s.modArray arr fun a => { a with slotOf := none }).modDie (dieOf (8 * arr)) VDie.down

/-! ### What an array does next (R68, R69, R78) -/

/-- The stratum an array wants selected: an IMM MVM's, a suspended MVM's, a due test's, the oldest MVM's. -/
def VArray.want (a : VArray) : Option Nat :=
  match a.queue.find? (·.imm) with
  | some m => some (m.stratum % 8)
  | none =>
    match a.suspended with
    | some m => some (m.stratum % 8)
    | none =>
      if a.countDue then some a.selected
      else match a.testDue with
        | d :: _ => some (d % 8)
        | [] => match a.queue with
          | m :: _ => some (m.stratum % 8)
          | [] => none

/-- An array that converts nothing starts at once to select the stratum it wants (R68). -/
def VArray.advance (a : VArray) : VArray :=
  if a.running = none ∧ a.changing = none ∧ a.writing = none then
    match a.want with
    | some k => if k = a.selected then a else { a with changing := some k, resuming := a.suspended.isSome && (a.queue.all fun m => !m.imm) }
    | none => a
  else a

/-- A queued MVM takes its place: IMM ahead of the others, first in first out (R69, R185). -/
def VArray.enqueue (a : VArray) (m : Mvm) : VArray :=
  if m.imm then { a with queue := (a.queue.filter (·.imm)) ++ [m] ++ (a.queue.filter fun x => !x.imm) } else { a with queue := a.queue ++ [m] }

/-- A test vector of a stratum (R77). -/
def Stratum.testMvm (st : Stratum) (stratum now owner : Nat) : Mvm :=
  { tenant := owner, stratum := stratum, test := some st.pattern, nextPlane := 1, enqAt := now }

/-- Whether tests run in the present power state (R78). -/
def State.testsRun (s : State) : Bool := decide (s.power.state = .run ∨ s.power.state = .idle)

/-- Whether an MVM that has begun gives way to an IMM MVM that waits for its array: lower than IMM, not a test, never suspended before, no other suspended, planes left (R69). -/
def VArray.givesWay (a : VArray) (m : Mvm) (planes : Nat) : Bool :=
  !m.imm && m.test.isNone && !m.resumed && decide (planes ≤ m.nextPlane) && a.suspended.isNone && a.queue.any (·.imm)

/-- What a converting slot would start on array `arr`: an MVM that waits for a slot again, an IMM MVM, a test that is due, the oldest MVM, each on the selected stratum. -/
def State.nextOn (s : State) (arr : Nat) : Option Mvm :=
  let a := s.array arr
  let sel := arr * 8 + a.selected
  match a.running with
  | some m => if a.givesWay m 1 then none else some m
  | none =>
    match a.queue.find? (·.imm) with
    | some m => if m.stratum = sel then some m else none
    | none =>
      if a.suspended.isSome then none
      else if s.testsRun && (a.countDue || decide (a.testDue.head? = some sel)) then some ((s.stratum sel).testMvm sel s.now (s.dieOwner (dieOf sel)))
      else if s.testsRun && decide (a.testDue ≠ []) then none
      else match a.queue with
        | m :: _ => if m.stratum = sel then some m else none
        | [] => none

/-- An array converts nothing and nothing keeps it from converting. -/
def VArray.free (a : VArray) : Bool := a.changing.isNone && a.writing.isNone && a.holding.isNone && a.slotOf.isNone

/-- The MVM or test of an array that waits for nothing but a converting slot: what the slot would start, or a suspended MVM whose stratum is selected again. -/
def State.slotWaiter (s : State) (arr : Nat) : Option Mvm :=
  let a := s.array arr
  if !a.free then none
  else match s.nextOn arr with
    | some m => some m
    | none =>
      if a.running.isSome ∨ a.queue.any (·.imm) = true then none
      else a.suspended.bind fun m => if a.selected = m.stratum % 8 then some m else none

/-- Whether an MVM of a tenant waits for a converting slot. -/
def State.slotWaits (s : State) (t : Nat) : Bool :=
  s.vault.arrays.any fun e => match s.slotWaiter e.1 with | some m => decide (m.tenant = t) | none => false

/-- Whether a tenant uses fewer slots than its share. -/
def State.underShare (s : State) (u : Nat) : Bool := decide (s.slotsPaid u < s.grantShare u)

/-- The tenant whose share pays for a slot of tenant `t`: itself, else one that lends, having no MVM that waits; where every share is used up, a slot that the division of G leaves over is the taker's own (R71; log entry 76). -/
def State.payer (s : State) (t : Nat) : Option Nat :=
  let ts := (List.range 8).map (· + 1)
  if s.underShare t then some t
  else match ts.find? fun u => s.underShare u && !s.slotWaits u with
    | some u => some u
    | none => if ts.any s.underShare then none else some t

/-- An array takes a converting slot for a tenant. -/
def State.takeSlot (s : State) (arr t : Nat) : State :=
  let p := (s.payer t).getD t
  (s.modArray arr fun a => { a with slotOf := some p }).modDie (dieOf (8 * arr)) VDie.up

/-! ### Bank adders (R66, R75) -/

/-- The bank of a stratum in the package: die and bank (R93). -/
def packageBank (stratum : Nat) : Nat := stratum / 256

/-- Sum buffers of a bank in use: one for each column block whose first row-block has arrived and whose results are not yet written. -/
def State.bankBusy (s : State) (bank : Nat) : Nat := (s.vault.sums.filter fun c => c.banks.contains bank).length

/-- Whether the bank adder can take the results of an MVM now: 32 sum buffers for each bank (R66). -/
def State.bankTakes (s : State) (m : Mvm) : Bool :=
  let b := packageBank m.stratum
  (s.vault.sums.any fun c => decide (c.op = m.op ∧ c.vec = m.vec ∧ c.cb = m.cb) && c.banks.contains b) || decide (s.bankBusy b < 32)

/-- Two column-keyed tables added. -/
def addColumns (n : Nat) (x y : SMap Int) : SMap Int := columns n fun c => mget 0 x c + mget 0 y c

/-- The bank adder adds a row-block's result into its column block's sum. -/
def ColSum.addBlock (c : ColSum) (bank : Nat) (r : SMap Int) : ColSum :=
  { c with sum := addColumns c.enc.width c.sum r, waiting := c.waiting - 1, arrived := c.arrived + 1,
           banks := if c.banks.contains bank then c.banks else c.banks ++ [bank] }

/-- The bank adder takes the results of an MVM. -/
def State.bankAdd (s : State) (m : Mvm) : State :=
  { s with vault := { s.vault with sums := s.vault.sums.map fun c =>
      if c.op = m.op ∧ c.vec = m.vec ∧ c.cb = m.cb then c.addBlock (packageBank m.stratum) (rowBlockResult c.enc m.acc) else c } }

/-! ### Backing copies and the shadow reserve (R86) -/

/-- The content a stratum holds or is to receive. -/
def Stratum.anyContent (x : Stratum) : Option WContent :=
  match x.content with
  | some c => some c
  | none => x.incoming

/-- The backing copy of content: the record of its column block and row-block in its image's stratum set (R253, R261). -/
def State.copyOf (s : State) (c : WContent) : Copy :=
  let m := s.mslot c.tenant c.slot
  let from' := fun (i : Image) =>
    let p := (i.plan.projs[c.proj]?).getD Proj.init
    (i.copies[p.firstCopy + c.cb * cdiv p.inputs 2048 + c.rb]?).getD Copy.init
  match m.current, m.old, m.pending with
  | some i, o, p =>
    if m.stamp = c.gen then from' i
    else match o with
      | some j => if m.oldStamp = c.gen then from' j else (match p with | some k => from' k | none => from' i)
      | none => match p with | some k => from' k | none => from' i
  | none, _, some k => from' k
  | none, _, none => Copy.init

/-- Slots of a tenant's shadow reserve (R86). -/
def State.reserveSlots (s : State) (t : Nat) : Nat := s.sv (0x8110 + t) 4 2048 * 2 ^ 20 / copyBytes

/-- WRITE_CAP (R86). -/
def State.writeCap (s : State) (t : Nat) : Nat := s.reserveSlots t / 8

/-- Strata whose copy is in a tenant's reserve or on its way there. -/
def State.reserveUsed (s : State) (t : Nat) : List Nat :=
  mkeys (mfilter (fun k x => (x.copyIn || x.copyLoading) && decide (s.dieOwner (dieOf k) = t)) s.vault.strata)

/-- Whether a shadow operation reads the copy of a stratum. -/
def State.shadowReads (s : State) (stratum : Nat) : Bool := s.vault.shadows.any fun o => decide (o.stratum = stratum)

/-- Whether a LIT stratum is to receive other weights by a SEAMLESS swap: their copy is pinned until they are LIT (R263, R264). -/
def State.swapPins (s : State) (stratum : Nat) : Bool :=
  match (s.stratum stratum).incoming with
  | none => false
  | some c => decide ((s.stratum stratum).content ≠ some c) && !(s.mslot c.tenant c.slot).held

/-- Whether the copy of a stratum is to be pinned: the stratum holds weights and is not LIT, its array is writing, or a shadow operation reads the copy (R86). -/
def State.pinsCopy (s : State) (stratum : Nat) : Bool :=
  let x := s.stratum stratum
  x.anyContent.isSome && (decide (x.state ≠ .lit) || (s.array (arrayOf stratum)).writing.isSome || x.shadowBound || s.swapPins stratum) || s.shadowReads stratum

/-- The pin of a stratum's copy follows R86. -/
def State.repin (s : State) (stratum : Nat) : State :=
  let p := s.pinsCopy stratum
  s.modStratum stratum fun x => { x with copyPinned := (x.copyIn || x.copyLoading) && p }

/-- The pins of the copies of an array's strata follow R86. -/
def State.repinArray (s : State) (arr : Nat) : State := (List.range 8).foldl (fun s i => s.repin (arr * 8 + i)) s

/-- The cluster to which a column block on a die writes: the tenant's cluster of the die's quadrant at the column block's place among them, else the tenant's lowest (R211 rule 4). -/
def State.blockCluster (s : State) (t die cb : Nat) : Nat :=
  let cl := s.clusterList t
  let home := cl.filter fun c => decide (c / 4 = die / 8)
  (home[cb % max 1 home.length]?).getD (cl.headD 0)

/-- The dies of a tenant in the stacks of the quadrants that hold its clusters: stack q, dies 8q to 8q + 7, belongs to quadrant q with clusters 4q to 4q + 3 (R16, R18). -/
def State.homeDies (s : State) (t : Nat) : List Nat := (s.dieList t).filter fun d => (s.clusterList t).any fun c => decide (c / 4 = d / 8)

/-- The lowest free slot of the reserve's part on a cluster's pair (R86, R210). -/
def State.copyBase (s : State) (c : Nat) : Nat :=
  let used := s.vault.strata.filterMap fun e => match e.2.copyAt with | some x => if x.cluster = c then some x.base else none | none => none
  (((List.range (used.length + 1)).map (· * copyBytes)).find? fun b => !used.contains b).getD 0

/-- A copy leaves the reserve. -/
def Stratum.dropCopy (x : Stratum) : Stratum := { x with copyIn := false, copyLoading := false, copyPinned := false, copyAt := none }

/-- The copy of a stratum begins to arrive, in a slot on the pair of the cluster that owns its VMVM's output (R86, R210). -/
def State.startCopy (s : State) (stratum : Nat) : State :=
  let w := ((s.stratum stratum).anyContent).getD WContent.init
  let c := s.blockCluster w.tenant (dieOf stratum) w.cb
  let b := s.copyBase c
  s.modStratum stratum fun x => { x with copyLoading := true, copyAge := s.now, copyAt := some { cluster := c, base := b } }

/-- The unpinned copy of a tenant's reserve that was used longest ago, other than those to keep (R86). -/
def State.oldestCopy (s : State) (t : Nat) (keep : List Nat) : Option Nat :=
  minBy (fun k => (s.stratum k).copyAge) ((s.reserveUsed t).filter fun k => !(s.stratum k).copyPinned && !keep.contains k)

/-- CC4 loads the copy of a stratum into the reserve, an unpinned copy that is not to be kept making room by age; without room it stays on UFS. -/
def State.loadCopyBut (s : State) (keep : List Nat) (stratum : Nat) : State :=
  let x := s.stratum stratum
  if x.copyIn || x.copyLoading || x.anyContent.isNone then s
  else
    let t := s.dieOwner (dieOf stratum)
    if (s.reserveUsed t).length < s.reserveSlots t then s.startCopy stratum
    else match s.oldestCopy t keep with
      | some k => (s.modStratum k Stratum.dropCopy).startCopy stratum
      | none => s

/-- The copy of a stratum is loaded where there is room for it. -/
def State.loadCopy (s : State) (stratum : Nat) : State := s.loadCopyBut [] stratum

/-- The eight strata of an array. -/
def arrayStrata (arr : Nat) : List Nat := (List.range 8).map (arr * 8 + ·)

/-- CC4 loads and pins the copies of all eight strata of an array (R86). -/
def State.loadArray (s : State) (arr : Nat) : State := ((arrayStrata arr).foldl State.loadCopy s).repinArray arr

/-- CC4 goes on loading while copies are wanted and room appears: first those to be pinned, then the arrays of the queued writes, one write after another, so that a later one takes no copy of an earlier (R86, R94). -/
def State.loadDue (s : State) : State :=
  let pins := (mkeys s.vault.strata).filter s.pinsCopy
  let arrs := (s.vault.dies.flatMap fun d => d.2.writes.map fun r => arrayOf r.stratum).dedup
  (arrs.foldl (fun (x : State × List Nat) a =>
    let keep := x.2 ++ arrayStrata a
    ((arrayStrata a).foldl (fun s k => s.loadCopyBut keep k) x.1, keep)) (pins.foldl (fun s k => (s.loadCopyBut pins k).repin k) s, pins)).1

/-! ### The shadow path (R84, R87) -/

/-- One more vector for the shadow operation of a stratum: it joins one that has fewer than 6, or a new one is formed (R87). -/
def State.addShadow (s : State) (op vec cluster stratum : Nat) (c : WContent) : State :=
  let s := s.loadCopy stratum
  let mine := fun (o : ShadowOp) => decide (o.op = op ∧ o.stratum = stratum ∧ o.content = c) && decide (o.vecs.length < 6)
  let s := if s.vault.shadows.any mine then
      { s with vault := { s.vault with shadows := modFirst mine (fun o => { o with vecs := o.vecs ++ [vec] }) s.vault.shadows } }
    else
      let i := (s.stratum stratum).copyIn
      let x : ShadowOp := { op := op, content := c, stratum := stratum, vecs := [vec], cluster := cluster, fromUfs := !i, arrived := i }
      ({ s with vault := { s.vault with shadows := s.vault.shadows ++ [x] } } : State).placeShadow x
  (s.repin stratum).setOp op fun o => { o with shadow := true }

/-- A row-block of a column block goes to the shadow path in place of the vault. -/
def State.shiftSum (s : State) (op vec cb : Nat) : State :=
  { s with vault := { s.vault with sums := s.vault.sums.map fun c =>
      if c.op = op ∧ c.vec = vec ∧ c.cb = cb then { c with waiting := c.waiting - 1, shadowLeft := c.shadowLeft + 1 } else c } }

/-- The content that an MVM converts. -/
def State.mvmContent (s : State) (m : Mvm) : WContent := ((s.stratum m.stratum).content).getD { tenant := m.tenant, rb := m.rb, cb := m.cb }

/-- One queued MVM moves to the shadow path (R79, R84). -/
def State.shadowMvm (s : State) (m : Mvm) : State :=
  (s.addShadow m.op m.vec (s.blockCluster m.tenant (dieOf m.stratum) m.cb) m.stratum (s.mvmContent m)).shiftSum m.op m.vec m.cb

/-- The queued MVMs of an array that satisfy `p` move to the shadow path. -/
def State.shadowQueue (s : State) (arr : Nat) (p : Mvm → Bool) : State :=
  let moved := (s.array arr).queue.filter p
  let s := s.modArray arr fun a => { a with queue := a.queue.filter fun m => !p m }
  moved.foldl State.shadowMvm s

/-! ### Results (R66, R67) -/

/-- y = RNE_FP32(FP32(sum) * (s_in * s_c)), the product of the scales rounded to FP32 first, with its clamps (R39, R66). -/
def dequantF (sum : Int) (sIn : BitVec 32) (sc : BitVec 16) : Fw := Fw.mul { w := f32OfInt sum } (rnd ((f32 sIn).mul (bf16 sc)))

/-- The result of a column (R66). -/
def dequant (sum : Int) (sIn : BitVec 32) (sc : BitVec 16) : BitVec 32 := (dequantF sum sIn sc).w

/-- Elements of a VMVM's output vector: the result columns of all its column blocks. -/
def outLength (p : Proj) : Nat := cdiv p.outSlots 1024 * p.enc.width

/-- The column block's place in the output vector `vec` (log entry 21). -/
def outOffset (p : Proj) (vec cb : Nat) : Nat := (vec * outLength p + cb * p.enc.width) * 4

/-- A VMVM whose column blocks are all written and whose shadow parts are all added has done its work (R176). -/
def State.vmvmCheck (s : State) (op : Nat) : State :=
  if s.vault.sums.all fun c => decide (c.op ≠ op) || (c.written && decide (c.shadowLeft = 0) && decide (c.waiting = 0)) then
    ({ s with vault := { s.vault with sums := s.vault.sums.filter fun c => decide (c.op ≠ op) } } : State).workDone op
  else s

/-- Where the content of one row-block stands: the address of a stratum that holds it, a LIT one first, else one that is to receive it. -/
def State.holderOf (s : State) (c : WContent) : Option Nat :=
  match s.vault.strata.find? fun e => decide (e.2.content = some c) && decide (e.2.state = .lit) with
  | some e => some e.1
  | none =>
    match s.vault.strata.find? fun e => decide (e.2.content = some c) || decide (e.2.incoming = some c) with
    | some e => some e.1
    | none => none

/-- Whether an MVM on a stratum runs in the vault: LIT, on an array that is not writing, holding just that content (R84, R176). -/
def State.inVault (s : State) (stratum : Nat) (c : WContent) : Bool :=
  decide ((s.stratum stratum).state = .lit) && decide ((s.stratum stratum).content = some c) && (s.array (arrayOf stratum)).writing.isNone

end Sys2Proof.Machine
end

