-- ==== Sys2Proof/Machine/Vault.lean ====
section
/-! DEFINITION. The weight vault's commands: VMVM, conversion, suspension, the converting grant and the vault port (R55..R75, R176). -/

namespace Sys2Proof.Machine

/-! ### VMVM (R58, R84, R176, R178) -/

/-- K of the ROUTE whose record a handle names (R178). -/
def Plan.routeK (p : Plan) (record : Handle) : Nat :=
  match p.templates.find? fun t => decide (t.d.kind = .route) && decide (t.d.opC = record) with
  | some t => match t.d.k with | .route _ k _ _ => k | _ => 1
  | none => 1

/-- The expert that an INDIRECT VMVM runs: entry ROUTE_SLOT of token ROUTE_TOKEN of its route record, 8 octets an entry (R178). -/
def State.routedExpert (s : State) (o : Op) (token slot : Nat) : Nat :=
  match s.tensor o o.d.opD with
  | some d => s.tensorOctet o o.d.opD d ((token * (s.opPlan o).routeK o.d.opD + slot) * 8)
  | none => 0

/-- The input format of a VMVM and its number of input vectors. -/
def Kspec.vmvmInput : Kspec → VFmt × Nat
  | .vmvm _ _ _ vec inFmt _ _ _ => (if inFmt = 9 then .int4 else .int8, vec)
  | _ => (.int8, 1)

/-- The projection that a VMVM runs. -/
def State.vmvmProj (s : State) (o : Op) : Nat × Proj :=
  let p := s.opPlan o
  let t := s.opTemplate o
  let e := match o.d.k with
    | .vmvm _ _ _ _ _ true token slot => some (s.routedExpert o token slot)
    | _ => none
  let i := p.projOf (p.setOf t) e
  (i, (p.projs[i]?).getD Proj.init)

/-- Element `i` of input vector `v` of a VMVM, quantised; the descriptor's A operand holds the vectors one after another (log entry 21). -/
def State.vmvmElem (s : State) (o : Op) (p : Proj) (v i : Nat) : Int :=
  match s.tensor o o.d.opA with
  | none => 0
  | some d => if i < p.inputs then sint (fmtBits d.fmt) (s.codeAt o o.d.opA d (runBit d p.inputs v i)) else 0

/-- The scale that a scale site of a step gave its quantised vector: that of the batch's session `v`, or of the step's one session (R42). -/
def State.siteScaleOf (s : State) (o : Op) (v : Nat) : Option (BitVec 32) :=
  match (s.opTemplate o).site, s.run o.run with
  | some site, some r =>
    let k := site * 16 + if r.sessions.length ≤ 1 then 0 else v
    if r.scales.any fun e => decide (e.1 = k) then some (mget 0 r.scales k) else none
  | _, _ => none

/-- The FP32 scale that travels with input vector `v`: the one of the scale site that the template names, else the word that stands behind the vectors (R42; log entry 21). -/
def State.vmvmScale (s : State) (o : Op) (p : Proj) (v : Nat) : BitVec 32 :=
  match s.siteScaleOf o v with
  | some w => w
  | none =>
    match s.tensor o o.d.opA with
    | none => 0
    | some d => BitVec.ofNat 32 (unle (s.tensorOctets o o.d.opA d ((o.d.k.vmvmInput.2 * p.inputs * fmtBits d.fmt + 7) / 8 + 4 * v) 4))

/-- The slice of input vector `v` that row-block `rb` takes: its nonzero elements by row (R58, R59). -/
def State.vmvmSlice (s : State) (o : Op) (p : Proj) (v rb : Nat) : SMap Int :=
  ((List.range 2048).map fun r => (r, s.vmvmElem o p v (rb * 2048 + r))).filter fun e => e.2 != 0

/-- One row-block of one column block for one vector: an MVM on the array that holds it, or a shadow operation (R84, R176). -/
def State.queueRowBlock (s : State) (slot : Nat) (o : Op) (pi : Nat) (p : Proj) (v cb rb : Nat) : State :=
  let c : WContent := { tenant := o.d.tenant, slot := o.slotModel, gen := s.opStamp o, proj := pi, rb := rb, cb := cb }
  match s.holderOf c with
  | some st =>
    if s.inVault st c then
      let m : Mvm := { op := slot, tenant := o.d.tenant, imm := decide (o.d.cls = .imm), stratum := st, vec := v, rb := rb, cb := cb,
                       fmt := o.d.k.vmvmInput.1, q := s.vmvmSlice o p v rb, enqAt := s.now, nextPlane := o.d.k.vmvmInput.1.planes }
      (s.modArray (arrayOf st) fun a => (a.enqueue m).advance).setOp slot fun x => { x with sets := x.sets ++ [st] }
    else (s.addShadow slot v (s.blockCluster o.d.tenant (dieOf st) cb) st c).shiftSum slot v cb
  | none => (s.addShadow slot v o.d.cluster (2 ^ 18) c).shiftSum slot v cb

/-- The sum of one column block for one vector begins, waiting for all its row-blocks (R66). -/
def State.openSum (s : State) (slot : Nat) (o : Op) (p : Proj) (pi v cb rbs : Nat) : State :=
  let sc := (s.copyOf { tenant := o.d.tenant, slot := o.slotModel, gen := s.opStamp o, proj := pi, cb := cb }).scales
  let c : ColSum := { op := slot, vec := v, cb := cb, sIn := s.vmvmScale o p v, waiting := rbs, enc := p.enc, scales := sc }
  { s with vault := { s.vault with sums := s.vault.sums ++ [c] } }

/-- All row-blocks of one column block for one vector. -/
def State.queueColBlock (s : State) (slot : Nat) (o : Op) (pi : Nat) (p : Proj) (rbs v cb : Nat) : State :=
  (List.range rbs).foldl (fun s rb => s.queueRowBlock slot o pi p v cb rb) (s.openSum slot o p pi v cb rbs)

/-- The MVMs of a whole VMVM. -/
def State.queueVmvm (s : State) (slot : Nat) (o : Op) (first count rbs vecs : Nat) : State :=
  let x := s.vmvmProj o
  (List.range vecs).foldl (fun s v => (List.range count).foldl (fun s i => s.queueColBlock slot o x.1 x.2 rbs v (first + i)) s) s

/-- VMVM (R176): the stratum set is resolved for the descriptor's generation, and one MVM is queued on each array or one shadow operation formed. -/
def execVmvm (slot : Nat) (s : State) : Res :=
  match s.opIn slot .vmvm .dispatched with
  | none => .next s.unlisted
  | some o =>
    match o.d.k with
    | .vmvm first count rbs vecs .. =>
      s.withPlaces o [(o.d.opA, (vecs * (s.vmvmProj o).2.inputs * (if o.d.k.vmvmInput.1 = .int4 then 4 else 8) + 7) / 8 + 4 * vecs), (o.d.opC, vecs * outLength (s.vmvmProj o).2 * 4)]
        (.next (((s.startOp slot).queueVmvm slot o first count rbs vecs).vmvmCheck slot))
    | _ => .next s.unlisted

/-! ### Conversion (R61, R65, R71) -/

/-- A slot is free for array `arr`, and it has something to convert. -/
def State.mayConvert (s : State) (arr : Nat) : Bool :=
  (s.array arr).free && (match s.nextOn arr with | some m => (s.payer m.tenant).isSome | none => false) && s.slotFree (dieOf (8 * arr)) && decide (arr < 32768)

/-- An array starts, or goes on with, what waits for the slot. -/
def VArray.begin (a : VArray) (m : Mvm) : VArray :=
  if a.running.isSome then a
  else if m.test.isSome then { a with running := some m }
  else { a with running := some m, queue := dropFirst (fun x => decide (x = m)) a.queue }

/-- CONVERTING_SLOT_GRANT (R71): the array takes a slot of its tenant's share or of a lender's; the wait for it is counted as it passes (R74, State.tickVault). -/
def execConvertingSlotGrant (arr : Nat) (s : State) : Res :=
  match s.nextOn arr with
  | none => .next s.unlisted
  | some m =>
    s.listed (s.mayConvert arr)
      ((s.takeSlot arr m.tenant).modArray arr fun a => a.begin m)

/-- The counters of a completed MVM (R74). -/
def State.countMvm (s : State) (m : Mvm) : State :=
  (((s.tcount m.tenant 0xA200 1 1).tcount m.tenant 0xA200 2 m.rounds).tcount m.tenant 0xA200 3 m.skipped).tcount m.tenant 0xA200 4 m.split

/-- At the 4,096th MVM since an array's last test a test of the stratum selected then is due, before the next queued MVM and any stratum change (R78). -/
def State.countTest (s : State) (arr : Nat) : State :=
  let a := s.array arr
  if 4096 ≤ a.sinceTest ∧ (s.stratum (arr * 8 + a.selected)).state = .lit ∧ s.testsRun = true then s.modArray arr fun a => { a with countDue := true } else s

/-- The array is free of its MVM: the results go to the bank adder, or wait in the accumulators for it (R66, R75). -/
def State.endMvm (s : State) (arr : Nat) (m : Mvm) : State :=
  let s := (s.modArray arr fun a => { a with running := none, sinceTest := a.sinceTest + 1 }).countTest arr
  let s := if s.bankTakes m then s.bankAdd m else s.modArray arr fun a => { a with holding := some m, holdAt := s.now }
  s.modArray arr VArray.advance

/-- MVM_COMPLETE (R65): the planes that remain are converted, the accumulators hold the row-block result, and the bank adder takes it. -/
def execMvmComplete (arr : Nat) (s : State) : Res :=
  match (s.array arr).running with
  | none => .next s.unlisted
  | some m =>
    s.listed (m.test.isNone && (s.array arr).slotOf.isSome && s.slotFalls (dieOf (8 * arr)))
      ((((s.dropSlot arr).countMvm m).endMvm arr (m.planesRun (s.stratum m.stratum) s.trust.fresh m.nextPlane)).drawn)

/-- Results that arrays hold pass to a bank adder that has a buffer again (R75). -/
def State.releaseHolds (s : State) : State :=
  (mkeys s.vault.arrays).foldl (fun s k =>
    match (s.array k).holding with
    | none => s
    | some m =>
      if s.bankTakes m then
        (((s.bankAdd m).tcount m.tenant 0xA200 7 (s.now - (s.array k).holdAt)).modArray k fun a => { a with holding := none }).modArray k VArray.advance
      else s) s

/-- The FP32 results of a column block with their clamps (R39, R66). -/
def ColSum.resultsF (c : ColSum) : List Fw :=
  (List.range c.enc.width).map fun k => dequantF (mget 0 c.sum k) c.sIn (mget 0 c.scales (if c.enc = .int8 then 2 * k else k))

/-- The FP32 results of a column block (R66). -/
def ColSum.results (c : ColSum) : List (BitVec 32) := c.resultsF.map (·.w)

/-- Whether the results of a column block cross quadrants: its cluster is in another quadrant than its stack (R18, R211 rule 4, R215). -/
def State.crosses (s : State) (o : Op) (c : ColSum) : Bool :=
  match c.banks with
  | b :: _ => decide (s.blockCluster o.d.tenant (b / 32) c.cb / 4 ≠ b / 32 / 8)
  | [] => false

/-- The sum of a column block for a vector. -/
def State.sumOf (s : State) (op vec cb : Nat) : Option ColSum := s.vault.sums.find? fun c => decide (c.op = op ∧ c.vec = vec ∧ c.cb = cb)

/-- A column block's results are written at its place in the output. -/
def State.writeBlock (s : State) (o : Op) (vec cb : Nat) (ws : List (BitVec 32)) : State :=
  match s.tensor o o.d.opC with
  | some d => s.putWords o o.d.opC d (outOffset (s.vmvmProj o).2 vec cb) ws
  | none => s

/-- COLUMN_BLOCK_WRITE (R66, R67): the port dequantises the column block's sum and writes it to the owning cluster store. -/
def execColumnBlockWrite (op vec cb : Nat) (s : State) : Res :=
  match s.opIn op .vmvm .started, s.sumOf op vec cb with
  | some o, some c =>
    s.listed (decide (c.waiting = 0) && decide (0 < c.arrived) && !c.written)
      ((((({ s with vault := { s.vault with sums := modFirst (fun x => decide (x = c)) (fun x => { x with written := true, banks := [] }) s.vault.sums } } : State).writeBlock o vec cb c.results).ocount
        o 0xA100 1 ((c.resultsF.map (·.clamps)).sum)).ocount o 0xA900 7 (if s.crosses o c then 1 else 0)).releaseHolds.vmvmCheck op)
  | _, _ => .next s.unlisted

/-! ### Stratum selection and suspension (R68, R69) -/

/-- STRATUM_CHANGE_DONE (R68). -/
def execStratumChangeDone (arr : Nat) (s : State) : Res :=
  match (s.array arr).changing with
  | none => .next s.unlisted
  | some k => .next (s.modArray arr fun a => ({ a with selected := k, changing := none, resuming := false }).advance)

/-- Whether the MVM that holds an array gives way, with planes left after the present one; one that waits for a converting slot again has no present plane (R69, R71). -/
def VArray.maySuspend (a : VArray) : Bool :=
  match a.running with
  | none => false
  | some m => a.givesWay m (if a.slotOf.isSome then 2 else 1)

/-- An MVM moves to its array's second accumulator set, and the array goes on (R69). -/
def State.suspend (s : State) (arr : Nat) (m : Mvm) : State :=
  (s.modArray arr fun a => ({ a with running := none, suspended := some { m with resumed := true } } : VArray).advance).tcount m.tenant 0xA200 5 1

/-- MVM_SUSPEND (R69): the present plane ends, the accumulators move to the second set, and the IMM MVM's stratum is selected. -/
def execMvmSuspend (arr : Nat) (s : State) : Res :=
  match (s.array arr).running with
  | none => .next s.unlisted
  | some m =>
    if (s.array arr).slotOf.isSome then
      s.listed ((s.array arr).maySuspend && s.slotFalls (dieOf (8 * arr)))
        (((s.dropSlot arr).suspend arr (m.plane (s.stratum m.stratum) s.trust.fresh)).drawn)
    else s.listed (s.array arr).maySuspend (s.suspend arr m)

/-- MVM_RESUME (R69): with its stratum selected again and a converting slot, the suspended MVM goes on at its next plane. -/
def execMvmResume (arr : Nat) (s : State) : Res :=
  match (s.array arr).suspended with
  | none => .next s.unlisted
  | some m =>
    let a := s.array arr
    s.listed (a.free && a.running.isNone && decide (a.selected = m.stratum % 8) && (a.queue.all fun x => !x.imm) && s.slotFree (dieOf (8 * arr)) && (s.payer m.tenant).isSome)
      ((s.takeSlot arr m.tenant).modArray arr fun a => { a with running := some m, suspended := none })

/-- Whether an array gives its slot back at the end of its present plane: the tenant whose share pays has an MVM that waits, G has fallen below the converting count, or the payer has more than its share while another waits with less than its own (R71, R75). -/
def State.slotOwed (s : State) (p : Nat) (m : Mvm) : Bool :=
  (decide (p ≠ m.tenant) && s.slotWaits p) || decide (s.vault.grant < s.convertingCount) ||
    (decide (s.grantShare p < s.slotsPaid p) && ((List.range 8).map (· + 1)).any fun u => s.underShare u && s.slotWaits u)

/-- SLOT_RETURN (R25, R71, R75): at the end of its present plane an array gives the slot back that it borrows or that a fall of G takes, and waits for a slot again; one that nothing converts on gives it back as the ramp allows. -/
def execSlotReturn (arr : Nat) (s : State) : Res :=
  match (s.array arr).running, (s.array arr).slotOf with
  | some m, some p =>
    s.listed (s.slotOwed p m && decide (2 ≤ m.nextPlane) && s.slotFalls (dieOf (8 * arr)))
      (((s.dropSlot arr).modArray arr fun a => { a with running := some (m.plane (s.stratum m.stratum) s.trust.fresh) }).drawn)
  | none, some _ => s.listed (s.slotFalls (dieOf (8 * arr))) ((s.dropSlot arr).modArray arr VArray.advance)
  | _, none => .next s.unlisted

/-! ### The grant (R71, R74) -/

/-- GRANT_RECOMPUTE (R71): G follows the vault converting budget and the measured round time; tenant shares follow G. -/
def execGrantRecompute (s : State) : Res :=
  s.listed s.powered { s with vault := { s.vault with grant := s.grantOf } }

/-- RATE_MONITOR_SAMPLE (R8, R404, R456): the handshake rate, M hs/s, and the round time as measured. -/
def execRateMonitorSample (kHs roundNs : Nat) (s : State) : Res :=
  s.listed s.powered { s with vault := { s.vault with roundNs := roundNs }, power := { s.power with hsRate := s.power.heldRate kHs } }

end Sys2Proof.Machine
end

