-- ==== Sys2Proof/Machine/Window.lean ====
section
/-! DEFINITION. The window of a cluster store: its regions, the scratch tensors and the hot backing copies in it (R197, R199, R206). -/

namespace Sys2Proof.Machine

/-- Octets of a region of a cluster store (R199). -/
def regionBytes : Nat := 65536

/-- Regions of a hot copy (R199). -/
def hotRegions : Nat := 17

/-- Octets at AUX beside a tensor's body: the block map, the scale run, or the offset table with 64 octets of entries for each tile (R36, R45, R155; log entry 29). -/
def TDesc.auxOctets (d : TDesc) : Nat :=
  (if d.comp then 2 * d.places else 0) + (if d.mxs then d.rows * d.cols / 32 else 0) + if d.esc then 68 * (d.rows / 16 * (d.cols / 16)) else 0

/-- Octets that a scratch tensor takes. -/
def TDesc.room (d : TDesc) : Nat := d.body + cdiv d.auxOctets 16 * 16

/-- STREAM_REGIONS of a tenant (R220, R228). -/
def State.streamRegions (s : State) (t : Nat) : Nat := s.sv (0x8130 + t) 1 6

/-- Where the window of a cluster begins: behind the KV pool, and behind surplus hot pages until their regions are empty (R199). -/
def State.winLow (s : State) (t c : Nat) : Nat := max (s.csKvPages t) (s.hotUsed c) * regionBytes

/-- Where it ends for scratch tensors and hot copies: before the stream regions (R199, R220; log entry 73). -/
def State.winHigh (s : State) (t : Nat) : Nat := (96 - s.streamRegions t) * regionBytes

/-- The scratch tensors in a cluster's window: first octet and octets. -/
def State.winTaken (s : State) (c : Nat) : List (Nat × Nat) :=
  s.ops.runs.flatMap fun e => match e.2 with
    | none => []
    | some r => r.places.filterMap fun p => match (s.runPlan r).scratch[p.1]? with
      | some d => if p.2.1 && decide (d.unit % 16 = c) then some (p.2.2, d.room) else none
      | none => none

/-- The copies held hot in a cluster's window, oldest first. -/
def State.hotIn (s : State) (c : Nat) : List HotCopy := s.tiers.hotCopies.filter fun x => decide (x.cluster = c)

/-- The lowest address from `lo` on where `n` octets below `hi` are free. -/
def fitIn (lo hi n : Nat) (taken : List (Nat × Nat)) : Option Nat :=
  minBy id ((lo :: taken.map fun x => x.1 + x.2).filter fun a =>
    decide (lo ≤ a ∧ a + n ≤ hi) && taken.all fun x => decide (a + n ≤ x.1) || decide (x.1 + x.2 ≤ a))

/-- Regions of a cluster's window without a scratch tensor (R199). -/
def State.winRegions (s : State) (t c : Nat) : Nat :=
  let lo := s.winLow t c / regionBytes
  ((List.range (96 - s.streamRegions t - lo)).filter fun i =>
    (s.winTaken c).all fun x => decide (x.1 + x.2 ≤ (lo + i) * regionBytes) || decide ((lo + i + 1) * regionBytes ≤ x.1)).length

/-- Free regions of a cluster's window (R199). -/
def State.winFree (s : State) (t c : Nat) : Nat := s.winRegions t c - hotRegions * (s.hotIn c).length

/-- CC3 holds a copy hot in a cluster's window where 17 regions are free (R87, R199; DESIGN CHOICE: a copy that a shadow operation has read, log entry 73). -/
def State.holdHot (s : State) (t c stratum : Nat) (w : WContent) : State :=
  if s.copyHot c w = false ∧ hotRegions ≤ s.winFree t c then
    { s with tiers := { s.tiers with hotCopies := s.tiers.hotCopies ++ [{ cluster := c, stratum := stratum, content := w }] } }
  else s

/-- The oldest hot copy of a cluster is given up. -/
def State.dropHot (s : State) (c : Nat) : State :=
  { s with tiers := { s.tiers with hotCopies := dropFirst (fun x => decide (x.cluster = c)) s.tiers.hotCopies } }

/-- Hot copies of a cluster are given up, oldest first, until the window holds those that are left. -/
def State.trimCopies (t c : Nat) : Nat → State → State
  | 0, s => s
  | n + 1, s => if hotRegions * (s.hotIn c).length ≤ s.winRegions t c then s else State.trimCopies t c n (s.dropHot c)

/-- Room for `n` octets in a cluster's window, hot copies being given up for it one by one. -/
def State.winRoom (s : State) (t c n : Nat) (own : List (Nat × Nat)) : Nat → State × Option Nat
  | 0 => (s, none)
  | fuel + 1 =>
    match fitIn (s.winLow t c) (s.winHigh t - hotRegions * regionBytes * (s.hotIn c).length) n (s.winTaken c ++ own) with
    | some a => (s, some a)
    | none => if s.hotIn c = [] then (s, none) else (s.dropHot c).winRoom t c n own fuel

/-- Octets of an image's scratch tensors of tier 1 beyond the windows of an idle tenant: each in turn in its cluster's window where it fits (R203). -/
def State.beyondWindow (s : State) (t : Nat) (p : Plan) : Nat :=
  ((p.scratch.filter fun d => decide (d.tier = 1)).foldl (fun (x : List (Nat × Nat × Nat) × Nat) d =>
    let c := d.unit % 16
    match fitIn (s.csKvPages t * regionBytes) (s.winHigh t) d.room ((x.1.filter fun y => decide (y.1 = c)).map (·.2)) with
    | some a => (x.1 ++ [(c, a, d.room)], x.2)
    | none => (x.1, x.2 + d.room)) (([] : List (Nat × Nat × Nat)), 0)).2

end Sys2Proof.Machine
end

