-- ==== Sys2Proof/Machine/Upkeep.lean ====
section
/-! DEFINITION. Vault upkeep: test vectors, stratum writes, retirement, relocation and the shadow path (R76..R94). -/

namespace Sys2Proof.Machine

/-! ### Test vectors (R77..R79) -/

/-- TEST_DUE_MVM_COUNT (R78): the 4,096th MVM since the array's last test. -/
def execTestDueMvmCount (arr : Nat) (s : State) : Res :=
  let a := s.array arr
  s.listed (decide (4096 ≤ a.sinceTest) && !a.countDue && decide ((s.stratum (arr * 8 + a.selected)).state = .lit) && s.testsRun)
    (s.modArray arr fun a => ({ a with countDue := true }).advance)

/-- TV_IDLE, ns (R78, R92). -/
def tvIdle : Nat := 10000000000

/-- TEST_DUE_IDLE (R78): a LIT stratum untested for 10 s. -/
def execTestDueIdle (stratum : Nat) (s : State) : Res :=
  let x := s.stratum stratum
  s.listed (decide (x.state = .lit) && decide (tvIdle ≤ s.now - x.lastTest) && !(s.array (arrayOf stratum)).testDue.contains stratum && s.testsRun)
    (s.modArray (arrayOf stratum) fun a => ({ a with testDue := a.testDue ++ [stratum] }).advance)

/-- A converter's code, in -1,024..+1,023 (R62; that a value beyond the range gives its end is a DESIGN CHOICE, log entry 76). -/
def converterCode (v : Int) : Int := max (-1024) (min 1023 v)

/-- The difference of a test's code in column `c`, code minus expected, for pattern `k` (R77, R92). The conversion error is open: a stratum may have drifted beyond the tolerance. -/
def testDiff (st : Stratum) (stratum draw k c : Nat) : Int :=
  let g := k % 16
  let sign : Int := if k < 16 then 1 else -1
  converterCode (sign * ((List.range 128).map fun r => mget 0 st.cells ((g * 128 + r) * 1024 + c)).sum + Config.convError stratum c (512 + k) draw) -
    sign * mget 0 st.check (g * 1024 + c)

/-- The difference of the largest magnitude among columns, the lower column first among equals (R92). -/
def largestDiff (f : Nat → Int) : Nat → Int
  | 0 => 0
  | n + 1 => let d := largestDiff f n; if d.natAbs < (f n).natAbs then f n else d

/-- The deviation of a test: over all 1,024 slot columns. -/
def testDeviation (st : Stratum) (stratum draw k : Nat) : Int := largestDiff (testDiff st stratum draw k) 1024

/-- A stratum's write is queued on its die, and the copies that it needs are loaded and pinned (R86, R90). -/
def State.queueWrite (s : State) (r : WriteReq) : State :=
  (s.modDie (dieOf r.stratum) fun d => { d with writes := d.writes ++ [r] }).loadArray (arrayOf r.stratum)

/-- A stratum leaves LIT: its due tests lapse, its queued MVMs move to the shadow path, its copy is loaded and pinned (R79, R86). -/
def State.leaveLit (s : State) (stratum : Nat) : State :=
  let arr := arrayOf stratum
  let s := s.modArray arr fun a => { a with testDue := a.testDue.filter (· ≠ stratum), countDue := a.countDue && decide (a.selected ≠ stratum % 8) }
  let s := s.shadowQueue arr fun m => decide (m.stratum = stratum)
  ((s.loadCopy stratum).repin stratum).modArray arr VArray.advance

/-- STRATUM_DIM (R79): the stratum goes to DIM at once, its MVMs to the shadow path, and a rewrite is queued. -/
def State.dim (s : State) (stratum t : Nat) (dev : Int) : State :=
  let s := (s.modStratum stratum fun x => { x with state := .dim }).leaveLit stratum
  let s := s.queueWrite { stratum := stratum, kind := .dimRewrite, content := (s.stratum stratum).content }
  (s.tcount t 0xA300 2 1).raise Ev.stratumDim t Locus.stratum stratum (uint 16 dev)

/-- A test of a stratum has run: the pattern counter advances whether it passed or failed (R77, R92). -/
def State.tested (s : State) (stratum t : Nat) (dev : Int) : State :=
  let s := s.modStratum stratum fun x => { x with pattern := (x.pattern + 1) % 32, lastTest := s.now, deviation := dev }
  let s := s.tcount t 0xA300 1 1
  if 3 < dev.natAbs ∧ (s.stratum stratum).state = .lit then s.dim stratum t dev else s

/-- TEST_VECTOR_COMPLETE (R77): the codes are compared with the check table, the counter advances, and a failure sets DIM. -/
def execTestVectorComplete (arr : Nat) (s : State) : Res :=
  match (s.array arr).running with
  | none => .next s.unlisted
  | some m =>
    match m.test with
    | none => .next s.unlisted
    | some k =>
      let dev := testDeviation (s.stratum m.stratum) m.stratum s.trust.fresh k
      s.listed ((s.array arr).slotOf.isSome && s.slotFalls (dieOf (8 * arr)))
        ((((s.dropSlot arr).modArray arr fun a =>
          ({ a with running := none, sinceTest := 0, countDue := false, testDue := a.testDue.filter (· ≠ m.stratum) } : VArray).advance).drawn).tested m.stratum m.tenant dev)

/-! ### Write slots (R81, R83, R86, R90) -/

/-- Whether a stratum is being written. -/
def StratumState.writing : StratumState → Bool
  | .erasing | .programming | .verifying => true
  | _ => false

/-- Arrays of a die that write. -/
def State.writingOn (s : State) (die : Nat) : Nat := mcount (fun k a => a.writing.isSome && decide (dieOf (8 * k) = die)) s.vault.arrays
/-- Arrays that write, in the package or of one tenant's dies. -/
def State.writingAll (s : State) : Nat := mcount (fun _ a => a.writing.isSome) s.vault.arrays
/-- Arrays of a tenant's dies that write. -/
def State.writingOf (s : State) (t : Nat) : Nat := mcount (fun k a => a.writing.isSome && decide (s.dieOwner (dieOf (8 * k)) = t)) s.vault.arrays

/-- The copies of all eight strata of an array are in the reserve; a stratum with no weights has none (R86). -/
def State.arrayPinned (s : State) (arr : Nat) : Bool :=
  (List.range 8).all fun i => let x := s.stratum (arr * 8 + i); x.anyContent.isNone || x.copyIn

/-- Whether a stratum belongs to a model slot. -/
def Stratum.ofSlot (x : Stratum) (t slot : Nat) : Bool :=
  let is := fun (o : Option WContent) => match o with | some c => decide (c.tenant = t ∧ c.slot = slot) | none => false
  is x.content || is x.incoming

/-- Strata of a model slot that a write is still to fill. -/
def State.unwritten (s : State) (t slot : Nat) : Bool :=
  s.vault.strata.any fun e => match e.2.incoming with | some c => decide (c.tenant = t ∧ c.slot = slot) | none => false

/-- Whether a step of a model slot is in flight. -/
def State.slotBusy (s : State) (t slot : Nat) : Bool :=
  s.ops.runs.any fun e => match e.2 with | some r => decide (r.tenant = t ∧ r.slot = slot) | none => false

/-- Whether the release of a stratum waits: for the last rewrite of its swap, or for the steps of a slot that is removed (R263, R268). -/
def State.releaseWaits (s : State) (stratum : Nat) : Bool :=
  match (s.stratum stratum).anyContent with
  | none => false
  | some c =>
    match (s.mslot c.tenant c.slot).state with
    | .swapping => s.unwritten c.tenant c.slot
    | .removing => s.slotBusy c.tenant c.slot
    | _ => false

/-- Generation of content that a swap has placed and not yet flipped to (R263). -/
def swapMark : Nat := 2 ^ 32

/-- Whether a stratum is promised to a swap whose pointer has not been flipped: it is not written before the flip (R263). -/
def Stratum.awaitsFlip (x : Stratum) : Bool := match x.incoming with | some c => decide (c.gen = swapMark) | none => false

/-- Whether a queued write can be granted now (R83, R86, R90, R395, R400, R409): the device in RUN, a write slot, an array free of converting, the pins, no trip, and a tenant that is not being removed. -/
def State.canWrite (s : State) (r : WriteReq) : Bool :=
  let die := dieOf r.stratum
  let arr := arrayOf r.stratum
  let a := s.array arr
  let t := s.dieOwner die
  a.writing.isNone && a.running.isNone && a.suspended.isNone && a.holding.isNone && a.slotOf.isNone &&
  decide (s.writingOn die < 16) && decide (s.writingAll < s.power.writeSlots) && decide (s.writingOf t < s.writeCap t) &&
  s.arrayPinned arr && decide (s.power.thermState ≠ 2) && decide (s.power.state = .run) && !(s.die die).dieErase && decide (t ≠ 0) &&
  decide (s.tenState t = .forming ∨ s.tenState t = .active) && !(decide (r.kind = .release) && s.releaseWaits r.stratum) && (decide (r.kind = .dimRewrite) || !(s.stratum r.stratum).awaitsFlip)

/-- The order of R90 among kinds of writes. -/
def WriteKind.rank : WriteKind → Nat
  | .dimRewrite => 0 | .relocation => 1 | .swapRewrite => 2 | .install => 3 | .release => 4

/-- The write of a die that is granted next: of those that can be granted, the first kind of R90, oldest first. -/
def State.nextWrite (s : State) (die : Nat) : Option WriteReq := minBy (fun r => r.kind.rank) ((s.die die).writes.filter s.canWrite)

/-- Whether the present state of a stratum lists the grant of a write of a kind (R81). -/
def writeListed (x : Stratum) : WriteKind → Bool
  | .dimRewrite => decide (x.state = .dim ∨ x.state = .erasing)
  | .relocation => decide (x.state = .free ∨ x.state = .erasing)
  | .install => decide (x.state = .free ∨ x.state = .erasing)
  | .swapRewrite => decide (x.state = .lit ∨ x.state = .free ∨ x.state = .dim ∨ x.state = .erasing)
  | .release => decide (x.state = .lit ∨ x.state = .dim ∨ x.state = .programming ∨ x.state = .verifying ∨ x.state = .erasing)

/-- What a granted write puts into its stratum: what the stratum is promised to receive, unless a swap has not come to its flip yet; else what the write was queued with (R94). -/
def Stratum.toHold (x : Stratum) (r : WriteReq) : Option WContent := if x.incoming.isSome && !x.awaitsFlip then x.incoming else r.content

/-- The stratum's state after its write slot is granted (R81). -/
def Stratum.granted (x : Stratum) (r : WriteReq) : Stratum :=
  match x.state with
  | .free => { x with state := .programming, attempt := 1, target := x.toHold r }
  | .erasing => { x with target := if x.target.isSome then x.target else x.toHold r }
  | _ =>
    if r.kind = .release then { x with state := .erasing, releaseFlag := true }
    else if x.state = .dim ∧ x.programs = 1000 then { x with state := .erasing, retireFlag := true, target := x.toHold r }
    else { x with state := .erasing, attempt := 1, target := x.toHold r }

/-! ### Relocation (R91) -/

/-- Whether a stratum is free to be assigned: FREE, not assigned and not awaiting a write. -/
def State.assignable (s : State) (k : Nat) : Bool :=
  let x := s.stratum k
  decide (x.state = .free) && x.incoming.isNone && x.content.isNone

/-- Whether an array holds, or is to receive, a row-block of a column block. -/
def State.arrayHolds (s : State) (arr : Nat) (c : WContent) : Bool :=
  (List.range 8).any fun i =>
    let x := s.stratum (arr * 8 + i)
    let same := fun (o : Option WContent) => match o with
      | some y => decide (y.tenant = c.tenant ∧ y.slot = c.slot ∧ y.gen = c.gen ∧ y.proj = c.proj ∧ y.cb = c.cb)
      | none => false
    same x.content || same x.incoming

/-- Whether an array holds, or is to receive, another row-block of a column block than the one of `c` itself (R91). -/
def State.arrayOther (s : State) (arr : Nat) (c : WContent) : Bool :=
  (List.range 8).any fun i =>
    let x := s.stratum (arr * 8 + i)
    let same := fun (o : Option WContent) => match o with
      | some y => decide (y.tenant = c.tenant ∧ y.slot = c.slot ∧ y.gen = c.gen ∧ y.proj = c.proj ∧ y.cb = c.cb ∧ y.rb ≠ c.rb)
      | none => false
    same x.content || same x.incoming

/-- The stratum of a bank (die * 32 + bank) that takes relocated content: on an array with no other row-block of the column block, lowest program count first (R91). -/
def State.bankSpot (s : State) (bank : Nat) (c : WContent) : Option Nat :=
  minBy (fun k => (s.stratum k).programs) (((List.range 256).map (bank * 256 + ·)).filter fun k => s.assignable k && !s.arrayOther (arrayOf k) c)

/-- A stratum is assigned content and its write is queued. -/
def State.assign (s : State) (k : Nat) (c : WContent) (kind : WriteKind) : State :=
  (s.modStratum k fun x => { x with incoming := some c }).queueWrite { stratum := k, kind := kind, content := some c }

/-- Whether an array holds, or is to receive, a row-block of a projection: another stratum of the same VMVM (R211). -/
def State.arrayBusy (s : State) (arr : Nat) (c : WContent) : Bool :=
  (List.range 8).any fun i =>
    let x := s.stratum (arr * 8 + i)
    let same := fun (o : Option WContent) => match o with
      | some y => decide (y.tenant = c.tenant ∧ y.slot = c.slot ∧ y.gen = c.gen ∧ y.proj = c.proj)
      | none => false
    same x.content || same x.incoming

/-- FREE strata of a bank that no write is to take. -/
def State.bankFree (s : State) (bank : Nat) : Nat := (((List.range 256).map (bank * 256 + ·)).filter s.assignable).length

/-- Cost of a stratum: arrays without a row-block of the same projection first, then the lowest program count (R211, rules 5 and 6). -/
def State.spotCost (s : State) (c : WContent) (k : Nat) : Nat := (if s.arrayBusy (arrayOf k) c then 65536 else 0) + (s.stratum k).programs

/-- The strata of one bank that take `rbs` row-blocks of a column block, on distinct arrays, with `spare` strata of the bank left FREE; none where it has too few (R211). -/
def State.bankPick (s : State) (bank : Nat) (c : WContent) (rbs spare : Nat) : Option (List Nat) :=
  let arrs := (List.range 32).filterMap fun i =>
    minBy (fun k => (s.stratum k).programs) (((List.range 8).map fun j => (bank * 32 + i) * 8 + j).filter fun k => s.assignable k && !s.arrayHolds (arrayOf k) c)
  if rbs ≤ arrs.length ∧ rbs + spare ≤ s.bankFree bank then some ((arrs.mergeSort fun a b => decide (s.spotCost c a ≤ s.spotCost c b)).take rbs) else none

/-- The same for a relocation, which may use the strata kept FREE (R91, R211). -/
def State.bankSpots (s : State) (bank : Nat) (c : WContent) (rbs : Nat) : Option (List Nat) := s.bankPick bank c rbs 0

/-- Row-blocks of the column block that content belongs to. -/
def State.rowBlocks (s : State) (c : WContent) : Nat :=
  match (s.mslot c.tenant c.slot).current with
  | some i => cdiv ((i.plan.projs[c.proj]?).getD Proj.init).inputs 2048
  | none => 1

/-- Strata are released (R81): those that stand wait for a write slot, those being written are erased, those not yet granted are dropped. -/
def State.releaseOne (s : State) (k : Nat) : State :=
  let s := s.modDie (dieOf k) fun d => { d with writes := d.writes.filter fun r => decide (r.stratum ≠ k) }
  match (s.stratum k).state with
  | .lit | .dim => (s.modStratum k fun x => { x with incoming := none }).queueWrite { stratum := k, kind := .release, content := none }
  | .erasing | .programming | .verifying => s.modStratum k fun x => { x with state := .erasing, releaseFlag := !x.retireFlag, incoming := none, target := none }
  | .free => s.modStratum k fun x => { x.dropCopy with incoming := none }
  | .retired => s.modStratum k fun x => { x.dropCopy with content := none, incoming := none, target := none, shadowBound := false }

/-- Whether a stratum holds, or is to receive, a row-block of the column block of `c`. -/
def Stratum.ofBlock (x : Stratum) (c : WContent) : Bool :=
  [x.content, x.incoming, x.target].any fun o => match o with
    | some y => decide (y.tenant = c.tenant ∧ y.slot = c.slot ∧ y.gen = c.gen ∧ y.proj = c.proj ∧ y.cb = c.cb)
    | none => false

/-- The old strata of a column block, but for the one that retires, are released once its row-blocks are assigned elsewhere (R91). -/
def State.releaseOld (s : State) (stratum : Nat) (c : WContent) (new : List Nat) : State :=
  (mkeys (mfilter (fun k x => x.ofBlock c && !new.contains k && decide (k ≠ stratum) && decide (x.state ≠ .retired)) s.vault.strata)).foldl State.releaseOne s

/-- RELOCATION (R91): to a stratum of the same bank; else the whole column block to another bank of the tenant's dies, those of its own quadrants first (R18); else the stratum stays on the shadow path for good. -/
def State.relocate (s : State) (stratum : Nat) (c : WContent) : State :=
  match s.bankSpot (packageBank stratum) c with
  | some k => s.assign k c .relocation
  | none =>
    let banks := (s.homeDies c.tenant ++ (s.dieList c.tenant).filter fun d => !(s.homeDies c.tenant).contains d).flatMap fun d => ((List.range 32).map (d * 32 + ·)).filter (· ≠ packageBank stratum)
    match banks.findSome? fun b => s.bankSpots b c (s.rowBlocks c) with
    | some ks => ((List.range ks.length).foldl (fun s i => s.assign ((ks[i]?).getD 0) { c with rb := i } .relocation) s).releaseOld stratum c ks
    | none =>
      ((s.modStratum stratum fun x => { x with shadowBound := true, content := some c, incoming := none }).tcount c.tenant 0xA300 7 1).raise Ev.shadowBound c.tenant Locus.stratum stratum 0

/-- The content of a stratum that is set to retire is relocated: what its write puts into it and what it is promised, else what it holds. -/
def State.relocateOf (s : State) (stratum : Nat) : State :=
  let x := s.stratum stratum
  let cs := (x.target.toList ++ x.incoming.toList).dedup
  (if cs = [] then x.content.toList else cs).foldl (fun s c => s.relocate stratum c) s

/-- The queued writes that the grant of one leaves: those of other strata, and of its own a release, or a rewrite with other weights; a release leaves none (R90, R94). -/
def WriteReq.leaves (r : WriteReq) (w : Option WContent) (x : WriteReq) : Bool :=
  decide (x.stratum ≠ r.stratum) || (decide (r.kind ≠ .release) && decide (x ≠ r) && (decide (x.kind = .release) || decide (x.content ≠ w)))

/-- The granted write takes its array: the array converts nothing, and the MVMs queued on its strata run on the shadow path (R83, R84). -/
def State.beginWrite (s : State) (r : WriteReq) : State :=
  let arr := arrayOf r.stratum
  let was := (s.stratum r.stratum).state
  let w := ((s.stratum r.stratum).granted r).target
  let s := s.modDie (dieOf r.stratum) fun d => { d with writes := d.writes.filter (r.leaves w) }
  let s := s.modArray arr fun a => { a with writing := some r.stratum, changing := none, testDue := a.testDue.filter (· ≠ r.stratum), countDue := a.countDue && decide (a.selected ≠ r.stratum % 8) }
  let s := s.shadowQueue arr fun _ => true
  let s := (s.modStratum r.stratum fun x => x.granted r).repinArray arr
  if was = .dim ∧ (s.stratum r.stratum).retireFlag = true then s.relocateOf r.stratum else s

/-- WRITE_SLOT_GRANT (R81, R90), by CC4. -/
def execWriteSlotGrant (stratum : Nat) (s : State) : Res :=
  s.whenUp (.writeSlotGrant stratum) <|
    match s.nextWrite (dieOf stratum) with
    | none => .next s.unlisted
    | some r => s.listed (decide (r.stratum = stratum) && writeListed (s.stratum stratum) r.kind) (s.beginWrite r)

/-- The array's write ends: it converts again. -/
def State.endWrite (s : State) (stratum : Nat) : State :=
  let arr := arrayOf stratum
  (s.modArray arr fun a => ({ a with writing := none }).advance).repinArray arr

/-- STRATUM_RETIRED (R81, R82, R91). -/
def State.retire (s : State) (stratum : Nat) : State :=
  let t := s.dieOwner (dieOf stratum)
  let s := s.modStratum stratum fun x => { x with state := .retired, retireFlag := false, releaseFlag := false, incoming := none, target := none, attempt := 0, content := if x.shadowBound then x.content else none }
  (s.tcount t 0xA300 6 1).raise Ev.stratumRetired t Locus.stratum stratum (s.stratum stratum).programs

/-- What a stratum does when its erase is done (R81, R82). -/
def State.eraseDone (s : State) (stratum : Nat) : State :=
  let x := s.stratum stratum
  if x.retireFlag then ((s.modStratum stratum fun x => { x with cells := [] }).retire stratum).endWrite stratum
  else if x.releaseFlag then
    if x.programs < 1000 then
      (s.modStratum stratum fun x => { x.dropCopy with state := .free, releaseFlag := false, attempt := 0, content := none, incoming := none, target := none, cells := [], check := [], scales := [] }).endWrite stratum
    else ((s.modStratum stratum fun x => { x with cells := [], content := none }).retire stratum).endWrite stratum
  else if x.programs < 1000 then s.modStratum stratum fun x => { x with state := .programming, cells := [] }
  else (((s.relocateOf stratum).modStratum stratum fun x => { x with cells := [] }).retire stratum).endWrite stratum

/-- Whether the array of a stratum is writing just that stratum. -/
def State.writes (s : State) (stratum : Nat) (st : StratumState) : Bool :=
  decide ((s.stratum stratum).state = st) && decide ((s.array (arrayOf stratum)).writing = some stratum)

/-- ERASE_DONE (R81). -/
def execEraseDone (stratum : Nat) (s : State) : Res := s.listed (s.writes stratum .erasing) (s.eraseDone stratum)

/-! ### Programming and verification (R55, R57, R76, R81) -/

/-- The weight of a copy at a row and weight column; an escape reads as 0 (R44, R57, R85). -/
def Copy.weight (c : Copy) (row col : Nat) : Int :=
  match c.enc with
  | .int8 => sint 8 (mget 0 c.codes (row * 1024 + col) % 256)
  | .int4 => sint 4 (mget 0 c.codes (row * 1024 + col) % 16)
  | .int4x => let v := mget 0 c.codes (row * 1024 + col) % 16; if v = 8 then 0 else sint 4 v

/-- The high slot of an INT8 weight: 16 * high + low with both slots in -7..7 (R56). -/
def highSlot (w : Int) : Int := if 0 ≤ w then (w + 8) / 16 else -((-w + 8) / 16)

/-- A slot value in -7..7 that the spec leaves open: no pair of slots gives a weight that is 8 more than a multiple of 16 (R56; log entry 23). -/
def openSlot (which : Nat) (w : Int) : Int := (Config.freeNat (56 * 2 + which) (uint 8 w) % 15 : Nat) - 7

/-- The slot pair of an INT8 weight. -/
def slotPair (w : Int) : Int × Int :=
  let h := highSlot w
  if (w - 16 * h).natAbs ≤ 7 then (h, w - 16 * h) else (openSlot 0 w, openSlot 1 w)

/-- The slot value that a weight's copy gives each slot column (R55, R56). -/
def Copy.slotValue (c : Copy) (row col : Nat) : Int :=
  if c.enc = .int8 then
    let w := slotPair (c.weight row (col / 2 * 2))
    if col % 2 = 0 then w.1 else w.2
  else c.weight row col

/-- The cells of a programmed stratum: the nonzero slot values. -/
def Copy.cells (c : Copy) : SMap Int :=
  let rows := (c.codes.map fun e => e.1 / 1024).dedup
  rows.flatMap fun r => ((List.range 1024).map fun k => (r * 1024 + k, c.slotValue r k)).filter fun e => e.2 != 0

/-- The check table: the sum of each slot column over each group of 128 rows (R76). -/
def checkTable (cells : SMap Int) : SMap Int :=
  cells.foldl (fun m e => mmod 0 m (e.1 / 1024 / 128 * 1024 + e.1 % 1024) (· + e.2)) []

/-- PROGRAM_DONE (R76, R81): the program count rises, and the check table and the column scales are written. -/
def execProgramDone (stratum : Nat) (s : State) : Res :=
  let x := s.stratum stratum
  let c := match x.target with | some w => s.copyOf w | none => Copy.init
  s.listed (s.writes stratum .programming)
    (s.modStratum stratum fun x => { x with state := .verifying, programs := x.programs + 1, enc := c.enc, cells := c.cells, scales := c.scales, check := checkTable c.cells })

/-- The 32 tests of a verification are counted, and the last of them gives the deviation: within the tolerance where the verification passed (R77, R81, R92; log entry 62). -/
def State.verifyTests (s : State) (stratum : Nat) (ok : Bool) : State :=
  let d := testDeviation (s.stratum stratum) stratum s.trust.fresh 31
  ((s.modStratum stratum fun x => { x with lastTest := s.now, deviation := if ok then within 3 d else d }).drawn).tcount (s.dieOwner (dieOf stratum)) 0xA300 1 32

/-- A written stratum is LIT: it holds its new content, its copy is unpinned, its counters start over (R81). What a swap has promised it stays promised (R94). -/
def State.nowLit (s : State) (stratum : Nat) : State :=
  let x := s.stratum stratum
  let s := s.modStratum stratum fun x => { x with state := .lit, attempt := 0, pattern := 0, content := x.target, target := none, incoming := if x.incoming = x.target then none else x.incoming, shadowBound := false }
  let s := match x.target with
    | some w => if x.content = x.target then s else s.modSlot (w.tenant * 4 + w.slot) fun m => { m with litSoFar := m.litSoFar + 1 }
    | none => s
  ((s.tcount (s.dieOwner (dieOf stratum)) 0xA300 5 1).modStratum stratum fun x => { x with copyAge := s.now }).endWrite stratum

/-- A failed verification (R81): erased and tried again, and at the third attempt set to retire with its content relocated. -/
def State.verifyFailed (s : State) (stratum : Nat) : State :=
  if (s.stratum stratum).attempt < 3 then s.modStratum stratum fun x => { x with state := .erasing, attempt := x.attempt + 1 }
  else (s.modStratum stratum fun x => { x with state := .erasing, retireFlag := true }).relocateOf stratum

/-- VERIFY_DONE (R81): read-back and the 32 tests. -/
def execVerifyDone (stratum : Nat) (ok : Bool) (s : State) : Res :=
  s.listed (s.writes stratum .verifying) (if ok then (s.verifyTests stratum ok).nowLit stratum else (s.verifyTests stratum ok).verifyFailed stratum)

/-! ### Die erase (R81, R83, R375) -/

/-- A stratum at the start of its die's erase: any write is aborted; a retired stratum keeps its state, and one that is set to retire its flag (R81). -/
def Stratum.dieErasing (x : Stratum) : Stratum := if x.state = .retired then x else { x with state := .erasing, releaseFlag := !x.retireFlag }

/-- The erase of a whole die begins. -/
def State.beginDieErase (s : State) (die : Nat) : State :=
  let s := s.modDie die fun d => { d with dieErase := true, writes := [] }
  { s with vault := { s.vault with strata := mmodAll .init s.vault.strata ((List.range 8192).map (die * 8192 + ·)) Stratum.dieErasing,
                                   arrays := mmap .init (fun k a => if dieOf (8 * k) = die then { a with writing := none, queue := [], running := none, suspended := none, holding := none, testDue := [], countDue := false, changing := none, slotOf := none } else a) s.vault.arrays } }

/-- A stratum at the end of its die's erase: FREE, or RETIRED at 1,000 programs; what it held is gone (R81). -/
def Stratum.dieErased (x : Stratum) : Stratum :=
  let y := { x.dropCopy with cells := [], check := [], scales := [], content := none, incoming := none, target := none, releaseFlag := false, retireFlag := false, attempt := 0, shadowBound := false }
  if x.state = .retired then y else if x.programs < 1000 ∧ x.retireFlag = false then { y with state := .free } else { y with state := .retired }

/-- Strata of a die that the end of its erase retires: those with 1,000 programs, those set to retire, and those whose cells do not read level 0 (R81, R375). -/
def State.retiring (s : State) (die : Nat) (bad : List Nat) : List Nat :=
  mkeys (mfilter (fun k x => decide (dieOf k = die) && decide (x.state = .erasing) && (decide (1000 ≤ x.programs) || x.retireFlag || bad.contains k)) s.vault.strata)

/-- The strata of a die after its erase. -/
def State.endDieErase (s : State) (die : Nat) (bad : List Nat) : State :=
  let t := s.dieOwner die
  let gone := s.retiring die bad
  let s : State := { (s.modDie die fun d => { d with dieErase := false }) with
    vault := { (s.modDie die fun d => { d with dieErase := false }).vault with strata := mmap .init (fun k x => if dieOf k = die then (if gone.contains k then { x.dieErased with state := .retired } else x.dieErased) else x) s.vault.strata } }
  gone.foldl (fun s k => (s.tcount t 0xA300 6 1).raise Ev.stratumRetired t Locus.stratum k (s.stratum k).programs) s

/-- A die's part of the vault scrub has ended (R375). -/
def Removal.dieDone (r : Removal) (die retired : Nat) : Removal :=
  let left := r.diesLeft.filter (· ≠ die)
  { r with diesLeft := left, strataRetired := r.strataRetired + retired, parts := if left = [] ∧ ¬ r.parts.contains .vault then r.parts ++ [.vault] else r.parts }

/-- DIE_ERASE_DONE (R83, R375). -/
def execDieEraseDone (die : Nat) (bad : List Nat) (s : State) : Res :=
  s.listed (s.die die).dieErase
    ((s.endDieErase die bad).modRemoval (s.dieOwner die) fun o => o.map fun (r : Removal) => r.dieDone die (s.retiring die bad).length)

/-! ### Copies and shadow operations (R85..R88) -/

/-- COPY_LOAD_DONE (R85, R86), by CC4: the copy is in the reserve, its slot with ADDR and GEN, pinned where R86 pins it. -/
def execCopyLoadDone (stratum : Nat) (s : State) : Res :=
  s.whenUp (.copyLoadDone stratum) <|
    s.listed (s.stratum stratum).copyLoading
      (let s := s.modStratum stratum fun x => { x with copyIn := true, copyLoading := false, copyAge := s.now, copyAt := x.copyAt.map fun c => { c with addr := stratum, gen := (x.anyContent.getD WContent.init).gen } }
       ({ s with vault := { s.vault with shadows := s.vault.shadows.map fun o => if o.stratum = stratum then { o with arrived := true } else o } } : State).repin stratum)

/-- The INT32 sum of one result column of a shadow operation: exact, saturating (R40, R88). -/
def State.shadowSum (s : State) (o : Op) (p : Proj) (c : Copy) (v rb k : Nat) : Int :=
  let i := ((s.vmvmSlice o p v rb).map fun e => e.2 * c.weight e.1 (if c.enc = .int8 then 2 * k else k)).sum
  max (-(2 ^ 31)) (min (2 ^ 31 - 1) i)

/-- The dequantised shadow part of one vector's column block, with its clamps (R39, R88). -/
def State.shadowPart (s : State) (o : Op) (p : Proj) (w : WContent) (v : Nat) : List Fw :=
  let c := s.copyOf w
  (List.range c.enc.width).map fun k =>
    dequantF (s.shadowSum o p c v w.rb k) (s.vmvmScale o p v) (mget 0 c.scales (if c.enc = .int8 then 2 * k else k))

/-- The FP32 results that stand at a column block's place. -/
def State.readBlock (s : State) (o : Op) (vec cb n : Nat) : List (BitVec 32) :=
  match s.tensor o o.d.opC with
  | some d => (List.range n).map fun k => BitVec.ofNat 32 (unle (s.tensorOctets o o.d.opC d (outOffset (s.vmvmProj o).2 vec cb + 4 * k) 4))
  | none => []

/-- SHADOW_ADD (R88): the shadow part is added to the FP32 result of the LIT row-blocks, or stands alone where none was in the vault and no other part is there yet. -/
def State.shadowAdd (s : State) (slot : Nat) (o : Op) (w : WContent) (v : Nat) : State :=
  match s.sumOf slot v w.cb with
  | none => s
  | some c =>
    let part := s.shadowPart o (s.vmvmProj o).2 w v
    let ws := if c.written then List.zipWith (fun x (y : Fw) => Fw.add { w := x } y) (s.readBlock o v w.cb part.length) part else part
    (({ s with vault := { s.vault with sums := modFirst (fun x => decide (x = c)) (fun x => { x with written := true, shadowLeft := x.shadowLeft - 1 }) s.vault.sums } } : State).writeBlock o v w.cb (ws.map (·.w))).ocount o 0xA100 1 ((ws.map (·.clamps)).sum)

/-- Whether the vault part of a column block, where it has one, is written (R88). -/
def State.shadowReady (s : State) (op cb : Nat) (vecs : List Nat) : Bool :=
  vecs.all fun v => match s.sumOf op v cb with
    | some c => decide (c.waiting = 0) && (c.written || decide (c.arrived = 0))
    | none => false

/-- A shadow operation is over: counted, and its copy's pin follows (R86, R92, R109). -/
def State.dropShadow (s : State) (x : ShadowOp) (t : Nat) : State :=
  let s : State := { s with vault := { s.vault with shadows := dropFirst (fun y => decide (y = x)) s.vault.shadows } }
  let s := if x.stratum < 2 ^ 18 then (s.modStratum x.stratum fun y => { y with copyAge := s.now }).repin x.stratum else s
  ((s.tcount t 0xA400 1 1).tcount t 0xA300 3 1).tcount t 0xA300 4 (if x.fromUfs then 1 else 0)

/-- The time of a shadow operation on its pod, hs: 4,096 for each input vector (R87, R98). -/
def ShadowOp.hs (x : ShadowOp) : Nat := 4096 * x.vecs.length

/-- A shadow operation runs on its pod: strip passes of interleave b, one set for each vector, with no idle row slot (R87, R99, R106, R109). -/
def State.runShadow (s : State) (x : ShadowOp) (pod t : Nat) : State := (s.wakePod pod t).tcount t 0xA400 2 x.hs

/-- The copy that a shadow operation has read may be held hot, while its stratum is still not LIT (R87, R199; log entry 73). -/
def State.keepHot (s : State) (x : ShadowOp) (pod t : Nat) : State :=
  if x.stratum < 2 ^ 18 ∧ s.inVault x.stratum x.content = false then s.holdHot t (pod / 16) x.stratum x.content else s

/-- SHADOW_OP_COMPLETE (R87, R88): the operation has run on the pod that it holds, with sets free for its vectors, and its parts are added; a shadow operation that waits for a pod may take it. -/
def execShadowOpComplete (op stratum : Nat) (s : State) : Res :=
  match s.opIn op .vmvm .started, s.vault.shadows.find? fun x => decide (x.op = op ∧ x.stratum = stratum) && x.pod.isSome with
  | some o, some x =>
    let pod := x.pod.getD 0
    s.listed (s.shadowReady op x.content.cb x.vecs && s.copyStreamed op stratum && decide (x.vecs.length ≤ (s.pod pod).freeSets.length))
      ((((((x.vecs.foldl (fun s v => s.shadowAdd op o x.content v) (s.runShadow x pod o.d.tenant)).dropShadow x o.d.tenant).keepHot x pod o.d.tenant).placeShadows)).vmvmCheck op)
  | _, _ => .next s.unlisted

end Sys2Proof.Machine
end

