-- ==== Sys2Proof/Machine/StepOps.lean ====
section
/-! DEFINITION. The shared operations of steps: dispatch turns, units, completion, failure and cancellation (R180..R191, R302). -/

namespace Sys2Proof.Machine

/-! ### Dispatch by class (R302) -/

/-- A dispatcher's place in its cycle: the class in turn (0 INT, 1 BKG, 2 BULK), the dispatches it has taken, and the cycle's weights. -/
structure Turn where
  pos : Nat
  taken : Nat
  w : Nat
deriving DecidableEq, Repr

/-- The weight of a class. -/
def Turn.weight (t : Turn) (c : Nat) : Nat := t.w / 256 ^ c % 256

/-- Read from, and written to, the state. -/
def Turn.ofNat (n w : Nat) : Turn := if n = 0 then ⟨0, 0, w⟩ else ⟨n / 128 % 4, n % 128, n / 512⟩
/-- As it is stored. -/
def Turn.toNat (t : Turn) : Nat := t.w * 512 + t.pos * 128 + t.taken

/-- The class that is served next among the eligible ones: a class with nothing eligible yields the rest of its turn, and a new cycle takes the weights in force. -/
def Turn.serve (w : Nat) (eligible : Nat → Bool) : Nat → Turn → Option (Nat × Turn)
  | 0, _ => none
  | n + 1, t =>
    if eligible t.pos && decide (t.taken < t.weight t.pos) then some (t.pos, { t with taken := t.taken + 1 })
    else if 2 ≤ t.pos then Turn.serve w eligible n ⟨0, 0, w⟩
    else Turn.serve w eligible n { t with pos := t.pos + 1, taken := 0 }

/-- CLASS_WEIGHTS of a tenant: octets for INT, BKG and BULK. -/
def State.classWeights (s : State) (t : Nat) : Nat := s.sv (0x7020 + t) 1 66312

/-- Code of a class (R172, R286). -/
def Cls.code : Cls → Nat
  | .imm => 0 | .int => 1 | .bkg => 2 | .bulk => 3

/-- Number of a class below IMM. -/
def Cls.turnIndex : Cls → Nat
  | .imm => 3 | .int => 0 | .bkg => 1 | .bulk => 2

/-! ### Waits (R180..R183) -/

/-- A wait is satisfied (R182). -/
def SyncObj.satisfied (x : SyncObj) : Bool := decide (x.thresh = 0) || (decide (x.thresh ≤ x.count) && decide (x.fail = .none))

/-- A wait of an operation is satisfied. -/
def State.waitOk (s : State) : Option Nat → Bool
  | none => true
  | some i => (s.obj i).satisfied

/-- Whether an operation is eligible; for CORR only WAIT0 counts (R177, R182). -/
def State.eligible (s : State) (o : Op) : Bool := s.waitOk o.d.wait0 && (decide (o.d.kind = .corr) || s.waitOk o.d.wait1)

/-- The failure of a wait. -/
def State.waitFailure (s : State) : Option Nat → FailSt
  | none => .none
  | some i => if (s.obj i).thresh = 0 then .none else (s.obj i).fail

/-- The failure that an operation which has not started completes with: that of WAIT0 first (R183, R184). -/
def State.failedWait (s : State) (o : Op) : FailSt := if s.waitFailure o.d.wait0 ≠ .none then s.waitFailure o.d.wait0 else s.waitFailure o.d.wait1

/-! ### Units (R174, R185) -/

/-- Whether an operation's unit is free for it. -/
def State.unitFree (s : State) (o : Op) : Bool := decide (s.unitHeld o.unit < unitCap o.unit) && !(decide (o.unit < 512) && s.exp.withdrawn.contains o.podOf)

/-- The operations of a unit that may start: eligible, with the first block of each streamed operand landed (R225). -/
def State.ready (s : State) (u : Nat) : List (Nat × Op) :=
  s.ops.slots.filterMap fun e => match e.2 with
    | some o => if o.phase = .waiting ∧ o.unit = u ∧ s.eligible o = true ∧ s.firstBlocks e.1 = true then some (e.1, o) else none
    | none => none

/-- The oldest of operations. -/
def oldest (l : List (Nat × Op)) : Option Nat := (minBy (fun (e : Nat × Op) => e.2.order) l).map (·.1)

/-- The operation that a unit takes next, and its dispatcher's place after it (R185, R302). -/
def State.nextFor (s : State) (u tenant : Nat) : Option (Nat × Nat) :=
  let l := s.ready u
  match oldest (l.filter fun e => decide (e.2.d.cls = .imm)) with
  | some k => some (k, s.credit u)
  | none =>
    let w := s.classWeights tenant
    match Turn.serve w (fun c => l.any fun e => decide (e.2.d.cls.turnIndex = c)) 8 (Turn.ofNat (s.credit u) w) with
    | none => none
    | some (c, t) => (oldest (l.filter fun e => decide (e.2.d.cls.turnIndex = c))).map fun k => (k, t.toNat)

/-! ### Completion (R181, R183, R186) -/

/-- One signal of an operation that completes with OK: the count, held at its maximum, and SYNC_SAT (R181). -/
def State.signal (s : State) (slot : Nat) (o : Op) (sig : Option Nat) (inc : Nat) : State :=
  match sig with
  | none => s
  | some i =>
    let n := (s.obj i).count + inc
    let s := s.modObj i fun x => { x with count := min n (2 ^ 32 - 1) }
    if n < 2 ^ 32 then s
    else ((s.setOp slot fun x => { x with syncSat := true }).tcount o.d.tenant 0xA800 6 1).raise Ev.syncSat o.d.tenant Locus.slot slot i

/-- One signal of an operation that fails: the first failure is kept (R183). -/
def State.signalFail (s : State) (sig : Option Nat) (st : FailSt) : State :=
  match sig with
  | none => s
  | some i => s.modObj i fun x => { x with fail := if x.fail = .none then st else x.fail }

/-- The signals of an operation that completes. -/
def State.signals (s : State) (slot : Nat) (o : Op) (st : FailSt) : State :=
  if st = .none then (s.signal slot o o.d.sig0 o.d.inc0).signal slot o o.d.sig1 o.d.inc1
  else (s.signalFail o.d.sig0 st).signalFail o.d.sig1 st

/-- Reads of pages and staged entries end (R143, R145). -/
def State.endReads (s : State) (o : Op) : State :=
  let s := o.pages.foldl (fun s n => s.setPage n fun p => { p with readers := p.readers - 1, lastUse := s.now }) s
  let s := o.srcPages.foldl (fun s n => s.setPage n fun p => { p with srcReaders := p.srcReaders - 1 }) s
  if o.staged = [] then s
  else s.modStagingOf o.d.session fun l => l.map fun e =>
    if e.layer = (s.opTemplate o).layer ∧ o.staged.contains e.pos = true then { e with readers := e.readers - 1 } else e

/-- The MVMs, sums and shadow operations of a VMVM that stops are dropped; an array that it converted on keeps its converting slot until the ramp of R25 lets it give the slot back (R25, R191). -/
def State.dropVmvm (s : State) (slot : Nat) : State :=
  let s := { s with vault := { s.vault with
    sums := s.vault.sums.filter fun c => decide (c.op ≠ slot), shadows := s.vault.shadows.filter fun x => decide (x.op ≠ slot) } }
  let mine := fun (m : Mvm) => decide (m.op = slot) && m.test.isNone
  (mkeys s.vault.arrays).foldl (fun s k =>
    let a := s.array k
    let runs := match a.running with | some m => mine m | none => false
    s.modArray k fun a => VArray.advance { a with
      queue := a.queue.filter fun m => !mine m, running := if runs then none else a.running,
      suspended := match a.suspended with | some m => if mine m then none else some m | none => none,
      holding := match a.holding with | some m => if mine m then none else some m | none => none }) s

/-- An operation leaves its unit. -/
def State.releaseUnit (s : State) (slot : Nat) (o : Op) : State :=
  match o.d.kind with
  | .fgemm => (s.leavePod slot o).ocount o 0xA400 1 1
  | .fattn => ((s.endReads o).leavePod slot o).ocount o 0xA400 1 1
  | .vprog => (s.modUnit o.podOf fun u => { u with running := match u.running with | some r => if r.slot = slot then none else some r | none => none }).ocount o 0xA500 1 1
  | .corr => s.modUnit o.podOf fun u => { u with running := match u.running with | some r => if r.slot = slot then none else some r | none => none }
  | .vmvm => if o.workDone then s else s.dropVmvm slot
  | .kvscat => if o.workDone then s else s.scatRetire o
  | _ => s

/-- Counter of a completion status (R194). -/
def FailSt.counter : FailSt → Nat
  | .none => 1 | .poisoned => 2 | .cancelled => 3 | .timeout => 4 | .failed => 5

/-- A range of an attention operation that completes with OK takes its place in the order of its merge (R133). -/
def State.noteRange (s : State) (o : Op) (st : FailSt) : State :=
  if o.d.kind = .fattn ∧ st = .none then
    s.modRun o.run fun r => r.map fun x => { x with ranges := x.ranges ++ [(o.d.template, o.member, o.range)] }
  else s

/-- The step run of an operation learns of its failure; a removal counts what it cancels (R183, R377). -/
def State.noteEnd (s : State) (o : Op) (st : FailSt) : State :=
  let s := if st = .none then s else s.modRun o.run fun r => r.map fun x => { x with failed := if x.failed = .none then st else x.failed }
  if st = .cancelled then s.modRemoval o.d.tenant fun r => r.map fun x => { x with opsCancelled := x.opsCancelled + 1 } else s

/-- An operation completes with a status: it leaves its unit, signals, counts and posts its record (R181, R183, R186). -/
def State.complete1 (s : State) (slot : Nat) (o : Op) (st : FailSt) (heldHs : Nat) : State :=
  let s := s.endStreams slot
  let s := if o.phase = .started then s.releaseUnit slot o else if o.d.kind = .kvscat then s.scatRetire o else s
  let s := s.setOp slot fun x => { x with phase := .posted, status := st, heldHs := min heldHs (2 ^ 32 - 1), invalid := decide (st ≠ .none), pages := [], srcPages := [], staged := [] }
  let s := (((s.noteRange o st).signals slot o st).noteEnd o st).placeShadows
  let s := { s with ops := { s.ops with records := s.ops.records ++ [slot], notified := if o.d.notify then s.ops.notified ++ [slot] else s.ops.notified } }
  let s := if o.accSat then s.ocount o 0xA100 5 1 else s
  s.ocount o 0xA800 st.counter 1

/-- An operation that has not started and one of whose waits has failed (R183). -/
def State.failedWaiter (s : State) : Option (Nat × Op × FailSt) :=
  s.ops.slots.findSome? fun e => match e.2 with
    | some o => if (o.phase = .waiting ∨ o.phase = .dispatched) ∧ s.failedWait o ≠ .none then some (e.1, o, s.failedWait o) else none
    | none => none

/-- FAIL_PROPAGATE (R183): waiters of failed objects complete with the failure, one after another. -/
def State.propagate : Nat → State → State
  | 0, s => s
  | n + 1, s =>
    match s.failedWaiter with
    | none => s
    | some (k, o, st) => State.propagate n (s.complete1 k o st 0)

/-- An operation completes, and its failure reaches its waiters. -/
def State.complete (s : State) (slot : Nat) (o : Op) (st : FailSt) (heldHs : Nat) : State :=
  let s := s.complete1 slot o st heldHs
  if st = .none then s else s.propagate s.ops.slots.length

/-- One operation is cancelled: at once where it has not started, else at its boundary (R191). -/
def State.cancelOne (s : State) (slot : Nat) : State :=
  match s.op slot with
  | none => s
  | some o => if o.phase = .waiting ∨ o.phase = .dispatched then s.complete slot o .cancelled 0 else if o.phase = .posted then s else s.stopOp slot .cancelled

/-- The operations that satisfy `p` are cancelled. -/
def State.cancelOps (s : State) (p : Op → Bool) : State :=
  ((s.ops.slots.filter fun e => match e.2 with | some o => p o | none => false).map (·.1)).foldl State.cancelOne s

/-- Objects that a tenant holds (SYNC_HELD). -/
def State.syncHeld (s : State) (t : Nat) : Nat := mcount (fun _ x => decide (x.owner = t)) s.ops.objs

/-- Objects that may still be armed. -/
def State.syncLeft (s : State) (t : Nat) (imm : Bool) : Nat :=
  s.sv (0x7300 + t) 2 4096 - (if imm then 0 else s.sv (0x7300 + t) 4 128) - s.syncHeld t

/-- The lowest free object. -/
def State.freeObj (s : State) : Option Nat := (List.range 32768).find? fun k => decide ((s.obj k).owner = 0)

/-- The handle of a request in REQ: the session's index and the low half of REQ_ID. -/
def reqHandle (sess id : Nat) : Nat := sess % 65536 * 65536 + id % 65536

/-- The running request of a session. -/
def Session.running (x : Session) : Option Req := x.reqs.find? fun r => decide (r.state = .running)

/-- A session's requests, the running one changed. -/
def Session.modRunning (x : Session) (f : Req → Req) : Session := { x with reqs := modFirst (fun r => decide (r.state = .running)) f x.reqs }

end Sys2Proof.Machine
end

