-- ==== Sys2Proof/Machine/Plans.lean ====
section
/-! DEFINITION. The commands of execution plans: instantiation, dispatch, completion, MOVE, ROUTE, CORR and SYNC (R169..R193, R135, R213). -/

namespace Sys2Proof.Machine

/-! ### STEP_INSTANTIATE (R192, R297) -/

/-- Unsent output that stops a session's steps: 256 KiB on the channel of its request (R284). -/
def State.outputFull (s : State) (x : Session) : Bool :=
  match x.running with
  | none => true
  | some r => match s.conn r.conn with
    | some c => decide (262144 ≤ c.outBytes)
    | none => false

/-- Tokens of a session whose keys and values are still to be computed. -/
def Session.due (x : Session) : Nat := x.history.length - x.kvLen

/-- Whether CC2 may begin the next step of a session (R192, R263, R284); a preempted one resumes when its pages fit (R148). -/
def State.stepDue (s : State) (i : Nat) : Bool :=
  let x := s.session i
  let m := s.mslot x.tenant x.slot
  (decide (x.state = .active) || decide (x.state = .cold)) && x.run.isNone && decide (1 ≤ x.due) && !s.outputFull x && !m.barrier && m.loaded &&
    decide (s.tenState x.tenant = .active) && (match x.running with | some r => r.cancel.isNone | none => false) && (!x.preemptedCold || s.pagesFit i)

/-- Whether sessions may share a batch: one tenant, model slot, class and adapter, each with one token (R272, R297). -/
def State.batchOk (s : State) (l : List Nat) : Bool :=
  match l with
  | [] => false
  | [_] => true
  | i :: t =>
    let x := s.session i
    decide (l.length ≤ 16) && decide l.Nodup && l.all (fun j => decide ((s.session j).due = 1)) && t.all fun j =>
      let y := s.session j
      decide (y.tenant = x.tenant ∧ y.slot = x.slot ∧ y.adapter = x.adapter ∧ y.reqClass = x.reqClass)

/-- The lowest free batch record (R172; DESIGN CHOICE of the record, log entry 71). -/
def State.freeBatch (s : State) : Option Nat := (List.range 4096).find? fun k => decide (mget [] s.ops.batches k = [])

/-- The step that begins: one token each in decode, a chunk of the first session in prefill; the generation pointer is read once (R149, R192). -/
def State.newRun (s : State) (l : List Nat) : StepRun :=
  let i := l.headD 0
  let x := s.session i
  let p := match (s.mslot x.tenant x.slot).imageAt (s.pointer x.tenant) with | some im => im.1.plan | none => Plan.init
  let n := min x.due (max 1 p.chunk)
  let graph := if n ≤ 1 then 0 else 1
  { sessions := l, tenant := x.tenant, slot := x.slot, graph := graph, cls := x.reqClass, gen := s.pointer x.tenant, step := x.stepSeq,
    req := reqHandle i (match x.running with | some r => r.id | none => 0), groups := ((p.graphs[graph]?).getD []).length,
    tokens := n, poss := l.map fun j => (s.session j).kvLen, look := s.sv (0x7300 + x.tenant) 5 1,
    batch := if 1 < l.length then s.freeBatch else none }

/-- Pods of a tenant that have no operation (R135). -/
def State.freePods (s : State) (t : Nat) : Nat :=
  ((s.clusterList t).flatMap fun c => (List.range 16).map (c * 16 + ·)).countP fun p => decide (s.podLoad p = 0) && !s.exp.withdrawn.contains p

/-- N of R135 over `keys` visible keys. -/
def State.splitCount (s : State) (t heads keys : Nat) : Nat := (s.pinnedSplit t).getD <| max 1 (min 16 (min (cdiv keys 64 / 4 + if cdiv keys 64 % 4 = 0 then 0 else 1) (s.freePods t / max 1 heads)))

/-- The prefix length of a session's request. -/
def Session.prefixLen (x : Session) : Nat := match x.running with | some r => r.prefixLen | none => 0

/-- The Mirror record of a step that CC1 hands to CC2 (R425). -/
def State.stepRecord (s : State) (r : StepRun) : MBody :=
  let i := r.sessions.headD 0
  let p := match (s.mslot r.tenant r.slot).imageAt r.gen with | some im => im.1.plan | none => Plan.init
  let att := (p.templates.find? fun t => decide (t.d.kind = .fattn)).getD Template.init
  let split := if r.tokens ≤ 1 then s.splitCount r.tenant p.kvHeads (seenKeys att (s.session i).prefixLen (r.poss.headD 0) 1).length else 1
  .step (match (s.session i).running with | some q => q.id | none => 0) r.step r.gen r.cls.code split (r.sessions.map s.handleOf)

/-- A session's step is in flight; one made COLD with its request in flight is ACTIVE again and re-prefills (R148, R149). -/
def State.enterRun (s : State) (n i : Nat) : State :=
  let x := s.session i
  let s := if x.state = .cold then s.tcount x.tenant 0xA600 7 x.history.length else s
  s.modSession i fun x => { x with run := some n, stepSeq := (x.stepSeq + 1) % 2 ^ 32, state := .active, preemptedCold := false }

/-! ### Scratch (R206) -/

/-- Octets of tier 2 that a step's scratch tensors take, with what stands at AUX. -/
def Plan.scratchNeed (p : Plan) : Nat :=
  (p.scratch.map fun d => if d.tier = 2 then max (d.base + d.octets) (if d.auxOctets = 0 then 0 else d.aux + d.auxOctets) else 0).foldl max 0

/-- Whether a step has an operation that is not complete, or one still to be instantiated, which reads a scratch tensor (R206). -/
def State.pendingReader (s : State) (n : Nat) (r : StepRun) (k : Nat) : Bool :=
  let p := s.runPlan r
  let takes := fun t => (p.reads t).any fun h => decide (h.tab = 2) && decide (h.idx = k)
  (s.ops.slots.any fun e => match e.2 with | some o => decide (o.run = n) && decide (o.phase ≠ .posted) && takes (s.opTemplate o) | none => false) ||
    (r.due.any fun o => takes (s.opTemplate o)) || (s.invsLeft r).any fun v => takes (p.tmpl v)

/-- The oldest scratch tensor in a cluster's window without a pending reader: its step, number, address and descriptor; the steps stand in the order in which they began (R206). -/
def State.windowVictim (s : State) (c : Nat) : Option (Nat × Nat × Nat × TDesc) :=
  s.ops.runs.findSome? fun e => match e.2 with
    | none => none
    | some r => r.places.findSome? fun x => match (s.runPlan r).scratch[x.1]? with
      | some d => if x.2.1 && decide (d.unit % 16 = c) && !s.pendingReader e.1 r x.1 then some (e.1, x.1, x.2.2, d) else none
      | none => none

/-- `n` octets of a cluster store copied to an address of a tenant's spread view. -/
def State.spillOctets (s : State) (t c a x n : Nat) : State :=
  (List.range n).foldl (fun s i =>
    let p := s.spread t (x + i)
    match (Place.store c (a + i)).flat, (Place.dram p.1 p.2).flat with
    | some f, some g => s.setByte g (s.byte f)
    | _, _ => s) s

/-- A scratch tensor of a step stands at an address of SCRATCH from now on. -/
def State.nowSpilled (s : State) (n k x room : Nat) : State :=
  s.modRun n fun o => o.map fun y => { y with places := y.places.map fun p => if p.1 = k then (k, false, x) else p, scratch := y.scratch + cdiv room 1024 }

/-- The oldest scratch tensor without a pending reader moves from a cluster's window to SCRATCH; none where there is none, or no room for it (R206). -/
def State.evictScratch (s : State) (c : Nat) : Option State :=
  (s.windowVictim c).bind fun v =>
    let t := match s.run v.1 with | some r => r.tenant | none => 0
    let x := s.freeBase t none v.2.2.2.room
    (s.allocExtent t .scratchC v.1 none v.2.2.2.room).map fun s => (s.spillOctets t c v.2.2.1 x v.2.2.2.room).nowSpilled v.1 v.2.1 x v.2.2.2.room

/-- Room for `n` octets in a cluster's window: free, or made by giving up hot copies and then by moving the oldest scratch tensors to SCRATCH (R199, R206). -/
def State.windowRoom (s : State) (t c n : Nat) (own : List (Nat × Nat)) : Nat → State × Option Nat
  | 0 => (s, none)
  | fuel + 1 =>
    let q := s.winRoom t c n own 6
    match q.2 with
    | some _ => q
    | none => match q.1.evictScratch c with
      | some s => s.windowRoom t c n own fuel
      | none => q

/-- What is placed of a list of scratch tensors in a cluster: address and octets. -/
def ownIn (c : Nat) (l : List (Nat × TDesc × Option Nat)) : List (Nat × Nat) :=
  l.filterMap fun x => match x.2.2 with
    | some a => if x.2.1.unit % 16 = c then some (a, x.2.1.room) else none
    | none => none

/-- The scratch tensors of tier 1 of a step take their places one after another: in their cluster's window where they fit, else none yet (R197, R199). -/
def State.placeScratch (s : State) (t : Nat) (l : List (Nat × TDesc × Option Nat)) : List (Nat × TDesc) → State × List (Nat × TDesc × Option Nat)
  | [] => (s, l)
  | (k, d) :: ds =>
    let q := s.windowRoom t (d.unit % 16) d.room (ownIn (d.unit % 16) l) 64
    q.1.placeScratch t (l ++ [(k, d, q.2)]) ds

/-- The places of a step's scratch tensors of tier 1: those that the window has no room for stand one after another in SCRATCH from address `x` on. -/
def spillPlaces (x : Nat) : List (Nat × TDesc × Option Nat) → List (Nat × Bool × Nat)
  | [] => []
  | (k, _, some a) :: l => (k, true, a) :: spillPlaces x l
  | (k, d, none) :: l => (k, false, x) :: spillPlaces (x + d.room) l

/-- CC3 reserves the step's scratch, or the instantiation waits; the wait is counted when it ends (R206). -/
def State.reserveScratch (s : State) (n : Nat) (r : StepRun) : State × Bool :=
  if r.reserved then (s, true)
  else
    let p := s.runPlan r
    let q := s.placeScratch r.tenant [] (p.scratch.zipIdx.filterMap fun x => if x.1.tier = 1 then some (x.2, x.1) else none)
    let below := ((q.2.filter fun x => x.2.2.isNone).map fun x => x.2.1.room).sum
    let need := cdiv p.scratchNeed 16 * 16
    let base := q.1.freeBase r.tenant none (need + below)
    match q.1.allocExtent r.tenant .scratchC n none (need + below) with
    | none => (s.modRun n fun o => o.map fun x => { x with waitAt := if x.waitAt = 0 then s.now else x.waitAt }, false)
    | some s' =>
      let s' := if r.waitAt = 0 then s' else s'.tcount r.tenant 0xA900 5 (s.now - r.waitAt)
      (s'.modRun n fun o => o.map fun x => { x with reserved := true, waitAt := 0, scratch := cdiv (need + below) 1024, places := spillPlaces (base + need) q.2 }, true)

/-! ### Placement (R213) -/

/-- Operations in flight on a cluster. -/
def State.clusterLoad (s : State) (c : Nat) : Nat := mcount (fun _ o => match o with | some x => decide (x.d.cluster = c) && decide (x.phase ≠ .posted) | none => false) s.ops.slots
/-- The least loaded of clusters, the lower on a tie. -/
def State.leastCluster (s : State) (cl : List Nat) : Nat := (minBy s.clusterLoad cl).getD 0

/-- The cluster that holds a tensor, where one does. -/
def TDesc.home (d : TDesc) : Option Nat := if d.tier = 0 ∨ d.tier = 1 then some (d.unit % 16) else none

/-- The pod that holds a tensor, where one does. -/
def TDesc.homePod (d : TDesc) : Option Nat := if d.tier = 0 then some (d.unit / 16 % 16) else none

/-- The cluster that most of a key range's pages stand in, hot or on its pair (R210, R213). -/
def State.rangeCluster (s : State) (sess layer : Nat) (keys : List Nat) : Nat :=
  let cl := s.clusterList (s.session sess).tenant
  let ps := s.rangePages sess layer keys
  let at' := fun n => match s.page n with
    | some p => match p.hot with
      | some c => c
      | none => (cl[(p.firstPos / max 1 p.slots + sess) % max 1 cl.length]?).getD 0
    | none => 0
  (minBy (fun c => (2 ^ 20 - (ps.filter fun n => decide (at' n = c)).length) * 2 ^ 20 + s.clusterLoad c) cl).getD 0

/-- The keys of an attention operation of a step in flight. -/
def State.keysOf (s : State) (o : Op) : List Nat :=
  match s.run o.run with
  | some r => s.opKeys o r
  | none => []

/-- The pod that holds the first range of the attention template whose ranges a program merges (R135). -/
def State.mergePod (s : State) (o : Op) : Option Nat :=
  (s.opTemplate o).merge.bind fun k => (s.run o.run).bind fun r =>
    match mget 0 r.firstPods k with
    | 0 => none
    | p + 1 => some p

/-- The die that holds the first column block of a VMVM, and that column block (R211). -/
def State.firstHolder (s : State) (o : Op) : Option (Nat × Nat) :=
  match o.d.k with
  | .vmvm cb _ _ _ _ _ _ _ =>
    (s.holderOf { tenant := o.d.tenant, slot := o.slotModel, gen := s.opStamp o, proj := (s.vmvmProj o).1, rb := 0, cb := cb }).map fun st => (dieOf st, cb)
  | _ => none

/-- The cluster and pod of an operation; a VMVM has the output cluster of its first column block (R211 rule 4, R213); a program that merges ranges runs on the pod of the first of them (R135, R213). -/
def State.place (s : State) (o : Op) : Nat × Nat :=
  let cl := s.clusterList o.d.tenant
  let home := fun h => (s.tensor o h).bind TDesc.home
  match o.d.kind with
  | .fattn =>
    let c := s.rangeCluster o.d.session (s.opTemplate o).layer (s.keysOf o)
    (c, s.leastPod c)
  | .fgemm =>
    let size : Handle → Nat := fun h => match s.tensor o h with | some d => d.octets | none => 0
    let big := if size o.d.opA < size o.d.opB then o.d.opB else o.d.opA
    let c := (home big).getD (s.leastCluster cl)
    (c, s.leastPod c)
  | .vprog | .corr | .route =>
    match s.mergePod o with
    | some p => (p / 16, p % 16)
    | none =>
      let c := (home o.d.opA).getD (s.leastCluster cl)
      (c, (((s.tensor o o.d.opA).bind TDesc.homePod)).getD (s.leastPod c))
  | .kvscat =>
    match o.pages with
    | n :: _ => match s.page n with
      | some p => (p.hot.getD ((cl[(p.firstPos / max 1 p.slots + p.session) % max 1 cl.length]?).getD 0), 0)
      | none => (s.leastCluster cl, 0)
    | [] => (s.leastCluster cl, 0)
  | .move => ((home o.d.opC).getD ((home o.d.opA).getD (s.leastCluster cl)), 0)
  | .vmvm =>
    match s.firstHolder o with
    | some (die, cb) => (s.blockCluster o.d.tenant die cb, 0)
    | none => ((home o.d.opC).getD (s.leastCluster cl), 0)
  | _ => (s.leastCluster cl, 0)

/-! ### Resolving an invocation (R135, R141, R144, R169, R180) -/

/-- The object that a step run's group armed for a group-local number. -/
def State.groupObj (s : State) (run group num : Nat) : Option Nat :=
  match s.ops.objs.find? fun e => decide (e.2.run = run) && decide (e.2.group = group) && decide (e.2.num = num) && !e.2.persistent && decide (e.2.owner ≠ 0) with
  | some e => some e.1
  | none => none

/-- The object of a reference: 0..255 of the group, 256..271 persistent, 512 and more of the previous group. -/
def State.refObj (s : State) (n : Nat) (r : StepRun) (ref : Nat) : Option Nat :=
  if ref < 256 then s.groupObj n r.nextGroup ref
  else if ref < 512 then (let v := mget 0 (s.session (r.sessions.headD 0)).persist (ref - 256); if v = 0 then none else some (v - 1))
  else s.groupObj n (r.nextGroup - 1) (ref - 512)

/-- OBJECT_ARM (R180): an object takes its threshold. -/
def State.armObj (s : State) (t run group num thresh : Nat) : State :=
  match s.freeObj with
  | none => s
  | some k => s.modObj k fun _ => { count := 0, thresh := thresh, fail := .none, owner := t, run := run, group := group, num := num }

/-- The references of an invocation to objects that are not armed yet: of its group, and persistent ones of its session (R180). -/
def State.newObjs (s : State) (n : Nat) (r : StepRun) (inv : Invocation) : List Nat :=
  (((inv.waits ++ inv.sigs.map (·.obj)).filter fun k => decide (k < 272) && (s.refObj n r k).isNone)).dedup

/-- A persistent object of a session is armed where its share had no room for it when the session opened (R180, R187). -/
def State.armPersistent (s : State) (r : StepRun) (k : Nat) : State :=
  match s.freeObj with
  | none => s
  | some o =>
    (s.modObj o fun _ => { thresh := ((s.runPlan r).persistent[k]?).getD 0, owner := r.tenant, persistent := true }).modSession (r.sessions.headD 0) fun x =>
      { x with persist := mset 0 x.persist k (o + 1) }

/-- The objects are armed. -/
def State.armAll (s : State) (n : Nat) (r : StepRun) (g : Group) (ks : List Nat) : State :=
  ks.foldl (fun s k => if k < 256 then s.armObj r.tenant n r.nextGroup k ((g.thresh[k]?).getD 0) else s.armPersistent r (k - 256)) s

/-- First key and length of range `i` of `n` over `keys` keys from `first`: whole groups of 64, the longer ranges last (R135). -/
def splitRange (first keys n i : Nat) : Nat × Nat :=
  let units := cdiv keys 64
  let b := units / n
  let e := units % n
  let start := fun j => (j * b + (j - (n - e))) * 64
  (first + start i, min keys (start (i + 1)) - start i)

/-- The tokens that a step's queries of one session reach to: the last position. -/
def StepRun.lastPos (r : StepRun) (m : Nat) : Nat := (r.poss[m]?).getD 0 + r.tokens - 1

/-- The FATTN operations of one session's invocation: one per range in decode, one in prefill; ranges are slices of the visible keys, so a page without one is in none (R134, R135, R137). -/
def State.attOps (s : State) (r : StepRun) (t : Template) (o : Op) (m sess : Nat) : List Op :=
  match o.d.k with
  | .fattn head rows _ _ _ =>
    let pre := (s.session sess).prefixLen
    let ks := seenKeys t pre ((r.poss[m]?).getD 0) (max 1 r.tokens)
    let n := if r.tokens ≤ 1 then s.splitCount r.tenant (s.runPlan r).kvHeads ks.length else 1
    (List.range n).map fun i =>
      let x := splitRange 0 ks.length n i
      { o with range := i, member := m, d := { o.d with session := sess, batch := false, k := .fattn head rows ((ks[x.1]?).getD 0) x.2 pre } }
  | _ => [o]

/-- Tiles that a MOVE moves as one: a place of a compressed tensor, a pair of an MX tensor (R201). -/
def TDesc.widenUnit (d : TDesc) : Nat := if d.comp then max 1 (placeBytes / d.tileOctets) else if d.mxs then 2 else 1

/-- The tiles that a MOVE moves once CC3 has widened its range: whole places, whole pairs (R201). -/
def TDesc.widen (d : TDesc) (first tiles : Nat) : Nat × Nat :=
  let u := d.widenUnit
  let a := first / u * u
  (a, cdiv (first + tiles) u * u - a)

/-- The operations of a program with a scale site: one for each session of the batch, since each has its own history (R41, R42; log entry 28). -/
def siteOps (o : Op) (live : List (Nat × Nat)) : List Op := live.map fun x => { o with member := x.2, d := { o.d with session := x.1, batch := false } }

/-- The MOVE operations of an invocation: the range that CC3 has widened, as two where one would move more than R188's 1,920,000 octets (R201). -/
def State.moveOps (s : State) (o : Op) : List Op :=
  match o.d.k, s.tensor o o.d.opA with
  | .move first tiles, some a =>
    let w := a.widen first tiles
    let u := a.widenUnit
    let half := cdiv (w.2 / u) 2 * u
    if w.2 * a.tileOctets ≤ 1920000 then [o]
    else [{ o with d := { o.d with k := .move w.1 half } }, { o with d := { o.d with k := .move (w.1 + half) (w.2 - half) } }]
  | _, _ => [o]

/-- The pages that a KVSCAT writes, allocated as needed, and whether one of them is MOVING (R141, R144). -/
def State.scatPages (s : State) (sess layer gen : Nat) : List Nat → State × Option (List Nat × Bool)
  | [] => (s, some ([], false))
  | pos :: t =>
    let T := s.stageCap sess
    let r := match s.pageOf sess layer pos with
      | some n => (s, some n)
      | none => s.allocPage sess layer (pos / max 1 T * T) gen
    match r.2 with
    | none => (r.1, none)
    | some n =>
      let moving := match r.1.page n with | some p => p.moving.isSome | none => false
      let q := State.scatPages r.1 sess layer gen t
      match q.2 with
      | none => (q.1, none)
      | some l => (q.1, some (if moving || l.1.contains n then l.1 else n :: l.1, l.2 || moving))

/-- The KVSCAT operation of one session's invocation; none while no page is to be had, and the session then waits for it (R141, R148). -/
def State.scatOp (s : State) (r : StepRun) (o : Op) (m sess : Nat) : State × Option Op :=
  match o.d.k with
  | .kvscat layer _ _ _ =>
    let pos := (r.poss[m]?).getD 0
    let q := s.scatPages sess layer r.gen ((List.range r.tokens).map fun i => pos + i)
    match q.2 with
    | none => (q.1.modSession sess fun x => { x with waitsPage := true }, none)
    | some l =>
      let s := l.1.foldl (fun s n => s.setPage n fun p => { p with writesOut := p.writesOut + 1 }) q.1
      (s.modSession sess fun x => { x with waitsPage := false },
       some { o with member := m, pages := l.1, d := { o.d with session := sess, batch := false, k := .kvscat layer pos r.tokens l.2 } })
  | _ => (s, some o)

/-- The KVSCAT operations of all sessions of a step; none as soon as one has no page. -/
def State.scatOps (s : State) (r : StepRun) (o : Op) : List (Nat × Nat) → State × Option (List Op)
  | [] => (s, some [])
  | (sess, m) :: t =>
    let a := s.scatOp r o m sess
    match a.2 with
    | none => (a.1, none)
    | some x =>
      let b := State.scatOps a.1 r o t
      match b.2 with
      | none => (b.1, none)
      | some l => (b.1, some (x :: l))

/-- The rank of a session's adapter for a template's projection. -/
def State.adapterRank (s : State) (o : Op) (ad : Nat) : Option Nat :=
  match (s.adapter (o.d.tenant * 16 + ad)).img with
  | none => none
  | some i => (i.targets.find? ((s.opPlan o).targets (s.opTemplate o).proj)).map (·.rank)

/-- An adapter's FGEMM with its rank; a SYNC for a step whose sessions have no adapter for it (R272). -/
def State.adapterOp (s : State) (t : Template) (o : Op) (ad : Option Nat) : Op :=
  match t.adapterPart, ad.bind fun a => (s.adapterRank o a).map fun r => (a, r) with
  | none, _ => o
  | some _, none => { o with d := { o.d with kind := .sync, k := .sync } }
  | some up, some (a, rank) =>
    match o.d.k with
    | .fgemm m n k sh i acc bw => { o with adapter := some a, d := { o.d with k := if up then .fgemm m n rank sh i acc bw else .fgemm m rank k sh i acc bw } }
    | _ => o

/-- The descriptor that an invocation's template gives with the fields that CC2 fills, but for its waits and signals (R169, R192). -/
def State.invOp (r : StepRun) (n : Nat) (inv : Invocation) (t : Template) : Op :=
  { d := { t.d with cls := r.cls, tenant := r.tenant, template := inv.template, session := r.batch.getD (r.sessions.headD 0), batch := r.batch.isSome,
                    gen := r.gen, step := r.step, req := r.req },
    slotModel := r.slot, run := n, group := r.nextGroup }

/-- The waits and signals of an invocation, once its objects are armed (R180, R192). -/
def State.fillRefs (s : State) (n : Nat) (r : StepRun) (inv : Invocation) (o : Op) : Op :=
  let ref := fun k => s.refObj n r k
  let sig := fun i => (inv.sigs[i]?).bind fun x => ref x.obj
  let inc := fun i => match inv.sigs[i]? with | some x => x.inc | none => 0
  { o with d := { o.d with wait0 := (inv.waits[0]?).bind ref, wait1 := (inv.waits[1]?).bind ref, sig0 := sig 0, sig1 := sig 1, inc0 := inc 0, inc1 := inc 1 } }

/-- The template of the VMVM whose object gates a CORR: of its group, or for a reference of 512 and more of the group before (R177). -/
def State.gateOf (s : State) (r : StepRun) (inv : Invocation) : Option Nat :=
  let p := s.runPlan r
  let gs := (p.graphs[r.graph]?).getD []
  (inv.waits[1]?).bind fun w =>
    let g := (gs[if w < 512 then r.nextGroup else r.nextGroup - 1]?).getD Group.init
    (g.invs.find? fun v => decide ((p.tmpl v).d.kind = .vmvm) && v.sigs.any fun x => decide (x.obj = if w < 512 then w else w - 512)).map (·.template)

/-- The operations of an invocation; none while a page is wanting. A session that has left the step has no operation of its own in it (R191). -/
def State.resolve (s : State) (n : Nat) (r : StepRun) (inv : Invocation) (t : Template) : State × Option (List Op) :=
  let o := s.adapterOp t (State.invOp r n inv t) (s.session (r.sessions.headD 0)).adapter
  let live := r.sessions.zipIdx.filter fun x => decide ((s.session x.1).run = some n)
  let sync : Op := { o with d := { o.d with kind := .sync, k := .sync } }
  match o.d.kind with
  | .fattn => (s, some (if live = [] then [sync] else live.flatMap fun x => s.attOps r t o x.2 x.1))
  | .kvscat => if live = [] then (s, some [sync]) else s.scatOps r o live
  | .vprog => (s, some (if t.site.isNone then [o] else if live = [] then [sync] else siteOps o live))
  | .corr => (s, some [{ o with corrT := s.gateOf r inv }])
  | .move => (s, some (s.moveOps o))
  | _ => (s, some [o])

/-- The thresholds of an invocation's objects grow by the increments of the operations beyond its first (R135). -/
def State.raiseThresh (s : State) (n : Nat) (r : StepRun) (inv : Invocation) (extra : Nat) : State :=
  if extra = 0 then s
  else inv.sigs.foldl (fun s x => match s.refObj n r x.obj with
    | some k => s.modObj k fun y => { y with thresh := y.thresh + extra * x.inc }
    | none => s) s

/-! ### Writing descriptors (R173, R187) -/

/-- Code of a kind (R174). -/
def OpKind.code : OpKind → Nat
  | .vmvm => 1 | .fgemm => 2 | .fattn => 3 | .vprog => 4 | .move => 5 | .kvscat => 6 | .kvflush => 7 | .route => 8 | .corr => 9 | .sync => 10

/-- The first 8 octets of a descriptor, as a little-endian number (R172). -/
def Desc.head (d : Desc) : Nat :=
  let cls := match d.cls with | .imm => 0 | .int => 1 | .bkg => 2 | .bulk => 3
  d.kind.code + 2 ^ 8 * (cls + if d.notify then 4 else 0) + 2 ^ 16 * d.tenant + 2 ^ 24 * (d.cluster * 16 + d.pod) + 2 ^ 32 * d.template +
    2 ^ 48 * (d.session + if d.batch then 2 ^ 15 else 0)

/-- Whether a handle may stand in a descriptor (R171). -/
def Handle.ok (h : Handle) : Bool := decide (h.tab < 3) || decide (h.tab = 3 ∧ h.idx = 0x3FFFFFFF)

/-- The checks of the work-queue hardware (R171, R173). -/
def State.descOk (s : State) (d : Desc) : Bool :=
  let own := fun (x : Option Nat) => match x with | none => true | some k => decide ((s.obj k).owner = d.tenant)
  d.kindOk && decide (1 ≤ d.tenant ∧ d.tenant ≤ 8) && (decide (d.kind = .sync) || s.ownsCluster d.tenant d.cluster) &&
    own d.wait0 && own d.wait1 && own d.sig0 && own d.sig1 && (d.sig0.isNone || decide (0 < d.inc0)) && (d.sig1.isNone || decide (0 < d.inc1)) &&
    !d.resv && d.opA.ok && d.opB.ok && d.opC.ok && d.opD.ok

/-- The stream lists of an operation on a pod: weights of an FGEMM, warm pages of a FATTN (R217, R221). -/
def State.openStreams (s : State) (slot : Nat) (o : Op) : State :=
  match o.d.kind, o.d.k with
  | .fgemm, _ => s.openWeights slot o (s.opTemplate o).layer
  | .fattn, _ =>
    let l := (s.opTemplate o).layer
    let ps := (s.rangePages o.d.session l (s.keysOf o)).filter fun n => match s.page n with | some p => p.hot.isNone | none => false
    s.modEngine o.podOf fun e => e.add { slot := slot, operand := 1, tenant := o.d.tenant, imm := decide (o.d.cls = .imm), weight := false, list := ps.flatMap fun n => pageList n l o.d.gen }
  | _, _ => s

/-- The tables with which an operation encodes the marked tensors that it writes: those valid now, while EXP_ACT_ENABLE is 1; keyed by handle, each table + 1 (R159, R160, R167). -/
def State.encTabsOf (s : State) (o : Op) : SMap Nat :=
  if s.expEnabled o.d.tenant then
    (s.markedOutputs o).foldl (fun m x => match (s.act (actKey o.d.tenant o.slotModel x.1.code)).table with
      | some t => mset 0 m x.1.code (t + 1)
      | none => m) []
  else []

/-- What an operation takes when it is instantiated: W and M, and the tables of its outputs (R43, R159). -/
def State.atWrite (s : State) (o : Op) : Op :=
  { o with window := s.sv (0x5100 + o.d.tenant) 1 16, margin := BitVec.ofNat 32 (s.sv (0x5100 + o.d.tenant) 2 0x3F800000), encTabs := s.encTabsOf o }

/-- The pod of the first range of an attention template is noted for its merge (R135). -/
def State.notePod (s : State) (o : Op) : State :=
  if o.d.kind = .fattn ∧ o.range = 0 ∧ o.member = 0 then
    s.modRun o.run fun r => r.map fun x => { x with firstPods := mset 0 x.firstPods o.d.template (o.podOf + 1) }
  else s

/-- DESC_WRITE (R173): the descriptor enters its queue, or is refused with DESC_INVALID; one that waits on an object which has failed completes with the failure (R183). -/
def State.descWrite (s : State) (o : Op) : State :=
  let p := s.place o
  let d := { o.d with cluster := p.1, pod := p.2 }
  let s := { s with ops := { s.ops with nextOrder := s.ops.nextOrder + 1 } }
  if s.descOk d then
    match s.freeSlot with
    | none => s
    | some k =>
      let o := { (s.atWrite o) with d := d, order := s.ops.nextOrder - 1, phase := .waiting }
      let s := (((s.modOp k fun _ => some o).openStreams k o).notePod o)
      s.propagate s.ops.slots.length
  else s.raise Ev.descInvalid d.tenant Locus.none 0 d.head

/-- Operations that are eligible and wait for their first block are noted (R226). -/
def State.lateWaits (s : State) : State := s.noteLates s.eligible

/-! ### GROUP_INSTANTIATE (R192) -/

/-- The oldest group of a run with an operation that is not complete; none when all its operations are. -/
def State.oldestGroup (s : State) (n : Nat) : Option Nat :=
  minBy id (s.ops.slots.filterMap fun e => match e.2 with
    | some o => if o.run = n ∧ o.phase ≠ .posted then some o.group else none
    | none => none)

/-- Whether LOOKAHEAD lets the next group be instantiated. -/
def State.mayLook (s : State) (n : Nat) (r : StepRun) : Bool :=
  match s.oldestGroup n with
  | none => true
  | some g => decide (r.nextGroup ≤ g + r.look)

/-- Free objects of the device. -/
def State.objsFree (s : State) : Nat := 32768 - mcount (fun _ x => decide (x.owner ≠ 0)) s.ops.objs

/-- The time since which a run's instantiation waits for its share is noted (R187). -/
def State.noteWait (s : State) (n : Nat) : State := s.modRun n fun x => x.map fun y => { y with waitAt := if y.waitAt = 0 then s.now else y.waitAt }

/-- A wait for the share that has ended is counted (R187, R194). -/
def State.endWait (s : State) (n : Nat) (r : StepRun) : State :=
  if r.waitAt = 0 then s else (s.tcount r.tenant 0xA800 7 (s.now - r.waitAt)).modRun n fun x => x.map fun y => { y with waitAt := 0 }

/-- Whether the share has a slot, and the device one free, for a descriptor of a run (R187). -/
def State.slotLeft (s : State) (r : StepRun) : Bool := decide (0 < s.shareLeft r.tenant (decide (r.cls = .imm))) && s.freeSlot.isSome

/-- The next invocation of a run: once a slot and its new objects are within the share and free, its pages are found, its objects armed and its operations resolved; false where it must wait (R180, R187, R192). -/
def State.oneInv (s : State) (n : Nat) (r : StepRun) (g : Group) (inv : Invocation) : State × Bool :=
  let ks := s.newObjs n r inv
  if s.slotLeft r = false ∨ s.syncLeft r.tenant (decide (r.cls = .imm)) < ks.length ∨ s.objsFree < ks.length then (s.noteWait n, false)
  else
    let q := (s.endWait n r).resolve n r inv (((s.runPlan r).templates[inv.template]?).getD Template.init)
    match q.2 with
    | none => (q.1, false)
    | some l =>
      let s := (q.1.armAll n r g ks).raiseThresh n r inv (l.length - 1)
      (s.modRun n fun x => x.map fun y => { y with due := l.map (s.fillRefs n r inv), nextInv := y.nextInv + 1 }, true)

/-- A batch of descriptors of a run's group: at most `budget` are written, one after another, and invocations resolved between them, while the shares allow (R187, R192, R193). -/
def State.writeBatch : Nat → Nat → Nat → Group → State → State
  | 0, _, _, _, s => s
  | fuel + 1, budget, n, g, s =>
    match s.run n with
    | none => s
    | some r =>
      match r.due with
      | o :: t =>
        if budget = 0 then s
        else if s.slotLeft r then
          State.writeBatch fuel (budget - 1) n g (((s.endWait n r).modRun n fun x => x.map fun y => { y with due := t }).descWrite o)
        else s.noteWait n
      | [] =>
        match g.invs[r.nextInv]? with
        | none => s.modRun n fun x => x.map fun y => { y with nextGroup := y.nextGroup + 1, nextInv := 0 }
        | some inv => let q := s.oneInv n r g inv; if q.2 then State.writeBatch fuel budget n g q.1 else q.1

/-- The group that a run instantiates next. -/
def State.nextGroupOf (s : State) (r : StepRun) : Option Group := (((s.runPlan r).graphs[r.graph]?).getD [])[r.nextGroup]?

/-- Whether a session of a step waits for a KV page. -/
def State.runWaitsPage (s : State) (r : StepRun) : Bool := r.sessions.any fun i => (s.session i).waitsPage

/-- Whether CC2 has IMM work ahead of a run that is not IMM: an IMM step with descriptors to write that waits for nothing (R193). -/
def State.immAhead (s : State) (r : StepRun) : Bool :=
  decide (r.cls ≠ .imm) && s.ops.runs.any fun e => match e.2 with
    | some x => decide (x.cls = .imm) && (s.nextGroupOf x).isSome && s.mayLook e.1 x && decide (x.waitAt = 0) && !s.runWaitsPage x
    | none => false

/-- GROUP_INSTANTIATE (R192, R193): within LOOKAHEAD and the shares, the next at most 64 descriptors of the group are written; IMM work goes first between batches. -/
def execGroupInstantiate (run : Nat) (s : State) : Res :=
  s.whenUp (.groupInstantiate run) <|
    match s.run run with
    | none => .next s.unlisted
    | some r =>
      match s.nextGroupOf r with
      | none => .next s.unlisted
      | some g =>
        if s.mayLook run r && !s.immAhead r then
          let q := s.reserveScratch run r
          .next (if q.2 then (State.writeBatch 130 64 run g q.1).lateWaits else q.1)
        else .next s.unlisted

/-! ### OP_DISPATCH (R182, R185) -/

/-- The start of a step's first operation; that of an IMM step is counted, and the first step's start latency measured (R319). -/
def State.noteStart (s : State) (o : Op) : State :=
  match s.run o.run with
  | none => s
  | some r =>
    if r.began then s
    else
      let s := s.modRun o.run fun x => x.map fun y => { y with began := true }
      if r.cls = .imm then
        let s := s.tcount r.tenant 0xAF10 2 1
        match (s.session (r.sessions.headD 0)).running with
        | none => s
        | some q =>
          let lat := s.now - q.queuedAt
          let code := entryCode (0xAF10 + r.tenant) 1
          if q.outCount = 0 ∧ mget 0 s.faults.counters code < lat then { s with faults := { s.faults with counters := mset 0 s.faults.counters code lat } } else s
      else s

/-- OP_DISPATCH (R185): the eligible operation that is its unit's next takes the unit. -/
def execOpDispatch (slot : Nat) (s : State) : Res :=
  match s.op slot with
  | none => .next s.unlisted
  | some o =>
    match s.nextFor o.unit o.d.tenant with
    | none => .next s.unlisted
    | some (k, c) =>
      s.listed (decide (o.phase = .waiting) && decide (k = slot) && s.unitFree o)
        (((s.setOp slot fun x => { x with phase := .dispatched }).modCredit o.unit fun _ => c).noteStart o)

/-! ### Completion (R181..R186, R190) -/

/-- The status with which an operation is to end: the cause it is to stop for, and for a CORR that has started the failure of its gate, which it can never pass (R177, R183). -/
def State.endStatus (s : State) (o : Op) : FailSt :=
  if o.stopping = .none ∧ o.d.kind = .corr ∧ o.workDone = false then s.waitFailure o.d.wait1 else o.stopping

/-- Whether an operation may complete: all its work has ended, or it is to stop and is at a boundary of its kind, or the gate of its CORR has failed (R174, R177, R191). -/
def State.atEnd (s : State) (o : Op) : Bool :=
  match o.phase with
  | .dispatched => decide (o.stopping ≠ .none)
  | .started => o.workDone || (match o.d.kind with
      | .vmvm | .fgemm | .fattn | .move => decide (o.stopping ≠ .none)
      | .corr => decide (s.waitFailure o.d.wait1 ≠ .none)
      | _ => false)
  | _ => false

/-- OP_COMPLETE (R181, R183, R186). -/
def execOpComplete (slot heldHs : Nat) (s : State) : Res :=
  match s.op slot with
  | none => .next s.unlisted
  | some o => s.listed (s.atEnd o && (decide (s.endStatus o ≠ .none) || s.streamed slot)) (s.complete slot o (s.endStatus o) heldHs).lateWaits

/-- Whether an operation in flight names an object; it is in flight until its record is accepted (R180, R187). -/
def State.objNamed (s : State) (k : Nat) : Bool :=
  s.ops.slots.any fun e => match e.2 with
    | some o => (decide (o.d.wait0 = some k) || decide (o.d.wait1 = some k) || decide (o.d.sig0 = some k) || decide (o.d.sig1 = some k))
    | none => false

/-- Whether a run has written all that may name the objects of a group: the group and the one after it. -/
def State.groupPast (s : State) (run group : Nat) : Bool :=
  match s.run run with
  | none => true
  | some r => decide (r.groups ≤ r.nextGroup) || decide (group + 1 < r.nextGroup)

/-- Objects of groups whose operations have all completed are freed (R180, R192). -/
def State.sweepObjs (s : State) : State :=
  { s with ops := { s.ops with objs := mfilter (fun k x => x.persistent || s.objNamed k || !s.groupPast x.run x.group) s.ops.objs } }

/-- Whether every operation of a run has been written and accepted. -/
def State.runOver (s : State) (n : Nat) (r : StepRun) : Bool :=
  decide (r.groups ≤ r.nextGroup) && r.due.isEmpty && !s.ops.slots.any fun e => match e.2 with | some o => decide (o.run = n) | none => false

/-- Whether a session's request is to end when its operations have stopped (R191). -/
def Session.cancelled (x : Session) : Bool := match x.running with | some r => r.cancel.isSome | none => false

/-- The positions that a step processed are those its sessions have behind them (R149). -/
def StepRun.past (r : StepRun) (i : Nat) : Nat :=
  if r.failed = .none then (match (r.sessions.zip r.poss).find? fun p => decide (p.1 = i) with | some p => p.2 + r.tokens | none => 0) else 0

/-- A step run is gone, and its batch record with it (R172). -/
def State.dropRun (s : State) (n : Nat) : State :=
  let b := (s.run n).bind (·.batch)
  let s := s.modRun n fun _ => none
  { s with ops := { s.ops with batches := match b with | some k => mset [] s.ops.batches k [] | none => s.ops.batches } }

/-- The occurrences of scratch tensors that a step wrote are gone with it. -/
def State.dropCoded (s : State) (n : Nat) : State :=
  { s with exp := { s.exp with acts := mmap .init (fun k (a : ActTensor) => if k / 2 ^ 30 % 4 = 2 then { a with coded := mset 0 a.coded n 0 } else a) s.exp.acts } }

/-- The pages of a session that its next query can no longer see are released, layer by layer (R141). -/
def State.slideAll (s : State) (r : StepRun) (i : Nat) : State :=
  ((s.runPlan r).templates.filter fun t => decide (t.d.kind = .fattn)).foldl (fun s t => s.slidePages i t (s.session i).kvLen) s

/-- A step ends: its scratch is freed and its sessions' last step ended now. A prefill chunk with more to follow, and a step that no session waits for, leave nothing to sample (R147, R149). -/
def State.endRun (s : State) (n : Nat) (r : StepRun) : State :=
  let s := (s.freeExtents r.tenant .scratchC n).dropCoded n
  let live := r.sessions.filter fun i => decide ((s.session i).run = some n)
  let s := live.foldl (fun s i => (s.modSession i fun x => { x with lastStep := s.now, kvLen := max x.kvLen (r.past i) }).slideAll r i) s
  let more := live.any fun i => decide (0 < (s.session i).due) && !(s.session i).cancelled
  if r.failed = .none ∧ more = true ∨ live = [] then
    (live.foldl (fun s i => s.modSession i fun x => { x with run := none }) s).dropRun n
  else s

/-- A step that nothing more is instantiated for. -/
def State.stopRun (s : State) (n : Nat) : State := s.modRun n fun o => o.map fun q => { q with nextGroup := q.groups, due := [], nextInv := 0 }

/-- A step that is over ends. -/
def State.settleRun (s : State) (n : Nat) : State :=
  match s.run n with
  | some r => if s.runOver n r then s.endRun n r else s
  | none => s

/-- A session leaves its step; a step that no session is left in instantiates nothing more and its operations are cancelled (R191). -/
def State.leaveRun (s : State) (i : Nat) : State :=
  match (s.session i).run with
  | none => s
  | some n =>
    let s := s.modSession i fun x => { x with run := none }
    match s.run n with
    | none => s
    | some r =>
      if r.sessions.any fun j => decide ((s.session j).run = some n) then s
      else ((s.stopRun n).cancelOps fun o => decide (o.run = n)).settleRun n

/-- COMPLETION_ACCEPT (R186): CC2 accepts a record: the slot is freed, and the objects of completed groups; a step whose last record it was ends. -/
def execCompletionAccept (slot : Nat) (s : State) : Res :=
  s.whenUp (.completionAccept slot) <|
    match s.op slot with
    | none => .next s.unlisted
    | some o =>
      if s.ops.records.contains slot then
        let s := s.modOp slot fun _ => none
        let s := { s with ops := { s.ops with records := s.ops.records.filter fun k => decide (k ≠ slot) } }
        let s := s.sweepObjs
        let s := match s.run o.run with
          | some r => if s.runOver o.run r then s.endRun o.run r else s
          | none => s
        .next ((mkeys s.kv.pages).foldl State.queueFlush s)
      else .next s.unlisted

/-- OP_TIMEOUT (R190): 1 ms after its start the operation is to stop at its next boundary with TIMEOUT; a retry below it holds the timeout. -/
def execOpTimeout (slot : Nat) (s : State) : Res :=
  match s.op slot with
  | none => .next s.unlisted
  | some o => s.listed (decide (o.phase = .started) && !o.timerHeld && decide (o.stopping = .none) && decide (o.startAt + 1000000 ≤ s.now))
      ((s.stopOp slot .timeout).raise Ev.opTimeout o.d.tenant Locus.slot slot o.d.req)

/-! ### MOVE (R200, R201) -/

/-- Octets copied from one tensor to the same offset of another. -/
def State.copyOctets (s : State) (o : Op) (a c : TDesc) (off n : Nat) : State :=
  s.putTensor o o.d.opC c off (s.tensorOctets o o.d.opA a off n)

/-- One place of a compressed tensor, with its map entry (R201). -/
def State.movePlace (s : State) (o : Op) (a c : TDesc) (b : Nat) : State :=
  let e := s.mapEntry o o.d.opA a b
  (s.copyOctets o a c (b * placeBytes) (e % 512 * 16)).putTensor o o.d.opC { c with base := c.aux } (2 * b) (le 2 e)

/-- Escape codes in a tile of a 4-bit escape tensor. -/
def State.tileEscapes (s : State) (o : Op) (a : TDesc) (tile : Nat) : Nat :=
  ((List.range 256).filter fun i => decide (s.codeAt o o.d.opA a (tile * 1024 + 4 * i) = 8)).length

/-- A tile's side-list entries go with it; the destination keeps 64 octets for each tile behind its offset table, and its offset is rewritten (R45, R201; log entry 29). -/
def State.moveSide (s : State) (o : Op) (a c : TDesc) (tile : Nat) : State :=
  let src := unle (s.tensorOctets o o.d.opA { a with base := a.aux } (4 * tile) 4)
  let n := 4 * s.tileEscapes o a tile
  let dst := 4 * (c.rows / 16 * (c.cols / 16)) + 64 * tile
  let bs := s.tensorOctets o o.d.opA { a with base := a.aux } src n
  (s.putTensor o o.d.opC { c with base := c.aux } dst bs).putTensor o o.d.opC { c with base := c.aux } (4 * tile) (le 4 dst)

/-- The copy of a compressed tensor is read with the table of its source (R168, R201). -/
def State.moveTable (s : State) (o : Op) (a : TDesc) : State :=
  if a.comp then
    let t := (s.codedWith o o.d.opA).getD a.table
    s.modAct (actKey o.d.tenant o.slotModel o.d.opC.code) fun x => { x with fmt := a.fmt, coded := mset 0 x.coded (o.occurrence o.d.opC) (t + 1) }
  else s

/-- The tiles moved. -/
def State.moveTiles (s : State) (o : Op) (a c : TDesc) (first tiles : Nat) : State :=
  let w := a.widen first tiles
  let tb := a.tileOctets
  let s :=
    if a.comp then
      let u := max 1 (placeBytes / tb)
      (List.range (w.2 / u)).foldl (fun s i => if w.1 / u + i < a.places then s.movePlace o a c (w.1 / u + i) else s) s
    else s.copyOctets o a c (w.1 * tb) (w.2 * tb)
  let s := if a.mxs then s.putTensor o o.d.opC { c with base := c.aux } (w.1 / 2 * 16) (s.tensorOctets o o.d.opA { a with base := a.aux } (w.1 / 2 * 16) (w.2 / 2 * 16)) else s
  let s := if a.esc then (List.range w.2).foldl (fun s i => s.moveSide o a c (w.1 + i)) s else s
  s.ocount o 0xA900 1 w.2

/-- MOVE (R201). -/
def execMoveOp (slot : Nat) (s : State) : Res :=
  match s.opIn slot .move .dispatched with
  | none => .next s.unlisted
  | some o =>
    match o.d.k, s.tensor o o.d.opA, s.tensor o o.d.opC with
    | .move first tiles, some a, some c =>
      let n := (first + tiles) * a.tileOctets
      s.withPlaces o [(o.d.opA, n), (o.d.opC, n)] (.next ((((s.startOp slot).moveTiles o a c first tiles).moveTable o a).workDone slot))
    | _, _, _ => .next s.unlisted

/-! ### ROUTE (R178) -/

/-- The softmax of a list of FP32 words over `all`. -/
def softmax (all xs : List (BitVec 32)) : List (BitVec 32) :=
  let m := maxF32 ninfF all
  let e := fun x => vexp (toF32 ((f32 x).sub (f32 m)))
  let sum := laneSum ((all.map e).zipIdx.map fun x => (x.2, x.1))
  xs.map fun x => toF32 ((f32 (e x)).div (f32 sum))

/-- The selections of one token: experts with their gates. -/
def routeToken (k gateMode : Nat) (logits : List (BitVec 32)) : List (Nat × BitVec 32) :=
  let sel := topK k (logits.zipIdx.map fun x => (x.2, x.1))
  let vs := sel.map (·.2)
  (sel.map (·.1)).zip (softmax (if gateMode = 0 then vs else logits) vs)

/-- Selections join the popularity profile of a layer; at 2^20 of them its counts are halved and a check falls due (R212). -/
def Popular.select (p : Popular) (es : List Nat) : Popular :=
  let p := { p with counts := es.foldl (fun m e => mmod 0 m e fun n => min (n + 1) (2 ^ 32 - 1)) p.counts, selections := p.selections + es.length }
  if 2 ^ 20 ≤ p.selections then { p with counts := mmap 0 (fun _ n => n / 2) p.counts, selections := p.selections - 2 ^ 20, checkDue := true } else p

/-- Key of a layer's popularity profile. -/
def popKey (t slot layer : Nat) : Nat := (t * 4 + slot) * 65536 + layer

/-- ROUTE (R178): the K largest logits of each token, their gates, the route record and the popularity profile. -/
def execRouteOp (slot : Nat) (s : State) : Res :=
  match s.opIn slot .route .dispatched with
  | none => .next s.unlisted
  | some o =>
    match o.d.k, s.tensor o o.d.opA, s.tensor o o.d.opC with
    | .route experts k tokens mode, some a, some c =>
      let n := if experts = 0 then 256 else experts
      let sel := (List.range tokens).map fun v => routeToken k mode ((List.range n).map fun i => toF32 (s.runElem o o.d.opA a n v i))
      let rec' := sel.flatMap fun l => l.flatMap fun e => [e.1 % 256, 0, 0, 0] ++ le 4 e.2.toNat
      s.withPlaces o [(o.d.opA, tokens * n * 4), (o.d.opC, tokens * k * 8)]
        (.next ((((s.startOp slot).putTensor o o.d.opC c 0 rec').modPopular (popKey o.d.tenant o.slotModel (s.opTemplate o).layer) fun p =>
          p.select (sel.flatMap fun l => l.map (·.1))).workDone slot))
    | _, _, _ => .next s.unlisted

/-! ### CORR (R49, R125, R126, R177) -/

/-- The escaped elements of input vector `v`: operand A holds for each vector a count and eight pairs of position and BF16 value (log entry 29). -/
def State.escapesOf (s : State) (o : Op) (v : Nat) : List (Nat × BitVec 16) :=
  match s.tensor o o.d.opA with
  | none => []
  | some d =>
    let w := fun i => unle (s.tensorOctets o o.d.opA d (68 * v + 4 * i) 4)
    (List.range (min 8 (w 0))).map fun i => (w (1 + 2 * i), BitVec.ofNat 16 (w (2 + 2 * i)))

/-- A weight of a row and column times its column scale: by its code, or by its side-list value for an escape (R49). -/
def Copy.corrWeight (c : Copy) (code row col : Nat) : Fw :=
  let v := if c.enc = .int8 then decodeVal .int8 code
    else if code % 16 = 8 then
      match c.side.find? fun e => decide (e.row = row) && decide (e.col = col) with
      | some e => bf16 e.value
      | none => .fin false 0 0
    else decodeVal .int4 (code % 16)
  rnd (v.mul (bf16 (mget 0 c.scales (if c.enc = .int8 then 2 * col else col))))

/-- The content of a row-block of an operation's projection. -/
def State.corrContent (s : State) (o : Op) (pi rb cb : Nat) : WContent :=
  { tenant := o.d.tenant, slot := o.slotModel, gen := s.opStamp o, proj := pi, rb := rb, cb := cb }

/-- The template of the VMVM that a CORR corrects: the one whose object gates it, else one of its projection (R177). -/
def State.corrTmpl (s : State) (o : Op) : Option Nat :=
  match o.corrT with
  | some k => some k
  | none =>
    let t := s.opTemplate o
    ((s.opPlan o).templates.zipIdx.find? fun x => decide (x.1.d.kind = .vmvm) && decide (x.1.proj = t.proj)).map (·.2)

/-- The VMVM whose results a CORR corrects, as an operation of the same step. -/
def State.corrVmvm (s : State) (o : Op) : Op :=
  match (s.corrTmpl o).bind fun k => ((s.opPlan o).templates[k]?).map fun x => (k, x) with
  | some (k, x) => { o with d := { o.d with template := k, opA := x.d.opA, opB := x.d.opB, opD := x.d.opD, k := x.d.k } }
  | none => o

/-- An octet of the MODEL contents of an operation's model slot. -/
def State.modelOctet (s : State) (o : Op) (off : Nat) : Nat :=
  match s.extentOf o.d.tenant .modelC o.slotModel with
  | some e => match (s.extentPlace e off).flat with
    | some a => s.byte a
    | none => 0
  | none => 0

/-- The code of a weight on a mapped row, from the row that DRAM holds; 0 for a row that is on no map (R48, R49). -/
def State.mapCode (s : State) (o : Op) (pi : Nat) (enc : Enc) (row cb col : Nat) : Nat :=
  match (s.opImage o).bind fun x => (s.corrTmpl o).bind fun k => x.1.mapRowOffset k pi row cb with
  | none => 0
  | some off =>
    if enc = .int8 then s.modelOctet o (off + col)
    else s.modelOctet o (off + col / 2) / 16 ^ (col % 2) % 16

/-- The escaped input elements' contribution to one output column: one FMA each, in the list's order (R125). -/
def State.corrInput (s : State) (o : Op) (pi cb col : Nat) (es : List (Nat × BitVec 16)) : Fw :=
  es.foldl (fun d e =>
    let c := s.copyOf (s.corrContent o pi (e.1 / 2048) cb)
    let w := c.corrWeight (s.mapCode o pi c.enc e.1 cb col) (e.1 % 2048) col
    rnd ((f32 d.w).add ((bf16 e.2).mul (f32 w.w))) (d.clamps + w.clamps)) { w := 0 }

/-- The escaped weights' contribution to one output column, in table order (R126). -/
def State.corrWeights (s : State) (o vm : Op) (p : Proj) (pi v cb col : Nat) (d : Fw) : Fw :=
  (List.range (cdiv p.inputs 2048)).foldl (fun d rb =>
    let c := s.copyOf (s.corrContent o pi rb cb)
    (c.side.filter fun e => decide (e.col = col)).foldl (fun d e =>
      let f := (rnd ((bf16 e.value).mul (bf16 (mget 0 c.scales col)))).mul { w := s.vmvmScale vm p v }
      rnd ((f32 d.w).add ((Val.ofInt (s.vmvmElem vm p v (rb * 2048 + e.row)) 0).mul (f32 f.w))) (d.clamps + f.clamps)) d) d

/-- The contribution of a CORR to one output column of vector `v`, with its clamps. -/
def State.corrWord (s : State) (o : Op) (v cb col : Nat) : Fw :=
  let vm := s.corrVmvm o
  let x := s.vmvmProj vm
  let d := s.corrInput o x.1 cb col (s.escapesOf o v)
  if o.d.opD.tab = 3 then d else s.corrWeights o vm x.2 x.1 v cb col d

/-- Vectors, column blocks and columns that a CORR covers. -/
def State.corrSpan (s : State) (o : Op) : List (Nat × Nat × Nat) :=
  match o.d.k with
  | .corr _ first count =>
    let vm := s.corrVmvm o
    let w := (s.vmvmProj vm).2.enc.width
    (List.range vm.d.k.vmvmInput.2).flatMap fun v => (List.range count).flatMap fun i => (List.range w).map fun c => (v, first + i, c)
  | _ => []

/-- CORR_OP (R177): the contribution is computed; its first 2,048 words stand in the unit's staging buffer, and CORR_ADD computes the others from the same operands (log entry 29). -/
def execCorrOp (slot : Nat) (s : State) : Res :=
  match s.opIn slot .corr .dispatched with
  | none => .next s.unlisted
  | some o =>
    s.withPlaces o [(o.d.opA, 68), (o.d.opC, 4)]
      (.next ((s.startOp slot).modUnit o.podOf fun u => u.puts 2048 (((s.corrSpan o).take 2048).map fun x => (s.corrWord o x.1 x.2.1 x.2.2).w)))

/-- One word of the contribution added to the projection's output; the clamps on the way to it are counted (R39, R40). -/
def State.corrPut (s : State) (o : Op) (d : TDesc) (x : Nat × Nat × Nat) : State :=
  let off := outOffset (s.vmvmProj (s.corrVmvm o)).2 x.1 x.2.1 + 4 * x.2.2
  let old := BitVec.ofNat 32 (unle (s.tensorOctets o o.d.opC d off 4))
  let y := Fw.add { w := old } (s.corrWord o x.1 x.2.1 x.2.2)
  (s.putWords o o.d.opC d off [y.w]).ocount o 0xA100 1 y.clamps

/-- CORR_ADD (R177): once WAIT1 is satisfied the contribution is added to C. -/
def execCorrAdd (slot : Nat) (s : State) : Res :=
  match s.opIn slot .corr .started with
  | none => .next s.unlisted
  | some o =>
    match s.tensor o o.d.opC with
    | none => .next s.unlisted
    | some d =>
      s.listed (s.waitOk o.d.wait1 && !o.workDone) (((s.corrSpan o).foldl (fun s x => s.corrPut o d x) s).workDone slot)

/-! ### SYNC (R179) -/

/-- SYNC: no work. -/
def execSyncOp (slot : Nat) (s : State) : Res :=
  match s.opIn slot .sync .dispatched with
  | none => .next s.unlisted
  | some _ => .next ((s.startOp slot).workDone slot)

/-! ### KV_PREEMPT (R148) -/

/-- KV_PREEMPT (R148): the waiting session of the lowest class, last admitted, becomes COLD; its request stays in flight, its step is begun anew after the re-prefill. -/
def execKvPreempt (tenant : Nat) (s : State) : Res :=
  s.whenUp (.kvPreempt tenant) <|
    if s.kvStuck tenant = true ∧ s.pinned tenant = false then
      match s.preemptee tenant with
      | none => .next s.unlisted
      | some x => .next ((((s.leaveRun x).makeCold x 1).tcount tenant 0xA600 6 1).modSession x fun q => { q with preemptedCold := true })
    else .next s.unlisted

end Sys2Proof.Machine
end

