-- ==== Sys2Proof/Machine/Shake.lean ====
section
/-! DEFINITION. SHAKE256, which the spec names for digests, tickets and record keys (PRESUMED FIPS 202, log entry 7). -/

namespace Sys2Proof.Machine

/-- The 25 lanes of the permutation's state, lane x + 5 y. -/
abbrev Lanes := List Nat

/-- A lane of 64 bits turned left. -/
def rotl (v n : Nat) : Nat := (v * 2 ^ n % 2 ^ 64) + v / 2 ^ (64 - n)

/-- Rotation of each lane, x + 5 y. -/
def rhoOffsets : List Nat := [0, 1, 62, 28, 27, 36, 44, 6, 55, 20, 3, 10, 43, 25, 39, 41, 45, 15, 21, 8, 18, 2, 61, 56, 14]

/-- Constants of the 24 rounds. -/
def iotaConstants : List Nat :=
  [0x0000000000000001, 0x0000000000008082, 0x800000000000808A, 0x8000000080008000, 0x000000000000808B, 0x0000000080000001,
   0x8000000080008081, 0x8000000000008009, 0x000000000000008A, 0x0000000000000088, 0x0000000080008009, 0x000000008000000A] ++
  [0x000000008000808B, 0x800000000000008B, 0x8000000000008089, 0x8000000000008003, 0x8000000000008002, 0x8000000000000080,
   0x000000000000800A, 0x800000008000000A, 0x8000000080008081, 0x8000000000008080, 0x0000000080000001, 0x8000000080008008]

/-- A lane of the state. -/
def lane (a : Lanes) (x y : Nat) : Nat := a.getD (x % 5 + 5 * (y % 5)) 0

/-- One round. -/
def keccakRound (a : Lanes) (rc : Nat) : Lanes :=
  let c := (List.range 5).map fun x => (lane a x 0 ^^^ lane a x 1) ^^^ (lane a x 2 ^^^ lane a x 3) ^^^ lane a x 4
  let d := (List.range 5).map fun x => c.getD ((x + 4) % 5) 0 ^^^ rotl (c.getD ((x + 1) % 5) 0) 1
  let a := (List.range 25).map fun i => a.getD i 0 ^^^ d.getD (i % 5) 0
  -- lane (y, 2x + 3y) takes lane (x, y) turned, so lane (u, v) takes x = (u + 3 v) mod 5, y = u
  let b := (List.range 25).map fun i =>
    let u := i % 5
    let v := i / 5
    let x := (u + 3 * v) % 5
    rotl (lane a x u) (rhoOffsets.getD (x + 5 * u) 0)
  let e := (List.range 25).map fun i =>
    let x := i % 5
    let y := i / 5
    lane b x y ^^^ ((2 ^ 64 - 1 - lane b (x + 1) y) &&& lane b (x + 2) y)
  match e with
  | [] => []
  | h :: t => (h ^^^ rc) :: t

/-- The permutation. -/
def keccak (a : Lanes) : Lanes := iotaConstants.foldl keccakRound a

/-- Octets of the rate: 136. -/
def shakeRate : Nat := 136

/-- A block of the rate enters the state. -/
def absorbBlock (a : Lanes) (block : Bytes) : Lanes :=
  (List.range 25).map fun i => a.getD i 0 ^^^ unle ((block.drop (8 * i)).take 8)

/-- Padding of SHAKE: 1111 and pad10*1. -/
def shakePad (m : Bytes) : Bytes :=
  let k := shakeRate - m.length % shakeRate
  if k = 1 then m ++ [0x9F] else m ++ [0x1F] ++ List.replicate (k - 2) 0 ++ [0x80]

/-- Absorbs `n` blocks. -/
def absorb : Nat → Lanes → Bytes → Lanes
  | 0, a, _ => a
  | n + 1, a, m => absorb n (keccak (absorbBlock a (m.take shakeRate))) (m.drop shakeRate)

/-- Gives `n` blocks. -/
def squeeze : Nat → Lanes → Bytes
  | 0, _ => []
  | n + 1, a => ((a.take 17).flatMap (le 8)) ++ squeeze n (keccak a)

/-- The first `n` octets of SHAKE256 of `m`. -/
def shake256 (m : Bytes) (n : Nat) : Bytes :=
  let p := shakePad m
  (squeeze (cdiv n shakeRate) (absorb (p.length / shakeRate) (List.replicate 25 0) p)).take n

end Sys2Proof.Machine
end

