-- ==== Sys2Proof/Machine/Transact.lean ====
section
/-! DEFINITION. One transaction of the Banel dictionary protocol: access, lease, application, response, result record and Mirror record (R342..R360). -/

namespace Sys2Proof.Machine

/-- PRINCIPAL code of R343. -/
def Conn.principalCode (c : Conn) : Nat :=
  match c.principal with
  | .mgmt => 1
  | .drv => 2
  | .ten => 2 + c.tenant
  | _ => 0

/-- Whether a principal may read, or write, an entry (R346). -/
def Conn.allows (c : Conn) (e : EntryDesc) (code : Nat) (write : Bool) : Bool :=
  match c.principal with
  | .mgmt => !write || nbit e.who 0
  | .drv => nbit e.who 1 || (!write && nbit e.who 3)
  | .ten => (nbit e.who 2 && (e.ten == 0 || e.tenant code == c.tenant)) || (!write && nbit e.who 3)
  | _ => !write && nbit e.who 3

/-- Checks 1 to 3 of an item (R352). -/
def Conn.itemStatus (c : Conn) (code : Nat) (write : Bool) : Nat :=
  match Entry.find code with
  | none => Bdp.noObject
  | some e =>
    if e.who = 1 ∧ c.port ≠ 2 then Bdp.wrongPort
    else if !c.allows e code write then Bdp.denied
    else if write && e.acc == 0 then Bdp.readOnly
    else if !write && e.acc == 2 then Bdp.writeOnly
    else Bdp.ok

/-- Code of LEASE_CLAIM. -/
def leaseClaimCode : Nat := 0x700002

/-- The lease's check of a DRV write (R311, R351): NO_LEASE, then STALE_EPOCH. -/
def State.leaseStatus (s : State) (c : Conn) (epoch : Nat) : Nat :=
  if c.principal = .drv then
    if s.ctl.lease.state = .unattended then Bdp.noLease
    else if epoch ≠ s.ctl.lease.epoch ∨ epoch = 0 then Bdp.staleEpoch
    else Bdp.ok
  else Bdp.ok

/-- Transactions that CC7 has queued (R351). -/
def State.queuedTxns (s : State) : Nat := (s.held.filter fun i => (needs i).contains 7).length

/-- The result record of a CMD entry after an execution that ended with `status` (R358). -/
def State.finish (s : State) (code status : Nat) : State :=
  s.modResult code fun r => { status := status, seq := (r.seq + 1) % 2 ^ 32 }

/-- Whether a connection's channel is established; the response of a transaction whose channel has ended is discarded (R345). -/
def State.linked (s : State) (conn : Nat) : Bool := match s.conn conn with | some c => decide (c.phase = .up) | none => false

/-- A response is sent and counted (R350, R366). -/
def State.respond (s : State) (rq : Rq) (status failed : Nat) (items : List RespItem) : State :=
  (if s.linked rq.conn then s.send rq.conn (.response rq.txn status failed s.now items) else s).count 0xA010 4 1

/-- A write that applied nothing is answered and counted; BAD_STATE counts as an event no row lists (R351, R353, R366, R311, R14). -/
def State.refuse (s : State) (rq : Rq) (status failed : Nat) (items : List RespItem) : State :=
  let s := (s.respond rq status failed items).count 0xA010 5 1
  let s := if status = Bdp.staleEpoch then s.count 0xAF01 3 1 else s
  let s := if status = Bdp.badState then s.unlisted else s
  if status = Bdp.busy then s.count 0xA010 3 1 else s

/-- Whether a transaction only reads. -/
def isRead : Instr → Bool
  | .bdpRead .. | .bdpSnapshot .. => true
  | _ => false

/-- A transaction refused as a whole: a write is also counted as one that applied nothing (R351, R366). -/
def State.turnDown (s : State) (i : Instr) (rq : Rq) (status : Nat) : State :=
  if isRead i then (if status = Bdp.busy then (s.respond rq status 0xFF []).count 0xA010 3 1 else s.respond rq status 0xFF []) else s.refuse rq status 0xFF []

/-- A value of varying length as a number: its octets, and a 1 above the last of them. -/
def varValue (bs : Bytes) : Nat := unle (bs ++ [1])

/-- The octets of a value of varying length. -/
def varOctets : Nat → Nat → Bytes
  | 0, _ => []
  | n + 1, v => if v ≤ 1 then [] else v % 256 :: varOctets n (v / 256)

/-- The octets of a value of an entry. -/
def EntryDesc.octets (e : EntryDesc) (value : Nat) : Bytes := if e.len = 0 then varOctets (Nat.log2 value / 8 + 1) value else le e.len value

/-- A value as it stands in a Mirror record: a WO value by its digest (R425, R383). -/
def mirrorItem (code value : Nat) : Nat × Nat × Bytes :=
  match Entry.find code with
  | none => (code, 0, [])
  | some e => if e.acc = 2 then (code, 10, shake256 (e.octets value) 32) else (code, e.ty, e.octets value)

/-- DICT_WRITE records of an accepted write: for the tenant of each entry, and for every tenant where the entry is a device entry (R425). -/
def State.mirrorWrite (s : State) (principal epoch : Nat) (items : List (Nat × Nat)) : State :=
  (List.range 8).foldl (fun s i =>
    let t := i + 1
    if (s.mten t).recording then
      let mine := items.filter fun it =>
        match Entry.find it.1 with
        | none => false
        | some e => e.tenant it.1 == 0 || e.tenant it.1 == t
      if mine = [] then s else s.capture t (.dictWrite principal epoch (mine.map fun it => mirrorItem it.1 it.2))
    else s) s

/-- The value that a command's response carries: LEASE_CLAIM returns the new epoch (R350). -/
def State.returned (s : State) (code : Nat) : Nat × Nat × Nat :=
  if code = leaseClaimCode then (3, 4, s.ctl.lease.epoch) else (0, 0, 0)

/-- An accepted single-item write: result record, Mirror record and response. -/
def State.accept (s : State) (rq : Rq) (principal code status value : Nat) : State :=
  let s := match Entry.find code with
    | some e => if e.acc = 3 ∧ status = Bdp.ok then s.finish code Bdp.ok else s
    | none => s
  let s := s.mirrorWrite principal rq.epoch [(code, value)]
  let r := s.returned code
  s.respond rq status 0xFF [{ code := code, ty := r.1, len := r.2.1, status := status, value := r.2.2 }]

/-- The waiting transaction of a connection. -/
def State.holdTxn (s : State) (i : Instr) (rq : Rq) : State :=
  (s.modConn rq.conn fun o => o.map fun c => { c with waiting := c.waiting + 1 }).hold i

/-- A write whose value waits for preparation joins those that wait (R354). -/
def State.prepare (s : State) (rq : Rq) (principal tenant : Nat) (items : List PrepItem) : State :=
  let s := s.modConn rq.conn fun o => o.map fun c => { c with waiting := c.waiting + 1 }
  { s with dict := { s.dict with prep := s.dict.prep ++ [{ conn := rq.conn, txn := rq.txn, items := items, tenant := tenant, epoch := rq.epoch, principal := principal }] } }

/-- The tenant of an entry code. -/
def tenantOfCode (code : Nat) : Nat := match Entry.find code with | some e => e.tenant code | none => 0

/-- The answer to a write of one item whose checks have passed: refused, accepted, or waiting for preparation. -/
def answerWrite (rq : Rq) (principal code value : Nat) (r : Nat × State) : State :=
  if r.1 = Bdp.ok ∨ r.1 = Bdp.pending then r.2.accept rq principal code r.1 value
  else if r.1 = Bdp.prepares then r.2.prepare rq principal (tenantOfCode code) [{ code := code, value := value }]
  else r.2.refuse rq r.1 0 [{ code := code, status := r.1 }]

/-- A transaction on an established channel: it waits where it must, is turned away where too many wait, is refused as a whole where `pre` gives a status, and else does what `run` says (R351, R355); CC7 also carries out the transactions that it accepted from a channel that has ended (R345). -/
def txn (i : Instr) (rq : Rq) (pre : Conn → State → Nat) (run : Conn → State → Res) (s : State) : Res :=
  match s.conn rq.conn with
  | none => .next s.unlisted
  | some c =>
    if !s.powered || c.kind ≠ .bdp || !(decide (c.phase = .up) || decide (s.dict.serving = some rq.conn)) then .next s.unlisted
    else if s.mustHold i then
      if c.waiting < 16 ∧ s.queuedTxns < 256 then .next (s.holdTxn i rq)
      else .next (s.turnDown i rq (if s.coreUp 7 = true ∧ pre c s ≠ Bdp.ok then pre c s else Bdp.busy))
    else if pre c s ≠ Bdp.ok then .next (s.turnDown i rq (pre c s))
    else run c s

/-- The lease's check of a command that is a write of one entry. -/
def leasePre (rq : Rq) (code : Nat) (c : Conn) (s : State) : Nat := if code = leaseClaimCode then Bdp.ok else s.leaseStatus c rq.epoch

/-- A write of one item, by its own command: the checks of R351 and R352 in their order, the entry's own rule `body` (its status and the state it leaves), and the answer. -/
def bdpCmd (i : Instr) (rq : Rq) (code value : Nat) (body : State → Nat × State) (s : State) : Res :=
  txn i rq (leasePre rq code) (fun c s =>
    let st := c.itemStatus code true
    if st ≠ Bdp.ok then .next (s.refuse rq st 0 [{ code := code, status := st }])
    else .next (answerWrite rq c.principalCode code value (body s))) s

/-- A stored value is written (R359, R360). -/
def State.setStored (s : State) (index sub d v : Nat) : State :=
  { s with dict := { s.dict with stored := mset d s.dict.stored (entryCode index sub) v } }

/-- A present value is written (R359). -/
def State.setPresent (s : State) (index sub d v : Nat) : State :=
  { s with dict := { s.dict with present := mset d s.dict.present (entryCode index sub) v } }

end Sys2Proof.Machine
end

