-- ==== Sys2Proof/Machine/Tiers.lean ====
section
/-! DEFINITION. Memory tiers: cache ways, cluster-store regions, DRAM sub-quotas and the rebalancing of experts (R199, R202, R203, R207..R209, R212, R235). -/

namespace Sys2Proof.Machine

/-- Whether a tenant is FORMING or ACTIVE: the states in which its quotas are writable (R202). -/
def State.quotaOpen (s : State) (t : Nat) : Bool := decide (s.tenState t = .forming) || decide (s.tenState t = .active)

/-! ### The envelope (R370) -/

/-- The envelope of a tenant number. -/
structure EnvRec where
  clusters : Nat
  dies : Nat
  maxWays : Nat
  enabled : Bool
  mirror : Bool
  maxUfs : Nat
  maxSessions : Nat
deriving DecidableEq, Repr

/-- The fields of an envelope's 20 octets. -/
def EnvRec.ofNat (v : Nat) : EnvRec :=
  { clusters := nbits v 0 16, dies := nbits v 32 32, maxWays := nbits v 64 8, enabled := nbit v 72, mirror := nbit v 73, maxUfs := nbits v 96 32, maxSessions := nbits v 128 16 }

/-- ENVELOPE of a tenant number. -/
def State.envOf (s : State) (t : Nat) : EnvRec := EnvRec.ofNat (s.sv 0x4300 t 0)

/-! ### System-cache ways (R207..R209) -/

/-- CACHE_WAYS of a tenant. -/
def State.cacheWaysOf (s : State) (t : Nat) : Nat := s.sv (0x8100 + t) 3 2

/-- The tenants that share slice `k`, which serves clusters 2k and 2k+1, rising (R208). -/
def State.sliceTenants (s : State) (k : Nat) : List Nat :=
  ((List.range 8).map (· + 1)).filter fun t => s.ownsCluster t (2 * k) || s.ownsCluster t (2 * k + 1)

/-- Whether in every slice the ways of its FORMING and ACTIVE tenants sum to at most 30 (R208, R371). -/
def State.waysFit (s : State) : Bool :=
  (List.range 8).all fun k => decide ((((s.sliceTenants k).filter s.quotaOpen).map s.cacheWaysOf).sum ≤ 30)

/-- The owner code of way `w` among tenants that take their ways in turn. -/
def wayOwnerIn (ways : Nat → Nat) (w : Nat) : Nat → List Nat → Nat
  | _, [] => 0
  | lo, t :: l => if w < lo + ways t then t + 1 else wayOwnerIn ways w (lo + ways t) l

/-- The owner that R208 gives a way of a slice: ways 0 and 1 to T0, the others in ascending tenant number; 0 where no tenant holds it. -/
def State.wayTarget (s : State) (slice way : Nat) : Nat :=
  if way < 2 then 1 else wayOwnerIn s.cacheWaysOf way 2 (s.sliceTenants slice)

/-- A way whose owner changes leaves its loser's masks and waits for its write-back (R209). -/
def State.retargetWay (s : State) (slice way : Nat) : State :=
  let k := slice * 32 + way
  let new := s.wayTarget slice way
  if s.wayOwner k = new then s.modWayNext k fun _ => 0
  else s.modWayNext k fun _ => if new = 0 then 10 else new

/-- The ways of every slice follow R208. -/
def State.assignWays (s : State) : State :=
  (List.range 8).foldl (fun s k => (List.range 32).foldl (fun s w => s.retargetWay k w) s) s

/-- The entry's rule of CACHE_WAYS (R202, R208, R371). -/
def cacheWaysBody (t v : Nat) (s : State) : Nat × State :=
  let s' := s.setStored (0x8100 + t) 3 2 v
  if v < 2 ∨ 30 < v ∨ s'.waysFit = false then (Bdp.outOfRange, s)
  else if !s.quotaOpen t then (Bdp.badState, s)
  else if (s.envOf t).maxWays < v then (Bdp.envelope, s)
  else (Bdp.ok, s'.assignWays)

/-- CACHE_WAYS (R202, R208, R209). -/
def execCacheWays (rq : Rq) (tenant value : Nat) (s : State) : Res :=
  bdpCmd (.cacheWays rq tenant value) rq (entryCode (0x8100 + tenant) 3) value (cacheWaysBody tenant value) s

/-- WAY_HANDOVER (R209): the way's dirty lines are in DRAM, the way is zeroed, and its new owner allocates into it. -/
def execWayHandover (slice way : Nat) (s : State) : Res :=
  let k := slice * 32 + way
  let n := s.wayNext k
  s.listed (decide (slice < 8 ∧ way < 32) && decide (n ≠ 0))
    ((({ s with tiers := { s.tiers with lines := s.tiers.lines.filter fun e => !decide (e.1 / 1024 = k) } } : State).modWayOwner k fun _ => if n = 10 then 0 else n).modWayNext k fun _ => 0)

/-! ### Cluster-store regions (R199) -/

/-- The oldest hot page of a cluster that may be evicted. -/
def State.oldestHotOn (s : State) (t c : Nat) : Option Nat :=
  let ps := s.kv.pages.filterMap fun e => match e.2 with
    | some p => if p.evictable t ∧ p.hot = some c then some (e.1, p) else none
    | none => none
  (minBy (fun (x : Nat × Page) => ((x.2.lastUse * 4096 + x.2.session) * 65536 + x.2.layer) * 2 ^ 32 + x.2.firstPos) ps.reverse).map (·.1)

/-- Pages that stay in a cluster's pool or are on their way into it. -/
def State.hotStaying (s : State) (c : Nat) : Nat :=
  mcount (fun _ o => match o with | some p => (decide (p.hot = some c) && p.moving.isNone) || decide (p.moving = some (some c)) | none => false) s.kv.pages

/-- Surplus hot pages of a cluster begin their moves to DRAM, oldest first, IDLE sessions being made COLD where DRAM has no room; a page that is read waits (R143, R146, R147, R199). -/
def State.trimCluster (t c : Nat) : Nat → State → State
  | 0, s => s
  | n + 1, s =>
    if s.hotStaying c ≤ s.csKvPages t then s
    else match s.oldestHotOn t c with
      | none => s
      | some p =>
        if s.warmUsed t < s.warmCap t then State.trimCluster t c n (s.evict p)
        else match s.oldestIdle t with
          | none => s
          | some x => State.trimCluster t c n (s.makeCold x 0)

/-- Surplus hot pages of a tenant are evicted. -/
def State.trimHot (s : State) (t : Nat) : State := (s.clusterList t).foldl (fun s c => State.trimCluster t c 4194 s) s

/-- The entry's rule of CS_KV_PAGES: STREAM_REGIONS + 2 window regions are left (R199, R220). -/
def csKvPagesBody (t v : Nat) (s : State) : Nat × State :=
  if 88 < v ∨ 96 - v < s.sv (0x8130 + t) 1 6 + 2 then (Bdp.outOfRange, s) else (Bdp.ok, (s.setStored (0x8100 + t) 4 80 v).trimHot t)

/-- CS_KV_PAGES (R199, R216). -/
def execCsKvPages (rq : Rq) (tenant value : Nat) (s : State) : Res :=
  bdpCmd (.csKvPages rq tenant value) rq (entryCode (0x8100 + tenant) 4) value (csKvPagesBody tenant value) s

/-! ### DRAM sub-quotas (R203, R235) -/

/-- S: the octets of each channel that the spread part takes, given its sub-quotas in MiB (R235). -/
def State.spreadEnd (s : State) (t mib : Nat) : Nat :=
  let n := 2 * (s.clusterList t).length
  let g := s.grain t
  cdiv (cdiv (mib * 2 ^ 20) (max 1 n)) g * g

/-- The MiB of a tenant's spread sub-quotas: MODEL, ADAPTER, SESSION and SCRATCH. -/
def State.spreadMib (s : State) (t : Nat) : Nat := s.subQuota t 1 + s.subQuota t 5 + s.subQuota t 3 + s.subQuota t 6

/-- Octets of pair-local data of a tenant: warm pages and backing copies. -/
def State.pairData (s : State) (t : Nat) : Nat := s.warmUsed t * 65536 + (s.reserveUsed t).length * copyBytes

/-- Whether the pair-local data fits above the boundary S (R235). -/
def State.aboveBoundary (s : State) (t : Nat) : Bool :=
  decide (s.pairData t + 2 * (s.clusterList t).length * s.spreadEnd t (s.spreadMib t) ≤ 2 * (s.clusterList t).length * chTenant)

/-- The content that a sub-quota other than KV and SHADOW holds. -/
def subKind : Nat → Option Alloc
  | 1 => some .modelC | 3 => some .sessionC | 5 => some .adapterC | _ => none

/-- Unpinned copies of a tenant's reserve are evicted, oldest first, until `slots` are left (R203). -/
def State.evictCopies (t slots : Nat) : Nat → State → State
  | 0, s => s
  | n + 1, s =>
    if (s.reserveUsed t).length ≤ slots then s
    else match s.oldestCopy t [] with
      | none => s
      | some k => State.evictCopies t slots n (s.modStratum k Stratum.dropCopy)

/-- Pinned copies of a tenant's reserve. -/
def State.pinnedCopies (s : State) (t : Nat) : Nat := ((s.reserveUsed t).filter fun k => (s.stratum k).copyPinned).length

/-- IDLE sessions are made COLD, oldest first, until at most `cap` pages take DRAM (R147, R203). -/
def State.coolTo (t cap : Nat) : Nat → State → State
  | 0, s => s
  | n + 1, s =>
    if s.warmUsed t ≤ cap then s
    else match s.oldestIdle t with
      | none => s
      | some x => State.coolTo t cap n (s.makeCold x 0)

/-- The value of a sub-quota that is present in the checks. -/
def State.setSub (s : State) (t which v : Nat) : State := s.setStored (0x8110 + t) which (subDefault which) v

/-- The entry's rule of a sub-quota of an ACTIVE tenant, its range being kept. A DRAM_KV below the present use makes sessions COLD, and the write waits until use fits. -/
def State.subActive (s : State) (t which v : Nat) : Nat × State :=
  let s' := s.setSub t which v
  if s.dramMib t < s'.subSum t + 256 then (Bdp.outOfRange, s)
  else if which = 4 then
    if v * 2 ^ 20 / copyBytes < s.pinnedCopies t then (Bdp.quotaInUse, s)
    else if !s'.aboveBoundary t then (Bdp.quotaInUse, s)
    else (Bdp.ok, State.evictCopies t (v * 2 ^ 20 / copyBytes) ((s.reserveUsed t).length + 1) s')
  else if which = 2 then
    let c := State.coolTo t (v * 16) 4097 s
    let c' := c.setSub t 2 v
    if c.warmUsed t ≤ v * 16 then (if c'.aboveBoundary t then (Bdp.ok, c') else (Bdp.quotaInUse, c))
    else (Bdp.prepares, c.modKvPending t fun _ => some v)
  else match subKind which with
    | some k =>
      if v * 2 ^ 20 < s.usedOf t k then (Bdp.quotaInUse, s)
      else if !s'.aboveBoundary t then (Bdp.quotaInUse, s)
      else (Bdp.ok, s')
    | none => (Bdp.readOnly, s)

/-- The entry's rule of a DRAM sub-quota (R203). -/
def dramSubQuotaBody (t which v : Nat) (s : State) : Nat × State :=
  if which = 4 ∧ v < 9 then (Bdp.outOfRange, s)
  else if s.tenState t = .forming then (Bdp.ok, s.setSub t which v)
  else if s.tenState t = .active then s.subActive t which v
  else (Bdp.badState, s)

/-- DRAM_SUB_QUOTA (R203, R235). -/
def execDramSubQuota (rq : Rq) (tenant which value : Nat) (s : State) : Res :=
  bdpCmd (.dramSubQuota rq tenant which value) rq (entryCode (0x8110 + tenant) which) value (dramSubQuotaBody tenant which value) s

/-! ### Experts (R212) -/

/-- The projections of an expert of a layer. -/
def Plan.expertProjs (p : Plan) (layer e : Nat) : List Nat :=
  (List.range p.projs.length).filter fun i => let q := (p.projs[i]?).getD Proj.init; decide (q.layer = layer) && decide (q.expert = some e)

/-- Strata of a projection: its column blocks times its row-blocks (R58). -/
def Proj.strata (p : Proj) : Nat := cdiv p.outSlots 1024 * cdiv p.inputs 2048

/-- Strata of an expert. -/
def Plan.expertStrata (p : Plan) (layer e : Nat) : Nat := ((p.expertProjs layer e).map fun i => ((p.projs[i]?).getD Proj.init).strata).sum

/-- The die on which an expert lies. -/
def State.expertDie (s : State) (t slot layer e : Nat) (p : Plan) (gen : Nat) : Option Nat :=
  let js := p.expertProjs layer e
  let is := fun (c : WContent) => decide (c.tenant = t ∧ c.slot = slot ∧ c.gen = gen) && js.contains c.proj
  match s.vault.strata.find? (fun (x : Nat × Stratum) => match x.2.incoming with | some c => is c | none => false) with
  | some x => some (dieOf x.1)
  | none => (s.vault.strata.find? (fun (x : Nat × Stratum) => match x.2.content with | some c => is c | none => false)).map fun x => dieOf x.1

/-- An expert, its die, its load and its count. -/
structure ExpertLoad where
  expert : Nat
  die : Nat
  load : Nat
  count : Nat
deriving DecidableEq, Repr

/-- Every placed expert of a layer with its load: count times strata. -/
def State.expertLoads (s : State) (t slot layer : Nat) (p : Plan) (gen : Nat) : List ExpertLoad :=
  (List.range p.experts).filterMap fun e =>
    (s.expertDie t slot layer e p gen).map fun d =>
      let n := mget 0 (s.popular (popKey t slot layer)).counts e
      { expert := e, die := d, load := n * p.expertStrata layer e, count := n }

/-- The load of a die. -/
def dieLoad (l : List ExpertLoad) (d : Nat) : Nat := ((l.filter fun x => decide (x.die = d)).map (·.load)).sum

/-- One column block of an expert is assigned to a bank of a die; none where no bank has room. -/
def State.moveBlock (s : State) (die : Nat) (c : WContent) : Option State :=
  ((List.range 32).findSome? fun b => s.bankSpots (die * 32 + b) c (s.rowBlocks c)).map fun ks =>
    ((List.range ks.length).foldl (fun s i => s.assign ((ks[i]?).getD 0) { c with rb := i } .relocation) s).releaseOld (ks.headD 0) c ks

/-- Column blocks moved one after another; none as soon as one has no room. -/
def State.moveBlocks (s : State) (die : Nat) : List WContent → Option State
  | [] => some s
  | c :: l => (s.moveBlock die c).bind fun s => State.moveBlocks s die l

/-- The column blocks of an expert. -/
def expertBlocks (t slot layer e : Nat) (p : Plan) (gen : Nat) : List WContent :=
  (p.expertProjs layer e).flatMap fun i =>
    (List.range (cdiv ((p.projs[i]?).getD Proj.init).outSlots 1024)).map fun cb => { tenant := t, slot := slot, gen := gen, proj := i, rb := 0, cb := cb }

/-- Moves of R212: the most popular expert of the most loaded die to the least loaded die with room, until the largest load is within 10 % of the mean or 8 experts have moved. -/
def State.rebalance (t slot layer : Nat) (p : Plan) (gen : Nat) (dies : List Nat) : Nat → List ExpertLoad → State → State
  | 0, _, s => s
  | n + 1, l, s =>
    let total := (l.map (·.load)).sum
    match minBy (fun d => total - dieLoad l d) dies with
    | none => s
    | some big =>
      if dieLoad l big * 10 * dies.length ≤ 11 * total then s
      else match minBy (fun (x : ExpertLoad) => (2 ^ 32 - x.count) * 256 + x.expert) (l.filter fun x => decide (x.die = big)) with
        | none => s
        | some x =>
          let byLoad := (dies.filter fun d => decide (d ≠ big)).mergeSort fun a b => decide (dieLoad l a ≤ dieLoad l b)
          match byLoad.findSome? fun d => (s.moveBlocks d (expertBlocks t slot layer x.expert p gen)).map fun s => (d, s) with
          | none => s
          | some (d, s) =>
            State.rebalance t slot layer p gen dies n (l.map fun y => if y.expert = x.expert then { y with die := d } else y) (s.tcount t 0xA900 6 1)

/-- A layer is rebalanced at most once in this time of RUN, ns (R212). -/
def rebalanceEvery : Nat := 86400 * 10 ^ 9

/-- The check of R212 once its halving has fallen. -/
def State.expertCheck (s : State) (t slot layer : Nat) : State :=
  let k := popKey t slot layer
  let old := (s.popular k).lastMove
  let s := s.modPopular k fun p => { p with checkDue := false }
  let rested : Bool := match old with | none => true | some x => decide (rebalanceEvery ≤ s.power.runNs - x)
  match (s.mslot t slot).current with
  | none => s
  | some i =>
    let g := (s.mslot t slot).stamp
    let l := s.expertLoads t slot layer i.plan g
    let total := (l.map (·.load)).sum
    let dies := s.dieList t
    let heavy := dies.any fun d => decide (5 * total < dieLoad l d * 4 * dies.length)
    if s.sv (0x8100 + t) 8 1 = 1 ∧ rested = true ∧ heavy = true then
      (State.rebalance t slot layer i.plan g dies 8 l s).modPopular k fun p => { p with lastMove := some s.power.runNs }
    else s

/-- EXPERT_REBALANCE_CHECK (R212), by CC2. -/
def execExpertRebalanceCheck (tenant slot layer : Nat) (s : State) : Res :=
  s.whenUp (.expertRebalanceCheck tenant slot layer) <|
    s.listed (s.popular (popKey tenant slot layer)).checkDue (s.expertCheck tenant slot layer)

end Sys2Proof.Machine
end

