-- ==== Sys2Proof/Machine/Checks.lean ====
section
/-! DEFINITION. The checks of a Dweval image: structure, formats, ranges, escapes, vector programs, plan, holding times, expander rates and quotas (R252, R253, R258, R114, R188, R189). -/

namespace Sys2Proof.Machine

/-! ### Header and sections (R252, R253) -/

/-- The header's fields in order of offset; the first that fails decides the status (R252). -/
def Image.headerStatus (i : Image) : Nat :=
  let h := i.header
  if h.magic ≠ 0x4C565744 then Bdp.imageInvalid
  else if h.rev ≠ 1 then Bdp.imageRev
  else if 2 < h.kind ∨ h.resvA = true ∨ h.bytes % 4096 ≠ 0 ∨ h.nameOk = false then Bdp.imageInvalid
  else if (if h.kind = 0 then h.strata ≠ i.copies.length else h.strata ≠ 0) then Bdp.imageInvalid
  else if h.sections = 0 ∨ 16 < h.sections ∨ h.sections ≠ i.sects.length ∨ h.resvB = true then Bdp.imageInvalid
  else Bdp.ok

/-- The sections that a kind of image carries (R253). -/
def kindSections (k : Nat) : List Nat := if k = 0 then [1, 2, 3, 4, 5] else if k = 1 then [6] else [7]

/-- Whether no two sections overlap. -/
def sectsApart : List Sect → Bool
  | [] => true
  | a :: t => (t.all fun b => decide (a.offset + a.length ≤ b.offset) || decide (b.offset + b.length ≤ a.offset)) && sectsApart t

/-- R253. -/
def Image.sectsOk (i : Image) : Bool :=
  (i.sects.all fun x => !x.resv && decide (x.offset % 4096 = 0 ∧ 0x1000 ≤ x.offset ∧ x.offset + x.length ≤ i.header.bytes)) &&
  sectsApart i.sects && decide ((i.sects.map (·.type)).Nodup) &&
  subset (kindSections i.header.kind) (i.sects.map (·.type)) && subset (i.sects.map (·.type)) (kindSections i.header.kind)

/-- The string of a token. -/
def Tokeniser.str (t : Tokeniser) (k : Nat) : Bytes := (t.strings[k]?).getD []

/-- The tokeniser's tables (R291). -/
def Tokeniser.ok (t : Tokeniser) (vocab : Nat) : Bool :=
  decide (1 ≤ t.vocab ∧ t.vocab ≤ 2 ^ 24 ∧ t.vocab = vocab ∧ t.strings.length = t.vocab ∧ t.specials.length ≤ 256) &&
  (t.strings.all fun x => decide (1 ≤ x.length ∧ x.length ≤ 255)) &&
  ((List.range 256).all fun b => t.strings.contains [b]) &&
  (t.merges.all fun m => decide (t.str m.2.2 = t.str m.1 ++ t.str m.2.1)) && t.specials.any (·.2)

/-- Item 1 of R258, with the tables of R291. -/
def Image.structureStatus (i : Image) : Nat :=
  if i.headerStatus ≠ Bdp.ok then i.headerStatus
  else if !i.sectsOk || i.recResv || i.params.resv || i.tok.resv || !i.tok.ok i.plan.vocab then Bdp.imageInvalid
  else Bdp.ok

/-! ### Formats (R29, R30, R154) -/

/-- Whether the fabric accepts two operand formats together: one format, or a pair of R30. -/
def pairOk (a b : Nat) : Bool :=
  decide (a < 15 ∧ b < 15) && (decide (a = b) || [(3, 4), (5, 6), (9, 8), (11, 10)].any fun p => decide ((a, b) = p ∨ (b, a) = p))

/-- Whether the fabric accepts a template's operands: a pair of R30, or in the backward pass the stored weights that the feeder widens, INT4 beside E5M2 gradients and INT8 beside BF16 ones. R108 does not say whether a BACKWARD template names the stored or the widened format: the model accepts both, as the template names them (DESIGN CHOICE, log entry 37). -/
def Template.pairGood (t : Template) : Bool :=
  pairOk t.fmtA t.fmtB || (match t.d.k with
    | .fgemm _ _ _ _ _ _ true => decide ((t.fmtA, t.fmtB) = (4, 9) ∨ (t.fmtA, t.fmtB) = (2, 8))
    | _ => false)

/-- Whether a handle's tensor, where the plan has one, is stored in a format. -/
def Plan.stored (p : Plan) (h : Handle) (f : Nat) : Bool := match p.desc h with | some d => decide (d.fmt = f) | none => true

/-- Whether a handle names a marked tensor. -/
def Plan.marked (p : Plan) (h : Handle) : Bool := match p.desc h with | some d => d.comp | none => false

/-- Whether every marked tensor of a template reaches the fabric through an operand port, or is moved as it is (R154); a CORR, which adds to its output, may not write a marked one. -/
def Plan.marksOk (p : Plan) (t : Template) : Bool :=
  match t.d.kind with
  | .fgemm => !p.marked t.d.opD
  | .fattn => !p.marked t.d.opB && !p.marked t.d.opD
  | .move => true
  | .corr => !p.marked t.d.opC && (p.reads t).all fun h => !p.marked h
  | _ => (p.reads t).all fun h => !p.marked h

/-- A template's formats: those its engine accepts, with its operands stored in them (R29, R30); an adapter's matrices are BF16 (R269). -/
def Plan.formatOk (p : Plan) (t : Template) : Bool :=
  p.marksOk t &&
  match t.d.kind, t.d.k with
  | .vmvm, .vmvm _ _ _ _ inFmt _ _ _ =>
    (decide (t.fmtA = 8) || decide (t.fmtA = 9)) && decide (t.fmtC = 0) && p.stored t.d.opA t.fmtA && p.stored t.d.opC 0 &&
      (decide (inFmt = t.fmtA) || (decide (inFmt ≠ 8) && decide (inFmt ≠ 9)))
  | .fgemm, _ =>
    t.pairGood && decide (t.fmtC = 0) && p.stored t.d.opA t.fmtA && (if t.adapterPart.isSome then decide (t.fmtB = 2) else p.stored t.d.opB t.fmtB) &&
      p.stored t.d.opC 0 && p.stored t.d.opD 0
  | .fattn, _ => p.stored t.d.opC 0
  | .corr, _ => p.stored t.d.opC 0
  | .route, _ => p.stored t.d.opA 0
  | _, _ => true

/-- A tensor's format and mark: BF16, FP16 and FP32 tensors may be marked, but no backing copy and no weights in the vault (R154, R170). -/
def TDesc.formatOk (d : TDesc) : Bool := decide (d.fmt < 15) && (!d.comp || (decide (d.fmt ≤ 2) && decide (d.tier ≤ 2)))

/-- Item 2 of R258. -/
def Plan.formatsOk (p : Plan) : Bool := p.templates.all p.formatOk && (p.tensors ++ p.scratch).all TDesc.formatOk

/-! ### Ranges (R56, R136, R137) -/

/-- Whether an FP32 parameter lies within two bounds. -/
def inRange (w : BitVec 32) (lo hi : Val) : Bool := (f32 w).finite && !(f32 w).lt lo && !hi.lt (f32 w)

/-- Whether an INT8 copy keeps to -119..+119 (R56). -/
def Copy.inRange (c : Copy) : Bool :=
  decide (c.enc ≠ .int8) || c.codes.all fun e => decide (-119 ≤ sint 8 (e.2 % 256) ∧ sint 8 (e.2 % 256) ≤ 119)

/-- The rotary parameters for heads of `d` elements (R136); a table has d/2 values (DESIGN CHOICE of the status, log entry 72). -/
def Params.rotaryOk (p : Params) (d : Nat) : Bool :=
  inRange p.theta (.fin false 1 0) (.fin false 1000000000 0) &&
  match p.rotary with
  | .base => true
  | .linear => inRange p.rotScale (.fin false 1 0) (.fin false 64 0)
  | .table => decide (p.rotTable.length = d / 2) && p.rotTable.all fun w => inRange w (.fin false 1 (-16)) (.fin false 1 0)

/-- The mask parameters (R137). -/
def Template.maskOk (t : Template) : Bool :=
  match t.mask with
  | .sliding => decide (1 ≤ t.window ∧ t.window ≤ 131072)
  | .sparse => decide (t.globals ≤ 64)
  | _ => true

/-- Item 3 of R258. -/
def Image.rangesOk (i : Image) : Bool := i.copies.all (·.inRange) && i.params.rotaryOk i.plan.headDim && i.plan.templates.all (·.maskOk)

/-! ### Scales and shapes (R58, R134, R137) -/

/-- Item 4 of R258: the row-blocks of a column block carry identical column scales. -/
def Image.scalesOk (i : Image) : Bool :=
  i.plan.projs.all fun p => (List.range p.colBlocks).all fun cb =>
    match i.block p cb with
    | [] => true
    | c :: l => l.all fun d => decide (d.scales = c.scales)

/-- Whether the head counts divide as R134 asks. -/
def Plan.headsOk (p : Plan) : Bool :=
  decide (0 < p.kvHeads ∧ p.queryHeads % p.kvHeads = 0 ∧ 1 ≤ p.queryHeads / p.kvHeads ∧ p.queryHeads / p.kvHeads ≤ 16)

/-- Item 5 of R258. -/
def Plan.shapesOk (p : Plan) : Bool :=
  (p.projs.all fun q => decide (q.rowCount ≤ 64)) && p.headsOk &&
  p.templates.all fun t => decide (t.mask ≠ .sparse) || t.blockMap.getLsbD 0 || decide (t.globals ≠ 0)

/-! ### Escapes (R45..R47) -/

/-- The places of a copy's escape codes, by row and then by column. -/
def Copy.escapes (c : Copy) : List Nat := if c.enc = .int4x then (c.codes.filter fun e => decide (e.2 % 16 = 8)).map (·.1) else []

/-- A copy's side list: MISMATCH, LIMIT or OK. Where both apply R47 does not say which status wins: the model judges the mismatch first (DESIGN CHOICE, log entry 37). -/
def Copy.escapeStatus (c : Copy) : Nat :=
  if c.side.map (fun e => e.row * 1024 + e.col) ≠ c.escapes then Bdp.escapeMismatch
  else if 4096 < c.side.length then Bdp.escapeLimit
  else Bdp.ok

/-- `n` octets of DIGITAL as a number. -/
def Image.digitalWord (i : Image) (off n : Nat) : Nat := unle ((List.range n).map fun k => mget 0 i.digital (off + k))

/-- The places of the escape codes of one tile of a 4-bit tensor. -/
def Image.tileEscapes (i : Image) (d : TDesc) (tile : Nat) : List Nat :=
  (List.range 256).filter fun k => decide (mget 0 i.digital (d.base + tile * 128 + k / 2) / 16 ^ (k % 2) % 16 = 8)

/-- The side list of one tile: as many entries as escape codes, at their places (R45). R45 gives neither the base of the U32 offsets nor how a tile's entry count is known: the model takes offsets from AUX on, and a tile's list to end where the next tile's begins; and R47 does not say which status wins where both apply: the mismatch is judged first (DESIGN CHOICE, log entries 29 and 37). -/
def Image.tileStatus (i : Image) (d : TDesc) (tile : Nat) : Nat :=
  let es := i.tileEscapes d tile
  let off := i.digitalWord (d.aux + 4 * tile) 4
  let stop' := if tile + 1 < d.rows / 16 * (d.cols / 16) then i.digitalWord (d.aux + 4 * (tile + 1)) 4 else off + 4 * es.length
  if stop' ≠ off + 4 * es.length ∨ (List.range es.length).map (fun k => i.digitalWord (d.aux + off + 4 * k) 1) ≠ es then Bdp.escapeMismatch
  else if 16 < es.length then Bdp.escapeLimit
  else Bdp.ok

/-- The first status among those given that is not OK. -/
def firstStatus (l : List Nat) : Nat := (l.find? fun st => decide (st ≠ Bdp.ok)).getD Bdp.ok

/-- Item 6 of R258. A tensor of an escape format without side lists has no entry for any escape code (R47). -/
def Image.escapeStatus (i : Image) : Nat :=
  firstStatus (i.copies.map (·.escapeStatus) ++
    (i.plan.tensors.filter fun d => decide (d.tier = 2)).flatMap fun d => (List.range (d.rows / 16 * (d.cols / 16))).map fun k =>
      if d.esc then i.tileStatus d k
      else if (d.fmt = 13 ∨ d.fmt = 14) ∧ i.tileEscapes d k ≠ [] then Bdp.escapeMismatch
      else Bdp.ok)

/-! ### Vector programs (R114..R116) -/

/-- An instruction word's fields (R115). -/
def VF.ofWord (w : BitVec 64) : VF :=
  let v := w.toNat
  { cnt := nbits v 44 12, dst := nbits v 32 12, spa := nbits v 31 1, addra := nbits v 18 13, srcb := nbits v 6 12, mod := nbits v 0 6 }

/-- Words of a run of `n` elements of `b` bits. -/
def runWords (n b : Nat) : Nat := cdiv (n * b) 32

/-- What an instruction reads and writes, as runs of the vector buffer: first word and words. -/
structure VRuns where
  acc : Nat := 0
  srcs : List (Nat × Nat) := []
  dsts : List (Nat × Nat) := []
  scalarD : Bool := false
  scalarB : Bool := false
  good : Bool := true
deriving DecidableEq, Repr

/-- Source A as a run of `n` elements of `b` bits: of the buffer, or of the accumulator sets one word each. -/
def VRuns.a (r : VRuns) (f : VF) (n b : Nat) : VRuns :=
  if f.spa = 0 then { r with srcs := r.srcs ++ [(f.addra % 4096, runWords n b)] } else { r with acc := n }

/-- Source B, a run of `k` words. -/
def VRuns.b (r : VRuns) (f : VF) (k : Nat) : VRuns := { r with srcs := r.srcs ++ [(f.srcb, k)] }

/-- The destination, a run of `k` words. -/
def VRuns.d (r : VRuns) (f : VF) (k : Nat) : VRuns := { r with dsts := r.dsts ++ [(f.dst, k)] }

/-- Bits of an element-wise instruction: 32, or 16 where MOD bit 0 selects BF16. -/
def VF.elemBits (f : VF) : Nat := if nbit f.mod 0 then 16 else 32

/-- The runs of a reduction by its axis (R119). -/
def VRuns.reduce (f : VF) (n : Nat) : VRuns :=
  let r := ({} : VRuns).a f n 32
  if f.mod % 4 = 2 then { r with scalarD := true }
  else if f.mod % 4 = 3 then { r with good := false }
  else { (r.d f (n / 16)) with good := decide (n % 256 = 0) }

/-- The format named in MOD bits 3:0 is not the reserved one. -/
def VF.fmtGood (f : VF) : Bool := decide (f.mod % 16 ≠ 15)

/-- The runs and particular conditions of an instruction; none for an unknown opcode (R114, R116). -/
def vRuns (opc : Nat) (f : VF) : Option VRuns :=
  let n := f.cnt + 1
  let e : VRuns := {}
  let b := f.elemBits
  let fb := fmtBits (f.mod % 16)
  if 1 ≤ opc ∧ opc ≤ 6 then some (((e.a f n b).b f (runWords n b)).d f (runWords n b))
  else if 7 ≤ opc ∧ opc ≤ 9 then some ((e.a f n b).d f (runWords n b))
  else if 0x11 ≤ opc ∧ opc ≤ 0x16 then some { ((e.a f n b).d f (runWords n b)) with scalarB := true }
  else if 0x21 ≤ opc ∧ opc ≤ 0x28 then some { ((e.a f n 32).d f n) with good := !nbit f.mod 0 }
  else match opc with
    | 0x30 => some { (e.a f n 32) with scalarD := true }
    | 0x31 => some (((e.a f n 32).b f (if nbit f.mod 0 then 2 * n else n)).d f n)
    | 0x32 => some { (((e.a f n 32).b f (n / 2)).d f n) with good := decide (n % 2 = 0) }
    | 0x40 => some { ((e.a f n 32).d f (runWords n fb)) with scalarB := true, good := f.fmtGood }
    | 0x41 => some { ((e.a f n fb).d f n) with scalarB := true, good := f.fmtGood }
    | 0x42 => some { ((e.a f n 32).d f (runWords n fb)) with dsts := [(f.dst, runWords n fb), (f.srcb, runWords (n / 32) 8)], good := f.fmtGood && decide (n % 32 = 0) }
    | 0x43 => some { (e.a f n 32) with scalarB := true }
    | 0x44 => some (e.d f 16)
    | 0x45 => some { (e.a f n 32) with good := decide (n ≤ 64) }
    | 0x46 => some (((e.a f n 32).b f 16).d f (runWords n (if nbit f.mod 4 then 4 else 8)))
    | 0x48 => some (((e.a f n (if nbit f.mod 4 then 8 else 4)).b f (runWords n 16)).d f n)
    | 0x49 => some (e.a f (2 * n) 32)
    | 0x50 => some (VRuns.reduce f n)
    | 0x51 => some (VRuns.reduce f n)
    | 0x52 => some (VRuns.reduce f n)
    | 0x53 => some (VRuns.reduce f n)
    | 0x54 => some ((e.a f n 32).d f (2 * (f.mod + 1)))
    | 0x55 => some (((e.a f n 32).b f n).d f (2 * (f.mod + 1)))
    | 0x60 => some ((e.b f n).d f n)
    | 0x61 => some ((e.a f n 32).b f n)
    | 0x68 => some { (e.d f n) with scalarB := true, good := decide (f.mod % 4 ≠ 3) }
    | 0x69 => some { (e.a f n 32) with scalarB := true, good := decide (f.mod % 4 ≠ 3) }
    | 0x71 => some { e with scalarD := true, scalarB := true, good := decide (f.mod ≤ 5) }
    | 0x7F => some e
    | _ => none

/-- Whether two runs share a word without starting at the same one. -/
def badOverlap (x y : Nat × Nat) : Bool := decide (x.1 ≠ y.1 ∧ x.1 < y.1 + y.2 ∧ y.1 < x.1 + x.2)

/-- Whether an instruction word passes R114. -/
def vWordOk (w : BitVec 64) : Bool :=
  let f := VF.ofWord w
  if vOpc w = 0x70 then decide (f.cnt = 0 ∧ f.dst < 16)
  else match vRuns (vOpc w) f with
    | none => false
    | some r =>
      r.good && (decide (f.spa = 1) || decide (f.addra < 4096)) && (!r.scalarD || decide (f.dst < 16)) && (!r.scalarB || decide (f.srcb < 16)) &&
      (decide (r.acc = 0) || decide (f.addra + r.acc ≤ 8192)) && ((r.srcs ++ r.dsts).all fun x => decide (x.1 + x.2 ≤ 4096)) &&
      r.dsts.all fun x => r.srcs.all fun y => !badOverlap x y

/-- Item 7 of R258. -/
def Plan.programsOk (p : Plan) : Bool :=
  p.programs.all fun ws => decide (ws.length ≤ 2048) && (ws.any fun w => decide (vOpc w = 0x7F)) && ws.all vWordOk

/-! ### The plan (R48, R169, R170, R175, R177, R178, R189, R196) -/

/-- A tensor descriptor (R170). -/
def TDesc.planOk (d : TDesc) : Bool :=
  !d.resv && decide (d.tier ≤ 4) && decide ((if d.comp then 1 else 0) + (if d.esc then 1 else 0) + (if d.mxs then 1 else 0) ≤ 1) && decide (d.rows % 16 = 0 ∧ d.cols % 16 = 0)

/-- Whether KSPEC is of the template's kind and in the ranges of R175. -/
def Desc.specOk (d : Desc) : Bool :=
  match d.kind, d.k with
  | .vmvm, .vmvm _ _ rbs vecs f _ _ _ => decide (1 ≤ rbs ∧ rbs ≤ 64 ∧ (f = 8 ∨ f = 9) ∧ 1 ≤ vecs ∧ vecs ≤ if f = 9 then 3 else 1)
  | .fgemm, .fgemm _ _ _ sh i _ _ => decide (sh ≤ 2 ∧ 1 ≤ i ∧ i ≤ 8)
  | .fattn, .fattn .. => true
  | .vprog, .vprog .. => true
  | .move, .move .. => true
  | .kvscat, .kvscat .. => true
  | .kvflush, .kvflush .. => true
  | .route, .route experts k tokens gate => decide (experts ≤ 256 ∧ 1 ≤ k ∧ k ≤ 8 ∧ 1 ≤ tokens ∧ tokens ≤ 16 ∧ gate ≤ 1)
  | .corr, .corr w _ _ => decide (w ≤ 1)
  | .sync, .sync => true
  | _, _ => false

/-- Whether a template's written operands lie in tiers 0..2 (R196). -/
def Plan.tiersOk (p : Plan) (t : Template) : Bool :=
  (p.writesOf t).all fun h => match p.desc h with | some d => decide (d.tier ≤ 2) | none => true

/-- The invocations of a group, each with its index, that signal an object. -/
def Group.signallers (g : Group) (obj : Nat) : List (Nat × Invocation) :=
  (g.invs.zipIdx.map fun x => (x.2, x.1)).filter fun x => x.2.sigs.any fun y => decide (y.obj = obj)

/-- The invocations, by their places in the step graph, whose signals a wait of an invocation is on: of its group, of the group before, or, for a persistent object, any invocation before it (R169, R180). -/
def waitSources (done : List Invocation) (before g : Group) (obj : Nat) : List Nat :=
  let b := done.length
  if obj < 256 then (g.signallers obj).map (b + ·.1)
  else if obj < 512 then (done.zipIdx.filter fun x => x.1.sigs.any fun y => decide (y.obj = obj)).map (·.2)
  else (before.signallers (obj - 512)).map (b - before.invs.length + ·.1)

/-- For each invocation of a step graph the invocations that it reaches through waits, built from those before it. -/
def reachFrom (acc : List (List Nat)) (done : List Invocation) (before : Group) : List Group → List (List Nat)
  | [] => acc
  | g :: l =>
    let acc := g.invs.foldl (fun acc v =>
      let direct := v.waits.flatMap (waitSources done before g)
      acc ++ [(direct ++ direct.flatMap fun j => (acc[j]?).getD []).dedup]) acc
    reachFrom acc (done ++ g.invs) g l

/-- Whether every wait inside the group is on objects that earlier invocations signal: no cycle. -/
def Group.ordered (g : Group) : Bool :=
  (g.invs.zipIdx.all fun x => (x.1.waits.filter fun o => decide (o < 256)).all fun o => (g.signallers o).all fun y => decide (y.1 < x.2))

/-- The limits of R169 and the counts and thresholds of R189. -/
def Group.limitsOk (g : Group) : Bool :=
  decide (g.invs.length ≤ 1024 ∧ g.thresh.length ≤ 256) &&
  (g.invs.all fun v => decide (v.waits.length ≤ 2 ∧ v.sigs.length ≤ 2)) &&
  g.thresh.zipIdx.all fun x => decide (x.1 ≤ ((g.invs.flatMap fun v => v.sigs.filter fun y => decide (y.obj = x.2)).map (·.inc)).sum)

/-- Whether every invocation reaches each other invocation that writes what it reads: every one of its own group, and of the groups before it. A writer in a later group, which nothing before it can reach, breaks no rule: a tensor may be written anew (R189; DEDUCED, log entry 37). -/
def Plan.readsReach (p : Plan) (gs : List Group) : Bool :=
  let r := reachFrom [] [] Group.init gs
  let invs := (gs.zipIdx.flatMap fun x => x.1.invs.map fun v => (x.2, p.reads (p.tmpl v), p.writesOf (p.tmpl v))).zipIdx
  invs.all fun x => invs.all fun y =>
    decide (x.2 = y.2) || decide (x.1.1 < y.1.1) || ((r[x.2]?).getD []).contains y.2 ||
    x.1.2.1.all fun h => decide (h = Handle.init) || !y.1.2.2.contains h

/-- The objects that an invocation signals. -/
def Invocation.objs (v : Invocation) : List Nat := v.sigs.map (·.obj)

/-- Whether an invocation waits on one of some objects of a group: its own, or the one before. -/
def Invocation.waitsOn (v : Invocation) (later : Bool) (objs : List Nat) : Bool :=
  v.waits.any fun o => if later then decide (512 ≤ o) && objs.contains (o - 512) else objs.contains o

/-- Whether an invocation is a CORR whose WAIT1 is on one of some objects. -/
def Plan.corrects (p : Plan) (w : Invocation) (later : Bool) (objs : List Nat) : Bool :=
  decide ((p.tmpl w).d.kind = .corr) && ({ w with waits := (w.waits.drop 1).take 1 } : Invocation).waitsOn later objs

/-- The CORRs of a VMVM's results, in its group and in the next (R177). -/
def Plan.corrsOf (p : Plan) (g next' : Group) (v : Invocation) : List Invocation × List Invocation :=
  (g.invs.filter fun w => p.corrects w false v.objs, next'.invs.filter fun w => p.corrects w true v.objs)

/-- Whether a VMVM of INT4-X weights has its CORR, which waits on it (R177). -/
def Plan.corrPresent (p : Plan) (g next' : Group) (v : Invocation) : Bool :=
  let t := p.tmpl v
  let c := p.corrsOf g next' v
  decide (t.d.kind ≠ .vmvm) || decide (((p.projs[p.setOf t]?).getD Proj.init).enc ≠ .int4x) || !c.1.isEmpty || !c.2.isEmpty

/-- Whether every invocation that waits on a VMVM which has a CORR waits on the CORR too (R177). -/
def Plan.corrWaited (p : Plan) (g next' : Group) (v : Invocation) : Bool :=
  let c := p.corrsOf g next' v
  decide ((p.tmpl v).d.kind ≠ .vmvm) || (c.1.isEmpty && c.2.isEmpty) ||
  ((g.invs.all fun w => c.1.contains w || !w.waitsOn false v.objs || w.waitsOn false (c.1.flatMap (·.objs))) &&
   next'.invs.all fun w => c.2.contains w || !w.waitsOn true v.objs || w.waitsOn true (c.1.flatMap (·.objs)) || w.waitsOn false (c.2.flatMap (·.objs)))

/-- Whether an INDIRECT VMVM waits on the ROUTE that writes its route record, in its group or the one before (R178). -/
def Plan.routeWaited (p : Plan) (before g : Group) (v : Invocation) : Bool :=
  match (p.tmpl v).d.k with
  | .vmvm _ _ _ _ _ true _ _ =>
    v.waits.any fun o =>
      let gr := if o < 512 then g else before
      (gr.signallers (if o < 512 then o else o - 512)).any fun x => decide ((p.tmpl x.2).d.kind = .route) && decide ((p.tmpl x.2).d.opC = (p.tmpl v).d.opD)
  | _ => true

/-- One step graph, group after group. -/
def Plan.graphOk (p : Plan) : Group → List Group → Bool
  | _, [] => true
  | before, g :: l =>
    g.limitsOk && g.ordered && (g.invs.all fun v => p.corrPresent g (l.headD Group.init) v && p.corrWaited g (l.headD Group.init) v && p.routeWaited before g v) && p.graphOk g l

/-- The outlier maps: at most 64 rows, each once, each below N (R48). -/
def Image.mapsOk (i : Image) : Bool :=
  i.params.maps.all fun m => decide (m.2.length ≤ 64) && decide m.2.Nodup &&
    m.2.all fun r => decide (r < (i.proj (i.plan.setOf ((i.plan.templates[m.1]?).getD Template.init))).inputs)

/-- Item 8 of R258. -/
def Image.planOk (i : Image) : Bool :=
  let p := i.plan
  i.mapsOk && decide (p.templates.length ≤ 65536 ∧ p.tensors.length ≤ 2 ^ 30 ∧ p.graphs.length ≤ 4 ∧ p.persistent.length ≤ 16) &&
  ((p.tensors ++ p.scratch).all (·.planOk)) && (p.templates.all fun t => !t.resv && !t.d.resv && t.d.specOk && p.tiersOk t) &&
  !p.graphResv && p.acyclic && p.graphs.all fun g => p.graphOk Group.init g && p.readsReach g

/-! ### Holding times (R188) and the expander (R162) -/

/-- Lanes and latency of an opcode in hs, LD and ST at 56 (R116, R188). -/
def vRate (opc : Nat) (f : VF) : Nat × Nat :=
  let w := if nbit f.mod 0 then 64 else 32
  if opc ≤ 9 ∨ (0x11 ≤ opc ∧ opc ≤ 0x16) then (w, 6)
  else if 0x21 ≤ opc ∧ opc ≤ 0x28 then (16, 14)
  else match opc with
    | 0x30 => (32, 8) | 0x31 => (32, 20) | 0x32 => (16, 16) | 0x40 => (32, 6) | 0x41 => (32, 6) | 0x42 => (32, 10)
    | 0x43 => (32, 8) | 0x45 => (32, 4) | 0x46 => (32, 6) | 0x48 => (32, 8) | 0x49 => (16, 10)
    | 0x50 => (32, 12) | 0x51 => (32, 12) | 0x52 => (32, 12) | 0x53 => (32, 12)
    | 0x54 => (4, f.mod + 17) | 0x55 => (4, f.mod + 17) | 0x60 => (16, 6) | 0x61 => (16, 6) | 0x68 => (16, 56) | 0x69 => (16, 56)
    | 0x70 => (4096, 2) | 0x71 => (4096, 6) | _ => (4096, 0)

/-- Beats and latency of one instruction; ESCF takes 72 hs. -/
def vWordHs (w : BitVec 64) : Nat :=
  let f := VF.ofWord w
  let r := vRate (vOpc w) f
  if vOpc w = 0x44 then 72 else cdiv (f.cnt + 1) r.1 + r.2

/-- The largest wait for each compressed block, hs (R163). -/
def blockWait (fmt : Nat) : Nat := if fmt = 1 then 28 else if fmt = 0 then 4 else 16

/-- Octets that take `n` ns at 38.4 GB/s, times 5 and 192: whether `bytes` stay within a time, with what else the time holds. -/
def bytesFit (bytes rest : Nat) : Bool := decide (bytes * 5 + rest * 192 ≤ 50000 * 192)

/-- The waits of the compressed static operands of a fabric template, hs. -/
def Plan.blockWaits (p : Plan) (t : Template) : Nat :=
  (([t.d.opA, t.d.opB].filterMap p.desc).map fun d => if d.comp then d.places * blockWait d.fmt else 0).sum

/-- Octets that a fabric template reads from DRAM. -/
def Plan.dramOctets (p : Plan) (t : Template) : Nat :=
  (([t.d.opA, t.d.opB, t.d.opD].filterMap p.desc).map fun d => if d.tier = 2 then d.octets else 0).sum

/-- Whether a template runs in the prefill graph. -/
def Plan.inPrefill (p : Plan) (t : Template) : Bool := ((p.graphs[1]?).getD []).any fun g => g.invs.any fun v => decide (p.tmpl v = t)

/-- One attention operation in one KV format: the passes of each key tile for the group's heads, or in prefill for the chunk's positions head after head, DQT for MXFP8, the waits of a compressed query operand, and the octets of keys, values and query (R131, R132, R134). -/
def Plan.attHolds (p : Plan) (t : Template) (g keys : Nat) (kv : KvFmt) : Bool :=
  let d := p.headDim
  let tile := keysPerTile t.shape t.inter
  let rr := if p.inPrefill t then (max 1 p.chunk, g) else (g, 1)
  let dq := if kv = .mxfp8 then 2 * cdiv (tile * d) 64 else 0
  let hs := cdiv keys tile * (tileHs t.shape t.inter rr.1 d tile rr.2 kv + dq) + p.blockWaits { t with d := { t.d with opB := Handle.init } }
  decide (2 * hs + 56 ≤ 50000) && bytesFit (2 * keys * d * kv.size + p.dramOctets { t with d := { t.d with opB := Handle.init, opD := Handle.init } }) 56

/-- Elements of the longest row of a CORR's corrections: its column blocks. -/
def corrHs (cols entries : Nat) : Nat := 8 * (cdiv cols 32 + 8) + (if entries = 0 then 0 else cdiv entries 16 + 10)

/-- Entries of the weight-escape table of a projection's column blocks (R126). -/
def Image.escapeEntries (i : Image) (p : Proj) (first count : Nat) : Nat :=
  ((List.range count).map fun k => ((i.block p (first + k)).map (·.side.length)).sum).sum

/-- Whether a template holds its unit for at most 50 us at the slow corner (R188). -/
def Image.holdsOk (i : Image) (t : Template) : Bool :=
  let p := i.plan
  match t.d.k with
  | .vmvm _ _ _ vecs f _ _ _ => decide (vecs * 16 * (if f = 9 then 4 else 8) * 200 + 4000 ≤ 50000)
  | .fgemm m n k sh il _ _ => decide ((passesOf (Shape.ofCode sh) il m n * passHs t.fmtA t.fmtB k il + p.blockWaits t) * 2 + 56 ≤ 50000) && bytesFit (p.dramOctets t) 56
  | .fattn _ rows _ keys _ => [KvFmt.e4m3, .bf16, .mxfp8].all (p.attHolds t rows keys)
  | .vprog .. => decide ((16 + ((p.progOf t).map vWordHs).sum) * 2 ≤ 50000)
  | .corr _ first count =>
    let q := (p.projs[t.proj]?).getD Proj.init
    decide ((16 + corrHs (count * q.enc.width) (i.escapeEntries q first count)) * 2 ≤ 50000)
  | .route experts k tokens _ => decide ((16 + tokens * (cdiv (if experts = 0 then 256 else experts) 4 + k + 16)) * 2 ≤ 50000)
  | .move _ tiles => bytesFit (tiles * match p.desc t.d.opA with | some d => d.tileOctets | none => 0) 0
  | .kvscat _ _ count _ => bytesFit (count * kvRec p) 0
  | .kvflush _ _ n => bytesFit (n * kvRec p) 0
  | .sync => true
where
  /-- The longest record of R139. -/
  kvRec (p : Plan) : Nat := 4 * p.kvHeads * p.headDim

/-- Item 9 of R258. -/
def Image.timesOk (i : Image) : Bool := i.plan.templates.all i.holdsOk

/-- Element demand of a compressed operand in eighths of an element for each hs: A, and B before its division (R162). -/
def demand (sh : Shape) (fmt : Nat) : Nat × Nat :=
  match sh, fmt with
  | .square, 0 => (16, 16) | .wide, 0 => (4, 64) | .strip, 0 => (1, 256)
  | .square, _ => (64, 64) | .wide, _ => (16, 256) | .strip, _ => (4, 1024)

/-- Whether a fabric template's compressed demand stays within 32 elements for each hs. -/
def Plan.demandOk (p : Plan) (t : Template) : Bool :=
  match t.d.k with
  | .fgemm _ _ _ sh i _ _ =>
    let a := match p.desc t.d.opA with | some d => if d.comp then (demand (Shape.ofCode sh) d.fmt).1 else 0 | none => 0
    let b := match p.desc t.d.opB with | some d => if d.comp then (demand (Shape.ofCode sh) d.fmt).2 else 0 | none => 0
    decide (a * i + b ≤ 32 * 8 * i)
  | .fattn .. => match p.desc t.d.opA with | some d => !d.comp || decide ((demand t.shape d.fmt).1 ≤ 32 * 8) | none => true
  | _ => true

/-- Item 10 of R258. -/
def Plan.ratesOk (p : Plan) : Bool := p.templates.all p.demandOk

/-! ### Quotas (R203) and the order of R258 -/

/-- The stratum sets that the VMVM templates of a plan run. -/
def Plan.vmvmSets (p : Plan) : List Nat := ((p.templates.filter fun t => decide (t.d.kind = .vmvm)).flatMap p.projsOf).dedup

/-- The weight-escape table of a stratum set: its side entries by column block, then by input position, then by output column, each with its value, output column and input position (R126). -/
def Image.escapeTable (i : Image) (k : Nat) : List (BitVec 16 × Nat × Nat) :=
  let p := i.proj k
  if p.enc = .int4x then
    (List.range p.colBlocks).flatMap fun cb => (i.block p cb).zipIdx.flatMap fun x => x.1.side.map fun e => (e.value, cb * 1024 + e.col, x.2 * 2048 + e.row)
  else []

/-- Where the weight-escape tables of an image begin in MODEL, behind its outlier-map rows (R126; log entry 72). -/
def Image.sideOffset (i : Image) : Nat := i.mapOffset + 512 * i.mapKeys.length

/-- Where its compression tables begin (R158). -/
def Image.tableOffset (i : Image) : Nat := cdiv (i.sideOffset + 8 * (i.plan.vmvmSets.map fun k => (i.escapeTable k).length).sum) 16 * 16

/-- Octets of an image's MODEL contents: the digital tensors and their block maps, the rotary frequencies, the outlier-map rows of every column block, the weight-escape tables and a compression table for each marked tensor (R48, R126, R136, R158, R257). -/
def Image.modelOctets (i : Image) : Nat := i.tableOffset + tableBytes * i.marked.length

/-- Items 1 to 10 of R258, which need nothing but the image. -/
def Image.status (i : Image) : Nat :=
  if i.structureStatus ≠ Bdp.ok then i.structureStatus
  else if !i.plan.formatsOk then Bdp.formatUnsupported
  else if !i.rangesOk then Bdp.outOfRange
  else if !i.scalesOk then Bdp.scaleMismatch
  else if !i.plan.shapesOk then Bdp.shapeLimit
  else if i.escapeStatus ≠ Bdp.ok then i.escapeStatus
  else if !i.plan.programsOk then Bdp.vprogInvalid
  else if !i.planOk then Bdp.planInvalid
  else if !i.timesOk then Bdp.opTooLong
  else if !i.plan.ratesOk then Bdp.expanderRate
  else Bdp.ok

/-- Item 11 of R258: the MODEL contents fit beside what DRAM_MODEL holds, and the largest step's scratch, but for what its windows hold, fits in DRAM_SCRATCH. -/
def State.quotaOk (s : State) (t : Nat) (i : Image) : Bool :=
  s.fits t .modelC i.modelOctets && decide (i.plan.scratchNeed + s.beyondWindow t i.plan ≤ s.subQuota t 6 * 2 ^ 20)

end Sys2Proof.Machine
end

