-- ==== Sys2Proof/Machine/Digest.lean ====
section
/-! DEFINITION. Digests of the dictionary, attestation reports and the record keys of a handshake (R281..R283, R381..R384). -/

namespace Sys2Proof.Machine

/-! ### Digests (R383) -/

/-- Every entry code of a row. -/
def EntryDesc.codes (e : EntryDesc) : List Nat :=
  ((List.range (e.hi + 1 - e.lo)).flatMap fun i => (List.range (e.shi + 1 - e.slo)).map fun j => entryCode (e.lo + i) (e.slo + j)).filter e.has

/-- Entries that satisfy `p`, each with its code, in ascending index and subindex. -/
def entryCodes (p : EntryDesc → Bool) : List (Nat × EntryDesc) :=
  ((Entry.rows.filter p).flatMap fun e => e.codes.map fun c => (c, e)).mergeSort fun x y => decide (x.1 ≤ y.1)

/-- An item in the layout of R349, zero octets padding its value. -/
def itemBytes (code ty : Nat) (v : Bytes) : Bytes :=
  le 2 (code / 256) ++ le 1 code ++ le 1 ty ++ le 2 v.length ++ le 2 0 ++ v ++ List.replicate ((4 - v.length % 4) % 4) 0

/-- The value or default of an entry that a profile holds (R361, R364). -/
def State.profileValue (s : State) (profile code : Nat) (e : EntryDesc) : Nat := mget (e.default profile) s.dict.profiles (profile * 2 ^ 24 + code)

/-- The value of a writable entry as it is in force: present, or stored (R359). -/
def State.settingOf (s : State) (code : Nat) (e : EntryDesc) : Nat :=
  if e.profileScoped then mget (e.default 0) s.dict.present code else mget (e.default 0) s.dict.stored code

/-- Whether a profile holds an entry: a value for each profile-scoped entry, a default for each stored one. -/
def EntryDesc.inProfile (e : EntryDesc) : Bool := e.profileScoped || e.storedScoped

/-- PROFILE_DIGEST (R383). -/
def State.profileDigest (s : State) : Bytes :=
  shake256 ((entryCodes (·.inProfile)).flatMap fun x => itemBytes x.1 x.2.ty (x.2.octets (s.profileValue s.dict.active x.1 x.2))) 32

/-- NAME, TAG and stamp of a current model image. -/
def ModelSlot.naming (m : ModelSlot) : Bytes :=
  match m.current with
  | some i => le 32 i.header.name.toNat ++ le 16 i.header.tag.toNat ++ le 4 m.stamp
  | none => []

/-- TENANT_DIGEST (R383). -/
def State.tenantDigest (s : State) (t : Nat) : Bytes :=
  let es := (entryCodes fun e => decide (e.ten ≠ 0) && (e.acc == 1 || e.acc == 2)).filter fun x => x.2.tenant x.1 == t
  let items := es.flatMap fun x =>
    let v := x.2.octets (s.settingOf x.1 x.2)
    if x.2.acc = 2 then itemBytes x.1 10 (shake256 v 32) else itemBytes x.1 x.2.ty v
  shake256 (items ++ le 4 (s.pointer t) ++ (List.range 4).flatMap fun k => (s.mslot t k).naming) 32

/-! ### Reports (R381, R382) -/

/-- The trust block's counter after one more signature (R381). -/
def counterNext (c : Nat) : Nat := if c = 2 ^ 64 - 1 then c else c + 1

/-- The bytes of a report that the signature covers (R382). -/
def State.reportBody (s : State) (bdp : Bool) (tenant nonce pub : Nat) : Bytes :=
  let c := counterNext s.trust.counter
  let fw := s.fwSlot s.ctl.fwActive
  let flags := flagBits [s.clk.timeUnknown, s.trust.debug, decide (s.ctl.fwState = .trial), decide (c = 2 ^ 64 - 1)]
  let td := if tenant ≠ 0 ∧ (s.tenState tenant = .forming ∨ s.tenState tenant = .active) then s.tenantDigest tenant else List.replicate 32 0
  le 4 0x54415156 ++ le 2 1 ++ le 1 (if bdp then 1 else 0) ++ le 1 tenant ++ (s.ident.deviceId ++ List.replicate 32 0).take 32 ++ le 8 c ++ le 8 s.clk.cal ++ le 8 s.now ++
    le 4 flags ++ le 1 s.dict.active ++ le 1 s.ctl.fwActive ++ le 2 0 ++ le 4 fw.version ++ le 4 s.trust.secCounter ++ le 32 nonce ++
    shake256 (le 1568 pub) 32 ++ ((List.range 9).flatMap fun i => le 32 ((s.trust.measures[i]?).getD 0)) ++ s.profileDigest ++ td ++ List.replicate 16 0

/-! ### Handshake keys (R283) -/

/-- D of R283. -/
def Conn.digest (c : Conn) : Bytes := shake256 c.transcript 32

/-- K of R283: 176 octets. -/
def Conn.recordKeys (c : Conn) (secret : Bytes) : Bytes := shake256 (secret ++ c.digest) 176

end Sys2Proof.Machine
end

