-- ==== Sys2Proof/Machine/Tokens.lean ====
section
/-! DEFINITION. Text and tokens: UTF-8, segmentation, merging, detokenisation, sampling and stop strings (R291..R294). -/

namespace Sys2Proof.Machine

/-! ### UTF-8 -/

/-- Octets of the character that a lead octet begins; 0 for an octet that begins none. -/
def utf8Need (b : Nat) : Nat := if b < 0x80 then 1 else if b < 0xC2 then 0 else if b < 0xE0 then 2 else if b < 0xF0 then 3 else if b < 0xF5 then 4 else 0

/-- Whether an octet continues a character. -/
def utf8Cont (b : Nat) : Bool := decide (0x80 ≤ b ∧ b < 0xC0)

/-- The code point of one character's octets. -/
def codePoint : Bytes → Nat
  | [a] => a
  | [a, b] => a % 32 * 64 + b % 64
  | [a, b, c] => a % 16 * 4096 + b % 64 * 64 + c % 64
  | [a, b, c, d] => a % 8 * 262144 + b % 64 * 4096 + c % 64 * 64 + d % 64
  | _ => 0

/-- Whether octets are one well-formed character: no overlong form, no surrogate, at most U+10FFFF. -/
def charOk (c : Bytes) : Bool :=
  let p := codePoint c
  (c.drop 1).all utf8Cont &&
  (decide (c.length ≠ 3) || (decide (0x800 ≤ p) && !decide (0xD800 ≤ p ∧ p < 0xE000))) && (decide (c.length ≠ 4) || decide (0x10000 ≤ p ∧ p ≤ 0x10FFFF))

/-- The characters of a text; none where it is not valid UTF-8. -/
def chars : Nat → Bytes → Option (List Bytes)
  | _, [] => some []
  | 0, _ => none
  | n + 1, b :: t =>
    let k := utf8Need b
    if k = 0 ∨ (b :: t).length < k then none
    else if charOk ((b :: t).take k) then (chars n ((b :: t).drop k)).map fun l => (b :: t).take k :: l
    else none

/-- Octets at the end of a text that begin a character and do not complete it. -/
def incompleteTail (t : Bytes) : Nat :=
  let back := fun k => (t[t.length - k]?).getD 0
  let at' := fun k => decide (k ≤ t.length) && decide (k < utf8Need (back k)) && ((List.range (k - 1)).all fun j => utf8Cont (back (j + 1)))
  if at' 1 then 1 else if at' 2 then 2 else if at' 3 then 3 else 0

/-! ### Segments (R292) -/

/-- The class of a code point: 0 letter, 1 digit, 2 whitespace, 3 punctuation, 4 other; ASCII as Unicode gives it, beyond it by Config. -/
def charClass (p : Nat) : Nat :=
  if (0x41 ≤ p ∧ p ≤ 0x5A) ∨ (0x61 ≤ p ∧ p ≤ 0x7A) then 0
  else if 0x30 ≤ p ∧ p ≤ 0x39 then 1
  else if (9 ≤ p ∧ p ≤ 13) ∨ p = 0x20 then 2
  else if [0x21, 0x22, 0x23, 0x25, 0x26, 0x27, 0x28, 0x29, 0x2A, 0x2C, 0x2D, 0x2E, 0x2F, 0x3A, 0x3B, 0x3F, 0x40, 0x5B, 0x5C, 0x5D, 0x5F, 0x7B, 0x7D].contains p then 3
  else if p < 0x80 then 4
  else min 4 (Config.unicodeClass p)

/-- Runs of characters of one class. -/
def runsOf : List Bytes → List (Nat × Bytes)
  | [] => []
  | c :: l =>
    let k := charClass (codePoint c)
    match runsOf l with
    | (k', bs) :: r => if k = k' then (k, c ++ bs) :: r else (k, c) :: (k', bs) :: r
    | [] => [(k, c)]

/-- A final U+0020 of a whitespace run that another segment follows leaves the run and joins that segment. -/
def joinSpaces : List (Nat × Bytes) → List Bytes
  | (2, ws) :: (k, bs) :: r =>
    if ws.getLast? = some 0x20 then (if ws.length = 1 then [] else [ws.dropLast]) ++ joinSpaces ((k, 0x20 :: bs) :: r)
    else ws :: joinSpaces ((k, bs) :: r)
  | (_, bs) :: r => bs :: joinSpaces r
  | [] => []
termination_by l => l.length

/-- The lowest token whose string is one octet. -/
def Tokeniser.byteToken (t : Tokeniser) (b : Nat) : Nat := ((List.range t.strings.length).find? fun k => decide ((t.strings[k]?).getD [] = [b])).getD 0

/-- The rank of the merge of a pair. -/
def Tokeniser.rankOf (t : Tokeniser) (a b : Nat) : Option Nat := (List.range t.merges.length).find? fun k => match t.merges[k]? with | some m => decide (m.1 = a ∧ m.2.1 = b) | none => false

/-- The lowest rank present. -/
def Tokeniser.lowest (t : Tokeniser) : List Nat → Option Nat
  | a :: b :: l =>
    match t.rankOf a b, t.lowest (b :: l) with
    | some x, some y => some (min x y)
    | some x, none => some x
    | none, y => y
  | _ => none

/-- A merge applied to every pair that it matches, left to right. -/
def mergeAll (m : Nat × Nat × Nat) : Nat → List Nat → List Nat
  | n + 1, a :: b :: l => if a = m.1 ∧ b = m.2.1 then m.2.2 :: mergeAll m n l else a :: mergeAll m n (b :: l)
  | _, l => l

/-- Merges until none applies. -/
def Tokeniser.mergeLoop (t : Tokeniser) : Nat → List Nat → List Nat
  | 0, l => l
  | n + 1, l =>
    match t.lowest l with
    | none => l
    | some r => t.mergeLoop n (mergeAll ((t.merges[r]?).getD (0, 0, 0)) l.length l)

/-- The tokens of a text without special tokens. -/
def Tokeniser.plain (t : Tokeniser) (cs : List Bytes) : List Nat :=
  (joinSpaces (runsOf cs)).flatMap fun seg => t.mergeLoop seg.length (seg.map t.byteToken)

/-- The special token that begins a text: the longest, of equal strings the first of the table. -/
def Tokeniser.special (t : Tokeniser) (text : Bytes) : Option (Nat × Nat) :=
  let hits := (t.specials.map fun x => (x.1, (t.strings[x.1]?).getD [])).filter fun x => decide (0 < x.2.length) && x.2.isPrefixOf text
  (minBy (fun (x : Nat × Bytes) => 256 - x.2.length) hits.reverse).map fun x => (x.1, x.2.length)

/-- A text cut at the special tokens in it: pieces of text, and specials. -/
def Tokeniser.cut (t : Tokeniser) : Nat → Bytes → Bytes → List (Bytes ⊕ Nat)
  | 0, acc, rest => [.inl (acc ++ rest)]
  | _, acc, [] => [.inl acc]
  | n + 1, acc, b :: l =>
    match t.special (b :: l) with
    | some (k, len) => .inl acc :: .inr k :: t.cut n [] ((b :: l).drop len)
    | none => t.cut n (acc ++ [b]) l

/-- TOKENISE (R292): the tokens of a text; none where it is not valid UTF-8. -/
def Tokeniser.tokens (t : Tokeniser) (specialText : Bool) (text : Bytes) : Option (List Nat) :=
  match chars text.length text with
  | none => none
  | some cs =>
    if specialText then
      some ((t.cut text.length [] text).flatMap fun x => match x with
        | .inl bs => t.plain ((chars bs.length bs).getD [])
        | .inr k => [k])
    else some (t.plain cs)

/-- Whether a token is flagged EOS. -/
def Tokeniser.isEos (t : Tokeniser) (k : Nat) : Bool := t.specials.any fun x => decide (x.1 = k) && x.2

/-- DETOKENISE (R292): the strings of tokens, EOS tokens contributing nothing. -/
def Tokeniser.text (t : Tokeniser) (l : List Nat) : Bytes := l.flatMap fun k => if t.isEos k then [] else (t.strings[k]?).getD []

/-! ### Stop strings (R292, R294) -/

/-- Octets before the first match of a stop string in a text. -/
def firstStop (stops : List Bytes) : Bytes → Option Nat
  | [] => none
  | b :: t => if stops.any fun x => x.isPrefixOf (b :: t) then some 0 else (firstStop stops t).map (· + 1)

/-- Octets of the longest tail of a text that is a proper prefix of a stop string. -/
def withheld (stops : List Bytes) : Bytes → Nat
  | [] => 0
  | b :: t => if stops.any fun x => decide ((b :: t).length < x.length) && (b :: t).isPrefixOf x then (b :: t).length else withheld stops t

/-- Octets of a text that a message before the final one may carry: complete characters, the withheld tail left out. -/
def sendable (stops : List Bytes) (t : Bytes) : Nat :=
  let u := t.take (t.length - withheld stops t)
  u.length - incompleteTail u

/-- The final text: a trailing incomplete character becomes U+FFFD. -/
def finalText (t : Bytes) : Bytes := if incompleteTail t = 0 then t else t.take (t.length - incompleteTail t) ++ [0xEF, 0xBF, 0xBD]

/-! ### Sampling (R293) -/

/-- Candidates in descending logit, ties to the lower token. -/
def byLogit (l : List (Nat × BitVec 32)) : List (Nat × BitVec 32) :=
  l.mergeSort fun x y => rankBelow (f32 y.2) (f32 x.2) || (!rankBelow (f32 x.2) (f32 y.2) && decide (x.1 ≤ y.1))

/-- Step 1: the repetition penalty. -/
def penalise (r : Req) (window : List Nat) (x : Nat × BitVec 32) : Nat × BitVec 32 :=
  if window.contains x.1 then
    (x.1, if (Val.fin false 0 0).lt (f32 x.2) then toF32 ((f32 x.2).div (f32 r.repPenalty)) else mulF32 x.2 r.repPenalty)
  else x

/-- The first position whose cumulative sum passes a test, with what precedes it. -/
def firstSum (test : BitVec 32 → Bool) : BitVec 32 → Nat → List (BitVec 32) → Option Nat
  | _, _, [] => none
  | acc, i, p :: l => let a := addF32 acc p; if test a then some i else firstSum test a (i + 1) l

/-- SAMPLE_TOKEN (R293) from the candidates, the tokens of the repetition window and the output index. -/
def sampleToken (r : Req) (window : List Nat) (index : Nat) (cands : List (Nat × BitVec 32)) : Nat :=
  let zs := byLogit ((cands.take 64).map (penalise r window))
  if (f32 r.temperature).isZero then (zs.headD (0, 0)).1
  else
    let zs := (byLogit (zs.map fun x => (x.1, toF32 ((f32 x.2).div (f32 r.temperature))))).take (if r.topK = 0 then 64 else r.topK)
    let ps := (List.range zs.length).map (Config.softmax (zs.map (·.2)))
    let floor := mulF32 r.minP (ps.headD 0)
    let kept := (zs.zip ps).filter fun x => !ltF32 x.2 floor
    let n := match firstSum (fun a => !ltF32 a r.topP) 0 0 (kept.map (·.2)) with | some i => i + 1 | none => kept.length
    let kept := kept.take n
    let total := (kept.map (·.2)).foldl addF32 0
    let u : Val := .fin false (unle (shake256 (le 8 r.seed ++ le 8 r.id ++ le 8 index) 4)) (-32)
    match firstSum (fun a => u.lt (f32 a)) 0 0 (kept.map fun x => toF32 ((f32 x.2).div (f32 total))) with
    | some i => ((kept[i]?).getD ((0, 0), 0)).1.1
    | none => ((kept.getLast?).getD ((0, 0), 0)).1.1

end Sys2Proof.Machine
end

