-- ==== Sys2Proof/Machine/ServiceOps.lean ====
section
/-! DEFINITION. The shared operations of the ASX service: statuses, channels and their end, session handles, limits, output, the end of a request and of a session (R280..R297). -/

namespace Sys2Proof.Machine

/-! ### Connections and channels (R280..R284) -/

/-- A value that the spec leaves open, `what` naming which, and the state in which it is used up (log entry 2). -/
def State.freeValue (s : State) (what : Nat) : Nat × State := (Config.freeNat what s.trust.fresh, s.drawn)

/-- A TRNG draw of `bits` bits (R379). -/
def State.trng (s : State) (bits : Nat) : Nat × State := (Config.trng bits s.trust.fresh % 2 ^ bits, s.drawn)

/-- Connections of a kind that hold a place (R280, R345): those that have been turned away with BUSY hold none. -/
def State.places (s : State) (k : ConnKind) : Nat := (s.connsWhere fun c => decide (c.kind = k) && decide (c.phase ≠ .closed)).length

/-- Number `i` of PORT_NUMBERS: BDP, ASX stream, ASX datagram, Mirror export (R336). -/
def State.serviceNumber (s : State) (i : Nat) : Nat := nbits (s.sv 0x3000 1 13965031104714621386) (16 * i) 16

/-- SERVICES of a host port (R336, R341). -/
def State.servicesOf (s : State) (port : Nat) : Nat := s.eff port 18

/-- The trust block no longer works on a connection's handshake, nor queues it. -/
def State.leaveTrust (s : State) (c : Nat) : State :=
  { s with svc := { s.svc with working := s.svc.working.filter fun k => decide (k ≠ c), waiting := s.svc.waiting.filter fun k => decide (k ≠ c) } }

/-- A connection ends: its keys and its output go with it; transactions that CC7 has accepted from it still complete (R283, R284, R345). -/
def State.closeConn (s : State) (c : Nat) : State :=
  (s.leaveTrust c).modConn c fun o => o.bind fun k =>
    if 0 < k.waiting then some { k with phase := .closed, keys := [], out := [], dgOut := [], outBytes := 0, toQueue := [], events := [] } else none

/-- A connection answered with BUSY and closed: the message goes out, and the connection holds no place (R280, R281, R345). -/
def State.turnAway (s : State) (c retryMs : Nat) : State :=
  ((s.leaveTrust c).modConn c fun o => o.map fun k => { k with phase := .closed, deadline := none }).send c (.busy retryMs)

/-- A handshake that fails closes its connection without a message (R281, R344). -/
def State.failHandshake (s : State) (c : Nat) : State :=
  match s.conn c with
  | none => s
  | some k => (s.closeConn c).count (if k.kind = .asx then 0xAE00 else 0xA010) 2 1

/-- The Mirror record of a client message (R425). -/
def State.inbound (s : State) (t conn msg : Nat) (body : Bytes) : State := if t = 0 then s else s.capture t (.inbound conn msg body)

/-- A reply goes by the transport of its message (R284). -/
def State.reply (s : State) (c : Nat) (dgram : Bool) (msg : OutMsg) : State := s.post c msg (s.msgPcp msg) dgram

/-- STATUS (R285). -/
def State.replyStatus (s : State) (c : Nat) (dgram : Bool) (req handle status retry : Nat) : State := s.reply c dgram (.status req handle status retry)

/-! ### Sessions: handles, models and adapters (R285, R289, R290) -/

/-- The session that a handle names, with the status of R296 step 2: OK, or why the channel cannot use it. -/
def State.findSession (s : State) (c : Conn) (handle : Nat) : Nat × Nat :=
  let i := handle % 4096
  let x := s.session i
  if x.state = .free ∨ x.incarn ≠ handle / 65536 then (Asx.sessionUnknown, i)
  else if x.tenant ≠ c.tenant ∨ x.clientId ≠ c.clientId then (Asx.notOwned, i)
  else if x.state = .closed then (Asx.sessionClosed, i)
  else (Asx.ok, i)

/-- Whether a handle has a reserved bit set (R13, R285). -/
def handleResv (handle : Nat) : Bool := decide (handle / 4096 % 16 ≠ 0) || decide (2 ^ 32 ≤ handle)

/-- Whether a session may open on a model slot (R256). -/
def ModelSlot.serves (m : ModelSlot) : Bool := decide (m.state = .ready) || decide (m.state = .swapping) || (decide (m.state = .checking) && m.fromReady)

/-- Whether an ADAPTER byte selects none, or an adapter that is resident for the slot (R289, R290). -/
def State.adapterOk (s : State) (t slot ad : Nat) : Bool :=
  decide (ad = 0xFF) || (decide ((s.adapter (t * 16 + ad)).state = .resident) && decide ((s.adapter (t * 16 + ad)).binding = some slot))

/-- An ADAPTER byte. -/
def adapterOf (ad : Nat) : Option Nat := if ad = 0xFF then none else some ad

/-- Sessions of a tenant that satisfy `p`. -/
def State.sessionsWhere (s : State) (p : Session → Bool) : List Nat := (s.svc.sessions.filter fun e => p e.2).map (·.1)

/-- Whether a session is open. -/
def Session.isOpen (x : Session) : Bool := decide (x.state ≠ .free) && decide (x.state ≠ .closed)

/-- Octets of SESSION that a session reserves (R204). -/
def reservation (ctx sites : Nat) : Nat := cdiv (65536 + 4 * ctx + 128 * sites) 4096 * 4096

/-- CONTEXT_MAX of a tenant. -/
def State.contextMax (s : State) (t : Nat) : Nat := s.sv (0x6100 + t) 2 131072

/-- The image that a session's slot runs. -/
def State.sessionImage (s : State) (i : Nat) : Image :=
  match (s.mslot (s.session i).tenant (s.session i).slot).current with
  | some im => im
  | none => Image.init

/-- The tokeniser of a session's model. -/
def State.tokeniser (s : State) (i : Nat) : Tokeniser := (s.sessionImage i).tok

/-- The persistent objects of a plan are armed while the tenant's share has room (R180, R187): their numbers, in the plan's order; the others are armed when an operation first names them. -/
def State.armPersist (t : Nat) : List Nat → State → List Nat × State
  | [], s => ([], s)
  | th :: l, s =>
    if s.syncLeft t false = 0 then ([], s)
    else s.freeObj.elim ([], s) fun k =>
      let r := State.armPersist t l (s.modObj k fun _ => { thresh := th, owner := t, persistent := true })
      (k :: r.1, r.2)

/-- Persistent objects have no session or job any more: they are freed, those that an operation in flight names once its record is accepted (R180). -/
def State.freeObjs (s : State) (ks : List Nat) : State :=
  ({ s with ops := { s.ops with objs := mmodAll .init s.ops.objs ks fun x => { x with persistent := false } } } : State).sweepObjs

/-- A table of persistent objects by their number in the plan, each entry the object + 1. -/
def persistTable (ks : List Nat) : SMap Nat := (ks.zipIdx).foldl (fun m x => mset 0 m x.2 (x.1 + 1)) []

/-! ### Output (R284, R287, R292, R295) -/

/-- The output tokens of a request. -/
def Session.outTokens (x : Session) (r : Req) : List Nat := (x.history.drop r.outStart).take r.outCount

/-- The text that a request has put out, or will have: while it runs what may be sent, at its end all, or what stands before the first match of a stop string (R292, R294). -/
def Tokeniser.outText (t : Tokeniser) (x : Session) (r : Req) (final : Bool) : Bytes :=
  let text := t.text (x.outTokens r)
  if final then
    if r.stop = 2 then finalText (text.take ((firstStop r.stops text).getD text.length)) else finalText text
  else text.take (sendable r.stops text)

/-- A text cut into pieces of at most `limit` octets, each of whole characters. -/
def splitText (limit : Nat) : Nat → Bytes → List Bytes
  | 0, t => [t]
  | n + 1, t =>
    if t.length ≤ limit then [t]
    else
      let k := limit - incompleteTail (t.take limit)
      t.take k :: splitText limit n (t.drop k)

/-- Octets of text that one TOKENS record carries (R280, R287). -/
def textLimit (dgram : Bool) : Nat := if dgram then 1212 else 65483

/-- The TOKENS messages of a text: the last one covers the tokens and is final where asked (R284, R287). -/
def Req.messages (r : Req) (index count : Nat) (final resent : Bool) (text : Bytes) : List OutMsg :=
  let ps := splitText (textLimit r.dgram) text.length text
  ps.zipIdx.map fun p =>
    let last : Bool := decide (p.2 + 1 = ps.length)
    let fin := final && last
    .tokens r.id index (if last then count else 0) fin (decide (0 < r.reprefill)) resent (if fin then r.stop else 0) r.reprefill (if fin then r.status else 0) (if fin then r.seed else 0) p.1

/-- The Mirror record of a TOKENS message (R425). -/
def outputRecord (toks : List Nat) : OutMsg → MBody
  | .tokens id index count _ _ _ stop _ status _ text =>
    .output id index count stop status ((toks.zipIdx.take count).map fun x => shake256 (le 8 id ++ le 8 (index + x.2) ++ le 8 x.1) 4) (shake256 text 32)
  | _ => .loss 0

/-- A request's messages are sent to its channel in the queue of its class, and recorded (R330, R425). -/
def State.emit (s : State) (t : Nat) (r : Req) (toks : List Nat) (l : List OutMsg) : State :=
  l.foldl (fun s m => ((s.post r.conn m (s.classPcp r.cls.code) r.dgram).capture t (outputRecord toks m)).noteOutput t (outputRecord toks m)) s

/-- A session's request changed, found by its REQ_ID. -/
def State.modReq (s : State) (i id : Nat) (f : Req → Req) : State :=
  s.modSession i fun x => { x with reqs := modFirst (fun r => decide (r.id = id)) f x.reqs }

/-- A session's request. -/
def Session.req (x : Session) (id : Nat) : Option Req := x.reqs.find? fun r => decide (r.id = id)

/-- The output of a request that has not been sent yet is sent (R294). -/
def State.sendOutput (s : State) (i id : Nat) (final : Bool) : State :=
  let x := s.session i
  match x.req id with
  | none => s
  | some r =>
    let text := (s.tokeniser i).outText x r final
    let s := s.emit x.tenant r ((x.outTokens r).drop r.sent) (r.messages r.sent (r.outCount - r.sent) final false (text.drop r.textSent))
    s.modReq i id fun q => { q with sent := r.outCount, textSent := text.length }

/-- Output from index `resume` is sent again to the channel of a duplicate (R295). -/
def State.resend (s : State) (i : Nat) (r : Req) (resume : Nat) : State :=
  let x := s.session i
  let tok := s.tokeniser i
  let final : Bool := decide (r.state = .ended)
  let k := min resume r.outCount
  let text := tok.outText x r final
  let had := tok.outText x { r with outCount := k } false
  let s := s.emit x.tenant r ((x.outTokens r).drop k) (r.messages k (r.outCount - k) final true (text.drop had.length))
  s.modReq i r.id fun q => { q with sent := r.outCount, textSent := text.length }

/-! ### The end of a request (R191, R289, R294, R296) -/

/-- Key of a class queue. -/
def queueKey (t : Nat) (c : Cls) : Nat := t * 4 + c.code

/-- A request ends: its final message is sent, its session is IDLE where it was ACTIVE, and its class has one more completion. -/
def State.endReq (s : State) (i id stop status : Nat) : State :=
  match (s.session i).req id with
  | none => s
  | some r =>
    let t := (s.session i).tenant
    let s := s.modReq i id fun q => { q with state := .ended, stop := stop, status := status, cancel := none }
    let s := s.modQueue (queueKey t r.cls) fun l => l.filter fun e => !(decide (e.session = i) && decide (e.req = id))
    let s := s.sendOutput i id true
    let s := s.modSession i fun x => { x with state := if x.state = .active then .idle else x.state, openedAt := s.now, waitsPage := false }
    let s := s.modCompletions (queueKey t r.cls) fun l => (l.filter fun a => decide (s.now < a + 10 ^ 9)) ++ [s.now]
    if stop = 6 then s.tcount t 0xAE00 7 1 else s

/-- The request of a session that is queued or running. -/
def Session.live (x : Session) : Option Req := x.reqs.find? fun r => decide (r.state = .queued) || decide (r.state = .running)

/-- The operations of a session's request, of a step that serves no other session, are cancelled, and the step instantiates nothing more (R191). -/
def State.cancelWork (s : State) (i : Nat) : State :=
  match (s.session i).run with
  | none => s
  | some n =>
    match s.run n with
    | none => s
    | some r => if r.sessions.any (fun j => decide (j ≠ i) && decide ((s.session j).run = some n)) then s else (s.stopRun n).cancelOps fun o => decide (o.run = n)

/-- A request is cancelled (R191, R294): at once where no step is in flight for it, else once the operations of its step have stopped. -/
def State.cancelReq (s : State) (i stop status : Nat) : State :=
  match (s.session i).live with
  | none => s
  | some r =>
    if (s.session i).run = none then s.endReq i r.id stop status
    else (s.modReq i r.id fun q => { q with cancel := some (stop, status) }).cancelWork i

/-- A session closes (R289): its request ends with a stop reason, NOTICE 1 is sent, and its reservation, pages and objects are freed. -/
def State.closeSess (s : State) (i stop : Nat) : State :=
  let x := s.session i
  if x.isOpen then
    let s := match x.live with
      | some r => s.endReq i r.id stop Asx.cancelled
      | none => s
    let s := ((s.leaveRun i).notice i 1).freeExtents x.tenant .sessionC i
    let s := (s.dropPages i).freeObjs ((x.persist.map (·.2 - 1)))
    s.modSession i fun y => { y with state := .closed, closedAt := s.now, history := [], scales := [], reqs := [], kvLen := 0, persist := [], waitsPage := false, preemptedCold := false }
  else s

end Sys2Proof.Machine
end

