-- ==== Sys2Proof/Machine/LifeOps.lean ====
section
/-! DEFINITION. The shared operations of models and adapters: UFS space, reports, placement, MODEL and ADAPTER contents, compression tables and the barrier (R203, R205, R211, R212, R253..R272). -/

namespace Sys2Proof.Machine

/-! ### UFS space (R205) -/

/-- Octets of an image. -/
def Image.octets (o : Option Image) : Nat := match o with | some i => i.header.bytes | none => 0

/-- Octets of a checkpoint of `n` elements: 4.0625 for each, and 64 for the rest of the file (R276, R277; log entry 42). -/
def ckptOctets (n : Nat) : Nat := cdiv (65 * n) 16 + 64

/-- Elements of an adapter's matrices. -/
def Target.elems (t : Target) : Nat := t.rank * (t.inputs + t.outputs)

/-- Elements of an adapter. -/
def Image.elems (i : Image) : Nat := (i.targets.map Target.elems).sum

/-- The adapter that a training job trains. -/
def Job.adapter (j : Job) : Nat := nbits j.config 0 8

/-- Elements of the adapter that a tenant's job trains. -/
def State.jobElems (s : State) (t : Nat) : Nat :=
  match (s.adapter (t * 16 + (s.job t).adapter)).img with
  | some i => i.elems
  | none => 0

/-- Octets of UFS that a tenant's files use: images, uploads, checkpoints, Mirror exports (R205). -/
def State.ufsUsed (s : State) (t : Nat) : Nat :=
  let slots := ((List.range 4).map fun k => let m := s.mslot t k; Image.octets m.current + Image.octets m.pending + Image.octets m.old).sum
  let ads := ((List.range 16).map fun k => Image.octets (s.adapter (t * 16 + k)).img).sum
  let sets := ((List.range 4).map fun k => Image.octets (s.dataset (t * 4 + k))).sum
  let up := match s.upload t with | some u => u.bytes | none => 0
  let job := s.job t
  let files := (List.range 2).countP fun k => (mget none job.files k).isSome || decide (job.writing = some k)
  slots + ads + sets + up + files * ckptOctets (s.jobElems t) + ((s.mten t).files.map (·.bytes)).sum

/-- Whether `n` octets more fit in UFS_MIB. -/
def State.ufsFits (s : State) (t n : Nat) : Bool := decide (s.ufsUsed t + n ≤ s.setting (0x8100 + t) 7 * 2 ^ 20)

/-! ### Reports (R279, R425) -/

/-- MODEL_INFO of an image with its stamp. -/
def imageInfo (o : Option Image) (stamp : Nat) : Bytes :=
  match o with
  | some i => le 32 i.header.name.toNat ++ le 16 i.header.tag.toNat ++ le 4 stamp ++ le 4 i.header.strata ++ le 8 i.header.bytes
  | none => List.replicate 64 0

/-- ADAPTER_INFO. -/
def AdSlot.info (a : AdSlot) : Bytes :=
  let b := match a.binding with | some k => k | none => 0xFF
  match a.img with
  | some i => le 1 b ++ le 3 0 ++ le 16 i.header.tag.toNat ++ le 2 i.targets.length ++ le 2 ((i.targets.map (·.rank)).foldl max 0) ++ le 8 i.header.bytes
  | none => le 1 b ++ List.replicate 31 0

/-- The body of a SLOTS record (R425). -/
def State.slotsInfo (s : State) (t : Nat) : Bytes :=
  ((List.range 4).flatMap fun k => imageInfo (s.mslot t k).current (s.mslot t k).stamp) ++ (List.range 16).flatMap fun k => (s.adapter (t * 16 + k)).info

/-- A change of MODEL_INFO or ADAPTER_INFO is recorded (R425). -/
def State.noteSlots (s : State) (t : Nat) : State := s.capture t (.slots (s.slotsInfo t))

/-! ### Placement (R58, R211, R212, R263) -/

/-- SPARE_PER_BANK of a tenant. -/
def State.sparePerBank (s : State) (t : Nat) : Nat := s.setting (0x8100 + t) 5

/-- The cost of a bank's strata for a column block. -/
def State.bankCost (s : State) (c : WContent) (ks : List Nat) : Nat := (ks.map (s.spotCost c)).sum

/-- The cheapest of the banks of a die that take `rbs` row-blocks. -/
def State.bestBank (s : State) (die : Nat) (c : WContent) (rbs spare : Nat) (except : Option Nat) : Option (Nat × List Nat) :=
  minBy (fun (x : Nat × List Nat) => s.bankCost c x.2 * 1024 + x.1)
    ((List.range 32).filterMap fun b => if except = some b then none else (s.bankPick (die * 32 + b) c rbs spare).map fun ks => (b, ks))

/-- The strata of a die that take a column block: of one bank, or of two for more than 32 row-blocks (R58, R211). -/
def State.diePick (s : State) (die : Nat) (c : WContent) (rbs spare : Nat) : Option (List Nat) :=
  if rbs ≤ 32 then (s.bestBank die c rbs spare none).map (·.2)
  else
    (s.bestBank die c 32 spare none).bind fun x =>
      (s.bestBank die c (rbs - 32) spare (some x.1)).map fun y => x.2 ++ y.2

/-- A stratum is to receive content; a copy of what it held until now leaves the reserve. -/
def State.promise (s : State) (k : Nat) (c : WContent) : State := s.modStratum k fun x => { x.dropCopy with incoming := some c }

/-- A placement in progress: the state with what is assigned, the place in the deal, the strata assigned, oldest first. -/
structure Deal where
  s : State
  pos : Nat
  got : List Nat
deriving DecidableEq, Repr

/-- The row-blocks of a column block take strata. -/
def Deal.take (d : Deal) (c : WContent) (ks : List Nat) : Deal :=
  { d with s := (ks.zipIdx).foldl (fun s x => s.promise x.1 { c with rb := x.2 }) d.s, got := d.got ++ ks }

/-- What a placement places: tenant, slot, generation, image, spare strata of a bank, and the image it replaces with its stamp. -/
structure Placing where
  t : Nat
  slot : Nat
  gen : Nat
  im : Image
  spare : Nat
  old : Option (Image × Nat)
deriving DecidableEq, Repr

/-- Row-block content of a column block. -/
def Placing.content (p : Placing) (proj cb : Nat) : WContent := { tenant := p.t, slot := p.slot, gen := p.gen, proj := proj, rb := 0, cb := cb }

/-- The strata of one bank, or of two banks of one die, on distinct arrays (R58). -/
def oneBank (rbs : Nat) (ks : List Nat) : Bool :=
  let bs := (ks.map packageBank).dedup
  decide ((ks.map arrayOf).Nodup) && decide ((ks.map dieOf).dedup.length ≤ 1) && decide (bs.length ≤ if rbs ≤ 32 then 1 else 2)

/-- Whether a stratum holds a row-block and can be rewritten, at once or when the rewrite that puts just that row-block into it has ended (R94, R263). -/
def Stratum.rewritable (x : Stratum) (c : WContent) : Bool :=
  x.incoming.isNone && !x.shadowBound && !x.retireFlag && !x.releaseFlag &&
  match x.state with
  | .lit | .dim => decide (x.content = some c)
  | .erasing | .programming | .verifying => decide (x.target = some c)
  | _ => false

/-- The stratum that holds a row-block of the old image and can be rewritten. -/
def State.oldSpot (s : State) (c : WContent) : Option Nat := (s.vault.strata.find? fun (e : Nat × Stratum) => e.2.rewritable c).map (·.1)

/-- The old strata that a new column block is rewritten into, row-block by row-block; none where it is placed anew (R263). -/
def State.reuse (s : State) (p : Placing) (proj cb rbs : Nat) : Option (List Nat) :=
  match p.old with
  | none => none
  | some o =>
    let q := (o.1.plan.projs[proj]?).getD Proj.init
    if o.1.plan.projs.length ≤ proj ∨ q.colBlocks ≤ cb ∨ q.rowCount < rbs then none
    else
      let ks := (List.range rbs).filterMap fun rb => s.oldSpot { tenant := p.t, slot := p.slot, gen := o.2, proj := proj, rb := rb, cb := cb }
      if ks.length = rbs ∧ oneBank rbs ks = true then some ks else none

/-- One column block: rewritten in place, or dealt to the next die in turn. -/
def Deal.block (d : Deal) (p : Placing) (dies : List Nat) (proj rbs cb : Nat) : Option Deal :=
  match d.s.reuse p proj cb rbs with
  | some ks => some (d.take (p.content proj cb) ks)
  | none =>
    (d.s.diePick ((dies[d.pos % dies.length]?).getD 0) (p.content proj cb) rbs p.spare).map fun ks =>
      { (d.take (p.content proj cb) ks) with pos := (d.pos + 1) % dies.length }

/-- The column blocks of one projection that is no expert's (R211, rule 3). -/
def Deal.proj (d : Deal) (p : Placing) (dies : List Nat) (i : Nat) : Option Deal :=
  let q := (p.im.plan.projs[i]?).getD Proj.init
  if q.expert.isSome then some d else (List.range q.colBlocks).foldlM (fun d cb => d.block p dies i q.rowCount cb) d

/-- The column blocks of one expert on one die. -/
def Deal.expertOn (d : Deal) (p : Placing) (die : Nat) (projs : List Nat) : Option Deal :=
  projs.foldlM (fun d i =>
    let q := (p.im.plan.projs[i]?).getD Proj.init
    (List.range q.colBlocks).foldlM (fun (d : Deal) cb =>
      match d.s.reuse p i cb q.rowCount with
      | some ks => some (d.take (p.content i cb) ks)
      | none => (d.s.diePick die (p.content i cb) q.rowCount p.spare).map fun ks => d.take (p.content i cb) ks) d) d

/-- The die of the first column block of an expert that is rewritten in place. -/
def Deal.reusedDie (d : Deal) (p : Placing) (projs : List Nat) : Option Nat :=
  projs.findSome? fun i =>
    let q := (p.im.plan.projs[i]?).getD Proj.init
    (List.range q.colBlocks).findSome? fun cb => (d.s.reuse p i cb q.rowCount).bind fun ks => ks.head?.map dieOf

/-- The expected load of an expert: popularity times strata (R212). -/
def Image.expertLoad (i : Image) (layer e : Nat) : Nat :=
  (if i.params.popular = [] then 1 else (i.params.popular[layer * i.plan.experts + e]?).getD 0) * i.plan.expertStrata layer e

/-- The experts of a layer, each whole on the die with the least load among those with room (R212). -/
def Deal.layer (d : Deal) (p : Placing) (dies : List Nat) (l : Nat) : Option Deal :=
  let es := ((List.range p.im.plan.experts).filter fun e => decide (p.im.plan.expertProjs l e ≠ [])).mergeSort fun a b => decide (p.im.expertLoad l b ≤ p.im.expertLoad l a)
  (es.foldlM (fun (x : Deal × SMap Nat) e =>
    let js := p.im.plan.expertProjs l e
    let order := match x.1.reusedDie p js with
      | some k => [k]
      | none => dies.mergeSort fun a b => decide (mget 0 x.2 a ≤ mget 0 x.2 b)
    order.findSome? fun k => (x.1.expertOn p k js).map fun d => (d, mmod 0 x.2 k (· + p.im.expertLoad l e))) (d, ([] : SMap Nat))).map fun (y : Deal × SMap Nat) => y.1

/-- A placement on some of a tenant's dies: the state with every stratum of the image assigned, and the strata in order; none where it does not fit. -/
def State.placeOn (s : State) (p : Placing) (dies : List Nat) : Option Deal :=
  let layers := ((p.im.plan.projs.filter fun q => q.expert.isSome).map (·.layer)).dedup
  ((List.range p.im.plan.projs.length).foldlM (fun d i => Deal.proj d p dies i) { s := s, pos := s.nextDie p.t, got := [] }).bind fun d =>
    (layers.foldlM (fun d l => Deal.layer d p dies l) d).map fun d => { d with s := d.s.modNextDie p.t fun _ => d.pos }

/-- PLACEMENT (R18, R211, R212): on the dies of the tenant's own quadrants where the image fits there, else on all its dies. -/
def State.placeImage (s : State) (p : Placing) : Option Deal :=
  match (if s.homeDies p.t = [] then none else s.placeOn p (s.homeDies p.t)) with
  | some d => some d
  | none => s.placeOn p (s.dieList p.t)

/-! ### MODEL and ADAPTER contents (R48, R257, R269) -/

/-- Octets written into an extent from an offset on. -/
def State.writeExtent (e : Extent) : Nat → Bytes → State → State
  | _, [], s => s
  | off, b :: l, s =>
    match (s.extentPlace e off).flat with
    | none => State.writeExtent e (off + 1) l s
    | some a => State.writeExtent e (off + 1) l (s.setByte a b)

/-- Octets of the outlier-map rows of an image: each mapped row of each column block in the backing-copy layout (R48). -/
def Image.mapRows (i : Image) : Bytes :=
  i.mapKeys.flatMap fun x =>
    let c := ((i.block (i.proj x.2.1) x.2.2.2)[x.2.2.1 / 2048]?).getD Copy.init
    (List.range 512).map fun k => c.octet (0x1000 + x.2.2.1 % 2048 * 512 + k)

/-- Octets of the weight-escape tables of an image: each entry as VALUE, COL and ROW (R126). -/
def Image.sideBytes (i : Image) : Bytes := i.plan.vmvmSets.flatMap fun k => (i.escapeTable k).flatMap fun e => le 3 e.2.2 ++ le 3 e.2.1 ++ le 2 e.1.toNat

/-- The rotary frequency f_j of heads of `d` elements: the power rounded to FP32, then divided by the scale or multiplied by the table's value and rounded again (R38, R136; log entry 72). -/
def Params.frequency (p : Params) (d j : Nat) : BitVec 32 :=
  let w := match f32 p.theta with
    | .fin _ m e => if m = 0 then 0 else toF32 (expOf (-(fixOf (lnOf m e) * (2 * j : Nat) / (max 1 d : Nat))))
    | _ => 0
  match p.rotary with
  | .base => w
  | .linear => toF32 ((f32 w).div (f32 p.rotScale))
  | .table => toF32 ((f32 w).mul (f32 ((p.rotTable[j]?).getD 0)))

/-- `bs` with zeros behind it up to `n` octets. -/
def zeroPad (n : Nat) (bs : Bytes) : Bytes := bs ++ List.replicate (n - bs.length) 0

/-- The MODEL contents of an image before its tables are built: the DIGITAL tensors raw, the rotary frequencies, the outlier-map rows and the weight-escape tables (R136, R257; log entry 72). -/
def Image.modelBytes (i : Image) : Bytes :=
  zeroPad i.tableOffset (zeroPad i.mapOffset (zeroPad i.freqOffset ((List.range i.digitalLen).map fun k => mget 0 i.digital k % 256) ++
    (List.range (i.plan.headDim / 2)).flatMap fun j => le 4 (i.params.frequency i.plan.headDim j).toNat) ++ i.mapRows ++ i.sideBytes)

/-- The contents of an extent are written. -/
def State.fillExtent (s : State) (t : Nat) (k : Alloc) (owner : Nat) (bs : Bytes) : State :=
  match s.extentOf t k owner with
  | some e => State.writeExtent e 0 bs s
  | none => s

/-- An extent changes its owner number. -/
def State.renameExtent (s : State) (t : Nat) (k : Alloc) (owner new : Nat) : State :=
  { s with dram := { s.dram with extents := s.dram.extents.map fun e => if e.tenant = t ∧ e.kind = k ∧ e.owner = owner then { e with owner := new } else e } }

/-- Element `i` of a target's matrices: the down matrix row by row, then the up matrix. -/
def Target.elem (x : Target) (i : Nat) : BitVec 16 := if i < x.inputs * x.rank then mget 0 x.down i else mget 0 x.up (i - x.inputs * x.rank)

/-- The matrices of a target in tile layout. -/
def Target.bytes (x : Target) : Bytes :=
  let tile := fun (rows cols base : Nat) =>
    let d : TDesc := { fmt := 2, rows := rows, cols := cols }
    let es := (List.range (rows * cols)).map fun i => (tileBit d (i / max 1 cols) (i % max 1 cols), (x.elem (base + i)).toNat)
    (es.mergeSort fun a b => decide (a.1 ≤ b.1)).flatMap fun e => le 2 e.2
  tile x.inputs x.rank 0 ++ tile x.rank x.outputs (x.inputs * x.rank)

/-- Octets that an adapter takes in ADAPTER. -/
def Image.adapterOctets (i : Image) : Nat := (i.targets.map Target.octets).sum

/-- The matrices of an adapter are written into ADAPTER. -/
def State.fillAdapter (s : State) (t ad : Nat) : State :=
  match (s.adapter (t * 16 + ad)).img with
  | some i => s.fillExtent t .adapterC ad (i.targets.flatMap Target.bytes)
  | none => s

/-! ### Compression tables (R158, R159, R257 step 4) -/

/-- The tables and the encoder states of a model slot are gone. -/
def State.dropTables (s : State) (t slot : Nat) : State :=
  { s with exp := { s.exp with
      tables := mfilter (fun k o => !(decide (k / 4096 = t) && (match o with | some x => decide (x.slot = slot) | none => false))) s.exp.tables,
      acts := mfilter (fun k _ => decide (k / 2 ^ 32 ≠ t * 4 + slot)) s.exp.acts,
      poisonedWeights := s.exp.poisonedWeights.filter fun r => decide (r.slot ≠ t * 4 + slot) } }

/-- Octet `off` of a compression table's record (R158). -/
def ExpTable.octet (x : ExpTable) (id off : Nat) : Nat :=
  if off < 2 then id / 256 ^ off % 256
  else if off = 2 then x.fmt
  else if 4 ≤ off ∧ off < 8 then x.gen / 256 ^ (off - 4) % 256
  else if 16 ≤ off ∧ off < tableBytes then mget 0 x.lens (2 * (off - 16)) % 16 + 16 * (mget 0 x.lens (2 * (off - 16) + 1) % 16)
  else 0

/-- The record of a weight's table in its image's MODEL contents: that of the `n`-th marked tensor. -/
def State.writeTable (s : State) (i : Image) (t slot n id : Nat) : State :=
  match s.table (t * 4096 + id), s.extentOf t .modelC slot with
  | some x, some e => State.writeExtent e (i.tableOffset + tableBytes * n) ((List.range tableBytes).map (x.octet id)) s
  | _, _ => s

/-- Every place of a marked weight tensor is encoded with its new table; with no identifier free the tensor stays raw (R158, R159). -/
def State.buildTable (s : State) (i : Image) (t slot n tensor : Nat) (d : TDesc) : State :=
  let counts := (List.range d.places).foldl (fun m b => (exponentCounts d.fmt (i.placeElems d b)).foldl (fun m e => mmod 0 m e.1 (· + e.2)) m) []
  let s := match s.freeTable t with
    | some id => ((s.addTable t slot tensor id d.fmt counts true).writeTable i t slot n id).modAct (actKey t slot tensor) fun a => { a with coded := mset 0 a.coded 0 (id + 1), fmt := d.fmt }
    | none => s.tcount t 0xA700 8 1
  (List.range d.places).foldl (fun s b => s.encodeWeight i t slot tensor d b) s

/-- The compression tables of a slot's current image are built, and its marked tensors encoded. -/
def State.buildTables (s : State) (t slot : Nat) : State :=
  let s := s.dropTables t slot
  match (s.mslot t slot).current with
  | some i => i.marked.zipIdx.foldl (fun s x => s.buildTable i t slot x.2 x.1.1 x.1.2) s
  | none => s

/-! ### The barrier and the stamp (R260, R263, R266) -/

/-- A generation pointer or stamp after one more step: 0 is skipped (R260). -/
def nextGen (g : Nat) : Nat := if (g + 1) % 2 ^ 32 = 0 then 1 else (g + 1) % 2 ^ 32

/-- The queued requests of a slot, with the time for which its barrier has held each. -/
def State.heldReqs (s : State) (t slot : Nat) : List (Nat × Nat × Nat) :=
  let at' := (s.mslot t slot).barrierAt
  ([Cls.imm, .int, .bkg, .bulk].flatMap fun c => s.queue (queueKey t c)).filterMap fun e =>
    if (s.session e.session).slot = slot then
      ((s.session e.session).req e.req).map fun r => (e.session, e.req, s.now - max r.queuedAt at')
    else none

/-- The barrier falls: the time that requests were held is counted, and under HELD leaves their queue time (R266, R297). -/
def State.dropBarrier (s : State) (t slot : Nat) : State :=
  let m := s.mslot t slot
  if m.barrier then
    let l := s.heldReqs t slot
    let s := if m.held then l.foldl (fun s x => s.modReq x.1 x.2.1 fun r => { r with heldNs := r.heldNs + x.2.2 }) s else s
    (s.tcount t 0xAD00 3 (l.map (·.2.2)).sum).modSlot (t * 4 + slot) fun x => { x with barrier := false }
  else s

/-- The barrier rises (R263). -/
def State.raiseBarrier (s : State) (t slot : Nat) : State := s.modSlot (t * 4 + slot) fun x => { x with barrier := true, barrierAt := s.now }

/-- Sessions of a model slot that are open. -/
def State.slotSessions (s : State) (t slot : Nat) : List Nat := s.sessionsWhere fun x => x.isOpen && decide (x.tenant = t) && decide (x.slot = slot)

end Sys2Proof.Machine
end

