-- ==== Sys2Proof/Machine/Training.lean ====
section
/-! DEFINITION. Adapter training: the start, the steps, the checkpoints and the end of a job (R50..R52, R273..R277). -/

namespace Sys2Proof.Machine

/-! ### TRAIN_CONFIG (R274) -/

/-- A field of TRAIN_CONFIG: `n` octets at an offset. -/
def cfgField (c off n : Nat) : Nat := nbits c (8 * off) (8 * n)

/-- An F32 field of TRAIN_CONFIG. -/
def cfgF32 (c off : Nat) : Val := f32 (BitVec.ofNat 32 (cfgField c off 4))

/-- Not below `lo`. -/
def Val.atLeast (v lo : Val) : Bool := decide (v ≠ .nan) && !v.lt lo

/-- One, as a value. -/
def oneV : Val := .fin false 1 0
/-- Zero, as a value. -/
def zeroV : Val := .fin false 0 0

/-- Whether every value of TRAIN_CONFIG lies in its range. -/
def configInRange (c : Nat) : Bool :=
  decide (cfgField c 0 1 ≤ 15) && decide (cfgField c 1 1 ≤ 3) && decide (1 ≤ cfgField c 4 4) &&
  decide (2048 ≤ cfgField c 8 4 ∧ cfgField c 8 4 ≤ 1048576) && decide (1 ≤ cfgField c 12 4 ∧ cfgField c 12 4 ≤ cfgField c 4 4) &&
  zeroV.lt (cfgF32 c 16) && oneV.atLeast (cfgF32 c 16) && (cfgF32 c 20).atLeast zeroV && (cfgF32 c 20).lt oneV &&
  (cfgF32 c 24).atLeast zeroV && (cfgF32 c 24).lt oneV && zeroV.lt (cfgF32 c 28) && (cfgF32 c 32).atLeast zeroV && oneV.atLeast (cfgF32 c 32)

/-- Whether a reserved byte of TRAIN_CONFIG is set. -/
def configResv (c : Nat) : Bool := decide (cfgField c 2 2 ≠ 0) || decide (cfgField c 0x24 4 ≠ 0)

/-- Lengths of the sequences of a dataset. -/
def seqLens : Nat → List DToken → List Nat
  | 0, [] => []
  | n, [] => [n]
  | n, k :: l => if k.last then (n + 1) :: seqLens 0 l else seqLens (n + 1) l

/-- A token within the vocabulary. -/
def tokensBelow (vocab : Nat) (ks : List DToken) : Bool := ks.all fun k => decide (k.token < vocab)

/-- Octets of ADAPTER that a job's state takes: 5.0625 for each element (R50). -/
def jobOctets (n : Nat) : Nat := cdiv (81 * n) 16

/-- Owner number of a job's state in ADAPTER. -/
def jobOwner : Nat := 32

/-- The image of the slot that a job's adapter is bound to. -/
def State.boundImage (s : State) (t ad : Nat) : Option Image :=
  (s.adapter (t * 16 + ad)).binding.bind fun k => (s.mslot t k).current

/-- Whether an open session has an adapter selected. -/
def State.adapterUsed (s : State) (t ad : Nat) : Bool :=
  decide ((s.sessionsWhere fun x => x.isOpen && decide (x.tenant = t) && decide (x.adapter = some ad)) ≠ [])

/-- Octets of a dataset's tokens. -/
def State.datasetTokens (s : State) (t k : Nat) : List DToken := match s.dataset (t * 4 + k) with | some i => i.tokens | none => []

/-- The state-dependent checks of R274: the adapter and the dataset. -/
def State.jobReady (s : State) (t c : Nat) : Bool :=
  let a := s.adapter (t * 16 + cfgField c 0 1)
  (decide (a.state = .stored) || decide (a.state = .resident)) && a.loading.isNone && (s.boundImage t (cfgField c 0 1)).isSome &&
    !s.adapterUsed t (cfgField c 0 1) && (s.dataset (t * 4 + cfgField c 1 1)).isSome

/-- The status of a TRAIN_START (R13, R274, R277). -/
def State.trainStatus (s : State) (t c : Nat) : Nat :=
  let ad := cfgField c 0 1
  let ks := s.datasetTokens t (cfgField c 1 1)
  let free := s.freeExtents t .adapterC ad
  if configResv c then Bdp.reservedSet
  else if s.tenState t ≠ .active ∨ (s.job t).state = .running ∨ (s.job t).state = .suspended then Bdp.badState
  else if configInRange c = false then Bdp.outOfRange
  else if (match s.boundImage t ad with | some i => tokensBelow i.plan.vocab ks | none => true) = false then Bdp.outOfRange
  else if (seqLens 0 ks).any (fun n => decide (min (cfgField c 8 4) (s.contextMax t) < n)) then Bdp.shapeLimit
  else if s.jobReady t c = false then Bdp.badState
  else if free.fits t .adapterC (jobOctets (Image.elems ((s.adapter (t * 16 + ad)).img.getD Image.init))) = false then Bdp.quotaFull
  else Bdp.ok

/-! ### The state of a job (R50, R276, R277) -/

/-- The elements of an adapter's matrices in order, those that are not 0. -/
def Image.masterWeights (i : Image) : SMap (BitVec 16) :=
  (((i.targets.flatMap fun x => (List.range x.elems).map x.elem).zipIdx).filter fun e => decide (e.1 ≠ 0)).map fun e => (e.2, e.1)

/-- An adapter image with trained matrices, target by target from element `base` on. -/
def trainedTargets (w : SMap (BitVec 16)) : Nat → List Target → List Target
  | _, [] => []
  | base, x :: l =>
    let part := fun (n from' : Nat) => ((List.range n).map fun i => (i, mget 0 w (from' + i))).filter fun e => decide (e.2 ≠ 0)
    { x with down := part (x.inputs * x.rank) base, up := part (x.rank * x.outputs) (base + x.inputs * x.rank) } :: trainedTargets w (base + x.elems) l

/-- A job at step 0. -/
def Job.fresh (j : Job) (i : Image) : Job :=
  { j with step := 0, pos := 0, weights := i.masterWeights, m1 := [], m2 := [], hist := [], retried := false }

/-- A job at a checkpoint; its gradient histories are fresh. -/
def Job.from (j : Job) (c : Ckpt) : Job :=
  { j with step := c.step, pos := c.pos, weights := c.weights, m1 := c.m1, m2 := c.m2, hist := [], retried := false }

/-- The newest complete checkpoint of a job. -/
def Job.checkpoint (j : Job) : Option Ckpt := j.newest.bind fun k => mget none j.files k

/-- The image of the adapter that a job trains. -/
def State.jobImage (s : State) (t : Nat) : Image := (s.adapter (t * 16 + (s.job t).adapter)).img.getD Image.init

/-- A job runs: from its newest checkpoint, or from step 0 where it has none (R277); the next occurrences of its model slot's activations and gradients are written raw (R159). -/
def State.runJob (s : State) (t : Nat) : State :=
  let i := s.jobImage t
  let s := match (s.adapter (t * 16 + (s.job t).adapter)).binding with
    | some slot => s.resetActs t slot
    | none => s
  s.modJob t fun j =>
    let j := { j with state := .running, stopAt := none, writing := none, wrote := none }
    match j.checkpoint with
    | some c => j.from c
    | none => j.fresh i

/-- The persistent objects of a job are armed, where it holds none: after OFF they are armed again (R180). -/
def State.armJob (s : State) (t : Nat) : State :=
  if (s.job t).persist = [] then
    let p := State.armPersist t (match s.boundImage t (s.job t).adapter with | some i => i.plan.persistent | none => []) s
    p.2.modJob t fun j => { j with persist := p.1 }
  else s

/-- A suspended job runs again (R277). -/
def State.resumeJob (s : State) (t : Nat) : State := if (s.job t).state = .suspended then (s.armJob t).runJob t else s

/-- A running job is suspended with no checkpoint (R277). -/
def State.suspendJob (s : State) (t : Nat) : State :=
  if (s.job t).state = .running then s.modJob t fun j => { j with state := .suspended, stopAt := none, writing := none, wrote := none } else s

/-- A job ends: its state in ADAPTER and its persistent objects are freed, its adapter is STORED, and a TRAIN_STOP that waited is done (R180, R270, R277). -/
def State.endJob (s : State) (t : Nat) (st : JobState) : State :=
  let j := s.job t
  let s := (s.freeExtents t .adapterC jobOwner).freeObjs j.persist
  let s := s.modAdapter (t * 16 + j.adapter) fun a => if a.state = .training then { a with state := .stored, loaded := false } else a
  let s := s.modJob t fun j => { j with state := st, stopAt := none, persist := [], writing := none, wrote := none, drain := false, stopCmd := false, weights := [], m1 := [], m2 := [], hist := [] }
  if j.stopCmd then s.finish (entryCode (0x5500 + t) 3) Bdp.ok else s

/-- A job starts (R277). -/
def State.startJob (s : State) (t c : Nat) (resume : Bool) : State :=
  let ad := cfgField c 0 1
  let s := s.freeExtents t .adapterC ad
  let n := Image.elems ((s.adapter (t * 16 + ad)).img.getD Image.init)
  let s := match s.allocExtent t .adapterC jobOwner none (jobOctets n) with
    | some s' => s'
    | none => s
  let slot := (s.adapter (t * 16 + ad)).binding.getD 0
  let th := match s.boundImage t ad with | some i => i.plan.persistent | none => []
  let p := State.armPersist t th s
  let s := p.2.modAdapter (t * 16 + ad) fun a => { a with state := .training, loaded := false }
  let s := s.modJob t fun j =>
    let j := { j with config := c, persist := p.1, drain := false, stopCmd := false }
    if resume then j else { j with files := [], newest := none }
  let s := s.runJob t
  let m := s.mslot t slot
  if m.barrier && decide (m.state = .swapping) then s.modJob t fun j => { j with stopAt := some .suspended } else s

/-- The result of TRAIN_START: answered PENDING; the job runs at once (R358). -/
def trainBody (t : Nat) (resume : Bool) (s : State) : Nat × State :=
  let c := s.setting (0x5500 + t) 1
  let st := s.trainStatus t c
  let noFile : Bool := resume && (match (s.job t).checkpoint with | some k => decide (cfgField k.config 0 1 ≠ cfgField c 0 1) | none => true)
  if st ≠ Bdp.ok then (st, if st = Bdp.quotaFull then s.quotaRefused t else s)
  else if noFile then (Bdp.badState, s)
  else (Bdp.pending, (s.startJob t c resume).finish (entryCode (0x5500 + t) 2) Bdp.ok)

/-- TRAIN_START_NEW (R274, R277). -/
def execTrainStartNew (rq : Rq) (tenant : Nat) (s : State) : Res :=
  bdpCmd (.trainStartNew rq tenant) rq (entryCode (0x5500 + tenant) 2) 0 (trainBody tenant false) s

/-- TRAIN_RESUME (R274, R277). -/
def execTrainResume (rq : Rq) (tenant : Nat) (s : State) : Res :=
  bdpCmd (.trainResume rq tenant) rq (entryCode (0x5500 + tenant) 2) 1 (trainBody tenant true) s

/-- TRAIN_STOP: the current step completes and a checkpoint is written (R277). -/
def trainStopBody (t : Nat) (s : State) : Nat × State :=
  if (s.job t).state = .running then (Bdp.pending, s.modJob t fun j => { j with stopAt := some .idle, stopCmd := true }) else (Bdp.badState, s)

/-- TRAIN_STOP (R277). -/
def execTrainStop (rq : Rq) (tenant : Nat) (s : State) : Res :=
  bdpCmd (.trainStop rq tenant) rq (entryCode (0x5500 + tenant) 3) 1 (trainStopBody tenant) s

/-! ### A step (R50..R52, R275) -/

/-- The length of the sequence that begins at the head of a dataset's rest. -/
def firstSeq : List DToken → Nat
  | [] => 0
  | k :: l => if k.last then 1 else firstSeq l + 1

/-- The dataset position after a step: whole sequences from a position on, wrapping at the end, until the next would exceed the room. -/
def nextPos (ks : List DToken) : Nat → Nat → Nat → Nat
  | 0, pos, _ => pos
  | fuel + 1, pos, room =>
    let p := if ks.length ≤ pos then 0 else pos
    let n := firstSeq (ks.drop p)
    if n = 0 ∨ room < n then p else nextPos ks fuel (p + n) (room - n)

/-- The magnitude code of E5M2 at or below a magnitude (R52). -/
def e5m2Below (v : Val) : Nat := ((List.range 0x7C).filter fun c => !v.lt (decodeVal .e5m2 c)).length - 1

/-- The integer part of a nonnegative finite value. -/
def Val.floorNat : Val → Nat
  | .fin _ m e => if 0 ≤ e then m * 2 ^ e.toNat else m / 2 ^ (-e).toNat
  | _ => 0

/-- Stochastic rounding of a finite value within the range of E5M2, with a 16-bit draw (R52): to the upper neighbour when the draw is below the fraction. -/
def stochE5m2 (v : Val) (r : Nat) : Nat :=
  let c := e5m2Below v.abs
  let lo := decodeVal .e5m2 c
  let hi := decodeVal .e5m2 (c + 1)
  let neg := v.lt zeroV
  let part := if neg then hi.sub v.abs else v.abs.sub lo
  let t := ((part.mul (.fin false 65536 0)).div (hi.sub lo)).floorNat
  let up := if r % 65536 < t then !neg else neg
  let code := if v.abs = lo ∨ ¬ (lo.lt v.abs) then c else if up then c + 1 else c
  code + if neg then 128 else 0

/-- One gradient narrowed to E5M2 under a scale: clamped beyond the range and never escaped; a NaN gives 0 (R42, R51, R52). -/
def narrowGrad (scale : Val) (draw : Option Nat) (x : BitVec 32) : Narrow :=
  let y := (f32 x).div scale
  match y with
  | .nan => { code := 0, drop := 1 }
  | .inf neg => { code := 0x7B + if neg then 128 else 0, clamp := 1 }
  | v =>
    match draw with
    | none => narrow .e5m2 v
    | some r => if (Val.fin false 57344 0).lt v.abs then { code := 0x7B + (if v.lt zeroV then 128 else 0), clamp := 1 } else { code := stochE5m2 v r }

/-- Largest finite magnitude of a tensor; none where no element is finite (R42). -/
def finiteMax (xs : List (BitVec 32)) : Option (BitVec 32) :=
  match (xs.filter fun x => (f32 x).finite) with
  | [] => none
  | l => some (toF32 (amax (l.map f32)))

/-- A gradient tensor narrowed: the FP32 values of its codes, its history after the step, and what is counted (R51). -/
def narrowTensor (h : List (BitVec 32)) (w : Nat) (m : BitVec 32) (draws : Option (Nat → Nat)) (xs : List (BitVec 32)) : List (BitVec 32) × List (BitVec 32) × Nat × Nat :=
  let sc := f32 (siteScale h w m 57344)
  let ns := xs.zipIdx.map fun x => narrowGrad sc (draws.map fun f => f x.2) x.1
  let vs := ns.map fun n => toF32 ((decodeVal .e5m2 n.code).mul sc)
  let h' := match finiteMax xs with
    | some a => (h ++ [a]).drop (h.length + 1 - 32)
    | none => h
  (vs, h', (ns.map (·.clamp)).sum, (ns.map (·.drop)).sum)

/-- The gradient tensors of the adapter weights of a step: for each target its down matrix, then its up matrix. -/
def Image.weightGrads (i : Image) (grads : List (List (BitVec 32))) : List (List (BitVec 32)) :=
  (i.targets.zip grads).flatMap fun x => [x.2.take (x.1.inputs * x.1.rank), x.2.drop (x.1.inputs * x.1.rank)]

/-- The gradient tensors of a step: those of the adapter weights, then those of the activations on the backward path, which stand behind the targets' in the step's gradients (R50, R51; log entry 57). -/
def Image.gradTensors (i : Image) (grads : List (List (BitVec 32))) : List (List (BitVec 32)) :=
  i.weightGrads grads ++ grads.drop i.targets.length

/-- A run of moments as the MX format `fmt` holds it, blocks of 32 elements; and the elements clamped and dropped (R37, R50). -/
def mxHeld (fmt : Nat) : Nat → List (BitVec 32) → List (BitVec 32) × Nat × Nat
  | 0, _ => ([], 0, 0)
  | n + 1, xs =>
    if xs = [] then ([], 0, 0)
    else
      match mxElem fmt with
      | none => (xs, 0, 0)
      | some (f, emax) =>
        let b := mxEncode f emax ((xs.take 32).map f32)
        let r := mxHeld fmt n (xs.drop 32)
        (b.elems.map (fun c => toF32 (mxDecode f b.scale c)) ++ r.1, b.clamp + r.2.1, b.drop + r.2.2)

/-- The elements of a list that are not 0, keyed by their index. -/
def keyed {α : Type} [DecidableEq α] (zero : α) (xs : List α) : SMap α := (xs.zipIdx.filter fun x => decide (x.1 ≠ zero)).map fun x => (x.2, x.1)

/-- The draws of stochastic rounding in a step, for tensor `k`: seeded from SEED and the step (R52, R275). -/
def Job.draws (j : Job) (k : Nat) : Nat → Nat := fun i => Config.stochastic (cfgField j.config 0x28 8 * 2 ^ 64 + j.step) (k * 2 ^ 40 + i)

/-- The first entry of a gradient tensor's history, which the spec does not give (log entry 2). -/
def State.gradHistory (s : State) (j : Job) (k : Nat) : List (BitVec 32) := match mget [] j.hist k with | [] => [Config.freeWord 51 s.trust.fresh] | h => h

/-- The gradients of a step narrowed: their values, the job's histories, and what is counted. -/
def State.narrowGrads (s : State) (t : Nat) (grads : List (List (BitVec 32))) : List (List (BitVec 32)) × SMap (List (BitVec 32)) × Nat × Nat :=
  let j := s.job t
  let w := s.setting (0x5100 + t) 1
  let m := BitVec.ofNat 32 (s.setting (0x5100 + t) 2)
  let st : Bool := decide (s.setting (0x5100 + t) 3 = 1)
  let rs := ((s.jobImage t).gradTensors grads).zipIdx.map fun x => narrowTensor (s.gradHistory j x.2) w m (if st then some (j.draws x.2) else none) x.1
  (rs.map (·.1), (rs.zipIdx).foldl (fun h x => mset [] h x.2 x.1.2.1) j.hist, (rs.map (·.2.2.1)).sum, (rs.map (·.2.2.2)).sum)

/-- What Adam makes in FP32 of the elements of a job (R50): weights and moments, before they are held in their formats. -/
def Job.update (j : Job) (gs : List (BitVec 32)) : List (BitVec 32 × BitVec 32 × BitVec 32) :=
  gs.zipIdx.map fun g => Config.adam j.config g.1 (mget 0 j.weights g.2) (mget 0 j.m1 g.2) (mget 0 j.m2 g.2) j.step

/-- Master weights as held: the FP32 update rounded to BF16, to nearest even whatever GRAD_ROUNDING says (R38, R50, R52). -/
def heldWeights (ws : List (BitVec 32)) : List Narrow := ws.map fun w => narrow .bf16 (f32 w)

/-- Runs of a list with the given lengths. -/
def cutRuns {α : Type} : List Nat → List α → List (List α)
  | [], _ => []
  | n :: l, xs => xs.take n :: cutRuns l (xs.drop n)

/-- The moments of a job as held, tensor by tensor, with what is counted. -/
def heldMoments (fmt : Nat) (lens : List Nat) (xs : List (BitVec 32)) : List (BitVec 32) × Nat × Nat :=
  let rs := (cutRuns lens xs).map fun l => mxHeld fmt l.length l
  (rs.flatMap (·.1), (rs.map (·.2.1)).sum, (rs.map (·.2.2)).sum)

/-- CLAMP and NaN_DROPPED of a tenant (R39). -/
def State.countConv (s : State) (t clamp drop : Nat) : State :=
  let s := if clamp = 0 then s else s.tcount t 0xA100 1 clamp
  if drop = 0 then s else s.tcount t 0xA100 4 drop

/-- The optimiser step (R50, R275): gradients narrowed, weights and moments updated, position and step number advanced. -/
def State.optimise (s : State) (t : Nat) (loss : BitVec 32) (grads : List (List (BitVec 32))) : State :=
  let j := s.job t
  let g := s.narrowGrads t grads
  let wg := g.1.take (2 * (s.jobImage t).targets.length)
  let us := j.update (wg.flatMap id)
  let lens := wg.map (·.length)
  let ws := heldWeights (us.map (·.1))
  let m1 := heldMoments 10 lens (us.map (·.2.1))
  let m2 := heldMoments 12 lens (us.map (·.2.2))
  let ks := s.datasetTokens t (cfgField j.config 1 1)
  let s := s.drawn.modJob t fun j =>
    { j with step := j.step + 1, loss := loss, pos := nextPos ks (cfgField j.config 8 4) j.pos (cfgField j.config 8 4), retried := false, hist := g.2.1,
             weights := keyed 0 (ws.map fun n => BitVec.ofNat 16 n.code), m1 := keyed 0 m1.1, m2 := keyed 0 m2.1 }
  (s.countConv t (g.2.2.1 + (ws.map (·.clamp)).sum + m1.2.1 + m2.2.1) (g.2.2.2 + m1.2.2 + m2.2.2)).tcount t 0xAD00 7 1

/-! ### Checkpoints (R276, R277) -/

/-- A job enters the state that it was to enter: with DONE, the adapter image is rewritten on UFS (R270, R277). -/
def State.enterStop (s : State) (t : Nat) : State :=
  let j := s.job t
  match j.stopAt with
  | none => s
  | some .suspended => s.modJob t fun j => { j with state := .suspended, stopAt := none }
  | some .done =>
    ((s.modAdapter (t * 16 + j.adapter) fun a => { a with img := a.img.map fun i => { i with targets := trainedTargets j.weights 0 i.targets } }).endJob t .done).noteSlots t
  | some st => s.endJob t st

/-- A checkpoint is begun in the file that does not hold the newest; one that does not fit is not written (R205, R276). -/
def State.beginCheckpoint (s : State) (t : Nat) : State :=
  let s := s.modJob t fun j => if j.drain ∧ j.stopAt = none then { j with stopAt := some .idle } else j
  let j := s.job t
  let k := if j.newest = some 0 then 1 else 0
  let n := ckptOctets (s.jobElems t)
  let more := if (mget none j.files k).isSome then 0 else n
  if s.ufsFits t more then
    s.modJob t fun j => { j with
      writing := some k, files := mset none j.files k none
      wrote := some { step := j.step, pos := j.pos, config := j.config, weights := j.weights, m1 := j.m1, m2 := j.m2 } }
  else
    let s := s.modJob t fun j => if j.drain ∧ j.stopAt = some .idle ∧ j.stopCmd = false then { j with stopAt := none } else j
    ((s.tcount t 0xAD00 6 1).raise Ev.ufsQuota t Locus.none 0 n).enterStop t

/-- Whether a checkpoint is due after a step: its interval, the last step, or a stop (R274, R277). -/
def Job.checkpointDue (j : Job) : Bool :=
  decide (j.step % max 1 (cfgField j.config 12 4) = 0) || decide (cfgField j.config 4 4 ≤ j.step) || j.stopAt.isSome

/-- What follows a completed step. -/
def State.afterStep (s : State) (t : Nat) : State :=
  let s := s.modJob t fun j => if cfgField j.config 4 4 ≤ j.step then { j with stopAt := some .done } else j
  if (s.job t).checkpointDue then s.beginCheckpoint t else s

/-- A step failed: it is run once more on the same batch; a second failure ends the job (R275, R277). -/
def State.failedStep (s : State) (t : Nat) : State :=
  if (s.job t).retried then
    (s.endJob t .failed).raise Ev.trainFailed t Locus.none 0 (s.job t).step
  else (s.modJob t fun j => { j with retried := true }).tcount t 0xAD00 8 1

/-- TRAIN_STEP (R275): the operations of a step have completed. -/
def execTrainStep (tenant : Nat) (ok : Bool) (loss : BitVec 32) (grads : List (List (BitVec 32))) (s : State) : Res :=
  s.listed (decide ((s.job tenant).state = .running) && (s.job tenant).writing.isNone && decide (s.power.state = .run) && decide (s.tenState tenant = .active))
    (if ok then (s.optimise tenant loss grads).afterStep tenant else s.failedStep tenant)

/-- CHECKPOINT_LANDED (R276): the file is complete, and the newest. -/
def execCheckpointLanded (tenant : Nat) (s : State) : Res :=
  s.listed (s.job tenant).writing.isSome
    (((s.modJob tenant fun j =>
      { j with files := mset none j.files (j.writing.getD 0) j.wrote, newest := j.writing, writing := none, wrote := none }).tcount tenant 0xAD00 5 1).enterStop tenant)

end Sys2Proof.Machine
end

