-- ==== Sys2Proof/Machine/ResetOps.lean ====
section
/-! DEFINITION. What is left of the state when the device is reset, goes to OFF or loses its supplies (R81, R247, R259, R359, R373, R418, R420, R441, R446, R458). -/

namespace Sys2Proof.Machine

/-- A stratum keeps what its die holds, the deviation of its last test among it; its copy was in DRAM (R81, R86). R92 does not say whether the time since the last test survives a loss of power: monotonic time begins anew, and the model counts it from there (DESIGN CHOICE, log entry 62). -/
def Stratum.unpowered (x : Stratum) : Stratum := { x.dropCopy with copyAge := 0, lastTest := 0 }

/-- The vault without power: strata and the writes still due are kept (R81, R259). -/
def Vault.unpowered (v : Vault) : Vault :=
  { strata := mmap .init (fun _ x => x.unpowered) v.strata,
    dies := mmap .init (fun _ d => { d with dieErase := false, raised := 0, lowered := 0 }) v.dies }

/-- A model slot without power: a check pass leaves no trace, and MODEL contents are gone (R256, R259). -/
def ModelSlot.unpowered (m : ModelSlot) : ModelSlot :=
  { m with state := if m.state = .checking then (if m.fromReady then .ready else .staged) else m.state, fromReady := false, loaded := false, barrierAt := 0 }

/-- A training job without power: suspended at its newest checkpoint (R277). -/
def Job.unpowered (j : Job) : Job :=
  { j with state := if j.state = .running then .suspended else j.state, weights := [], m1 := [], m2 := [], hist := [], persist := [],
           stopAt := none, writing := none, wrote := none, drain := false, stopCmd := false, retried := false }

/-- Models, adapters and jobs without power: slot records, images, datasets and checkpoints are on UFS; an open upload is lost (R256, R257, R270, R277). -/
def Models.unpowered (m : Models) : Models :=
  { m with
    slots := mmap .init (fun _ x => x.unpowered) m.slots
    adapters := mmap .init (fun _ a => { a with loaded := false, loading := none }) m.adapters
    uploads := []
    jobs := mmap .init (fun _ j => j.unpowered) m.jobs }

/-- DRAM without power: MODEL and ADAPTER allocations keep their addresses, their content is dropped (R233, R247, R446). -/
def Dram.unpowered (d : Dram) : Dram :=
  { Dram.init with extents := (d.extents.filter fun e => decide (e.kind = .modelC) || decide (e.kind = .adapterC)).map fun e => { e with dropped := true } }

/-- Firmware and lease without power: slots, active slot, trial and epoch are non-volatile (R307, R308, R309). -/
def Ctl.unpowered (c : Ctl) : Ctl :=
  { Ctl.init with
    lease := { Lease.init with epoch := c.lease.epoch }
    fwSlots := c.fwSlots, fwActive := c.fwActive
    fwState := match c.fwState with
      | .activating => .staged
      | .rollingBack => .committed
      | st => st }

/-- The dictionary without power: stored values and profiles (R359..R361). -/
def Dict.unpowered (d : Dict) : Dict := { Dict.init with stored := d.stored, profiles := d.profiles, active := d.active, pins := d.pins }

/-- Events and counters without power: per-tenant and non-volatile counters, fatal log, SEQ mark and acknowledged SEQ (R418, R420, R458). -/
def Faults.unpowered (f : Faults) : Faults :=
  { f with unacked := [], queue := [], log := [], fatalDue := false }

/-- Mirror without power: what was not exported is lost, and counts as lost (R425, R426, R433). -/
def MTen.unpowered (m : MTen) : MTen :=
  { MTen.init with files := m.files, nextFile := m.nextFile, seq := m.seq, lost := m.lost + m.seg.length + m.full.length }

/-- The clock without the 25 MHz oscillator: the calendar runs on; monotonic time ends (R449, R450). -/
def Clk.unpowered (c : Clk) : Clk := { c with starting := false, noBoot := false, disciplined := false, lastSync := 0, source := 0, gptpOffset := 0, slew := 0 }

/-- The power block without its supplies: the causes that the always-on domain and UFS keep (R402, R411). -/
def Power.unpowered (p : Power) : Power := { Power.init with wakeSource := p.wakeSource, lastOff := p.lastOff }

/-- Ports without power keep their addresses. -/
def Ports.unpowered (p : Ports) : Ports := { ports := mmap .init (fun _ x => { Port.init with mac := x.mac }) p.ports }

/-- Pins without power: PWR_GOOD is low and FAULT_N released; THERM_N stays, and so does the test port with its COMMISSION latch (R439, R446, R448). -/
def Pins.unpowered (p : Pins) : Pins := { p with pwrGood := false, faultN := false, gpio2 := 0 }

/-- The state that is left when the rails go off (R446). -/
def State.unpowered (s : State) : State :=
  { s with
    vault := s.vault.unpowered, fabric := Fabric.init, vec := Vec.init, mem := [], kv := Kv.init, exp := Expander.init, ops := Ops.init
    tiers := { Tiers.init with wayOwner := s.tiers.wayOwner, nextDie := s.tiers.nextDie, ufsTenantMib := s.tiers.ufsTenantMib }
    streams := Streams.init, dram := s.dram.unpowered, models := s.models.unpowered, svc := Service.init, ctl := s.ctl.unpowered
    ports := s.ports.unpowered, dict := s.dict.unpowered, tenants := { s.tenants with purging := false, purgeAgain := false }
    trust := { s.trust with debug := false }
    power := s.power.unpowered, faults := s.faults.unpowered, mirror := { tenants := mmap .init (fun _ m => m.unpowered) s.mirror.tenants }
    pins := s.pins.unpowered, clk := s.clk.unpowered, held := [] }

/-- The device is held in reset; `cause` is what the next start-up records (R446, R454). -/
def State.toReset (s : State) (cause : Nat) : State :=
  let u := s.unpowered
  { u with clk := { u.clk with nextCause := cause }, power := { u.power with state := .held } }

/-- The device is in OFF: the cause of R411 is recorded, and the next start-up is a wake from OFF (R454). -/
def State.toOff (s : State) (cause : Nat) : State :=
  let u := s.unpowered
  { u with clk := { u.clk with nextCause := 4 }, power := { u.power with state := .off, lastOff := cause } }

end Sys2Proof.Machine
end

