-- ==== Sys2Proof/Machine/Control.lean ====
section
/-! DEFINITION. The commands of the control complex: restarts of control cores, firmware update, the driver lease (R304..R312). -/

namespace Sys2Proof.Machine

/-! ### Restarting one control core (R304, R306) -/

/-- The Ctl record changed. -/
def State.modCtl (s : State) (f : Ctl → Ctl) : State := { s with ctl := f s.ctl }

/-- Whether a core restarts. -/
def State.restartRuns (s : State) : Bool := (List.range 8).any fun k => decide ((s.core k).state = .restarting)

/-- A core's restart begins, with its event and its count (R304): cause 0 watchdog, 1 command, 2 firmware. -/
def State.startRestart (s : State) (k cause : Nat) : State :=
  (((s.modCore k fun c => { c with state := .restarting }).count 0xAF00 (k + 1) 1).raise Ev.ccRestart 0 Locus.core k cause)

/-- The restart of a core that failed: at once, or stopped until the restart that runs has ended (R306). -/
def State.restartFailed (s : State) (k : Nat) : State :=
  if s.restartRuns then (s.modCore k fun c => { c with state := .waiting }).modCtl fun c => { c with queue := c.queue ++ [k] }
  else s.startRestart k 0

/-- The next restart, once none runs: a core that waits, then the next core of an update (R306, R307). -/
def State.nextRestart (s : State) : State :=
  if s.restartRuns then s
  else
    match s.ctl.queue with
    | k :: l => (s.modCtl fun c => { c with queue := l }).startRestart k 0
    | [] =>
      match s.ctl.rolling with
      | k :: _ => s.startRestart k 2
      | [] => s

/-- The order in which an update restarts the cores (R307). -/
def rollingOrder : List Nat := [6, 5, 4, 3, 2, 1, 7, 0]

/-- The inactive firmware slot. -/
def State.fwInactive (s : State) : Nat := 1 - s.ctl.fwActive

/-- An update is rolled back: the cores restart onto the previous image (R308). -/
def State.rollBack (s : State) : State :=
  let new := if s.ctl.fwState = .trial then s.ctl.fwActive else s.fwInactive
  let s := (s.count 0xAF01 4 1).raise Ev.fwRollback 0 Locus.none 0 (s.fwSlot new).version
  (s.modCtl fun c => { c with fwState := .rollingBack, fwActive := 1 - new, rolling := rollingOrder, trialLeft := 0, trialOver := false }).nextRestart

/-- Whether a fault of a core rolls back the update: it runs the new image, on trial and within its window, or while the update runs (R308). -/
def State.rollsBack (s : State) (k : Nat) : Bool :=
  (s.core k).onNew && (decide (s.ctl.fwState = .activating) || (decide (s.ctl.fwState = .trial) && !s.ctl.trialOver))

/-- WATCHDOG_EXPIRE (R304): the core is restarted, or at its third firing within 60 s the device fails. -/
def execWatchdogExpire (core : Nat) (s : State) : Res :=
  let recent := (s.core core).firings.filter fun t => decide (s.now < t + 60000000000)
  if core < 8 ∧ s.coreUp core = true then
    if 2 ≤ recent.length then .next (s.raise Ev.ccFail 0 Locus.core core 0)
    else
      let back := s.rollsBack core
      let s := (s.modCore core fun c => { c with firings := recent ++ [s.now] }).restartFailed core
      .next (if back then s.rollBack else s)
  else .next s.unlisted

/-- CC_RESTART (R304, R306). -/
def ccRestartBody (core : Nat) (s : State) : Nat × State :=
  if 7 < core then (Bdp.outOfRange, s)
  else if s.restartRuns then (Bdp.badState, s)
  else (Bdp.pending, (s.modCore core fun c => { c with cmd := true }).startRestart core 1)

/-- CC_RESTART (R304, R306). -/
def execCcRestart (rq : Rq) (core : Nat) (s : State) : Res :=
  bdpCmd (.ccRestart rq core) rq (entryCode 0x7401 1) core (ccRestartBody core) s

/-- An update or a rollback whose last core runs (R307 step 9, R308). -/
def State.rollingDone (s : State) : State :=
  if s.ctl.rolling ≠ [] then s
  else
    match s.ctl.fwState with
    | .activating =>
      let new := s.fwInactive
      let s := s.modCtl fun c => { c with fwActive := new, fwState := .trial, trialLeft := 60000000000, trialOver := false }
      ({ s with trust := { s.trust with measures := (s.fwSlot new).measures } } : State).finish (entryCode 0x7402 4) Bdp.ok
    | .rollingBack =>
      let was := s.ctl.revertCmd
      let s := s.modCtl fun c => { c with fwState := .committed, revertCmd := false }
      let s : State := { s with trust := { s.trust with measures := (s.fwSlot s.ctl.fwActive).measures } }
      if was then s.finish (entryCode 0x7402 6) Bdp.ok else s
    | _ => s

/-- A restarted core runs. -/
def State.coreRuns (s : State) (k : Nat) : State :=
  let upd := decide (s.ctl.rolling.head? = some k)
  let was := (s.core k).cmd
  let new := if upd then decide (s.ctl.fwState = .activating) else (s.core k).onNew
  let s := s.modCore k fun c => { c with state := .running, cmd := false, onNew := new }
  let s := if upd then (s.modCtl fun c => { c with rolling := c.rolling.drop 1 }).rollingDone else s
  if was then s.finish (entryCode 0x7401 1) Bdp.ok else s

/-- CC_RESTART_DONE (R304, R306..R308): the core runs and the next restart begins; a new image that fails its start check is rolled back. -/
def execCcRestartDone (core : Nat) (ok : Bool) (s : State) : Res :=
  let newImage : Bool := (decide (s.ctl.rolling.head? = some core) && decide (s.ctl.fwState = .activating)) || s.rollsBack core
  if core < 8 ∧ (s.core core).state = .restarting ∧ (ok || newImage) = true then
    if ok then .next (s.coreRuns core).nextRestart
    else .next (((s.modCore core fun c => { c with state := .running, cmd := false, onNew := true }).rollBack))
  else .next s.unlisted

/-! ### Firmware update (R307, R308, R387..R389) -/

/-- FW_BEGIN: an upload into the inactive slot, which is then empty (R307). -/
def fwBeginBody (length : Nat) (s : State) : Nat × State :=
  if s.ctl.fwUpload.isSome ∨ (s.ctl.fwState ≠ .committed ∧ s.ctl.fwState ≠ .staged) then (Bdp.badState, s)
  else (Bdp.ok, (s.modFwSlot s.fwInactive fun _ => .init).modCtl fun c => { c with fwUpload := some { length := length }, fwState := .committed })

/-- FW_BEGIN (R307). -/
def execFwBegin (rq : Rq) (length : Nat) (s : State) : Res := bdpCmd (.fwBegin rq length) rq (entryCode 0x7402 1) length (fwBeginBody length) s

/-- FW_DATA, in the manner of R254. -/
def fwDataBody (offset len : Nat) (s : State) : Nat × State :=
  match s.ctl.fwUpload with
  | none => (Bdp.badState, s)
  | some u =>
    if u.length < offset + len then (Bdp.outOfRange, s)
    else (Bdp.ok, s.modCtl fun c => { c with fwUpload := some { u with written := if len = 0 then u.written else u.written ++ [(offset, offset + len)] } })

/-- FW_DATA (R307). -/
def execFwData (rq : Rq) (offset : Nat) (data : List Nat) (s : State) : Res :=
  bdpCmd (.fwData rq offset data) rq (entryCode 0x7402 2) (varValue (le 8 offset ++ data)) (fwDataBody offset data.length) s

/-- The status of an uploaded image (R307, R388). -/
def State.fwStatus (s : State) (u : FwUpload) (verified : Bool) (i : FwImage) : Nat :=
  if coveredTo (u.written.length + 1) u.written 0 < u.length ∨ verified = false ∨ s.trust.revoked.contains i.keyIndex = true ∨ 64 < i.secVersion then Bdp.fwInvalid
  else if i.secVersion < s.trust.secCounter then Bdp.fwRollback
  else Bdp.ok

/-- FW_END: the trust block verifies the image; a refused one leaves the slot empty (R307, R358). -/
def fwEndBody (verified : Bool) (i : FwImage) (s : State) : Nat × State :=
  match s.ctl.fwUpload with
  | none => (Bdp.badState, s)
  | some u =>
    let st := s.fwStatus u verified i
    let s := s.modCtl fun c => { c with fwUpload := none }
    let s := if st = Bdp.ok then (s.modFwSlot s.fwInactive fun _ => { i with present := true }).modCtl fun c => { c with fwState := .staged } else s
    (Bdp.pending, s.finish (entryCode 0x7402 3) st)

/-- FW_END (R307). -/
def execFwEnd (rq : Rq) (verified : Bool) (image : FwImage) (s : State) : Res :=
  bdpCmd (.fwEnd rq verified image) rq (entryCode 0x7402 3) 1 (fwEndBody verified image) s

/-- FW_ACTIVATE, mode 0: the cores restart one after another (R307). -/
def fwRollingBody (s : State) : Nat × State :=
  if s.ctl.fwState ≠ .staged then (Bdp.badState, s)
  else if (s.fwSlot s.ctl.fwActive).version < (s.fwSlot s.fwInactive).compatMin then (Bdp.fwNotRolling, s)
  else (Bdp.pending, (s.modCtl fun c => { c with fwState := .activating, rolling := rollingOrder }).nextRestart)

/-- FW_ACTIVATE_ROLLING (R307). -/
def execFwActivateRolling (rq : Rq) (s : State) : Res := bdpCmd (.fwActivateRolling rq) rq (entryCode 0x7402 4) 0 fwRollingBody s

/-- FW_ACTIVATE, mode 1: the device resets and starts from the new image (R307, R446). -/
def fwResetBody (s : State) : Nat × State :=
  if s.ctl.fwState ≠ .staged then (Bdp.badState, s)
  else (Bdp.pending, (s.modCtl fun c => { c with fwState := .trial, fwActive := s.fwInactive, trialOver := false }).toReset 3)

/-- FW_ACTIVATE_RESET (R307). -/
def execFwActivateReset (rq : Rq) (s : State) : Res := bdpCmd (.fwActivateReset rq) rq (entryCode 0x7402 4) 1 fwResetBody s

/-- The fuses that a commit blows: the thermometer, and the revocation of every lower key index where the image's is higher (R389). -/
def Trust.commit (t : Trust) (i : FwImage) : Trust :=
  { t with secCounter := max t.secCounter i.secVersion, revoked := t.revoked ++ (List.range i.keyIndex).filter fun k => !t.revoked.contains k }

/-- FW_COMMIT: after the 60 s of the trial (R308). -/
def fwCommitBody (s : State) : Nat × State :=
  if s.ctl.fwState ≠ .trial ∨ s.ctl.trialOver = false then (Bdp.badState, s)
  else
    let s : State := { s with trust := s.trust.commit (s.fwSlot s.ctl.fwActive) }
    (Bdp.ok, (List.range 8).foldl (fun s k => s.modCore k fun c => { c with onNew := false }) (s.modCtl fun c => { c with fwState := .committed, trialOver := false }))

/-- FW_COMMIT (R308, R389). -/
def execFwCommit (rq : Rq) (s : State) : Res := bdpCmd (.fwCommit rq) rq (entryCode 0x7402 5) 1 fwCommitBody s

/-- FW_REVERT: within the 60 s of the trial (R308). -/
def fwRevertBody (s : State) : Nat × State :=
  if s.ctl.fwState ≠ .trial ∨ s.ctl.trialOver then (Bdp.badState, s) else (Bdp.pending, (s.modCtl fun c => { c with revertCmd := true }).rollBack)

/-- FW_REVERT (R308). -/
def execFwRevert (rq : Rq) (s : State) : Res := bdpCmd (.fwRevert rq) rq (entryCode 0x7402 6) 1 fwRevertBody s

/-- FW_TRIAL_WINDOW_END (R308): the 60 s have passed. -/
def execFwTrialWindowEnd (s : State) : Res :=
  s.listed (decide (s.ctl.fwState = .trial) && !s.ctl.trialOver && decide (s.ctl.trialLeft = 0)) (s.modCtl fun c => { c with trialOver := true })

/-! ### The driver lease (R309..R312) -/

/-- LEASE_TIME, ns. -/
def State.leaseTime (s : State) : Nat := s.setting 0x7000 1

/-- The lease changed. -/
def State.modLease (s : State) (f : Lease → Lease) : State := s.modCtl fun c => { c with lease := f c.lease }

/-- The epoch after a claim: 0 is skipped (R309). -/
def nextEpoch (e : Nat) : Nat := if (e + 1) % 2 ^ 32 = 0 then 1 else (e + 1) % 2 ^ 32

/-- LEASE_CLAIM: it always succeeds (R309, R310); from UNATTENDED every policy is lifted (R312). -/
def leaseClaimBody (s : State) : Nat × State :=
  let l := s.ctl.lease
  let e := nextEpoch l.epoch
  let took : Bool := l.holder && decide (l.state ≠ .unattended)
  let s := (s.modLease fun _ => { state := .held, holder := true, epoch := e, remaining := s.leaseTime }).modCtl fun c => { c with policies := [] }
  (Bdp.ok, if took then s.raise Ev.leaseTakeover 0 Locus.none 0 e else s)

/-- LEASE_CLAIM (R309). -/
def execLeaseClaim (rq : Rq) (s : State) : Res := bdpCmd (.leaseClaim rq) rq (entryCode 0x7000 2) 1 leaseClaimBody s

/-- The status of an epoch that a renewal or a release names (R309, R310). -/
def State.epochStatus (s : State) (e : Nat) : Nat :=
  if s.ctl.lease.state = .unattended then Bdp.noLease else if e = 0 ∨ e ≠ s.ctl.lease.epoch then Bdp.staleEpoch else Bdp.ok

/-- LEASE_RENEW (R309, R310). -/
def leaseRenewBody (e : Nat) (s : State) : Nat × State :=
  let st := s.epochStatus e
  if st ≠ Bdp.ok then (st, s) else (Bdp.ok, s.modLease fun l => { l with state := .held, holder := true, remaining := s.leaseTime })

/-- LEASE_RENEW (R309, R310). -/
def execLeaseRenew (rq : Rq) (epoch : Nat) (s : State) : Res := bdpCmd (.leaseRenew rq epoch) rq (entryCode 0x7000 3) epoch (leaseRenewBody epoch) s

/-- NOTICE on every channel of a tenant, for the whole channel (R285). -/
def State.channelNotice (s : State) (t ev : Nat) : State := (s.connsWhere fun c => c.channelOf t).foldl (fun s k => s.send k (.notice 0xFFFFFFFF ev)) s

/-- The training job of a tenant stops as on TRAIN_STOP (R277, R312). -/
def State.stopJob (s : State) (t : Nat) : State := if (s.job t).state = .running then s.modJob t fun j => { j with stopAt := some .idle } else s

/-- A tenant follows its UNATTENDED_POLICY (R312). -/
def State.applyPolicy (s : State) (t : Nat) : State :=
  if s.tenState t ≠ .active then s
  else
    let p := s.setting (0x7010 + t) 1
    let s := s.modPolicy t fun _ => p + 1
    if p = 1 then (s.channelNotice t 3).modJob t fun j => { j with drain := decide (j.state = .running) }
    else if p = 2 then ((s.sessionsWhere fun x => x.isOpen && decide (x.tenant = t) && x.live.isSome).foldl (fun s i => s.cancelReq i 5 Asx.haltCancelled) s).stopJob t
    else s

/-- UNATTENDED is entered (R310, R312). -/
def State.enterUnattended (s : State) : State :=
  let s := (s.modLease fun l => { l with state := .unattended, holder := false, remaining := 0 }).count 0xAF01 2 1
  (List.range 8).foldl (fun s i => s.applyPolicy (i + 1)) (s.raise Ev.unattended 0 Locus.none 0 s.ctl.lease.epoch)

/-- LEASE_RELEASE (R309, R310). -/
def leaseReleaseBody (e : Nat) (s : State) : Nat × State :=
  let st := s.epochStatus e
  if st ≠ Bdp.ok then (st, s) else (Bdp.ok, s.enterUnattended)

/-- LEASE_RELEASE (R309, R310). -/
def execLeaseRelease (rq : Rq) (epoch : Nat) (s : State) : Res := bdpCmd (.leaseRelease rq epoch) rq (entryCode 0x7000 4) epoch (leaseReleaseBody epoch) s

/-- LEASE_EXPIRY (R310): HELD to GRACE. -/
def execLeaseExpiry (s : State) : Res :=
  s.listed (s.countsRun && decide (s.ctl.lease.state = .held) && decide (s.ctl.lease.remaining = 0))
    (((s.modLease fun l => { l with state := .grace, remaining := 1000000000 }).count 0xAF01 1 1).raise Ev.leaseExpired 0 Locus.none 0 s.ctl.lease.epoch)

/-- GRACE_EXPIRY (R310): GRACE to UNATTENDED. -/
def execGraceExpiry (s : State) : Res :=
  s.listed (s.countsRun && decide (s.ctl.lease.state = .grace) && decide (s.ctl.lease.remaining = 0)) s.enterUnattended

end Sys2Proof.Machine
end

