-- ==== Sys2Proof/Machine/MirrorOps.lean ====
section
/-! DEFINITION. Mirror recording: when it runs, the octets of its records, and the export of a segment (R424..R427, R433). -/

namespace Sys2Proof.Machine

/-! ### The octets of a record (R425) -/

/-- TYPE of a record. -/
def MBody.type : MBody → Nat
  | .time .. => 1 | .inbound .. => 2 | .dictWrite .. => 3 | .seed .. => 4 | .step .. => 5 | .cold .. => 6
  | .event .. => 7 | .power .. => 8 | .output .. => 9 | .slots .. => 10 | .loss .. => 11

/-- FLAGS of a record: bit 0 TIME_UNKNOWN of a TIME record. -/
def MBody.flags : MBody → Nat
  | .time _ unknown => if unknown then 1 else 0
  | _ => 0

/-- A 32-bit two's-complement field. -/
def le32i (i : Int) : Bytes := le 4 (i % 2 ^ 32).toNat

/-- The body of a record. -/
def MBody.bytes : MBody → Bytes
  | .time cal _ => le 8 cal
  | .inbound channel msg body => le 4 channel ++ le 1 msg ++ le 3 0 ++ body
  | .dictWrite principal epoch items => le 1 principal ++ le 3 0 ++ le 4 epoch ++ items.flatMap fun i => itemBytes i.1 i.2.1 i.2.2
  | .seed reqId value => le 8 reqId ++ le 8 value
  | .step reqId stepNo gen cls split handles => le 8 reqId ++ le 4 stepNo ++ le 4 gen ++ le 1 cls ++ le 1 split ++ le 1 handles.length ++ le 1 0 ++ handles.flatMap (le 4)
  | .cold session cause => le 4 session ++ le 1 cause
  | .event record => record
  | .power powers vcore tj pstate profile => powers.flatMap (le 4) ++ le 2 vcore ++ le32i tj ++ le 1 pstate ++ le 1 profile
  | .output reqId index count stop status digests text => le 8 reqId ++ le 4 index ++ le 2 count ++ le 1 stop ++ le 1 0 ++ le 2 status ++ le 2 0 ++ digests.flatten ++ text
  | .slots info => info
  | .loss lost => le 4 lost

/-- A record: its 16-octet header and its body. -/
def MRec.bytes (r : MRec) : Bytes := le 1 r.body.type ++ le 1 r.body.flags ++ le 2 r.len ++ le 4 r.seq ++ le 8 r.mono ++ r.body.bytes

/-- The 64-octet header of a Mirror file (R426). -/
def State.mirrorHeader (s : State) (t : Nat) (f : MFile) : Bytes :=
  le 4 0x524D5156 ++ le 2 1 ++ le 1 t ++ le 1 0 ++ le 4 f.seq ++ le 4 f.first ++ le 4 f.records.length ++ (s.ident.deviceId ++ List.replicate 32 0).take 32 ++ le 12 (Config.trng 96 f.nonce) ++ le 4 0

/-- The octets of a Mirror file as stored: the header in clear, the records sealed, the tag (R426). -/
def State.mirrorFile (s : State) (t : Nat) (f : MFile) : Bytes :=
  let h := s.mirrorHeader t f
  h ++ Config.gcmSeal f.key (Config.trng 96 f.nonce) h (f.records.flatMap MRec.bytes)

/-! ### Export (R205, R426) -/

/-- Octets of the file that holds `n` octets of records. -/
def mirrorOctets (n : Nat) : Nat := 64 + n + 16

/-- Records are exported as one file: sealed, counted in UFS_MIB and in MIRROR_BYTES. -/
def State.putFile (s : State) (t key : Nat) (records : List MRec) (n : Nat) : State :=
  let f : MFile := { seq := (s.mten t).nextFile, first := match records with | r :: _ => r.seq | [] => 0, key := key, nonce := s.trust.fresh, records := records, bytes := mirrorOctets n }
  (s.drawn.modMten t fun m => { m with files := m.files ++ [f], nextFile := (m.nextFile + 1) % 2 ^ 32 }).tcount t 0xA110 2 (mirrorOctets n)

/-- An export that does not fit is not written (R205). -/
def State.exportRefused (s : State) (t n : Nat) : State := s.raise Ev.ufsQuota t Locus.none 0 (mirrorOctets n)

/-- The closed segment is exported. -/
def State.exportFull (s : State) (t : Nat) : State :=
  let m := s.mten t
  if m.full = [] then s
  else if s.ufsFits t (mirrorOctets m.fullBytes) then (s.putFile t m.fullKey m.full m.fullBytes).modMten t fun m => { m with full := [], fullBytes := 0, fullKey := 0 }
  else s.exportRefused t m.fullBytes

/-- The open segment is closed and exported; one that does not fit stays, closed where the other segment is free. -/
def State.exportOpen (s : State) (t : Nat) : State :=
  let s := s.exportFull t
  let m := s.mten t
  if m.seg = [] then s
  else if s.ufsFits t (mirrorOctets m.segBytes) then (s.putFile t m.segKey m.seg m.segBytes).modMten t fun m => { m with seg := [], segBytes := 0, segKey := 0, segSince := 0 }
  else
    let s := s.exportRefused t m.segBytes
    if m.full = [] then s.modMten t fun m => { m with full := m.seg, fullBytes := m.segBytes, fullKey := m.segKey, seg := [], segBytes := 0, segKey := 0, segSince := 0 } else s

/-! ### When recording runs (R424) -/

/-- Whether a tenant is recorded: the envelope's flag, its consent and its key; a replay stops recording (R424, R428). -/
def State.mayRecord (s : State) (t : Nat) : Bool :=
  (s.envOf t).mirror && decide (s.setting (0xB100 + t) 1 = 1) && decide (s.mirrorKeyOf t ≠ 0) && (s.mten t).replay.isNone && s.formed t

/-- A TIME record (R425). -/
def State.noteTime (s : State) (t : Nat) : State := s.capture t (.time s.clk.cal s.clk.timeUnknown)

/-- Recording follows its conditions: it starts with TIME and SLOTS, and what it leaves when it stops is exported (R424, R425, R426). -/
def State.syncMirror (s : State) (t : Nat) : State :=
  if s.mayRecord t then
    if (s.mten t).recording then s else ((s.modMten t fun m => { m with recording := true }).noteTime t).noteSlots t
  else if (s.mten t).recording then (s.modMten t fun m => { m with recording := false }).exportOpen t
  else s

/-! ### Power records (R425) -/

/-- POWER_STATE (R411); a state in which nothing can be read has the code of the entry that led to it. -/
def PState.code : PState → Nat
  | .run => 0 | .idle => 1 | .returning => 3 | _ => 2

/-- The body of a POWER record. -/
def State.powerBody (s : State) : MBody := .power ((s.power.pNow ++ List.replicate 5 0).take 5) s.power.vcore s.power.tj s.power.state.code s.dict.active

/-- A change of power state or of profile is recorded. -/
def State.notePower (s : State) : State := s.captureAll s.powerBody

end Sys2Proof.Machine
end

