-- ==== Sys2Proof/Machine/PowerOps.lean ====
section
/-! DEFINITION. The shared operations of the power states: entries, aborts, wakes and returns (R244..R248, R334, R394..R403). -/

namespace Sys2Proof.Machine

/-- The Power record changed. -/
def State.modPower (s : State) (f : Power → Power) : State := { s with power := f s.power }

/-! ### Counts that an entry stops (R403) -/

/-- The counts stop. -/
def State.stopCounts (s : State) : State := s.modPower fun p => { p with stoppedAt := match p.stoppedAt with | some t => some t | none => some s.now }

/-- A request whose queue time did not run since `from`. -/
def Req.shifted (r : Req) (since now : Nat) : Req := if r.state = .queued then { r with queuedAt := r.queuedAt + (now - max since r.queuedAt) } else r

/-- The counts go on with what they had. -/
def State.resumeCounts (s : State) : State :=
  match s.power.stoppedAt with
  | none => s
  | some t0 =>
    let late := fun t => t + (s.now - max t0 t)
    { s with
      power := { s.power with stoppedAt := none }
      svc := { s.svc with
        sessions := mmap .init (fun _ x => { x with openedAt := late x.openedAt, reqs := x.reqs.map fun r => r.shifted t0 s.now }) s.svc.sessions
        conns := mmap none (fun _ (o : Option Conn) => o.map fun (k : Conn) => { k with idleSince := late k.idleSince }) s.svc.conns } }

/-! ### What DEEP_SLEEP retains (R247, R248) -/

/-- Octets of a range of channel data addresses copied to another place of the channel. -/
def copyRange (m : List Host.Cell) (src dst len : Nat) : List Host.Cell :=
  (m.filter fun c => decide (src ≤ c.1) && decide (c.1 < src + len)).foldl (fun m c => mset memDefault m (c.1 - src + dst) c.2)
    (m.filter fun c => !(decide (dst ≤ c.1) && decide (c.1 < dst + len)))

/-- Whether an allocation is retained: the session allocations of persistent sessions and resident adapters. -/
def State.retains (s : State) (e : Extent) : Bool :=
  match e.kind with
  | .sessionC => (s.session e.owner).persistent && (s.session e.owner).isOpen
  | .adapterC => decide (e.owner < 16) && decide ((s.adapter (e.tenant * 16 + e.owner)).state = .resident)
  | _ => false

/-- The whole grains of a channel that an allocation of the spread view takes; `i` is the channel's place among the tenant's. -/
def State.grainsOn (s : State) (e : Extent) (i : Nat) : Nat × Nat :=
  let g := s.grain e.tenant
  let n := 2 * (s.clusterList e.tenant).length
  ((e.base / g + n - 1 - i) / n * g, (cdiv (e.base + e.len) g + n - 1 - i) / n * g)

/-- The retained ranges of a channel of a tenant, rising. -/
def State.retainedOn (s : State) (t i : Nat) : List (Nat × Nat) :=
  (((s.dram.extents.filter fun e => decide (e.tenant = t) && e.pair.isNone && s.retains e).map fun e => s.grainsOn e i).filter fun r => decide (r.1 < r.2)).mergeSort fun a b => decide (a.1 ≤ b.1)

/-- The moves that bring ranges to the lowest addresses, and where the last one ends. -/
def compact : Nat → List (Nat × Nat) → List Move × Nat
  | top, [] => ([], top)
  | top, r :: l =>
    let x := compact (top + (r.2 - r.1)) l
    (({ src := r.1, dst := top, len := r.2 - r.1 } : Move) :: x.1, x.2)

/-- Octets of KV pages that a channel of a tenant retains: its pages in DRAM, spread over its channels (DESIGN CHOICE, log entry 30). -/
def State.pageOctets (s : State) (t : Nat) : Nat := cdiv (s.warmPages t * 65536) (2 * (s.clusterList t).length)

/-- The octets of refreshed segment size: 372 MiB (R247). -/
def segmentOctets : Nat := 372 * 2 ^ 20

/-- One channel is compacted: its log is written, its ranges move, and the segments that hold retained data are named (R247, R248). -/
def State.compactChannel (s : State) (t i ch : Nat) : State :=
  let r := compact 0 (s.retainedOn t i)
  let log := r.1.filter fun m => decide (m.src ≠ m.dst)
  let s : State := { s with mem := log.foldl (fun m x => copyRange m (ch * 2 ^ 33 + x.src) (ch * 2 ^ 33 + x.dst) x.len) s.mem }
  s.modChan ch fun c => { c with log := log, segments := min 15 (cdiv (r.2 + s.pageOctets t) segmentOctets) }

/-- The channels of a tenant, each with its place. -/
def State.tenantChannels (s : State) (t : Nat) : List (Nat × Nat) :=
  ((s.clusterList t).flatMap fun c => [2 * c, 2 * c + 1]).zipIdx.map fun x => (x.2, x.1)

/-- Tenants that own something. -/
def State.tenants8 (s : State) : List Nat := ((List.range 8).map (· + 1)).filter fun t => s.formed t

/-- A hot page is evicted with its staged entries flushed into it (R144, R247). -/
def State.evictWhole (s : State) (n : Nat) : State :=
  match s.page n with
  | none => s
  | some p =>
    let es := (s.stagedFor p.session n).mergeSort fun a b => decide (a.pos ≤ b.pos)
    let sh := s.kvShape p.session
    let s := (s.setPage n fun p => es.foldl (fun p e =>
      { (p.putRecord (e.pos - p.firstPos) ((List.range (kvRecord sh.1 sh.2.1 sh.2.2)).map fun i => mget 0 e.data i)) with fill := p.fill + 1 }) p).modStagingOf p.session fun l =>
        l.filter fun e => decide (e.page ≠ n)
    if p.hot.isSome then s.setPage n fun p => { p with hot := none, moving := none, src := none, srcHeld := false } else s

/-- Steps 1 to 5 of R247. -/
def State.prepareDeep (s : State) : State :=
  let s := (s.sessionsWhere fun x => x.isOpen && !x.persistent).foldl (fun s i => s.closeSess i 7) s
  let s := s.tenants8.foldl State.suspendJob s
  let s := (mkeys s.kv.pages).foldl State.evictWhole s
  let s := s.tenants8.foldl (fun s t => (s.tenantChannels t).foldl (fun s x => s.compactChannel t x.1 x.2) s)
    { s with dram := { s.dram with channels := mmodAll .init s.dram.channels (List.range 32) fun c => { c with segments := 0 } } }
  { s with
    vault := { s.vault with strata := mmap .init (fun _ x => { x.dropCopy with copyAge := 0 }) s.vault.strata }
    models := { s.models with slots := mmap .init (fun _ m => { m with loaded := false }) s.models.slots }
    exp := { s.exp with tables := [], acts := [] }
    streams := Streams.init
    tiers := { s.tiers with hotCopies := [] }
    dram := { s.dram with compacted := true, extents := s.dram.extents.map fun e => if s.retains e ∨ e.kind = .kvC then e else { e with dropped := true } } }

/-- The compaction log of a channel is replayed in reverse (R248). -/
def State.restoreChannel (s : State) (ch : Nat) : State :=
  let s : State := { s with mem := (s.chan ch).log.reverse.foldl (fun m x => copyRange m (ch * 2 ^ 33 + x.dst) (ch * 2 ^ 33 + x.src) x.len) s.mem }
  s.modChan ch fun c => { c with log := [], segments := 16 }

/-- What the return brings back after compaction: retained content at its addresses, jobs from their checkpoints (R247, R248, R277). -/
def State.restoreDeep (s : State) : State :=
  if s.dram.compacted then
    let s := (List.range 32).foldl State.restoreChannel s
    s.tenants8.foldl State.resumeJob { s with dram := { s.dram with compacted := false } }
  else s

/-! ### Ports (R334, R400, R402) -/

/-- TC10_ENABLE of a host port. -/
def State.tc10 (s : State) (p : Nat) : Bool := decide (s.eff p 19 = 1) && decide (s.eff p 2 = 0)

/-- Host ports that a sleep request goes to: linked, in PHY mode, with TC10_ENABLE 1. -/
def State.sleepers (s : State) : List Nat := [0, 1].filter fun p => decide ((s.port p).link = .up) && s.tc10 p

/-- A return to RUN wakes the partners: sleeping links train again, and so do those that DEEP_SLEEP took down; MP is up at once (R334, R337). -/
def State.wakePorts (s : State) : State :=
  [0, 1, 2].foldl (fun s p => s.modPort p fun x =>
    { x with tc10Wait := false, tc10Asleep := false, link := if x.on ∧ (x.link = .sleep ∨ x.link = .down) then (if p = 2 then .up else .training) else x.link }) s

/-- Links in SLEEP: those whose partner acknowledged are asleep. -/
def State.sleepPorts (s : State) (asleep : List Nat) : State := asleep.foldl (fun s p => s.modPort p fun x => { x with link := .sleep, tc10Wait := false, tc10Asleep := true }) s

/-- Links in DEEP_SLEEP: every other link goes down; nothing is raised or counted for it (R402). -/
def State.dropPorts (s : State) : State := [0, 1, 2].foldl (fun s p => s.modPort p fun x => { x with link := if x.link = .sleep then .sleep else .down, peerLive := false, txSa := [], rxSa := [], verified := false }) s

/-- Whether queued egress has been sent on every port that has a link. -/
def State.egressSent (s : State) : Bool :=
  [0, 1, 2].all fun p => decide ((s.port p).link ≠ .up) || ((s.port p).egress.isEmpty && (s.port p).fragment.isNone && (s.connsWhere fun c => decide (c.port = p) && decide (c.toQueue ≠ [])).isEmpty)

/-! ### Returns (R401) -/

/-- Every channel leaves the self-refresh of SLEEP or DEEP_SLEEP (R246, R401). -/
def State.channelsOn (s : State) : State :=
  { s with dram := { s.dram with channels := mmodAll .init s.dram.channels (List.range 32) fun c =>
      if c.state = .selfRefresh ∨ c.state = .partialRefresh then { c with state := .active, lastBusy := s.now } else c } }

/-- Every channel enters self-refresh, or partial-array self-refresh (R246). -/
def State.channelsOff (s : State) (deep : Bool) : State :=
  { s with dram := { s.dram with channels := mmodAll .init s.dram.channels (List.range 32) fun c =>
      if c.state = .lost then c else { c with state := if deep then .partialRefresh else .selfRefresh, openRow := [] } } }

/-- RUN is reached from an entry, from SLEEP or from DEEP_SLEEP (R396, R401, R403). -/
def State.enterRunState (s : State) : State :=
  ((s.restoreDeep.wakePorts.resumeCounts).modPower fun p => { p with state := .run, entry := none, sleepCount := 0, deepCount := 0, idleSince := s.now }).notePower

/-- A return begins (R401). -/
def State.beginReturn (s : State) (src : PState) : State := (s.modPower fun p => { p with state := .returning, returnFrom := src, entry := none }).notePower

/-! ### Refusals, aborts and wakes (R397..R402) -/

/-- POWER_REQUEST value of a state. -/
def PState.request : PState → Nat
  | .sleep => 1 | .deepSleep => 2 | .off => 3 | _ => 0

/-- LAST_REFUSAL (R398, R411). -/
def State.noteRefusal (s : State) (target : PState) (code tenant port : Nat) : State :=
  s.modPower fun p => { p with lastRefusal := { state := target.request, code := code, tenant := tenant, port := port, mono := s.now } }

/-- Code of POWER_REQUEST. -/
def powerRequestCode : Nat := 0x200302

/-- An entry is aborted (R396, R398, R400): before step 7 the device is in RUN again, from step 7 on it returns as from SLEEP. -/
def State.abortEntry (s : State) (code tenant port : Nat) : State :=
  match s.power.entry with
  | none => s
  | some e =>
    let s := (s.count 0xA031 code 1).noteRefusal e.target code tenant port
    let s := if e.auto then s else s.finish powerRequestCode Bdp.powerRefused
    let s := s.modPower fun p => { p with sleepCount := 0, deepCount := 0 }
    if e.step < 7 then s.enterRunState else (s.modPower fun p => { p with vcoreKept := p.vcore }).beginReturn .sleep

/-- Whether a wake event of R402 acts in a state. -/
def wakes : PState → Nat → Bool
  | .sleep, c => decide (1 ≤ c) && decide (c ≤ 6)
  | .deepSleep, c => decide (1 ≤ c ∧ c ≤ 3) || decide (c = 6)
  | .off, c => decide (c = 1) || decide (c = 6)
  | _, _ => false

/-- WAKE_SOURCE (R402). -/
def State.wakeSource (s : State) (code : Nat) : State := s.modPower fun p => { p with wakeSource := code }

/-- A wake event (R398, R402): it begins the return, aborts an automatic entry, waits for step 6 of a commanded one or aborts it from there on; an entry to OFF is not aborted, and nothing happens in RUN, IDLE or a return. -/
def State.wake (s : State) (code : Nat) : State :=
  match s.power.state with
  | .sleep => if wakes .sleep code then (s.wakeSource code).beginReturn .sleep else s
  | .deepSleep => if wakes .deepSleep code then (s.wakeSource code).beginReturn .deepSleep else s
  | .off => if wakes .off code then (s.wakeSource code).modPower fun p => { p with state := .held } else s
  | .entering =>
    match s.power.entry with
    | none => s
    | some e =>
      if e.target = .off then s
      else if e.auto ∨ 6 ≤ e.step then (s.wakeSource code).abortEntry 8 0 0xFF
      else s.modPower fun p => { p with entry := some { e with latched := code } }
  | _ => s

/-- An ASX or BDP record arrives (R396, R398): the SLEEP_AFTER count restarts, and an automatic entry is aborted. -/
def State.recordArrived (s : State) : State :=
  let s := s.modPower fun p => { p with sleepCount := 0 }
  match s.power.state, s.power.entry with
  | .entering, some e => if e.auto then s.abortEntry 8 0 0xFF else s
  | _, _ => s

/-- The lever settings after VCORE or P_v changed: G is computed anew (R71, R404). -/
def State.regrant (s : State) : State := { s with vault := { s.vault with grant := s.grantOf } }

end Sys2Proof.Machine
end

