-- ==== Sys2Proof/Machine/NetOps.lean ====
section
/-! DEFINITION. The shared operations of the ports: enabling, link loss, MACsec, the reception and the sending of a frame (R322..R338). -/

namespace Sys2Proof.Machine

/-! ### Enabling and link loss (R322, R323, R337, R338) -/

/-- The entries of a port that take effect when it is enabled (R322, R341). -/
def enableSubs (p : Nat) : List Nat := if p = 2 then [2, 3, 4, 5] else [2, 3, 4, 9, 15, 16, 17, 18, 19, 20]

/-- The settings of a port that are to take effect. -/
def State.portSettings (s : State) (p : Nat) : SMap Nat := (enableSubs p).map fun k => (k, s.setting (portIndex p) k)

/-- A port is enabled: its settings take effect and its link trains; MP has no link training (R322, R337). -/
def State.enablePort (s : State) (p : Nat) : State :=
  let e := s.portSettings p
  s.modPort p fun x => { x with on := true, eff := e, link := if p = 2 then .up else .training, speed := 0, beacon := false, verified := false }

/-- The datagrams whose frames stood in a port's queues are gone. -/
def State.dropDatagrams (s : State) (fs : List TxFrame) : State :=
  fs.foldl (fun s f => match f.conn with | some c => if f.dgram then s.modConn c fun o => o.map fun k => { k with dgOut := k.dgOut.eraseP fun m => decide (max 64 (m.size + frameOverhead) = f.len) } else s | none => s) s

/-- A link is lost (R338): LINK_DOWNS, the event of a host link, and the egress queues discarded into TX_DROPS. -/
def State.linkLoss (s : State) (p : Nat) (next : LinkState) : State :=
  let fs := (s.port p).egress.flatMap (·.2)
  let s := s.count 0xA006 (p + 1) 1
  let s := if p = 2 then s else s.raise Ev.portLinkDown 0 Locus.port p 0
  let s := if fs = [] then s else s.count 0xA005 (p + 1) fs.length
  (s.dropDatagrams fs).modPort p fun x => { x with link := next, speed := 0, egress := [], fragment := none, verified := false, syncLive := false, tc10Wait := false, tc10Asleep := false }

/-! ### MACsec (R326, R327) -/

/-- MACSEC_REQUIRED of a host port, in force at once. -/
def State.macsecRequired (s : State) (p : Nat) : Bool := decide (s.setting (0x3100 + p) 12 = 1)

/-- Whether a SAK protects the frames of a port. -/
def Port.protects (x : Port) : Bool := decide (x.mode ≠ 0) && x.peerLive && !x.rxSa.isEmpty

/-- Whether a port passes data frames (R327). -/
def State.dataOpen (s : State) (p : Nat) : Bool :=
  decide (p = 2) || !s.macsecRequired p || ((s.port p).peerLive && !(s.port p).rxSa.isEmpty)

/-- Frames that pass without MACsec. -/
def FrameKind.control : FrameKind → Bool
  | .mka | .gptp => true
  | _ => false

/-- REPLAY_WINDOW in effect. -/
def State.replayWindow (s : State) (p : Nat) : Nat := s.eff p 15

/-- Whether a secure association accepts a PN: not below the window, and not accepted before (R326, R339). -/
def Sa.fresh (a : Sa) (window pn : Nat) : Bool := decide (a.pn ≤ pn + window) && !a.seen.contains pn

/-- A PN is accepted. -/
def Sa.accept (a : Sa) (window pn : Nat) : Sa :=
  let next := max a.pn (pn + 1)
  { a with pn := next, seen := (pn :: a.seen).filter fun k => decide (next ≤ k + window) }

/-- Whether MACsec lets a received frame pass (R326, R327). -/
def State.macsecPass (s : State) (p : Nat) (f : RxFrame) : Bool :=
  if p = 2 then f.sa.isNone
  else match f.sa with
    | none => f.kind.control || (s.dataOpen p && !(s.port p).protects)
    | some an => let a := mget .init (s.port p).rxSa an; a.installed && decide ((s.port p).mode ≠ 0) && f.icvOk && a.fresh (s.replayWindow p) f.pn

/-- The association that protected a frame has seen its PN. -/
def State.macsecSeen (s : State) (p : Nat) (f : RxFrame) : State :=
  match f.sa with
  | some an => let w := s.replayWindow p; s.modPort p fun x => { x with rxSa := mmod .init x.rxSa an fun a => a.accept w f.pn }
  | none => s

/-! ### Reception (R244, R283, R324, R325, R329, R335, R336) -/

/-- Whether a port accepts a frame's VLAN tag; MP knows none (R329, R337). -/
def State.vlanPass (s : State) (p : Nat) (f : RxFrame) : Bool :=
  match f.vid with
  | none => true
  | some v =>
    if p = 2 then false
    else decide (v = 0) || decide (v = s.setting (0x3100 + p) 6) || (List.range 16).any fun i => decide (nbits (s.setting (0x3100 + p) 7) (16 * i) 16 = v)

/-- Whether a frame is express on receipt (R325). -/
def State.isExpress (s : State) (p : Nat) (f : RxFrame) : Bool :=
  if p = 2 then false else if s.eff p 9 = 1 then f.express else nbit (s.setting (0x3100 + p) 8) f.pcp

/-- Octets of express, or of other, frames in the ingress buffer. -/
def Port.ingress (x : Port) (express : Bool) : Nat := ((x.rxList.filter fun f => f.express == express).map (·.len)).sum

/-- Octets of the ingress buffer for express frames, and for others (R305, R325). -/
def ingressLimit (express : Bool) : Nat := if express then 65536 else 2 ^ 20 - 65536

/-- Whether a packet is one that the port takes (R335, R336): a datagram must name the ASX datagram service of a host port that offers it. -/
def State.packetTaken (s : State) (p : Nat) (f : RxFrame) : Bool :=
  f.ipOk && (decide (f.kind ≠ .udp) || (decide (p < 2) && decide (f.number = s.serviceNumber 2) && nbit (s.servicesOf p) 2))

/-- A datagram's SEQ passes the window of 64 (R283). -/
def Conn.dgFresh (k : Conn) (seq : Nat) : Bool :=
  if k.dgHigh ≤ seq then true else decide (k.dgHigh ≤ seq + 64) && !nbit k.dgSeen.toNat (k.dgHigh - 1 - seq)

/-- A datagram's SEQ is accepted. -/
def Conn.dgAccept (k : Conn) (seq src : Nat) : Conn :=
  if k.dgHigh ≤ seq then
    let by' := seq + 1 - k.dgHigh
    { k with dgHigh := seq + 1, dgSeen := (if 64 ≤ by' then 0 else k.dgSeen <<< by') ||| 1, dgSrc := src }
  else { k with dgSeen := k.dgSeen ||| (1 <<< (k.dgHigh - 1 - seq)), dgSrc := src }

/-- A SEQ that no direction of a channel reaches (R283). -/
def seqEnd : Nat := 2 ^ 48

/-- A record reaches its channel (R283): the checks of its tag and SEQ, and the end of the channel that a stream record which fails them brings. -/
def State.takeRecord (s : State) (c : Nat) (k : Conn) (r : RxRec) : State :=
  let s := if r.tagOk then s else s.tcount k.tenantOf 0xAE00 8 1
  if r.dgram then
    if !r.tagOk || !k.dgFresh r.seq then s
    else if seqEnd ≤ r.seq + 1 then s.closeConn c
    else s.modConn c fun o => o.map fun x => { (x.dgAccept r.seq r.src) with idleSince := s.now }
  else if !r.tagOk ∨ r.seq ≠ k.rxSeq ∨ seqEnd ≤ r.seq + 1 then s.closeConn c
  else s.modConn c fun o => o.map fun x => { x with rxSeq := x.rxSeq + 1, idleSince := s.now }

/-- The channels of a tenant leave self-refresh (R244). -/
def State.wakeTenant (s : State) (t : Nat) : State :=
  if t = 0 then s else (s.tenantChannels t).foldl (fun s x => if (s.chan x.2).state = .selfRefresh then s.wakeChan x.2 else s) s

/-- CC0 processes a frame (R244, R335, R396). -/
def State.takeFrame (s : State) (p : Nat) (f : RxFrame) : State :=
  if !s.packetTaken p f then s.count 0xA008 (p + 1) 1
  else
    match f.conn, f.record with
    | some c, some r =>
      match s.conn c with
      | none => s
      | some k => if k.phase = .up then ((s.wakeTenant k.tenantOf).recordArrived).takeRecord c k r else s
    | _, _ => s

/-- The frames of a port that CC0 has not processed: express ones first (R325). -/
def State.drainIngress (s : State) (p : Nat) : State :=
  let l := (s.port p).rxList
  let s := s.modPort p fun x => { x with rxList := [] }
  ((l.filter (·.express)) ++ l.filter fun f => !f.express).foldl (fun s f => s.takeFrame p f) s

/-- A frame enters the ingress buffer, and CC0 processes what is in it where it runs (R305, R325). -/
def State.bufferFrame (s : State) (p : Nat) (f : RxFrame) : State :=
  let e := s.isExpress p f
  if ingressLimit e < (s.port p).ingress e + f.len then s.count 0xAF01 5 1
  else
    let s := (s.count 0xA001 (p + 1) 1).modPort p fun x => { x with rxList := x.rxList ++ [{ f with express := e }] }
    if s.coreUp 0 then s.drainIngress p else s

/-- Whether a frame on a port wakes the device: MP, or a host port that keeps its link in SLEEP (R402). -/
def State.frameWakes (s : State) (p : Nat) : Bool := decide (p = 2) || !s.tc10 p

/-- The wake event that a received frame is, in SLEEP and during an entry to it (R398, R402). -/
def State.frameWake (s : State) (p : Nat) : State :=
  let toSleep := decide (s.power.state = .sleep) || (decide (s.power.state = .entering) && (match s.power.entry with | some e => decide (e.target = .sleep) | none => false))
  if toSleep && s.frameWakes p then s.wake (if p = 2 then 4 else 5) else s

/-! ### Sending (R328, R330..R332, R337) -/

/-- Time that a frame of `n` octets takes on a port, ns: rounded up (R324, R337). -/
def Port.frameNs (x : Port) (p n : Nat) : Nat :=
  if p = 2 then n * 800 else match x.speed with | 1 => cdiv (n * 8) 10 | 2 => cdiv (n * 8) 5 | 4 => cdiv (n * 16) 5 | _ => n * 8

/-- Time for which the gate of a queue stays open, from the list's entry in force on; none where it does not close (R331). -/
def gateOpen (q : Nat) : List Gate → Nat → Option Nat
  | [], _ => none
  | g :: l, acc => if nbit g.mask q then gateOpen q l (acc + g.interval) else some acc

/-- Time for which a queue may send now: none for ever, 0 with its gate closed. -/
def Port.window (x : Port) (q : Nat) : Option Nat :=
  let es := x.gcl.entries
  if es = [] then none
  else if !nbit ((es[x.gateIdx]?).getD Gate.init).mask q then some 0
  else (gateOpen q (es.drop (x.gateIdx + 1) ++ es.take x.gateIdx) 0).map fun t => x.gateLeft + t

/-- Whether a port preempts: PREEMPT on, and the verification has succeeded (R330). -/
def State.preempts (s : State) (p : Nat) : Bool := decide (p < 2) && decide (s.eff p 9 = 1) && (s.port p).verified

/-- Whether a queue's frames may be preempted (R330). -/
def State.preemptable (s : State) (p q : Nat) : Bool := s.preempts p && !nbit (s.setting (0x3100 + p) 8) q

/-- Whether the frame at the head of a queue may start (R327, R330, R331): its gate is open until it ends, or it may end as a fragment. -/
def State.mayStart (s : State) (p q : Nat) : Bool :=
  match (mget [] (s.port p).egress q).head? with
  | none => false
  | some f =>
    (f.kind.control || s.dataOpen p) &&
    match (s.port p).window q with
    | none => true
    | some t => if s.preemptable p q then decide (0 < t) else decide ((s.port p).frameNs p f.len ≤ t)

/-- The queue that is served: strict priority, from the highest PCP down (R330). -/
def State.nextQueue (s : State) (p : Nat) (expressOnly : Bool) : Option Nat :=
  [7, 6, 5, 4, 3, 2, 1, 0].find? fun q => s.mayStart p q && !(expressOnly && s.preemptable p q)

/-- PN past which a new SAK is requested (R326). -/
def pnLimit : Nat := 0xC000000000000000

/-- A frame is sealed on its way to the MAC: it takes the next PN of the transmit association (R326, R328). -/
def Port.seal (x : Port) : Port :=
  if x.protects then
    let a := mget .init x.txSa x.txAn
    { x with txSa := mset .init x.txSa x.txAn { a with pn := a.pn + 1 }, sakAsked := x.sakAsked || decide (pnLimit < a.pn + 1) }
  else x

/-- The output that waits for room on a port moves up (R332). -/
def State.fillAll (s : State) (p : Nat) : State := (s.connsWhere fun c => decide (c.port = p) && decide (c.toQueue ≠ [])).foldl State.fillConn s

/-- The frame at the head of a queue has been sent. -/
def State.sentFrame (s : State) (p q : Nat) : State :=
  match mget [] (s.port p).egress q with
  | [] => s
  | f :: l =>
    let s := (s.modPort p fun x => { x.seal with egress := mset [] x.egress q l, fragment := none }).count 0xA002 (p + 1) 1
    let s := if f.cut then s.count 0xA007 (p + 1) 1 else s
    (if f.dgram then s.dropDatagrams [f] else s).fillAll p

/-- Whether a port sends at all: its link is up, and MP under PLCA has its beacon (R337). -/
def State.sends (s : State) (p : Nat) : Bool :=
  decide ((s.port p).link = .up) && (decide (p ≠ 2) || decide (s.eff 2 2 = 255) || (s.port 2).beacon)

end Sys2Proof.Machine
end

