-- ==== Sys2Proof/Machine/Network.lean ====
section
/-! DEFINITION. The commands of the host and management ports (R322..R339). -/

namespace Sys2Proof.Machine

/-! ### Settings (R322, R323, R331, R341) -/

/-- PORT_ENABLE and MP_ENABLE take effect at once; a port that is disabled with its link up loses it (R322, R339). -/
def portEnableBody (p : Nat) (on : Bool) (s : State) : Nat × State :=
  let s := s.setStored (portIndex p) 1 1 on.toNat
  if on then (Bdp.ok, if (s.port p).on then s else s.enablePort p)
  else
    let s := if (s.port p).link = .up ∨ (s.port p).link = .sleep then s.linkLoss p .down else s
    (Bdp.ok, s.modPort p fun x => { x with on := false, link := .down, speed := 0, beacon := false })

/-- PORT_ENABLE, MP_ENABLE (R322, R341). -/
def execPortEnable (rq : Rq) (port : Nat) (on : Bool) (s : State) : Res :=
  bdpCmd (.portEnable rq port on) rq (entryCode (portIndex port) 1) on.toNat (portEnableBody port on) s

/-- Whether MEDIA and SPEEDS may stand together (R322). -/
def mediaSpeedsOk (media speeds : Nat) : Bool := decide (speeds ≠ 0) && (decide (media = 0) || decide (popcount speeds 4 = 1))

/-- MEDIA, in effect when the port is next enabled (R322). -/
def mediaBody (p v : Nat) (s : State) : Nat × State :=
  if 1 < v ∨ mediaSpeedsOk v (s.setting (portIndex p) 3) = false then (Bdp.outOfRange, s) else (Bdp.ok, s.setStored (portIndex p) 2 0 v)

/-- MEDIA (R322). -/
def execMedia (rq : Rq) (port value : Nat) (s : State) : Res := bdpCmd (.media rq port value) rq (entryCode (portIndex port) 2) value (mediaBody port value) s

/-- SPEEDS, in effect when the port is next enabled (R322). -/
def speedsBody (p v : Nat) (s : State) : Nat × State :=
  if 15 < v then (Bdp.reservedSet, s)
  else if mediaSpeedsOk (s.setting (portIndex p) 2) v = false then (Bdp.outOfRange, s) else (Bdp.ok, s.setStored (portIndex p) 3 15 v)

/-- SPEEDS (R322). -/
def execSpeeds (rq : Rq) (port value : Nat) (s : State) : Res := bdpCmd (.speeds rq port value) rq (entryCode (portIndex port) 3) value (speedsBody port value) s

/-- Whether a port selects its speed by auto-negotiation (R322). -/
def State.negotiates (s : State) (p : Nat) : Bool := decide (s.eff p 2 = 0) && decide (popcount (s.eff p 3) 4 ≠ 1)

/-- The role that a link comes up with (R323). -/
def State.roleOf (s : State) (p : Nat) (negotiated : Bool) : Bool :=
  if s.negotiates p then negotiated else match s.eff p 4 with | 1 => true | 2 => false | _ => (s.port p).strapLeader

/-- LINK_UP (R322, R323): an enabled link comes up at one of its speeds. -/
def execLinkUp (port speed : Nat) (leader : Bool) (sqi : Nat) (s : State) : Res :=
  s.listed (decide (port < 2) && (s.port port).on && decide ((s.port port).link = .training) && [1, 2, 4, 8].contains speed && decide (s.eff port 3 &&& speed ≠ 0) && decide (sqi < 8))
    (let r := s.roleOf port leader
     s.modPort port fun x => { x with link := .up, speed := speed, leader := r, sqi := sqi, verified := false })

/-- LINK_DOWN (R338): the link keeps trying to come up (R323). -/
def execLinkDown (port : Nat) (s : State) : Res :=
  s.listed (decide (port < 2) && decide ((s.port port).link = .up)) (s.linkLoss port .training)

/-- CABLE_TEST (R323). -/
def cableTestBody (p : Nat) (s : State) : Nat × State :=
  if (s.port p).link = .up then (Bdp.badState, s) else (Bdp.pending, s.modPort p fun x => { x with cableBusy := true })

/-- CABLE_TEST (R323). -/
def execCableTest (rq : Rq) (port : Nat) (s : State) : Res := bdpCmd (.cableTest rq port) rq (entryCode (portIndex port) 0x15) 1 (cableTestBody port) s

/-- CABLE_TEST_DONE (R323): CABLE_RESULT is written. -/
def execCableTestDone (port result dm : Nat) (s : State) : Res :=
  s.listed (decide (port < 2) && (s.port port).cableBusy && decide (result < 3))
    ((s.modPort port fun x => { x with cable := result, cableDm := dm % 65536, cableBusy := false }).finish (entryCode (portIndex port) 0x15) Bdp.ok)

/-- The octets of a gate control list (R341). -/
def GclList.bytes (l : GclList) : Bytes :=
  le 8 l.base ++ le 8 l.cycle ++ le 2 l.entries.length ++ le 6 0 ++ l.entries.flatMap fun g => le 1 g.mask ++ le 3 0 ++ le 4 g.interval

/-- Whether a gate control list is in range (R331). -/
def GclList.inRange (l : GclList) : Bool :=
  l.entries.isEmpty ||
  (decide (l.entries.length ≤ 256) && decide (1000 ≤ l.cycle ∧ l.cycle ≤ 10 ^ 9) && (l.entries.all fun g => decide (1 ≤ g.interval ∧ g.interval ≤ 10 ^ 9)) &&
   decide ((l.entries.map (·.interval)).sum = l.cycle))

/-- GCL: the list waits for its first cycle start (R331). -/
def gclBody (p : Nat) (l : GclList) (resv : Bool) (s : State) : Nat × State :=
  if resv then (Bdp.reservedSet, s)
  else if !l.inRange then (Bdp.outOfRange, s)
  else (Bdp.ok, (s.setStored (portIndex p) 10 (2 ^ 192) (varValue l.bytes)).modPort p fun x => { x with gclNext := some l })

/-- GCL (R331). -/
def execGcl (rq : Rq) (port : Nat) (l : GclList) (resv : Bool) (s : State) : Res :=
  bdpCmd (.gcl rq port l resv) rq (entryCode (portIndex port) 10) (varValue l.bytes) (gclBody port l resv) s

/-- GCL_SWITCH (R331): at a cycle start at or after its base time a written list becomes the operating list. -/
def execGclSwitch (port : Nat) (s : State) : Res :=
  match (s.port port).gclNext with
  | none => .next s.unlisted
  | some l => s.listed (decide (port < 2) && decide (l.base ≤ s.clk.cal))
      (s.modPort port fun x => { x with gcl := l, gclNext := none, gateIdx := 0, gateLeft := (l.entries.headD Gate.init).interval })

/-! ### Frames (R324..R332) -/

/-- FRAME_RECEIVE (R324..R327, R329, R335, R402). -/
def execFrameReceive (port : Nat) (f : RxFrame) (s : State) : Res :=
  if port < 3 ∧ (s.port port).link = .up then
    if 1522 < f.len ∨ f.len < 64 ∨ f.fcsOk = false then .next (s.count 0xA003 (port + 1) 1)
    else if !s.macsecPass port f then .next (if port = 2 then s else s.count 0xA004 (port + 1) 1)
    else
      let s := s.macsecSeen port f
      if !s.vlanPass port f then .next (s.count 0xA008 (port + 1) 1)
      else .next ((s.bufferFrame port f).frameWake port)
  else .next s.unlisted

/-- FRAME_TRANSMIT (R328, R330..R332): the next frame leaves, a preemptable one in two commands between which express frames may pass. -/
def execFrameTransmit (port : Nat) (s : State) : Res :=
  if port < 3 ∧ s.sends port = true then
    match (s.port port).fragment with
    | some q =>
      match s.nextQueue port true with
      | some e => .next (((s.sentFrame port e).modPort port fun x => { x with fragment := some q, egress := mmod [] x.egress q fun l => match l with | f :: t => { f with cut := true } :: t | [] => [] }))
      | none => s.listed (s.mayStart port q) (s.sentFrame port q)
    | none =>
      match s.nextQueue port false with
      | none => .next s.unlisted
      | some q => .next (if s.preemptable port q then s.modPort port fun x => { x with fragment := some q } else s.sentFrame port q)
  else .next s.unlisted

/-- A datagram that waits for room in a queue: the first of the queue's in its connection's output. -/
def Conn.waitingDatagram (k : Conn) (pcp : Nat) : Option TxFrame := k.toQueue.find? fun f => f.dgram && decide (f.pcp = pcp)

/-- DATAGRAM_TX_DROP (R332): a datagram that found no room for 1 ms is dropped. -/
def execDatagramTxDrop (port pcp : Nat) (s : State) : Res :=
  let late := fun (k : Conn) => match k.waitingDatagram pcp with | some f => decide (f.since + 1000000 ≤ s.now) && !(s.port port).takes f | none => false
  match (s.connsWhere fun k => decide (k.port = port) && late k).head? with
  | none => .next s.unlisted
  | some c =>
    match (s.conn c).bind fun k => k.waitingDatagram pcp with
    | none => .next s.unlisted
    | some f => .next (((s.modConn c fun o => o.map fun k => { k with toQueue := k.toQueue.erase f }).dropDatagrams [f]).count 0xA005 (port + 1) 1)

/-! ### MACsec key agreement and MAC merge (R326, R327, R330) -/

/-- MKA_HELLO (R326, R327): a peer whose MKPDU names the device live is live; its MKA session takes MKA_CAK and MKA_CKN as they stand when it begins. -/
def execMkaHello (port : Nat) (live : Bool) (s : State) : Res :=
  let cak := s.sv (0x3100 + port) 13 0
  let ckn := s.sv (0x3100 + port) 14 0
  s.listed (decide (port < 2) && decide ((s.port port).link = .up) && (decide (cak ≠ 0) || (s.port port).peerLive))
    (if live ∧ (s.port port).peerLive = false then s.modPort port fun x => { x with peerLive := true, cak := cak, ckn := ckn } else s)

/-- SAK_INSTALL (R326): the SAK joins the one in use, which stays for frames under way; MACSEC_MODE applies from it on. -/
def execSakInstall (port an key : Nat) (s : State) : Res :=
  let mode := s.setting (0x3100 + port) 11
  let sa : Sa := { installed := true, key := key % 2 ^ 256 }
  let keep := fun (x : Port) (m : SMap Sa) => mset .init (mfilter (fun k _ => decide (k = x.txAn)) m) an sa
  s.listed (decide (port < 2) && decide ((s.port port).link = .up) && (s.port port).peerLive && decide (an < 4))
    (s.modPort port fun x => { x with txSa := keep x x.txSa, rxSa := keep x x.rxSa, txAn := an, mode := mode, sakAsked := false })

/-- MKA_PEER_LOST (R327): after the life time of 6 s the associations go with the peer; the event is raised where MACSEC_REQUIRED is 1. -/
def execMkaPeerLost (port : Nat) (s : State) : Res :=
  s.listed (decide (port < 2) && (s.port port).peerLive)
    (let s := s.modPort port fun x => { x with peerLive := false, txSa := [], rxSa := [], sakAsked := false }
     if s.macsecRequired port then s.raise Ev.mkaPeerLost 0 Locus.port port 0 else s)

/-- MAC_MERGE_VERIFIED (R330). -/
def execMacMergeVerified (port : Nat) (s : State) : Res :=
  s.listed (decide (port < 2) && decide ((s.port port).link = .up) && decide (s.eff port 9 = 1)) (s.modPort port fun x => { x with verified := true })

/-! ### TC10 (R334, R398, R400) -/

/-- The partner's answer to the device's sleep request: an acknowledgement, or what aborts an entry to SLEEP or DEEP_SLEEP and does not stop one to OFF. -/
def State.tc10Answer (s : State) (p : Nat) (ack : Bool) : State :=
  match s.power.entry with
  | none => s
  | some e =>
    if ack then (s.sleepPorts [p]).modPower fun x => { x with entry := some { e with waitPorts := e.waitPorts.erase p, asleep := e.asleep ++ [p] } }
    else
      let s := s.modPort p fun x => { x with tc10Wait := false }
      if e.target = .off then s.modPower fun x => { x with entry := some { e with waitPorts := e.waitPorts.erase p } } else s.abortEntry 1 0 p

/-- Whether the acknowledgement of a port is awaited. -/
def State.awaitsPort (s : State) (p : Nat) : Bool := match s.power.entry with | some e => e.waitPorts.contains p | none => false

/-- TC10_SLEEP_REQUEST (R334): the partner answers the device's request, or asks itself, which is acknowledged only during an entry. -/
def execTc10SleepRequest (port : Nat) (fromPartner accepted : Bool) (s : State) : Res :=
  if fromPartner then
    s.listed (decide (port < 2) && decide ((s.port port).link = .up) && s.tc10 port)
      (if s.power.state = .entering then (if s.awaitsPort port then s.tc10Answer port true else s.sleepPorts [port]) else s)
  else s.listed (s.awaitsPort port) (s.tc10Answer port accepted)

/-- TC10_ACK_TIMEOUT (R334): no acknowledgement within 16 ms. -/
def execTc10AckTimeout (port : Nat) (s : State) : Res := s.listed (s.awaitsPort port) (s.tc10Answer port false)

/-- TC10_WAKE (R334, R402): the wake detector of a host port in PHY mode; in RUN, IDLE, a return or OFF it has no effect. -/
def execTc10Wake (port : Nat) (s : State) : Res := s.listed (decide (port < 2) && s.tc10 port) (s.wake (2 + port))

/-! ### gPTP (R333, R451) -/

/-- TS_OFFSET, ns, in USXGMII mode (R333). -/
def State.tsOffset (s : State) (p : Nat) : Int := if s.eff p 2 = 1 then sint 32 (s.eff p 20) else 0

/-- PEER_DELAY (R333): the measured path delay, less the external PHY's part. -/
def execPeerDelay (port : Nat) (delay : Int) (s : State) : Res :=
  s.listed (decide (port < 2) && decide ((s.port port).link = .up)) (s.modPort port fun x => { x with peerDelay := delay - s.tsOffset port })

/-- Whether a port supplies time (R333): it alone receives Sync, or BMCA selects it, HP0 on a tie. -/
def State.supplies (s : State) (p : Nat) : Bool :=
  let x := s.port p
  let y := s.port (1 - p)
  x.syncLive && (!y.syncLive || (x.bmca && !y.bmca) || (x.bmca == y.bmca && decide (p = 0)))

/-- The clock is disciplined by a measured offset (R451): a step above 1 ms, else a slew. -/
def State.discipline (s : State) (p : Nat) (off : Int) : State :=
  let c := { s.clk with gptpOffset := off, disciplined := true, timeUnknown := false, lastSync := s.now, source := p + 1 }
  if 1000000 < off.natAbs then
    let s : State := { s with clk := { c with cal := (c.cal - off).toNat % 2 ^ 64, slew := 0 } }
    (s.count 0xA040 1 1).captureAll (.time s.clk.cal s.clk.timeUnknown)
  else { s with clk := { c with slew := -off } }

/-- GPTP_SYNC (R333, R451), by CC0: the offset is the calendar's time at the Sync less the grandmaster's. -/
def execGptpSync (port time : Nat) (bmca : Bool) (utc : Option Int) (s : State) : Res :=
  s.whenUp (.gptpSync port time bmca utc) <|
    if port < 2 ∧ (s.port port).link = .up then
      let s := s.modPort port fun x => { x with syncLive := true, bmca := bmca }
      if s.supplies port then
        let s := s.discipline port ((s.clk.cal : Int) - s.tsOffset port - (time + (s.port port).peerDelay))
        .next (match utc with | some u => s.setStored 0xC001 2 37 (uint 32 u) | none => s)
      else .next s
    else .next s.unlisted

/-- DISCIPLINE_LOSS (R451): no Sync for 3 s; the clock runs on. -/
def execDisciplineLoss (s : State) : Res :=
  s.listed (s.clk.disciplined && decide (s.clk.lastSync + 3000000000 ≤ s.now))
    (([0, 1].foldl (fun s p => s.modPort p fun x => { x with syncLive := false }) { s with clk := { s.clk with disciplined := false, source := 0, slew := 0 } }))

/-! ### TCP and PLCA (R335, R337) -/

/-- TCP_USER_TIMEOUT (R335, R339): sent data stayed unacknowledged for TCP_USER_TIMEOUT, and the connection is reset. -/
def execTcpUserTimeout (conn : Nat) (s : State) : Res :=
  s.whenUp (.tcpUserTimeout conn) <|
    match (s.conn conn).bind (·.unacked) with
    | none => .next s.unlisted
    | some t => s.listed (decide (t + s.setting 0x3000 3 ≤ s.now)) (s.closeConn conn)

/-- Stream frames of a connection that wait on its port. -/
def State.framesWaiting (s : State) (c : Nat) (k : Conn) : Bool :=
  (k.toQueue.any fun f => !f.dgram) || (s.port k.port).egress.any fun e => e.2.any fun f => decide (f.conn = some c) && !f.dgram

/-- The queue of a message that a connection holds (R330). -/
def State.pcpOf (s : State) (c : Nat) (m : OutMsg) : Nat :=
  match m with
  | .tokens id .. =>
    match s.svc.sessions.findSome? fun e => e.2.reqs.find? fun r => decide (r.id = id) && decide (r.conn = c) with
    | some r => s.classPcp r.cls.code
    | none => 4
  | _ => s.msgPcp m

/-- Unacknowledged output goes out again: its first segment, or all of it where none of it waits on the port (R339). -/
def State.retransmit (s : State) (c : Nat) (k : Conn) : State :=
  let f : TxFrame := { tenant := k.tenant, since := s.now, conn := some c, pcp := match k.out.head? with | some m => s.pcpOf c m | none => 4 }
  let fs := framesOf f (k.outBytes / framePayload + 1) k.outBytes
  (s.modConn c fun o => o.map fun x => { x with toQueue := (if s.framesWaiting c k then fs.take 1 else fs) ++ x.toQueue }).fillConn c

/-- TCP_RETRANSMISSION_TIMEOUT (R335, R339): at least 10 ms without an acknowledgement. -/
def execTcpRetransmissionTimeout (conn : Nat) (s : State) : Res :=
  s.whenUp (.tcpRetransmissionTimeout conn) <|
    match s.conn conn with
    | none => .next s.unlisted
    | some k => s.listed (match k.unacked with | some t => decide (t + 10000000 ≤ s.now) && decide (0 < k.outBytes) | none => false) (s.retransmit conn k)

/-- PLCA_BEACON (R337): a follower's from the coordinator, the coordinator's own. -/
def execPlcaBeacon (received : Bool) (s : State) : Res :=
  let node := s.eff 2 2
  s.listed ((s.port 2).on && decide (node ≠ 255) && (received == decide (node ≠ 0))) (s.modPort 2 fun x => { x with beacon := true })

end Sys2Proof.Machine
end

