-- ==== Sys2Proof/Machine/Lifecycle.lean ====
section
/-! DEFINITION. The commands of models and adapters: upload, install, swap, removal, adapters (R252..R272). -/

namespace Sys2Proof.Machine

/-! ### Uploads (R254, R271) -/

/-- Index of the entries of a model slot. -/
def slotIndex (t slot : Nat) : Nat := 0x5200 + t * 16 + slot
/-- Index of the entries of an adapter slot. -/
def adapterIndex (t ad : Nat) : Nat := 0x5400 + t * 16 + ad

/-- Whether the slot that an upload names takes an image (R256, R270). -/
def State.slotTakes (s : State) (t kind slot : Nat) : Bool :=
  if kind = 0 then
    let m := s.mslot t slot
    decide (m.state = .empty) || decide (m.state = .staged) || decide (m.state = .ready)
  else if kind = 1 then
    let a := s.adapter (t * 16 + slot)
    (decide (a.state = .empty) || decide (a.state = .stored)) && a.loading.isNone
  else true

/-- Whether a running or suspended training job names a dataset slot (R271). -/
def State.datasetInUse (s : State) (t slot : Nat) : Bool :=
  let j := s.job t
  (decide (j.state = .running) || decide (j.state = .suspended)) && decide (cfgField j.config 1 1 = slot)

/-- UPLOAD_BEGIN (R254). -/
def uploadBeginBody (t kind slot bytes : Nat) (resv : Bool) (s : State) : Nat × State :=
  if resv then (Bdp.reservedSet, s)
  else if 2 < kind ∨ (if kind = 1 then 16 else 4) ≤ slot ∨ bytes = 0 ∨ bytes % 4096 ≠ 0 then (Bdp.outOfRange, s)
  else if s.tenState t ≠ .active ∨ (s.upload t).isSome then (Bdp.badState, s)
  else if s.slotTakes t kind slot = false then (Bdp.badState, s)
  else if kind = 2 ∧ s.datasetInUse t slot = true then (Bdp.inUse, s)
  else if s.ufsFits t bytes = false then (Bdp.quotaFull, s.quotaRefused t)
  else (Bdp.ok, s.modUpload t fun _ => some { kind := kind, slot := slot, bytes := bytes })

/-- UPLOAD_BEGIN (R254). -/
def execUploadBegin (rq : Rq) (tenant kind slot bytes : Nat) (resv : Bool) (s : State) : Res :=
  bdpCmd (.uploadBegin rq tenant kind slot bytes resv) rq (entryCode (0x5300 + tenant) 2)
    (unle (le 1 kind ++ le 1 slot ++ le 6 (if resv then 1 else 0) ++ le 8 bytes)) (uploadBeginBody tenant kind slot bytes resv) s

/-- UPLOAD_DATA (R254). -/
def uploadDataBody (t offset len : Nat) (img : Option Image) (s : State) : Nat × State :=
  match s.upload t with
  | none => (Bdp.badState, s)
  | some u =>
    if u.bytes < offset + len then (Bdp.outOfRange, s)
    else (Bdp.ok, s.modUpload t fun o => o.map fun u => { u with written := if len = 0 then u.written else u.written ++ [(offset, offset + len)], img := img })

/-- UPLOAD_DATA (R254). -/
def execUploadData (rq : Rq) (tenant offset : Nat) (data : List Nat) (img : Option Image) (s : State) : Res :=
  bdpCmd (.uploadData rq tenant offset data img) rq (entryCode (0x5300 + tenant) 3) (varValue (le 8 offset ++ data)) (uploadDataBody tenant offset data.length img) s

/-- Whether every byte of an upload has been written. -/
def Upload.whole (u : Upload) : Bool := decide (u.bytes ≤ coveredTo (u.written.length + 1) u.written 0)

/-- The status of UPLOAD_END before the slot takes the image (R252..R254). -/
def Upload.endStatus (u : Upload) : Nat :=
  match u.img with
  | none => Bdp.imageInvalid
  | some i =>
    if u.whole = false then Bdp.imageInvalid
    else if i.headerStatus ≠ Bdp.ok then i.headerStatus
    else if i.header.kind ≠ u.kind ∨ i.header.bytes ≠ u.bytes then Bdp.imageInvalid
    else if i.sectsOk = false then Bdp.imageInvalid
    else Bdp.ok

/-- The slot takes the image of an upload (R256, R270, R271). -/
def State.handOver (s : State) (t : Nat) (u : Upload) : State :=
  if u.kind = 0 then s.modSlot (t * 4 + u.slot) fun m => { m with pending := u.img, state := if m.state = .empty then .staged else m.state }
  else if u.kind = 1 then (s.modAdapter (t * 16 + u.slot) fun a => { a with state := .stored, img := u.img, binding := none, loaded := false }).noteSlots t
  else s.modDataset (t * 4 + u.slot) fun _ => u.img

/-- UPLOAD_END (R254). -/
def uploadEndBody (t : Nat) (s : State) : Nat × State :=
  match s.upload t with
  | none => (Bdp.badState, s)
  | some u =>
    if u.endStatus ≠ Bdp.ok then (u.endStatus, s)
    else if s.slotTakes t u.kind u.slot = false then (Bdp.badState, s)
    else (Bdp.pending, ((s.handOver t u).modUpload t fun _ => none).finish (entryCode (0x5300 + t) 4) Bdp.ok)

/-- UPLOAD_END (R254, R358). -/
def execUploadEnd (rq : Rq) (tenant : Nat) (s : State) : Res :=
  bdpCmd (.uploadEnd rq tenant) rq (entryCode (0x5300 + tenant) 4) 1 (uploadEndBody tenant) s

/-- UPLOAD_ABORT (R254): the partial image and its reservation are gone. -/
def uploadAbortBody (t : Nat) (s : State) : Nat × State :=
  if (s.upload t).isSome then (Bdp.ok, s.modUpload t fun _ => none) else (Bdp.badState, s)

/-- UPLOAD_ABORT (R254). -/
def execUploadAbort (rq : Rq) (tenant : Nat) (s : State) : Res :=
  bdpCmd (.uploadAbort rq tenant) rq (entryCode (0x5300 + tenant) 5) 1 (uploadAbortBody tenant) s

/-- DATASET_DELETE (R271). -/
def datasetDeleteBody (t slot : Nat) (s : State) : Nat × State :=
  if 4 ≤ slot then (Bdp.outOfRange, s)
  else if (s.dataset (t * 4 + slot)).isNone then (Bdp.badState, s)
  else if s.datasetInUse t slot then (Bdp.inUse, s)
  else (Bdp.ok, s.modDataset (t * 4 + slot) fun _ => none)

/-- DATASET_DELETE (R271). -/
def execDatasetDelete (rq : Rq) (tenant slot : Nat) (s : State) : Res :=
  bdpCmd (.datasetDelete rq tenant slot) rq (entryCode (0x5300 + tenant) 7) slot (datasetDeleteBody tenant slot) s

/-! ### Install (R256..R258) -/

/-- INSTALL: accepted only in STAGED (R256). -/
def installBody (t slot : Nat) (s : State) : Nat × State :=
  if s.tenState t = .active ∧ (s.mslot t slot).state = .staged then (Bdp.pending, s.modSlot (t * 4 + slot) fun m => { m with state := .checking, fromReady := false })
  else (Bdp.badState, s)

/-- INSTALL (R256, R257). -/
def execInstall (rq : Rq) (tenant slot : Nat) (s : State) : Res :=
  bdpCmd (.install rq tenant slot) rq (entryCode (slotIndex tenant slot) 4) 1 (installBody tenant slot) s

/-- SWAP: accepted only in READY with a pending image (R256, R262). -/
def swapBody (t slot mode context : Nat) (resv : Bool) (s : State) : Nat × State :=
  if resv then (Bdp.reservedSet, s)
  else if 1 < mode ∨ 1 < context then (Bdp.outOfRange, s)
  else if s.tenState t = .active ∧ (s.mslot t slot).state = .ready ∧ (s.mslot t slot).pending.isSome = true then
    (Bdp.pending, s.modSlot (t * 4 + slot) fun m => { m with state := .checking, fromReady := true, held := decide (mode = 1), replay := decide (context = 1) })
  else (Bdp.badState, s)

/-- SWAP (R256, R262). -/
def execSwap (rq : Rq) (tenant slot mode context : Nat) (resv : Bool) (s : State) : Res :=
  bdpCmd (.swap rq tenant slot mode context resv) rq (entryCode (slotIndex tenant slot) 5)
    (unle (le 1 mode ++ le 1 context ++ le 2 (if resv then 1 else 0))) (swapBody tenant slot mode context resv) s

/-- A check of the check pass failed: the slot is in the state that it came from, with its pending image (R256). -/
def State.checkFailed (s : State) (t slot status : Nat) : State :=
  let m := s.mslot t slot
  let s := s.modSlot (t * 4 + slot) fun m => { m with state := if m.fromReady then .ready else .staged, fromReady := false }
  let s := if status = Bdp.quotaFull then s.quotaRefused t else s
  (s.tcount t 0xAD00 4 1).finish (entryCode (slotIndex t slot) (if m.fromReady then 5 else 4)) status

/-- The checks of R262, after those of R258. -/
def State.swapStatus (s : State) (t slot : Nat) (i old : Image) : Nat :=
  let m := s.mslot t slot
  let kv := fun (x : Image) => (x.plan.layers, x.plan.kvHeads, x.plan.headDim, x.params.kScale, x.params.vScale)
  let rot := fun (x : Image) => (x.params.rotary, x.params.theta, x.params.rotScale, x.params.rotTable)
  let bound := (List.range 16).any fun k =>
    let a := s.adapter (t * 16 + k)
    decide (a.state = .resident) && decide (a.binding = some slot) && decide ((a.img.map fun x => x.header.tag) ≠ some i.header.tag)
  if i.tok ≠ old.tok then Bdp.tokeniserMismatch
  else if m.replay = false ∧ (kv i ≠ kv old ∨ rot i ≠ rot old) then Bdp.kvIncompatible
  else if bound then Bdp.adapterBound
  else if m.held = false ∧ s.reserveSlots t < s.pinnedCopies t + i.header.strata + 128 * (s.dieList t).length then Bdp.quotaFull
  else Bdp.ok

/-- The next generation: the pointer advances (R260). -/
def State.advance (s : State) (t : Nat) : State := s.modPointer t fun g => nextGen g

/-- The MODEL contents of an image are in DRAM, in the extent of number `owner`. -/
def State.loadModel (s : State) (t owner : Nat) (i : Image) : State :=
  let s := match s.allocExtent t .modelC owner none i.modelOctets with
    | some s' => s'
    | none => s
  s.fillExtent t .modelC owner i.modelBytes

/-- The write of a stratum that is promised content is queued. -/
def State.queuePromised (s : State) (kind : WriteKind) (k : Nat) : State := s.queueWrite { stratum := k, kind := kind, content := (s.stratum k).incoming }

/-- An install's check pass has ended: the image is current and stamped, its strata are placed and their writes queued (R256, R257, R260). -/
def State.beginInstall (s : State) (t slot : Nat) (i : Image) (got : List Nat) : State :=
  let s := (s.advance t).loadModel t slot i
  let g := s.pointer t
  let s := s.modSlot (t * 4 + slot) fun _ => { state := .installing, current := some i, stamp := g, toWrite := got.length, loaded := true }
  (got.foldl (fun s k => s.queuePromised .install k) s).noteSlots t

/-- Whether a copy can be loaded into a reserve without evicting one of `keep`. -/
def State.roomBeside (s : State) (t : Nat) (keep : List Nat) : Bool :=
  decide ((s.reserveUsed t).length < s.reserveSlots t) || (s.oldestCopy t keep).isSome

/-- The new copy of a stratum is in the reserve, where there is room for it. -/
def State.takeCopy (t : Nat) (got : List Nat) (s : State) (k : Nat) : State :=
  if s.roomBeside t got then
    let s := s.loadCopyBut got k
    (s.modStratum k fun x => { x with copyIn := x.copyIn || x.copyLoading, copyLoading := false }).repin k
  else s

/-- A swap's check pass has ended: new copies are loaded, strata are placed, the barrier rises, and a training job of the slot is to suspend (R263, R277). -/
def State.beginSwap (s : State) (t slot : Nat) (i : Image) (got : List Nat) : State :=
  let s := s.loadModel t (slot + 4) i
  let s := s.modSlot (t * 4 + slot) fun m => { m with state := .swapping, fromReady := false, toWrite := got.length, litSoFar := 0, flipped := false, old := none }
  let s := (got.foldl (State.takeCopy t got) s).raiseBarrier t slot
  if (s.job t).state = .running ∧ (s.adapter (t * 16 + (s.job t).adapter)).binding = some slot ∧ (s.job t).stopAt = none then
    s.modJob t fun j => { j with stopAt := some .suspended }
  else s

/-- What the check pass makes of an image: its status, and the placement where it passes. -/
def State.checkPass (s : State) (t slot : Nat) (i : Image) : Nat × List Nat × State :=
  let m := s.mslot t slot
  let old := if m.fromReady then m.current else none
  let spare := match old with
    | some o => if o.header.strata < i.header.strata then 0 else s.sparePerBank t
    | none => s.sparePerBank t
  let g := if m.fromReady then swapMark else nextGen (s.pointer t)
  if i.status ≠ Bdp.ok then (i.status, [], s)
  else if s.quotaOk t i = false then (Bdp.quotaFull, [], s)
  else
    match s.placeImage { t := t, slot := slot, gen := g, im := i, spare := spare, old := old.map fun o => (o, m.stamp) } with
    | none => (Bdp.vaultFull, [], s)
    | some d => ((match old with | some o => s.swapStatus t slot i o | none => Bdp.ok), d.got, d.s)

/-- CHECK_PASS_END (R256..R258, R262), by CC4. -/
def execCheckPassEnd (tenant slot : Nat) (s : State) : Res :=
  s.whenUp (.checkPassEnd tenant slot) <|
    let m := s.mslot tenant slot
    match m.pending with
    | none => .next s.unlisted
    | some i =>
      if m.state = .checking then
        let r := s.checkPass tenant slot i
        if r.1 ≠ Bdp.ok then .next (s.checkFailed tenant slot r.1)
        else .next (if m.fromReady then r.2.2.beginSwap tenant slot i r.2.1 else r.2.2.beginInstall tenant slot i r.2.1)
      else .next s.unlisted

/-- INSTALL_READY (R256, R257): the last stratum is LIT and the tables are built. -/
def execInstallReady (tenant slot : Nat) (s : State) : Res :=
  s.whenUp (.installReady tenant slot) <|
    s.listed (decide ((s.mslot tenant slot).state = .installing) && !s.unwritten tenant slot)
      ((((((s.buildTables tenant slot).modSlot (tenant * 4 + slot) fun m => { m with state := .ready }).tcount tenant 0xAD00 1 1).raise Ev.modelReady tenant Locus.none 0 slot).finish
        (entryCode (slotIndex tenant slot) 4) Bdp.ok).noteSlots tenant)

/-! ### The flip and the end of a swap (R263..R267) -/

/-- Strata whose content or promise satisfies `p`. -/
def State.strataWhere (s : State) (p : Stratum → Bool) : List Nat := mkeys (mfilter (fun _ x => p x) s.vault.strata)

/-- Content of a model slot and generation. -/
def isContent (t slot gen : Nat) (o : Option WContent) : Bool :=
  match o with
  | some c => decide (c.tenant = t ∧ c.slot = slot ∧ c.gen = gen)
  | none => false

/-- The strata that a swap rewrites, in the order of R263: by layer, the tail strata behind, and within a layer by address. -/
def State.rewriteOrder (s : State) (t slot gen : Nat) (i : Image) : List Nat :=
  let layer := fun (k : Nat) => match (s.stratum k).incoming with
    | some c => ((i.plan.projs[c.proj]?).getD Proj.init).layer
    | none => 0
  (s.strataWhere fun x => isContent t slot gen x.incoming).mergeSort fun a b => decide (layer a * 2 ^ 18 + a ≤ layer b * 2 ^ 18 + b)

/-- Content that a swap placed takes the stamp of the flip. -/
def retag (t slot gen : Nat) (o : Option WContent) : Option WContent := o.map fun c => if c.tenant = t ∧ c.slot = slot ∧ c.gen = swapMark then { c with gen := gen } else c

/-- The generation of everything that the swap placed. -/
def State.retagAll (s : State) (t slot gen : Nat) : State :=
  { s with vault := { s.vault with strata := mmap .init (fun _ x => { x with incoming := retag t slot gen x.incoming, content := retag t slot gen x.content }) s.vault.strata } }

/-- CONTEXT at the flip (R41, R267): histories of scales start afresh; with REPLAY_CONTEXT the sessions become COLD. -/
def State.applyContext (s : State) (t slot : Nat) (replay : Bool) : State :=
  (s.slotSessions t slot).foldl (fun s i =>
    let s := s.modSession i fun x => { x with scales := [] }
    if replay ∧ ((s.session i).state = .idle ∨ (s.session i).state = .active) then s.makeCold i 2 else s) s

/-- The flip (R260, R263 step 5): pointer and stamp, the new image current, tables, CONTEXT, rewrites and releases queued. -/
def State.flip (s : State) (t slot : Nat) (new : Image) : State :=
  let m := s.mslot t slot
  let s := s.advance t
  let g := s.pointer t
  let s := ((s.retagAll t slot g).renameExtent t .modelC slot (slot + 8)).renameExtent t .modelC (slot + 4) slot
  let s := s.modSlot (t * 4 + slot) fun m => { m with old := m.current, oldStamp := m.stamp, current := some new, pending := none, stamp := g, flipped := true }
  let s := (s.buildTables t slot).applyContext t slot m.replay
  let s := (s.rewriteOrder t slot g new).foldl (fun s k => s.queuePromised (if (s.stratum k).content.isSome then .swapRewrite else .install) k) s
  (s.strataWhere fun x => isContent t slot m.stamp x.content && x.incoming.isNone || isContent t slot m.stamp x.incoming).foldl State.releaseOne s

/-- What follows the flip: with SEAMLESS the barrier falls; a training job of the slot runs again (R263, R277). -/
def State.afterFlip (s : State) (t slot : Nat) : State :=
  let s := if (s.mslot t slot).held then s else s.dropBarrier t slot
  (if (s.adapter (t * 16 + (s.job t).adapter)).binding = some slot then s.resumeJob t else s).noteSlots t

/-- SWAP_DRAIN_DONE (R263 steps 4 and 5): no step of the slot is in flight. -/
def execSwapDrainDone (tenant slot : Nat) (s : State) : Res :=
  s.whenUp (.swapDrainDone tenant slot) <|
    let m := s.mslot tenant slot
    match m.pending with
    | none => .next s.unlisted
    | some i =>
      s.listed (decide (m.state = .swapping) && !m.flipped && !s.slotBusy tenant slot &&
          !(decide ((s.job tenant).state = .running) && decide ((s.adapter (tenant * 16 + (s.job tenant).adapter)).binding = some slot)))
        ((s.flip tenant slot i).afterFlip tenant slot)

/-- SWAP_COMPLETE (R263 steps 6 and 7): the last rewrite is LIT, and the old strata are released. -/
def execSwapComplete (tenant slot : Nat) (s : State) : Res :=
  s.whenUp (.swapComplete tenant slot) <|
    let m := s.mslot tenant slot
    let s1 := s.dropBarrier tenant slot
    s.listed (decide (m.state = .swapping) && m.flipped && !s.unwritten tenant slot &&
        decide ((s.strataWhere fun x => isContent tenant slot m.oldStamp x.content) = []))
      ((((((s1.freeExtents tenant .modelC (slot + 8)).modSlot (tenant * 4 + slot) fun m => { m with state := .ready, old := none, oldStamp := 0, flipped := false }).tcount tenant 0xAD00 2 1).raise
        Ev.swapDone tenant Locus.none 0 slot).finish (entryCode (slotIndex tenant slot) 5) Bdp.ok).noteSlots tenant)

/-! ### Removal (R268) -/

/-- An adapter returns to STORED: its space is freed, its binding stays recorded (R270). -/
def State.unloadAdapter (s : State) (t ad : Nat) : State :=
  (s.freeExtents t .adapterC ad).modAdapter (t * 16 + ad) fun a => { a with state := .stored, loaded := false, loading := none }

/-- The adapters of a removed slot are unloaded; a load in progress ends with BAD_STATE (R268, R270). -/
def State.unloadBound (s : State) (t slot : Nat) : State :=
  (List.range 16).foldl (fun s ad =>
    let a := s.adapter (t * 16 + ad)
    if a.loading = some slot then (s.unloadAdapter t ad).finish (entryCode (adapterIndex t ad) 3) Bdp.badState
    else if a.state = .resident ∧ a.binding = some slot then s.unloadAdapter t ad
    else s) s

/-- Removal of a slot begins (R268): sessions closed, barrier, strata released, adapters unloaded, training job to IDLE. -/
def State.beginRemove (s : State) (t slot : Nat) : State :=
  let s := (s.slotSessions t slot).foldl (fun s i => s.closeSess i 8) s
  let s := (s.modSlot (t * 4 + slot) fun m => { m with state := .removing }).raiseBarrier t slot
  let s := (s.strataWhere fun x => x.ofSlot t slot).foldl State.releaseOne s
  let s := s.unloadBound t slot
  let j := s.job t
  if (j.state = .running ∨ j.state = .suspended) ∧ (s.adapter (t * 16 + j.adapter)).binding = some slot then s.endJob t .idle else s

/-- REMOVE (R256, R268). -/
def removeBody (t slot v : Nat) (s : State) : Nat × State :=
  let m := s.mslot t slot
  if 1 < v then (Bdp.reservedSet, s)
  else if s.tenState t ≠ .active then (Bdp.badState, s)
  else
    match m.state with
    | .staged => (Bdp.ok, s.modSlot (t * 4 + slot) fun _ => .init)
    | .ready | .installing | .swapping =>
      if v = 0 ∧ s.slotSessions t slot ≠ [] then (Bdp.inUse, s) else (Bdp.pending, s.beginRemove t slot)
    | _ => (Bdp.badState, s)

/-- REMOVE (R268). -/
def execRemove (rq : Rq) (tenant slot value : Nat) (s : State) : Res :=
  bdpCmd (.remove rq tenant slot value) rq (entryCode (slotIndex tenant slot) 6) value (removeBody tenant slot value) s

/-- REMOVE_COMPLETE (R256, R268): the last release is erased; MODEL contents, tables and images are gone. -/
def execRemoveComplete (tenant slot : Nat) (s : State) : Res :=
  s.whenUp (.removeComplete tenant slot) <|
    let s1 := ((s.freeExtents tenant .modelC slot).freeExtents tenant .modelC (slot + 4)).freeExtents tenant .modelC (slot + 8)
    s.listed (decide ((s.mslot tenant slot).state = .removing) && !s.slotBusy tenant slot && decide ((s.strataWhere fun x => x.ofSlot tenant slot) = []))
      (((((s1.dropTables tenant slot).modSlot (tenant * 4 + slot) fun _ => .init).raise Ev.modelRemoved tenant Locus.none 0 slot).finish
        (entryCode (slotIndex tenant slot) 6) Bdp.ok).noteSlots tenant)

/-! ### Adapters (R269, R270) -/

/-- The status of an ADAPTER_LOAD by R269, in its order. -/
def State.loadStatus (s : State) (t ad slot : Nat) : Nat :=
  let m := s.mslot t slot
  match m.current, (s.adapter (t * 16 + ad)).img with
  | some b, some i =>
    let names := i.targets.map (·.template)
    if i.header.tag ≠ b.header.tag then Bdp.adapterBase
    else if (i.targets.any fun x => !((b.plan.templates[x.template]?).getD Template.init).adaptable) ∨ ¬ names.Nodup then Bdp.planInvalid
    else if i.targets.any (fun x => decide (x.rank < 16 ∨ 64 < x.rank ∨ x.rank % 16 ≠ 0)) then Bdp.outOfRange
    else if s.fits t .adapterC i.adapterOctets = false then Bdp.quotaFull
    else Bdp.ok
  | _, _ => Bdp.badState

/-- ADAPTER_LOAD (R269, R270): its space is taken at once, and its matrices arrive later. -/
def adapterLoadBody (t ad slot : Nat) (s : State) : Nat × State :=
  let a := s.adapter (t * 16 + ad)
  let st := s.loadStatus t ad slot
  if 4 ≤ slot then (Bdp.outOfRange, s)
  else if s.tenState t ≠ .active ∨ a.state ≠ .stored ∨ a.loading.isSome = true then (Bdp.badState, s)
  else if st ≠ Bdp.ok then (st, (if st = Bdp.quotaFull then s.quotaRefused t else s).tcount t 0xAD00 4 1)
  else
    match s.allocExtent t .adapterC ad none (Image.adapterOctets (a.img.getD Image.init)) with
    | none => (Bdp.quotaFull, s)
    | some s' => (Bdp.pending, s'.modAdapter (t * 16 + ad) fun a => { a with loading := some slot })

/-- ADAPTER_LOAD (R269). -/
def execAdapterLoad (rq : Rq) (tenant ad slot : Nat) (s : State) : Res :=
  bdpCmd (.adapterLoad rq tenant ad slot) rq (entryCode (adapterIndex tenant ad) 3) slot (adapterLoadBody tenant ad slot) s

/-- ADAPTER_LOAD_DONE (R269, R270). -/
def execAdapterLoadDone (tenant ad : Nat) (s : State) : Res :=
  s.whenUp (.adapterLoadDone tenant ad) <|
    let a := s.adapter (tenant * 16 + ad)
    s.listed a.loading.isSome
      ((((s.modAdapter (tenant * 16 + ad) fun a => { a with state := .resident, binding := a.loading, loading := none, loaded := true }).fillAdapter tenant ad).finish
        (entryCode (adapterIndex tenant ad) 3) Bdp.ok).noteSlots tenant)

/-- ADAPTER_UNLOAD (R269, R270). -/
def adapterUnloadBody (t ad : Nat) (s : State) : Nat × State :=
  if (s.adapter (t * 16 + ad)).state ≠ .resident then (Bdp.badState, s)
  else if s.adapterUsed t ad then (Bdp.inUse, s)
  else (Bdp.ok, s.unloadAdapter t ad)

/-- ADAPTER_UNLOAD (R269, R270). -/
def execAdapterUnload (rq : Rq) (tenant ad : Nat) (s : State) : Res :=
  bdpCmd (.adapterUnload rq tenant ad) rq (entryCode (adapterIndex tenant ad) 4) 1 (adapterUnloadBody tenant ad) s

/-- ADAPTER_DELETE (R269, R270). -/
def adapterDeleteBody (t ad : Nat) (s : State) : Nat × State :=
  let a := s.adapter (t * 16 + ad)
  if (a.state ≠ .resident ∧ a.state ≠ .stored) ∨ a.loading.isSome = true then (Bdp.badState, s)
  else if s.adapterUsed t ad then (Bdp.inUse, s)
  else (Bdp.ok, ((s.freeExtents t .adapterC ad).modAdapter (t * 16 + ad) fun _ => .init).noteSlots t)

/-- ADAPTER_DELETE (R269, R270). -/
def execAdapterDelete (rq : Rq) (tenant ad : Nat) (s : State) : Res :=
  bdpCmd (.adapterDelete rq tenant ad) rq (entryCode (adapterIndex tenant ad) 5) 1 (adapterDeleteBody tenant ad) s

/-! ### Reloading (R247, R257, R270) -/

/-- Extents of a tenant and kind whose content is loaded again. -/
def State.undrop (s : State) (t : Nat) (k : Alloc) (owner : Nat) : State :=
  { s with dram := { s.dram with extents := s.dram.extents.map fun e => if e.tenant = t ∧ e.kind = k ∧ e.owner = owner then { e with dropped := false } else e } }

/-- The MODEL contents of one of a slot's images are written again. -/
def State.reload (s : State) (t owner : Nat) (o : Option Image) : State :=
  match o with
  | some i => (s.undrop t .modelC owner).fillExtent t .modelC owner i.modelBytes
  | none => s

/-- The adapters bound to a slot are loaded again. -/
def State.reloadAdapters (s : State) (t slot : Nat) : State :=
  (List.range 16).foldl (fun s ad =>
    let a := s.adapter (t * 16 + ad)
    if a.state = .resident ∧ a.binding = some slot ∧ a.loaded = false then
      ((s.undrop t .adapterC ad).fillAdapter t ad).modAdapter (t * 16 + ad) fun a => { a with loaded := true }
    else s) s

/-- MODEL_RELOAD_DONE (R247, R257), by CC3: MODEL contents, tables and bound adapters are in DRAM again. -/
def execModelReloadDone (tenant slot : Nat) (s : State) : Res :=
  s.whenUp (.modelReloadDone tenant slot) <|
    let m := s.mslot tenant slot
    let s1 := s.reload tenant slot m.current
    let s2 := if m.state = .swapping then (if m.flipped then s1.reload tenant (slot + 8) m.old else s1.reload tenant (slot + 4) m.pending) else s1
    s.listed (m.current.isSome && !m.loaded)
      (((s2.buildTables tenant slot).reloadAdapters tenant slot).modSlot (tenant * 4 + slot) fun m => { m with loaded := true })

end Sys2Proof.Machine
end

