-- ==== Sys2Proof/Machine/DramCtl.lean ====
section
/-! DEFINITION. The commands of the DRAM controller: reads and writes, drains, retries, refresh, self-refresh, scrub, retraining and key zeroisation (R230..R250). -/

namespace Sys2Proof.Machine

/-! ### Addresses (R234) -/

/-- Data units of a channel. -/
def unitCount : Nat := chData / 64

/-- The open-row bank of a data unit: rank * 16 + bank, and its row (R234). -/
def unitBank (w : Nat) : Nat × Nat :=
  let r := w / 31
  let k := r % 16
  let R := r / 16
  let rank := R / 98304
  let row := R % 98304
  (rank * 16 + (k ^^^ (row % 16) ^^^ (row / 16 % 16)), row)

/-- Whether a unit lies in the system region (R232). -/
def inSystem (unit : Nat) : Bool := decide (chTenant ≤ unit * 64)

/-- Whether an access is of the channel's owner, or of the system domain, which may access every region (R232). -/
def State.mayAccess (s : State) (ch unit t : Nat) : Bool := decide (t = 0) || (!inSystem unit && decide (s.clusterOwner (ch / 2) = t))

/-- The 64 octets of a unit. -/
def State.unitData (s : State) (ch unit : Nat) : SMap Nat :=
  (List.range 64).foldl (fun m i => mset 0 m i (s.byte (ch * 2 ^ 33 + unit * 64 + i))) []

/-- A request of a channel reaches a unit that exists; the fault otherwise. -/
def withUnit (ch unit : Nat) (r : Res) : Res := if ch < 32 ∧ unit < unitCount then r else .fault (.noSuchAddress 2 ch)

/-- Whether a channel takes requests: not lost, and the device neither asleep nor off (R246, R251). -/
def State.chanOpen (s : State) (ch : Nat) : Bool :=
  decide ((s.chan ch).state = .active ∨ (s.chan ch).state = .selfRefresh) && decide (s.power.state ≠ .sleep ∧ s.power.state ≠ .deepSleep ∧ s.power.state ≠ .off)

/-! ### Writes (R237, R238) -/

/-- The oldest writes of a channel are issued: each opens its row, and a line with nothing more to write back is clean. -/
def State.issueWrites (s : State) (ch n : Nat) : State :=
  let out := (s.chan ch).writes.take n
  let left := (s.chan ch).writes.drop n
  let s := s.modChan ch fun c => { c with writes := left, lastBusy := s.now, openRow := out.foldl (fun m w => let b := unitBank w.unit; mset 0 m b.1 (b.2 + 1)) c.openRow }
  out.foldl (fun s w =>
    if left.any fun v => decide (v.unit / 2 = w.unit / 2) then s
    else match s.lineAt w.key ch (w.unit * 64) with
      | some k => s.modLine k fun l => { l with dirty := false }
      | none => s) s

/-- Writes of a key that a channel has accepted and not yet written. -/
def Channel.keyWrites (c : Channel) (key : Nat) : Nat := (c.writes.filter fun w => decide (w.key = key)).length

/-- Writes of a key accepted and not yet written, in every controller (R237). -/
def State.keyWrites (s : State) (key : Nat) : Nat := ((List.range 32).map fun ch => (s.chan ch).keyWrites key).sum

/-- A late write is discarded and reported (R237). -/
def State.lateWrite (s : State) (t : Nat) : State :=
  let s : State := { s with dram := { s.dram with lateWrites := s.dram.lateWrites + 1 } }
  (s.modRemoval t fun o => o.map fun r => { r with writesLate := r.writesLate + 1 }).raise Ev.keyWriteLate t Locus.none 0 t

/-- A write is accepted: it takes its place in the queue, and its line in the system cache (R207, R238). The octets that reads return are the new ones from here on: no read passes a queued write to its unit (R239). -/
def State.acceptWrite (s : State) (ch unit t : Nat) (data : List Nat) : State :=
  let bs := data.take 64
  let m : SMap Nat := (List.range bs.length).foldl (fun m i => mset 0 m i ((bs[i]?).getD 0)) []
  let s := if t = 0 then s else (s.cacheAccess t ch (unit * 64) true true).1
  ((s.wakeChan ch).modChan ch fun c => { c with writes := c.writes ++ [{ unit := unit, key := t, data := m }] }).setBytes (ch * 2 ^ 33 + unit * 64) bs

/-- DRAM_WRITE (R22, R232, R237, R238). -/
def execDramWrite (ch unit tenant : Nat) (data : List Nat) (s : State) : Res :=
  withUnit ch unit <|
    if !s.chanOpen ch || decide (64 ≤ (s.chan ch).writes.length) then .next s.unlisted
    else if !s.mayAccess ch unit tenant then .next (s.discardXfer tenant (ch * 2 ^ 33 + unit * 64))
    else if (s.keySlot tenant).zeroising then .next (s.lateWrite tenant)
    else .next (s.acceptWrite ch unit tenant data)

/-- WRITE_DRAIN (R238): from 48 entries down to 16, or all that a channel with no read queued holds. -/
def execWriteDrain (ch : Nat) (s : State) : Res :=
  let c := s.chan ch
  if c.writes = [] then .next s.unlisted
  else if c.reads = [] then .next (s.issueWrites ch c.writes.length)
  else s.listed (decide (48 ≤ c.writes.length)) (s.issueWrites ch (c.writes.length - 16))

/-! ### Reads (R238, R239, R241) -/

/-- How many of the queued writes are issued before a read of a unit: up to the newest that matches (R239). -/
def hazard (ws : List WrReq) (unit : Nat) : Nat :=
  ((List.range ws.length).filter fun i => match ws[i]? with | some w => decide (w.unit = unit) | none => false).foldl (fun n i => max n (i + 1)) 0

/-- The read that a channel issues next: an IMM one, one that hits an open row, the oldest; but none is passed by more than 16 younger ones (R238). -/
def Channel.nextRead (c : Channel) : Option Nat :=
  let find := fun (p : RdReq → Bool) => (List.range c.reads.length).find? fun i => match c.reads[i]? with | some r => p r | none => false
  let hits := fun (r : RdReq) => let b := unitBank r.unit; decide (mget 0 c.openRow b.1 = b.2 + 1)
  match find fun r => decide (16 ≤ r.passed) with
  | some i => some i
  | none =>
    match find fun r => r.imm with
    | some i => some i
    | none => match find hits with
      | some i => some i
      | none => if c.reads = [] then none else some 0

/-- A read is served: its data is delivered, and what was corrected in it is counted (R241). -/
def State.deliverRead (s : State) (ch : Nat) (r : RdReq) : State :=
  let d := s.unitData ch r.unit
  let b := unitBank r.unit
  let s := s.modChan ch fun c => { c with lastRead := some r.id, lastData := d, openRow := mset 0 c.openRow b.1 (b.2 + 1), lastBusy := s.now }
  match r.flaw with
  | .clean => s
  | .storedBit => s.count 0xAC00 (ch + 1) 1
  | .linkBit => s.count 0xAC02 (ch + 1) 1

/-- The next read of a channel is issued, while no retry is ahead of it (R238, R242). -/
def State.issueRead (s : State) (ch : Nat) : State :=
  let c := s.chan ch
  if c.retrying.isSome then s
  else match c.nextRead with
    | none => s
    | some i =>
      match c.reads[i]? with
      | none => s
      | some r =>
        let older := (c.reads.take i).map fun (x : RdReq) => { x with passed := x.passed + 1 }
        (s.modChan ch fun c => { c with reads := older ++ c.reads.drop (i + 1) }).deliverRead ch r

/-- A read waits for the writes up to its newest match (R239). -/
def State.drainFor (s : State) (ch unit t : Nat) : State :=
  let n := hazard (s.chan ch).writes unit
  if n = 0 then s else (s.issueWrites ch n).tcount t 0xAB00 3 1

/-- Whether a read of a channel data address allocates its line: it does but for pair-local content, KV pages and backing copies (R207, R210, R235). -/
def State.allocates (s : State) (t a : Nat) : Bool := decide (a < s.spreadEnd t (s.spreadMib t))

/-- DRAM_READ (R22, R207, R232, R238, R239): a hit in the tenant's ways is served there; a miss queues the read behind the writes it must follow. -/
def execDramRead (ch unit tenant : Nat) (imm : Bool) (op : Option Nat) (id : Nat) (flaw : ReadFlaw) (s : State) : Res :=
  withUnit ch unit <|
    if !s.chanOpen ch || decide (64 ≤ (s.chan ch).reads.length) then .next s.unlisted
    else if !s.mayAccess ch unit tenant then .next (s.discardXfer tenant (ch * 2 ^ 33 + unit * 64))
    else
      let r := if tenant = 0 then (s, false) else s.cacheAccess tenant ch (unit * 64) (s.allocates tenant (unit * 64)) false
      let d := r.1.unitData ch unit
      if r.2 then .next (r.1.modChan ch fun c => { c with lastRead := some id, lastData := d })
      else .next (((r.1.wakeChan ch).drainFor ch unit tenant).modChan ch fun c =>
        { c with reads := c.reads ++ [{ id := id, unit := unit, tenant := tenant, imm := imm, op := op, flaw := flaw }] })

/-! ### Retries (R242) -/

/-- An operation's timeout is held, or runs again. -/
def State.holdTimer (s : State) (op : Option Nat) (b : Bool) : State :=
  match op with
  | some k => s.setOp k fun o => { o with timerHeld := b }
  | none => s

/-- READ_RETRY (R242): the read is re-issued ahead of every queued read. -/
def execReadRetry (ch id : Nat) (s : State) : Res :=
  let c := s.chan ch
  match c.reads.find? fun r => decide (r.id = id) with
  | none => .next s.unlisted
  | some r =>
    s.listed (c.retrying.isNone && decide (c.state = .active))
      ((s.modChan ch fun c => { c with reads := dropFirst (fun x => decide (x = r)) c.reads, retrying := some r }).holdTimer r.op true)

/-- A read that failed twice: its requester is told, and the operation that reads completes FAILED (R242). -/
def State.readFailed (s : State) (ch : Nat) (r : RdReq) : State :=
  let s := (s.tcount r.tenant 0xAB00 2 1).count 0xAC01 (ch + 1) 1
  if inSystem r.unit then s.raise Ev.dramUeFatal r.tenant Locus.channel ch (r.unit * 64)
  else
    let s := match r.op with | some k => s.stopOp k .failed | none => s
    s.raise Ev.dramUe (s.clusterOwner (ch / 2)) Locus.channel ch (r.unit * 64)

/-- READ_RETRY_RETURN (R242). -/
def execReadRetryReturn (ch : Nat) (good : Bool) (s : State) : Res :=
  match (s.chan ch).retrying with
  | none => .next s.unlisted
  | some r =>
    let s := (s.modChan ch fun c => { c with retrying := none }).holdTimer r.op false
    .next (if good then ((s.deliverRead ch r).tcount r.tenant 0xAB00 1 1).raise Ev.dramRetryOk (s.clusterOwner (ch / 2)) Locus.channel ch (r.unit * 64)
      else s.readFailed ch r)

/-! ### Refresh, self-refresh, scrub and retraining (R243..R245, R250) -/

/-- A bank pair is refreshed: its banks' rows are closed, and it has no refresh postponed. -/
def Channel.refreshed (c : Channel) (pair : Nat) : Channel :=
  let b := pair / 8 * 16 + pair % 8
  { c with openRow := mset 0 (mset 0 c.openRow b 0) (b + 8) 0, postponed := mset 0 c.postponed pair 0 }

/-- REFRESH (R243): a pair in use may be postponed; the eighth postponement forces the refresh. -/
def execRefresh (ch pair : Nat) (busy : Bool) (s : State) : Res :=
  let c := s.chan ch
  s.listed (decide (c.state = .active ∧ pair < 16))
    (s.modChan ch fun c => if busy = true ∧ mget 0 c.postponed pair < 7 then { c with postponed := mmod 0 c.postponed pair (· + 1) } else c.refreshed pair)

/-- SELF_REFRESH_ENTRY (R244): no request queued or issued for SR_IDLE. -/
def execSelfRefreshEntry (ch : Nat) (s : State) : Res :=
  let c := s.chan ch
  s.listed (decide (ch < 32) && decide (c.state = .active) && c.reads.isEmpty && c.writes.isEmpty && c.retrying.isNone && decide (c.idleLimit ≤ s.now - c.lastBusy))
    ((s.modChan ch fun c => { c with state := .selfRefresh, openRow := [] }).count 0xAC04 (ch + 1) 1)

/-- SELF_REFRESH_EXIT (R244). -/
def execSelfRefreshExit (ch : Nat) (s : State) : Res :=
  s.listed (decide ((s.chan ch).state = .selfRefresh) && s.chanOpen ch) (s.wakeChan ch)

/-- Rows of a channel that hold units: 3,145,728. -/
def scrubRows : Nat := 3145728

/-- PATROL_SCRUB (R245): the next row is read; a correctable unit is written back, an uncorrectable one reported. Octets that memory holds are the content as written, so CC3's rewrite of refetchable content leaves them as they are. -/
def execPatrolScrub (ch : Nat) (found : Option (Nat × Bool)) (s : State) : Res :=
  let c := s.chan ch
  let inRow := match found with | none => true | some f => decide (f.1 / 31 = c.scrubRow)
  s.listed (decide (ch < 32) && decide (c.state = .active) && inRow && s.chanOpen ch)
    (let s := (s.modChan ch fun c => { c with scrubRow := (c.scrubRow + 1) % scrubRows }).count 0xAC03 (ch + 1) 1
     match found with
     | none => s
     | some (_, true) => s.count 0xAC00 (ch + 1) 1
     | some (w, false) => (s.count 0xAC01 (ch + 1) 1).raise Ev.dramUeScrub (if inSystem w then 0 else s.clusterOwner (ch / 2)) Locus.channel ch (w * 64))

/-- RETRAIN (R250): every 100 ms, or when the DRAM temperature has moved 5 degrees. -/
def execRetrain (ch : Nat) (temp : Int) (s : State) : Res :=
  let c := s.chan ch
  s.listed (decide (ch < 32) && decide (c.state = .active) && (decide (100000000 ≤ s.now - c.lastRetrain) || decide (5000 ≤ (temp - c.oscTemp).natAbs)))
    (s.modChan ch fun c => { c with oscTemp := temp, lastRetrain := s.now })

/-! ### Key zeroisation (R237, R374) -/

/-- SCRUBBING (step 6 of R374): every owned die begins its erase; a tenant with no die has no vault part. -/
def State.beginScrub (s : State) (t : Nat) : State :=
  let dies := s.dieList t
  let s := (s.modTenState t fun _ => .scrubbing).modRemoval t fun o => o.map fun r =>
    { r with step := 6, parts := if dies = [] then [.vault] else [], diesLeft := dies, strataRetired := 0, dramMib := 0 }
  dies.foldl State.beginDieErase s

/-- KEY_ZEROISE (R237): with no accepted write left under the key, its slot is zeroised in every controller, and the removal that asked for it goes on (R374). -/
def execKeyZeroise (tenant : Nat) (s : State) : Res :=
  s.listed ((s.keySlot tenant).zeroising && decide (s.keyWrites tenant = 0))
    (let s := s.modKeySlot tenant fun _ => {}
     match s.removal tenant with
     | some r => if r.step = 5 then s.beginScrub tenant else s
     | none => s)

end Sys2Proof.Machine
end

