-- ==== Sys2Proof/Machine/PowerCtl.lean ====
section
/-! DEFINITION. The commands of the power states, the rate by voltage and thermal control (R394..R409). -/

namespace Sys2Proof.Machine

/-! ### Refusers (R398, R399) -/

/-- Whether a tenant's TENANT_SLEEP_POLICY refuses an entry (R399). -/
def State.policyRefuses (s : State) (t : Nat) : Bool :=
  let p := s.pv 0x2010 t 0
  s.quotaOpen t && (decide (p = 2) || (decide (p = 1) && !(s.sessionsWhere fun x => decide (x.tenant = t) && x.live.isSome).isEmpty))

/-- Whether the DRAM KV sub-quota of a tenant cannot hold the pages of its persistent sessions (R398). -/
def State.kvRefuses (s : State) (t : Nat) : Bool :=
  decide (s.warmCap t < mcount (fun _ o => match o with | some (p : Page) => decide (p.tenant = t) && (s.session p.session).persistent | none => false) s.kv.pages)

/-- Whether a slot of a tenant is in CHECKING, INSTALLING, SWAPPING or REMOVING (R259). -/
def State.slotWriting (s : State) (t : Nat) : Bool :=
  (List.range 4).any fun k => [SlotState.checking, .installing, .swapping, .removing].contains (s.mslot t k).state

/-- Whether a tenant is in HUSK or SCRUBBING. -/
def State.beingRemoved (s : State) (t : Nat) : Bool := decide (s.tenState t = .husk) || decide (s.tenState t = .scrubbing)

/-- Whether automatic entries are refused by the lease (R396). -/
def State.leaseRefuses (s : State) : Bool := decide (s.ctl.lease.state ≠ .unattended) && decide (s.pv 0x2004 4 0 = 0)

/-- Whether an update of the firmware refuses (R398): FW_STATE is 2, 3 or 4. -/
def State.fwRefuses (s : State) : Bool := decide (s.ctl.fwState = .activating) || decide (s.ctl.fwState = .trial) || decide (s.ctl.fwState = .rollingBack)

/-- The first tenant of which `p` holds, with a refuser's code. -/
def byTenant (code : Nat) (p : Nat → Bool) : List (Nat × Nat) := match (List.range 8).find? fun i => p (i + 1) with | some i => [(code, i + 1)] | none => []

/-- The refusers that apply to an entry, lowest code first, each with the tenant it names (R398). -/
def State.refusers (s : State) (target : PState) (auto : Bool) : List (Nat × Nat) :=
  (if auto && s.leaseRefuses then [(2, 0)] else []) ++
  (if target = .deepSleep then byTenant 3 s.kvRefuses else []) ++
  byTenant 4 s.policyRefuses ++
  (if target = .off then [] else byTenant 5 s.slotWriting) ++
  byTenant 6 s.beingRemoved ++
  (if s.fwRefuses then [(7, 0)] else [])

/-- An entry is refused: each refuser counts, and the lowest is named (R398). -/
def State.refuseEntry (s : State) (target : PState) (l : List (Nat × Nat)) : State :=
  match l with
  | [] => s
  | x :: _ => (l.foldl (fun s r => s.count 0xA030 r.1 1) s).noteRefusal target x.1 x.2 0xFF

/-- An entry begins (R400, R403). -/
def State.beginEntry (s : State) (target : PState) (auto : Bool) : State :=
  (s.stopCounts.modPower fun p => { p with state := .entering, entry := some { target := target, auto := auto } }).notePower

/-! ### POWER_REQUEST (R397) -/

/-- Whether an entry or a return is in progress (R397). -/
def State.inTransition (s : State) : Bool := decide (s.power.state = .entering) || decide (s.power.state = .returning)

/-- POWER_REQUEST 0: the automatic timers restart. -/
def restartTimersBody (s : State) : Nat × State :=
  if s.inTransition then (Bdp.badState, s) else (Bdp.ok, s.modPower fun p => { p with sleepCount := 0, deepCount := 0 })

/-- POWER_REQUEST 1 to 3: refused, or accepted and answered PENDING. -/
def powerRequestBody (target : PState) (s : State) : Nat × State :=
  if s.inTransition then (Bdp.badState, s)
  else
    let l := s.refusers target false
    if l = [] then (Bdp.pending, s.beginEntry target false) else (Bdp.powerRefused, s.refuseEntry target l)

/-- POWER_REQUEST_RESTART_TIMERS (R396, R397). -/
def execPowerRequestRestartTimers (rq : Rq) (s : State) : Res := bdpCmd (.powerRequestRestartTimers rq) rq powerRequestCode 0 restartTimersBody s

/-- POWER_REQUEST_SLEEP (R397, R398). -/
def execPowerRequestSleep (rq : Rq) (s : State) : Res := bdpCmd (.powerRequestSleep rq) rq powerRequestCode 1 (powerRequestBody .sleep) s

/-- POWER_REQUEST_DEEP_SLEEP (R397, R398). -/
def execPowerRequestDeepSleep (rq : Rq) (s : State) : Res := bdpCmd (.powerRequestDeepSleep rq) rq powerRequestCode 2 (powerRequestBody .deepSleep) s

/-- POWER_REQUEST_OFF (R397, R398). -/
def execPowerRequestOff (rq : Rq) (s : State) : Res := bdpCmd (.powerRequestOff rq) rq powerRequestCode 3 (powerRequestBody .off) s

/-! ### IDLE and the automatic entries (R395, R396) -/

/-- Whether data-path work runs or waits: operations, stratum writes, moves, streams, tests, MVMs, due steps and training (R395). -/
def State.dataWork (s : State) : Bool :=
  s.ops.slots.any (·.2.isSome) || s.ops.runs.any (·.2.isSome) ||
  s.vault.arrays.any (fun e => e.2.writing.isSome || e.2.running.isSome || !e.2.queue.isEmpty || !e.2.testDue.isEmpty || e.2.countDue) ||
  s.vault.dies.any (fun e => e.2.dieErase || !e.2.writes.isEmpty) ||
  s.kv.pages.any (fun e => match e.2 with | some p => p.moving.isSome | none => false) ||
  s.streams.engines.any (fun e => !e.2.streams.isEmpty || !e.2.xfers.isEmpty) ||
  s.svc.sessions.any (fun e => s.stepDue e.1) || s.models.jobs.any fun e => decide (e.2.state = .running)

/-- IDLE_ENTRY (R395): the data path has been still for IDLE_ENTRY. -/
def execIdleEntry (s : State) : Res :=
  s.whenUp .idleEntry <|
    s.listed (decide (s.power.state = .run) && !s.dataWork && decide (s.power.idleSince + s.pv 0x2004 1 20000 ≤ s.now))
      ((s.modPower fun p => { p with state := .idle }).count 0xA032 1 1).notePower

/-- IDLE_EXIT (R395, R401): work appears, and the return to RUN begins. -/
def execIdleExit (s : State) : Res := s.listed (decide (s.power.state = .idle) && s.dataWork) (s.beginReturn .idle)

/-- SLEEP_AFTER, and DEEP_AFTER, ns; 0 for never. -/
def State.sleepAfter (s : State) : Nat := s.pv 0x2004 2 0
/-- DEEP_AFTER. -/
def State.deepAfter (s : State) : Nat := s.pv 0x2004 3 0

/-- SLEEP_AFTER_EXPIRY (R396): an automatic entry, or its refusal after which the count begins again. -/
def execSleepAfterExpiry (s : State) : Res :=
  s.whenUp .sleepAfterExpiry <|
    let l := s.refusers .sleep true
    s.listed (decide (s.power.state = .idle) && decide (s.sleepAfter ≠ 0) && decide (s.sleepAfter ≤ s.power.sleepCount))
      ((if l = [] then s.beginEntry .sleep true else s.refuseEntry .sleep l).modPower fun p => { p with sleepCount := 0 })

/-- The data path as after steps 1 to 5 of the SLEEP return, the ports left asleep (R396). -/
def State.dataPathOn (s : State) : State := s.channelsOn.modPower fun p => { p with vcore := p.vcoreKept }

/-- DEEP_AFTER_EXPIRY (R396): from SLEEP, the data path is restored and the DEEP_SLEEP entry runs. -/
def execDeepAfterExpiry (s : State) : Res :=
  s.whenUp .deepAfterExpiry <|
    let l := s.refusers .deepSleep true
    s.listed (decide (s.power.state = .sleep) && decide (s.deepAfter ≠ 0) && decide (s.deepAfter ≤ s.power.deepCount))
      ((if l = [] then s.dataPathOn.beginEntry .deepSleep true else s.refuseEntry .deepSleep l).modPower fun p => { p with deepCount := 0 })

/-! ### The steps of an entry (R400) -/

/-- The entry reaches a step. -/
def State.toStep (s : State) (n : Nat) : State := s.modPower fun p => { p with entry := p.entry.map fun e => { e with step := n } }

/-- Step 6 begins: a latched wake aborts the entry; else every linked host port with TC10 sends its sleep request (R334, R398). -/
def State.beginStep6 (s : State) (e : Entry) : State :=
  if e.latched ≠ 0 ∧ e.target ≠ .off then ((s.toStep 6).wakeSource e.latched).abortEntry 8 0 0xFF
  else
    let ps := s.sleepers
    (ps.foldl (fun s p => s.modPort p fun x => { x with tc10Wait := true }) s).modPower fun p => { p with entry := some { e with step := 6, waitPorts := ps } }

/-- Step 8: the state is entered (R394, R397, R400, R402). -/
def State.enterTarget (s : State) (e : Entry) : State :=
  let s := if e.auto then s else s.finish powerRequestCode Bdp.ok
  match e.target with
  | .off => (s.count 0xA032 4 1).toOff 1
  | .deepSleep => ((s.count 0xA032 3 1).dropPorts).modPower fun p => { p with state := .deepSleep, entry := none, vcoreKept := p.vcore, vcore := 0 }
  | _ => (s.count 0xA032 2 1).modPower fun p => { p with state := .sleep, entry := none, vcoreKept := p.vcore, vcore := 450, deepCount := 0 }

/-- What an entry waits for before its next step has come (R400). -/
def State.stepDone (s : State) (e : Entry) : Bool :=
  match e.step with
  | 1 => s.coreUp 1
  | 2 => s.ops.runs.all (·.2.isNone) && s.ops.slots.all (·.2.isNone)
  | 3 => decide (s.writingAll = 0)
  | 4 => decide (e.target ≠ .deepSleep) || s.coreUp 3
  | 6 => e.waitPorts.isEmpty && s.egressSent
  | _ => true

/-- The next step of an entry. -/
def State.advanceEntry (s : State) (e : Entry) : State :=
  match e.step with
  | 4 => (if e.target = .deepSleep then s.prepareDeep else s).toStep 5
  | 5 => s.beginStep6 e
  | 6 => (if e.target = .off then s else s.channelsOff (decide (e.target = .deepSleep))).toStep 7
  | 7 => s.enterTarget e
  | n => s.toStep (n + 1)

/-- ENTRY_PROGRESS (R400): an awaited step completes. -/
def execEntryProgress (s : State) : Res :=
  s.whenUp .entryProgress <|
    match s.power.entry with
    | none => .next s.unlisted
    | some e => s.listed (decide (s.power.state = .entering) && s.stepDone e) (s.advanceEntry e)

/-- Whether a refuser of R398 may abort an entry: PORT_LINK on SLEEP and DEEP_SLEEP, KV_FLUSH on DEEP_SLEEP, WAKE as its row says. -/
def Entry.mayAbort (e : Entry) (code : Nat) : Bool :=
  decide (e.target ≠ .off) && (decide (code = 1) || (decide (code = 3) && decide (e.target = .deepSleep)) || (decide (code = 8) && (e.auto || decide (6 ≤ e.step))))

/-- ENTRY_ABORT (R398, R400). -/
def execEntryAbort (code port tenant : Nat) (s : State) : Res :=
  match s.power.entry with
  | none => .next s.unlisted
  | some e => s.listed (decide (s.power.state = .entering) && e.mayAbort code) (s.abortEntry code (if code = 3 then tenant else 0) (if code = 1 then port else 0xFF))

/-! ### Wakes and returns (R401, R402) -/

/-- WAKE_EVENT (R398, R402): a wake event of any code. -/
def execWakeEvent (code : Nat) (s : State) : Res := s.listed (decide (1 ≤ code ∧ code ≤ 6)) (s.wake code)

/-- On-die memory outside the control complex is zeros after DEEP_SLEEP (R401). -/
def State.dieMemoryZero (s : State) : State :=
  { s with
    mem := s.mem.filter fun c => decide (c.1 < 2 ^ 40)
    fabric := Fabric.init, vec := Vec.init, tiers := { s.tiers with lines := [] }
    vault := { s.vault with arrays := mmap .init (fun _ a => { a with selected := 0, changing := none, slotOf := none }) s.vault.arrays, sums := [], shadows := [] } }

/-- RETURN_COMPLETE (R401): RUN is reached. -/
def execReturnComplete (s : State) : Res :=
  if s.power.state = .returning then
    match s.power.returnFrom with
    | .idle => .next (s.modPower fun p => { p with state := .run, idleSince := s.now }).notePower
    | src => .next (((if src = .deepSleep then s.dieMemoryZero else s).dataPathOn.enterRunState))
  else .next s.unlisted

/-! ### Rate by voltage (R404..R407) -/

/-- A number of BUDGETS, mW: 0 vault converting, 1 vault non-converting, 2 DRAM, 3 I/O (R405). -/
def State.budget (s : State) (i : Nat) : Nat := nbits (s.pv 0x2002 1 pf0Budgets) (32 * i) 32

/-- DIGITAL_BUDGET, mW (R405). -/
def State.digitalBudget (s : State) : Nat := s.pv 0x2001 1 110000 - ((List.range 4).map s.budget).sum

/-- WRITE_SLOTS of the present budget (R406). -/
def State.writeSlotsOf (s : State) : Nat := min 512 ((s.budget 1 - 1500) / 30)

/-- The ceiling of VCORE: the profile's, and that of thermal control (R404, R409). -/
def State.vcoreMax (s : State) : Nat := min s.power.ceiling (s.pv 0x2001 2 850)

/-- One 10 mV step of the digital loop, and a tenth of P_v where VCORE is at its floor (R406). -/
def Power.loopStep (p : Power) (ceil target excess digital : Nat) : Power :=
  let v := min p.vcore ceil
  if target < digital then
    if 600 < v then { p with vcore := max 600 (v - 10) }
    else { p with vcore := v, pvCut := if 0 < excess ∧ p.pvCut < 9 then p.pvCut + 1 else p.pvCut }
  else if digital * 20 ≤ target * 19 then
    if 0 < p.pvCut then { p with vcore := v, pvCut := p.pvCut - 1 } else { p with vcore := min ceil (v + 10) }
  else { p with vcore := v }

/-- The measured averages of a loop period, and the rate at the VCORE the step leaves (R404, R456). -/
def Power.measured (p : Power) (powers : List Nat) (rate : Nat) : Power := { p with pNow := powers.take 5, hsRate := p.heldRate rate }

/-- VCORE_LOOP (R404, R406): the levers move by one step, G is computed anew, the input energy of the 100 us and time over the envelope are counted. -/
def execVcoreLoop (powers : List Nat) (rate : Nat) (s : State) : Res :=
  let at' := fun i => (powers[i]?).getD 0
  let excess := (at' 3 - s.budget 2) + (at' 5 - s.budget 3)
  let moves := decide (s.power.state = .run) || decide (s.power.state = .entering)
  s.listed (decide (powers.length = 6) && s.corePowered 0)
    (let ceil := s.vcoreMax
     let target := s.digitalBudget - excess
     let s := s.modPower fun p => (if moves then p.loopStep ceil target excess (at' 4) else p).measured powers rate
     let s := s.regrant.count 0xA0F1 1 (at' 0 / 10)
     if s.power.vcore ≤ 600 ∧ s.power.pvTenths ≤ s.power.pvCut + 1 ∧ s.pv 0x2001 1 110000 < at' 0 then s.count 0xA033 4 10000 else s)

/-! ### Thermal control (R408, R409) -/

/-- The levers of a trip (R409). -/
def Power.tripLevers (p : Power) : Power := { p with vcore := min p.vcore 600, ceiling := 600, pvTenths := 1, thermState := 2 }

/-- THERM_N. -/
def State.driveThermN (s : State) (low : Bool) : State := { s with pins := { s.pins with thermN := low } }

/-- A temperature reading (R408). -/
def State.reading (s : State) (tj : Int) : State := s.modPower fun p => { p with tj := tj, tjPeak := max p.tjPeak tj }

/-- THERMAL_SAMPLE (R408, R409): at 115 degrees throttling begins; at 115 or less after a trip it resumes from the tripped settings. -/
def execThermalSample (tj : Int) (s : State) : Res :=
  s.listed s.powered
    (let s := s.reading tj
     if s.power.thermState = 0 ∧ 115000 ≤ tj then ((s.modPower fun p => { p with thermState := 1 }).driveThermN true).raise Ev.thermalThrottle 0 Locus.none 0 (uint 64 tj)
     else if s.power.thermState = 2 ∧ tj ≤ 115000 then s.modPower fun p => { p with thermState := 1 }
     else s)

/-- One step down: the ceiling to 600 mV, then P_v to a tenth (R409). -/
def Power.throttle (p : Power) (ceil : Nat) : Power :=
  if 600 < min p.ceiling ceil then let c := max 600 (min p.ceiling ceil - 10); { p with ceiling := c, vcore := min p.vcore c }
  else { p with pvTenths := max 1 (p.pvTenths - 1) }

/-- One step up: P_v first, then the ceiling; 850 mV is the ceiling of no throttling (R409). -/
def Power.release (p : Power) (ceil : Nat) : Power :=
  let q := if p.pvTenths < 10 then { p with pvTenths := p.pvTenths + 1 } else { p with ceiling := min 850 (p.ceiling + 10) }
  if q.pvTenths = 10 ∧ ceil ≤ q.ceiling then { q with ceiling := 850, thermState := 0 } else q

/-- THROTTLE_STEP (R409): down at 115 degrees or more, up at 110 or less; THERM_N is released when both levers are restored. -/
def execThrottleStep (s : State) : Res :=
  let ceil := s.pv 0x2001 2 850
  if s.powered = true ∧ s.power.thermState = 1 ∧ (115000 ≤ s.power.tj ∨ s.power.tj ≤ 110000) then
    if 115000 ≤ s.power.tj then .next (s.modPower fun p => p.throttle ceil).regrant
    else
      let s := (s.modPower fun p => p.release ceil).regrant
      .next (if s.power.thermState = 0 then s.driveThermN false else s)
  else .next s.unlisted

/-- THERMAL_TRIP (R409): VCORE 600 mV, P_v a tenth, no new write granted. -/
def execThermalTrip (tj : Int) (s : State) : Res :=
  s.listed (s.powered && decide (125000 ≤ tj) && decide (s.power.thermState ≠ 2))
    ((((((s.reading tj).modPower Power.tripLevers).regrant).driveThermN true).count 0xA033 2 1).raise Ev.thermalTrip 0 Locus.none 0 (uint 64 tj))

/-- THERMAL_SHUTDOWN (R409): OFF with no refuser and no entry sequence; the event is device-fatal and is reported at the next start-up. -/
def execThermalShutdown (tj : Int) (s : State) : Res :=
  s.listed (s.powered && decide (135000 ≤ tj))
    ((((s.reading tj).count 0xA033 3 1).raise Ev.thermalShutdown 0 Locus.none 0 (uint 64 tj)).toOff 2)

end Sys2Proof.Machine
end

