-- ==== Sys2Proof/Machine/Trust.lean ====
section
/-! DEFINITION. The commands of tenants and the trust block: forming, activation, removal and its receipt, envelopes, principal keys and debug access (R369..R393). -/

namespace Sys2Proof.Machine

/-! ### Forming and activation (R371, R372) -/

/-- The sum of a quota over the tenants that are FORMING or ACTIVE (R371). -/
def State.quotaSum (s : State) (f : Nat → Nat) : Nat := (((List.range 8).map (· + 1)).map fun t => if s.quotaOpen t then f t else 0).sum

/-- SESSIONS_MAX of a tenant. -/
def State.sessionsMax (s : State) (t : Nat) : Nat := s.setting (0x8100 + t) 6
/-- UFS_MIB of a tenant. -/
def State.ufsMib (s : State) (t : Nat) : Nat := s.setting (0x8100 + t) 7
/-- OPS_SHARE of a tenant. -/
def State.opsShare (s : State) (t : Nat) : Nat := s.setting (0x7300 + t) 1
/-- SYNC_SHARE of a tenant. -/
def State.syncShare (s : State) (t : Nat) : Nat := s.setting (0x7300 + t) 2

/-- Whether the shares and session limits of the tenants keep the sums of R187, R202 and R208. -/
def State.sumsHold (s : State) : Bool :=
  decide (s.quotaSum s.opsShare ≤ 16384) && decide (s.quotaSum s.syncShare ≤ 32768) && decide (s.quotaSum s.sessionsMax ≤ 4096) && s.waysFit

/-- Whether every bit of a map of `n` bits is set in another. -/
def bitsWithin (n a b : Nat) : Bool := (List.range n).all fun i => !nbit a i || nbit b i

/-- SESSIONS_MAX, CACHE_WAYS and UFS_MIB of a tenant clamped to its envelope (R372). -/
def State.clamped (s : State) (t : Nat) : State :=
  let e := s.envOf t
  let low := fun (s : State) (sub m : Nat) => s.setStored (0x8100 + t) sub (defaultOf (entryCode (0x8100 + t) sub)) (min (s.setting (0x8100 + t) sub) m)
  low (low (low s 6 e.maxSessions) 3 e.maxWays) 7 e.maxUfs

/-- Whether a cluster or die that a tenant's maps name has an owner other than it. -/
def State.contested (s : State) (t : Nat) : Bool :=
  ((List.range 16).any fun c => nbit (s.clustersOf t) c && decide (s.clusterOwner c ≠ 0 ∧ s.clusterOwner c ≠ t)) ||
  (List.range 32).any fun d => nbit (s.diesOf t) d && decide (s.dieOwner d ≠ 0 ∧ s.dieOwner d ≠ t)

/-- A key slot takes a key from the TRNG (R236). -/
def State.newKey (s : State) (slot : Nat) : State := (s.modKeySlot slot fun _ => { key := some s.trust.fresh }).drawn

/-- TENANT_FORM: the status of its checks and the state that it leaves. -/
def tenantFormBody (t : Nat) (s : State) : Nat × State :=
  let e := s.envOf t
  let f := s.clamped t
  let g := f.modTenState t fun _ => .forming
  if s.tenState t ≠ .free then (Bdp.badState, s)
  else if s.trust.debug then (Bdp.debugOpen, s)
  else if !e.enabled || !bitsWithin 16 (s.clustersOf t) e.clusters || !bitsWithin 32 (s.diesOf t) e.dies then (Bdp.envelope, s)
  else if s.contested t then (Bdp.notOwned, s)
  else if !g.sumsHold then (Bdp.outOfRange, s)
  else (Bdp.ok, (((g.newKey t).modPointer t fun _ => 1).assignWays).syncMirror t)

/-- TENANT_FORM (R371, R372). -/
def execTenantForm (rq : Rq) (tenant : Nat) (s : State) : Res :=
  bdpCmd (.tenantForm rq tenant) rq (entryCode (0x4200 + tenant) 2) 1 (tenantFormBody tenant) s

/-- TENANT_ACTIVATE: clusters and dies owned, and the sub-quotas leave DRAM_SCRATCH its 256 MiB (R203). -/
def tenantActivateBody (t : Nat) (s : State) : Nat × State :=
  if s.tenState t ≠ .forming then (Bdp.badState, s)
  else if s.clustersOf t = 0 ∨ s.diesOf t = 0 ∨ s.dramMib t < s.subSum t + 256 then (Bdp.outOfRange, s)
  else (Bdp.ok, s.modTenState t fun _ => .active)

/-- TENANT_ACTIVATE (R372). -/
def execTenantActivate (rq : Rq) (tenant : Nat) (s : State) : Res :=
  bdpCmd (.tenantActivate rq tenant) rq (entryCode (0x4200 + tenant) 3) 1 (tenantActivateBody tenant) s

/-! ### Removal (R374) -/

/-- Step runs of a tenant. -/
def State.runsOf (s : State) (t : Nat) : List Nat := mkeys (mfilter (fun _ o => match o with | some (r : StepRun) => decide (r.tenant = t) | none => false) s.ops.runs)

/-- A step run instantiates nothing more, and its operations are cancelled (R191). -/
def State.quitTenantRun (s : State) (n : Nat) : State := ((s.stopRun n).cancelOps fun o => decide (o.run = n)).settleRun n

/-- Steps 1 and 2 of R374 begin: HUSK. Sessions end with STOP 9, operations are cancelled, and writes not yet granted are dropped (R90, R299). -/
def State.beginRemoval (s : State) (t cause nonce : Nat) : State :=
  let r : Removal := { cause := cause, nonce := nonce, step := 2, huskMono := s.now, digest := s.tenantDigest t, opsCancelled := s.opsInFlight t }
  let s := (s.modTenState t fun _ => .husk).modRemoval t fun _ => some r
  let s := s.channelNotice t 2
  let s := (s.sessionsWhere fun x => x.isOpen && decide (x.tenant = t)).foldl (fun s i => s.closeSess i 9) s
  let s := ((s.runsOf t).foldl State.quitTenantRun s).cancelOps fun o => decide (o.d.tenant = t)
  let s := (s.dieList t).foldl (fun s d => s.modDie d fun x => { x with writes := [] }) s
  let s := if (s.job t).state = .running ∨ (s.job t).state = .suspended then s.endJob t .idle else s
  s.modPolicy t fun _ => 0

/-- CAUSE of a removal that a connection's principal commands (R377). -/
def State.removalCause (s : State) (conn : Nat) : Nat :=
  match s.conn conn with
  | some c => if c.principal = .mgmt then 1 else 0
  | none => 0

/-- TENANT_REMOVE. -/
def tenantRemoveBody (conn t nonce : Nat) (s : State) : Nat × State :=
  if s.quotaOpen t then (Bdp.pending, s.beginRemoval t (s.removalCause conn) nonce) else (Bdp.badState, s)

/-- TENANT_REMOVE (R372, R374): answered PENDING. -/
def execTenantRemove (rq : Rq) (tenant nonce : Nat) (s : State) : Res :=
  bdpCmd (.tenantRemove rq tenant nonce) rq (entryCode (0x4200 + tenant) 4) nonce (tenantRemoveBody rq.conn tenant nonce) s

/-- The step that a tenant's removal has reached, 0 for none. -/
def State.removalStep (s : State) (t : Nat) : Nat := match s.removal t with | some r => r.step | none => 0

/-- A tenant's removal changed. -/
def State.setRemoval (s : State) (t : Nat) (f : Removal → Removal) : State := s.modRemoval t fun o => o.map f

/-- REMOVAL_OPS_CANCELLED (R374): step 2 ends with no operation of the tenant left. -/
def execRemovalOpsCancelled (tenant : Nat) (s : State) : Res :=
  s.whenUp (.removalOpsCancelled tenant) <|
    s.listed (decide (s.removalStep tenant = 2) && decide (s.opsInFlight tenant = 0)) (s.setRemoval tenant fun r => { r with step := 3 })

/-- What step 3 aborts has written nothing further: stream transfers, page moves, copy fetches, uploads, adapter loads and checkpoint writes. -/
def State.dropXfers (s : State) (t : Nat) : State :=
  let pods := (s.clusterList t).flatMap fun c => (List.range 16).map (c * 16 + ·)
  { s with
    streams := { s.streams with engines := mmodAll .init s.streams.engines pods fun _ => .init }
    kv := { s.kv with pages := mmap none (fun _ (o : Option Page) => o.map fun p => if p.tenant = t then { p with moving := none } else p) s.kv.pages }
    vault := { s.vault with strata := mmap .init (fun k x => if s.dieOwner (dieOf k) = t then { x with copyLoading := false } else x) s.vault.strata }
    models := { s.models with
      uploads := mset none s.models.uploads t none
      adapters := mmap .init (fun k a => if k / 16 = t then { a with loading := none } else a) s.models.adapters
      jobs := mmod .init s.models.jobs t fun j => { j with writing := none, wrote := none } } }

/-- A queue without a tenant's frames; a frame that is already partly on the wire is gone with it. -/
def purgeQueue (begun : Bool) (t : Nat) : List TxFrame → List TxFrame
  | [] => []
  | f :: l => (if begun || decide (f.tenant ≠ t) then [f] else []) ++ l.filter fun f => decide (f.tenant ≠ t)

/-- Frames that a port holds. -/
def Port.frames (x : Port) : Nat := (x.egress.map fun e => e.2.length).sum

/-- A port without a tenant's frames. -/
def Port.purged (x : Port) (t : Nat) : Port := { x with egress := mmap [] (fun q fs => purgeQueue (decide (x.fragment = some q)) t fs) x.egress }

/-- Step 4 of R374: the tenant's frames are purged, and its channels and connections end. -/
def State.purgeTenant (s : State) (t : Nat) : State :=
  let n := ([0, 1, 2].map fun p => (s.port p).frames - ((s.port p).purged t).frames).sum
  let s := [0, 1, 2].foldl (fun s p => s.modPort p fun x => x.purged t) s
  let s := (s.connsWhere fun c => decide (c.tenantOf = t)).foldl State.closeConn s
  [0, 1, 2].foldl State.fillAll (s.setRemoval t fun r => { r with framesPurged := n })

/-- Step 5 of R374 begins: the keys of the tenant are zeroised; its key slot follows once its accepted writes have retired (R237). -/
def State.zeroiseTenant (s : State) (t : Nat) : State :=
  let s := (s.setStored (0xB100 + t) 2 0 0).setStored (0x6100 + t) 3 0 0
  let s := [1, 2, 3, 4].foldl (fun s k => s.setStored (0x4100 + t) k 0 0) s
  let s := s.modMten t fun m => { m with recording := false, replay := none }
  (s.modKeySlot t fun k => { k with zeroising := true }).setRemoval t fun r => { r with step := 5 }

/-- REMOVAL_XFERS_DONE (R374): transfers have landed, or been aborted after 2 ms; steps 4 and 5 follow. -/
def execRemovalXfersDone (tenant aborted : Nat) (s : State) : Res :=
  s.whenUp (.removalXfersDone tenant aborted) <|
    s.listed (decide (s.removalStep tenant = 3))
      ((((s.dropXfers tenant).setRemoval tenant fun r => { r with xfersAborted := aborted }).purgeTenant tenant).zeroiseTenant tenant)

/-! ### Scrubbing (R375, R376) -/

/-- The DRAM part: the tenant region of every owned channel that is not lost reads zeros. -/
def State.scrubDram (s : State) (t : Nat) : State :=
  let chs := (s.clusterList t).flatMap fun c => [2 * c, 2 * c + 1]
  let here := chs.filter fun ch => decide ((s.chan ch).state ≠ .lost)
  let s := here.foldl (fun s ch => s.zero (ch * 2 ^ 33) (ch * 2 ^ 33 + chTenant)) s
  s.setRemoval t fun r => { r with dramMib := 5824 * here.length, skipped := decide (here.length < chs.length) }

/-- The on-die part: cluster stores, tile buffers, accumulators, vector buffers and scalar registers, the tenant's cache ways, its compression tables. -/
def State.scrubOnDie (s : State) (t : Nat) : State :=
  let cs := s.clusterList t
  let pods := cs.flatMap fun c => (List.range 16).map (c * 16 + ·)
  let s := cs.foldl (fun s c => s.zero (2 ^ 40 + c * 2 ^ 23) (2 ^ 40 + (c + 1) * 2 ^ 23)) s
  let s := pods.foldl (fun s p => s.zero (2 ^ 41 + p * 2 ^ 16) (2 ^ 41 + (p + 1) * 2 ^ 16)) s
  { s with
    fabric := { s.fabric with pods := mmodAll .init s.fabric.pods pods fun p => { Pod.init with idle := p.idle, stopped := p.stopped } }
    vec := { s.vec with units := mmodAll .init s.vec.units pods fun _ => .init }
    tiers := { s.tiers with lines := s.tiers.lines.filter (fun e => decide (s.wayOwner (e.1 / 1024) ≠ t + 1)), hotCopies := s.tiers.hotCopies.filter fun x => !cs.contains x.cluster }
    exp := { s.exp with tables := mfilter (fun k _ => decide (k / 4096 ≠ t)) s.exp.tables, acts := mfilter (fun k _ => decide (k / 2 ^ 34 ≠ t)) s.exp.acts } }

/-- A session index of a removed tenant is free again; its incarnation is kept. -/
def Session.cleared (x : Session) : Session := { Session.init with used := x.used, incarn := x.incarn }

/-- The control-state part: objects, step, session, page, slot and dataset records, and the tenant's part of the Mirror ring. -/
def State.scrubControl (s : State) (t : Nat) : State :=
  let mine := mkeys (mfilter (fun _ (x : Session) => decide (x.tenant = t)) s.svc.sessions)
  let s := (mkeys (mfilter (fun _ o => match o with | some (r : StepRun) => decide (r.tenant = t) | none => false) s.ops.runs)).foldl State.dropRun s
  { s with
    ops := { s.ops with objs := mmap .init (fun _ o => if o.owner = t then .init else o) s.ops.objs }
    kv := { s.kv with pages := mfilter (fun _ o => match o with | some (p : Page) => decide (p.tenant ≠ t) | none => false) s.kv.pages
                      staging := mfilter (fun k _ => !mine.contains k) s.kv.staging }
    svc := { s.svc with
      sessions := mmap .init (fun _ x => if x.tenant = t then x.cleared else x) s.svc.sessions
      queues := mfilter (fun k _ => decide (k / 4 ≠ t)) s.svc.queues
      completions := mfilter (fun k _ => decide (k / 4 ≠ t)) s.svc.completions
      served := mset 0 s.svc.served t 0 }
    models := { s.models with
      slots := mfilter (fun k _ => decide (k / 4 ≠ t)) s.models.slots
      adapters := mfilter (fun k _ => decide (k / 16 ≠ t)) s.models.adapters
      datasets := mfilter (fun k _ => decide (k / 4 ≠ t)) s.models.datasets
      pointer := mset 0 s.models.pointer t 0 }
    dram := { s.dram with extents := s.dram.extents.filter fun e => decide (e.tenant ≠ t) }
    tiers := { s.tiers with
      kvPending := mset none s.tiers.kvPending t none
      nextDie := mset 0 s.tiers.nextDie t 0
      popular := mfilter (fun k _ => decide (k / 65536 / 4 ≠ t)) s.tiers.popular }
    mirror := { s.mirror with tenants := mmod .init s.mirror.tenants t fun m => { MTen.init with files := m.files, nextFile := m.nextFile } } }

/-- The UFS part: every file is deleted and unmapped; the purge of its blocks follows, or joins a second purge while one runs (R376). -/
def State.scrubUfs (s : State) (t : Nat) : State :=
  { s with
    models := { s.models with jobs := mset .init s.models.jobs t .init, uploads := mset none s.models.uploads t none }
    mirror := { s.mirror with tenants := mmod .init s.mirror.tenants t fun m => { m with files := [] } }
    tenants := { s.tenants with purging := true, purgeAgain := s.tenants.purging, removals := mmod none s.tenants.removals t fun o => o.map fun (r : Removal) => { r with purgePending := true } } }

/-- What a part of the scrub clears; the vault part ends with its dies' erases. -/
def State.scrubPart (s : State) (t : Nat) : ScrubPart → State
  | .dram => s.scrubDram t
  | .onDie => s.scrubOnDie t
  | .control => s.scrubControl t
  | .ufs => s.scrubUfs t
  | .vault => s

/-- Whether a part of a tenant's scrub is still to end. -/
def State.scrubLeft (s : State) (t : Nat) (part : ScrubPart) : Bool :=
  match s.removal t with
  | some r => decide (r.step = 6) && !r.parts.contains part
  | none => false

/-- SCRUB_PART_DONE (R375): DIE_ERASE_DONE ends the vault part. -/
def execScrubPartDone (tenant : Nat) (part : ScrubPart) (s : State) : Res :=
  s.listed (s.powered && decide (part ≠ .vault) && s.scrubLeft tenant part) ((s.scrubPart tenant part).setRemoval tenant fun r => { r with parts := r.parts ++ [part] })

/-! ### The receipt (R377) -/

/-- Octets 0x000 to 0x0FF of a receipt: what its signature covers. -/
def State.receiptBody (s : State) (r : Receipt) : Bytes :=
  le 4 r.magic ++ le 2 r.version ++ le 1 r.tenant ++ le 1 r.cause ++ (s.ident.deviceId ++ List.replicate 32 0).take 32 ++ le 8 r.counter ++ le 8 r.calTime ++ le 8 r.huskMono ++ le 8 r.freeMono ++
    le 4 r.flags ++ le 2 r.clusters ++ le 2 0 ++ le 4 r.dies ++ le 4 r.strataRetired ++ le 4 r.dramMib ++ le 4 r.opsCancelled ++ le 4 r.xfersAborted ++ le 4 r.framesPurged ++ le 4 r.writesLate ++
    le 4 0 ++ (r.digest ++ List.replicate 32 0).take 32 ++ le 32 r.nonce ++ List.replicate 80 0

/-- The strata of a tenant's dies that are RETIRED. -/
def State.retiredOn (s : State) (t : Nat) : Nat := mcount (fun k x => decide (x.state = .retired) && decide (s.dieOwner (dieOf k) = t)) s.vault.strata

/-- The receipt of a removal, before it is signed. -/
def State.receiptOf (s : State) (t : Nat) (r : Removal) : Receipt :=
  let c := counterNext s.trust.counter
  { magic := 0x43525156, version := 1, tenant := t, cause := r.cause, counter := c, calTime := s.clk.cal, huskMono := r.huskMono, freeMono := s.now
    flags := flagBits [s.clk.timeUnknown, r.skipped, r.purgePending, r.resumed, decide (c = 2 ^ 64 - 1)]
    clusters := s.clustersOf t, dies := s.diesOf t, strataRetired := s.retiredOn t, dramMib := r.dramMib, opsCancelled := r.opsCancelled, xfersAborted := r.xfersAborted
    framesPurged := r.framesPurged, writesLate := r.writesLate, digest := r.digest, nonce := r.nonce }

/-- Whether a code names a counter of a group: 0 the device, n tenant T*n*; the two non-volatile counters are exempt (R420, R423). -/
def counterIn (group code : Nat) : Bool :=
  decide (code ≠ entryCode 0xA033 3) && decide (code ≠ entryCode 0xA0F3 1) &&
  match Entry.find code with
  | some e => decide (e.tenant code = group)
  | none => false

/-- The counters of a group read 0, and leave SAT_LIST (R423). -/
def Faults.clearGroup (f : Faults) (group : Nat) : Faults :=
  let c := mfilter (fun k _ => !counterIn group k) f.counters
  { f with counters := c, satList := f.satList.filter fun k => !counterIn group k, satCount := mcount (fun _ v => decide (v = counterMax)) c }

/-- Each per-tenant stored entry takes the active profile's default (R365). -/
def State.releaseEntries (s : State) (t : Nat) : State :=
  let es := (entryCodes fun e => decide (e.ten ≠ 0) && e.storedScoped).filter fun x => x.2.tenant x.1 == t
  es.foldl (fun s x => { s with dict := { s.dict with stored := mset (x.2.default 0) s.dict.stored x.1 (s.profileValue s.dict.active x.1 x.2) } }) s

/-- The tenant is FREE: the receipt is kept, its entries and counters restart, and its number may be formed again. -/
def State.released (s : State) (t : Nat) (r : Removal) : State :=
  let p := s.receiptOf t r
  let s := s.modReceipt t fun _ => { p with signature := Config.falconSign (s.receiptBody p) }
  let s : State := { s with trust := { s.trust with counter := p.counter }, faults := s.faults.clearGroup t }
  let s := (s.releaseEntries t).modTenState t fun _ => .free
  let s := ((s.modRemoval t fun _ => none).count 0xA020 1 1).assignWays
  let s := s.raise Ev.tenantReleased t Locus.none 0 p.counter
  if r.cause = 2 ∨ r.resumed = true then s else s.finish (entryCode (0x4200 + t) 4) Bdp.ok

/-- RECEIPT_SIGNED (R374, R377): every part of the scrub has ended. -/
def execReceiptSigned (tenant : Nat) (s : State) : Res :=
  match s.removal tenant with
  | none => .next s.unlisted
  | some r => s.listed (s.powered && decide (r.step = 6) && [ScrubPart.dram, .onDie, .control, .ufs, .vault].all r.parts.contains) (s.released tenant r)

/-- UFS_PURGE_DONE (R376). -/
def execUfsPurgeDone (s : State) : Res :=
  s.listed (s.powered && s.tenants.purging)
    (({ s with tenants := { s.tenants with purging := s.tenants.purgeAgain, purgeAgain := false } } : State).raise Ev.ufsPurged 0 Locus.none 0 0)

/-! ### Envelopes (R370, R371) -/

/-- Whether a reserved bit of an ENVELOPE record is set. -/
def envelopeResv (v : Nat) : Bool := decide (nbits v 16 16 ≠ 0) || decide (nbits v 74 6 ≠ 0) || decide (nbits v 80 16 ≠ 0) || decide (nbits v 144 16 ≠ 0)

/-- Whether the fields of an envelope lie in their ranges. -/
def EnvRec.inRange (e : EnvRec) : Bool := decide (e.maxWays ≤ 30) && (!e.enabled || decide (2 ≤ e.maxWays)) && decide (e.maxSessions ≤ 4096)

/-- Whether an envelope covers what a tenant that is not FREE owns and holds. -/
def State.envCovers (s : State) (t : Nat) (e : EnvRec) : Bool :=
  decide (s.tenState t = .free) ||
  (bitsWithin 16 (s.clustersOf t) e.clusters && bitsWithin 32 (s.diesOf t) e.dies && decide (s.cacheWaysOf t ≤ e.maxWays) && decide (s.ufsMib t ≤ e.maxUfs) &&
    decide (s.sessionsMax t ≤ e.maxSessions) && (e.enabled || !s.quotaOpen t))

/-- ENVELOPE. -/
def envelopeBody (t v : Nat) (s : State) : Nat × State :=
  if envelopeResv v then (Bdp.reservedSet, s)
  else if !(EnvRec.ofNat v).inRange then (Bdp.outOfRange, s)
  else if !s.envCovers t (EnvRec.ofNat v) then (Bdp.inUse, s)
  else (Bdp.ok, (s.setStored 0x4300 t 0 v).syncMirror t)

/-- ENVELOPE (R370, R371, R424). -/
def execEnvelope (rq : Rq) (tenant value : Nat) (s : State) : Res := bdpCmd (.envelope rq tenant value) rq (entryCode 0x4300 tenant) value (envelopeBody tenant value) s

/-! ### Principal keys (R385) -/

/-- The principal whose keys an index holds. -/
def keyPrincipal (index : Nat) : Principal := if index = 0x4001 then .mgmt else if index = 0x4002 then .drv else .ten

/-- Whether a channel was authenticated with the key of an entry. -/
def Conn.usesKey (c : Conn) (index sub : Nat) : Bool :=
  decide (c.kind ≠ .asx) && decide (c.principal = keyPrincipal index) && decide (c.keyId + 1 = sub) && (decide (c.principal ≠ .ten) || decide (c.tenant = index % 16)) && decide (c.phase = .up)

/-- MGMT keys enrolled. -/
def State.mgmtKeys (s : State) : Nat := [1, 2, 3, 4].countP fun k => decide (s.sv 0x4001 k 0 ≠ 0)

/-- A key entry's rule: the last MGMT key stays, TEN_KEY is written in FORMING or ACTIVE, and the channels of the old key end. -/
def keyBody (code key : Nat) (s : State) : Nat × State :=
  let index := code / 256
  let sub := code % 256
  if index = 0x4001 ∧ key = 0 ∧ s.sv 0x4001 sub 0 ≠ 0 ∧ s.mgmtKeys = 1 then (Bdp.inUse, s)
  else if keyPrincipal index = .ten ∧ s.quotaOpen (index % 16) = false then (Bdp.badState, s)
  else (Bdp.ok, (s.connsWhere fun c => c.usesKey index sub).foldl State.closeConn (s.setStored index sub 0 key))

/-- PRINCIPAL_KEY_WRITE (R385): MGMT_KEY, DRV_KEY or TEN_KEY. -/
def execPrincipalKeyWrite (rq : Rq) (code key : Nat) (s : State) : Res := bdpCmd (.principalKeyWrite rq code key) rq code key (keyBody code key) s

/-! ### Debug access (R390) -/

/-- A new DEBUG_CHALLENGE. -/
def State.newChallenge (s : State) : State := ({ s with trust := { s.trust with challenge := s.trust.fresh } } : State).drawn

/-- DEBUG_UNLOCK: every attempt brings a new challenge. -/
def debugUnlockBody (sigOk : Bool) (s : State) : Nat × State :=
  let n := s.newChallenge
  if (List.range 8).any fun i => decide (s.tenState (i + 1) ≠ .free) then (Bdp.badState, n)
  else if !sigOk then (Bdp.badSignature, n)
  else (Bdp.ok, ({ n with trust := { n.trust with debug := true } } : State).count 0xA020 3 1)

/-- DEBUG_UNLOCK (R390). -/
def execDebugUnlock (rq : Rq) (sigOk : Bool) (s : State) : Res := bdpCmd (.debugUnlock rq sigOk) rq (entryCode 0x4400 3) 0 (debugUnlockBody sigOk) s

/-- TRNG_FAIL (R379): class device-fatal. -/
def execTrngFail (s : State) : Res := s.listed s.powered (s.raise Ev.trngFail 0 Locus.none 0 0)

end Sys2Proof.Machine
end

