-- ==== Sys2Proof/Machine/Startup.lean ====
section
/-! DEFINITION. Reset, start-up, supplies, the test port, pins and the calendar clock (R386, R388, R391, R439..R455, R458). -/

namespace Sys2Proof.Machine

/-! ### Reset and supplies (R441, R446) -/

/-- RESET_ASSERT (R446): RESET_N low for at least 10 us, in every state; debug access is locked (R390). -/
def execResetAssert (s : State) : Res :=
  let u := s.toReset 1
  s.listed s.pins.resetN { u with pins := { u.pins with resetN := false } }

/-- BROWNOUT (R441): VIN_MAIN or VIN_IO falls outside OFF. -/
def execBrownout (s : State) : Res := s.listed (decide (s.power.state ≠ .off) && s.clk.vaon) (s.toOff 0)

/-- AON_LOSS (R441, R446, R448): the always-on domain is lost with what it holds, the COMMISSION latch among it. -/
def execAonLoss (s : State) : Res :=
  let u := s.toReset 0
  s.listed s.clk.vaon
    { u with power := { u.power with lastOff := 0, wakeSource := 0 }, pins := { u.pins with latch := none, commStatus := 0, thermN := false }, clk := { u.clk with vaon := false } }

/-- CALENDAR_LOST (R452): V_AON and VBAT are both absent; the next start-up finds it. -/
def execCalendarLost (s : State) : Res := s.listed (!s.clk.vaon) { s with clk := { s.clk with calLost := true } }

/-! ### Cold start (R444, R445) -/

/-- Step 1: monotonic time restarts, the pins are sampled, and the cause is recorded; a lost calendar restarts at 0 with its alarm cleared (R450, R452, R454). -/
def State.bootClock (s : State) (b : Boot) : State :=
  let released := decide (s.pins.resetN = false)
  let s := if s.clk.calLost then (({ s with clk := { s.clk with cal := 0, timeUnknown := true, calLost := false } } : State).setStored 0xC001 3 0 0) else s
  { s with
    clk := { s.clk with mono := 0, cause := s.clk.nextCause, straps := b.profsel % 4 + 4 * (b.gpio % 4), starting := true, startupTime := 0, vaon := true }
    pins := { s.pins with resetN := true, pwrGood := true, faultN := true, thermN := false }
    power := { s.power with aonTemp := b.aonTemp, wakeSource := if released then 7 else s.power.wakeSource }
    tiers := { s.tiers with ufsTenantMib := b.ufsMib } }

/-- Whether a slot's image is verified at start-up (R388). -/
def State.slotBoots (s : State) (b : Boot) (k : Nat) : Bool :=
  let i := s.fwSlot k
  i.present && (if k = 0 then b.okA else b.okB) && decide (s.trust.secCounter ≤ i.secVersion ∧ i.secVersion ≤ 64) && !s.trust.revoked.contains i.keyIndex

/-- The running image's measurements; every core of an image on trial runs the new one (R307, R308, R382). -/
def State.bootCores (s : State) : State :=
  let trial := decide (s.ctl.fwState = .trial)
  { s with
    ctl := { s.ctl with cores := (List.range 8).foldl (fun m k => mset .init m k { Core.init with onNew := trial }) [] }
    trust := { s.trust with measures := (s.fwSlot s.ctl.fwActive).measures, debug := false }
    pins := { s.pins with faultN := false } }

/-- Steps 4 and 5: the active slot's image runs, or the other slot's (R308, R388, R445). -/
def State.bootFirmware (s : State) (b : Boot) : State :=
  if s.slotBoots b s.ctl.fwActive then s.bootCores
  else ((s.modCtl fun c => { c with fwActive := s.fwInactive, fwState := .committed }).bootCores).count 0xA020 4 1

/-- Step 6: the channels are available, those that failed a training step twice are lost with their pair (R251), key 0 is new (R236). -/
def State.bootDram (s : State) (b : Boot) : State :=
  let gone := fun (ch : Nat) => b.lost.any fun l => decide (l.1 / 2 = ch / 2)
  ({ s with dram := { s.dram with channels := (List.range 32).foldl (fun m ch => mset .init m ch { Channel.init with state := if gone ch then .lost else .active, idleLimit := s.srIdle }) [] } } : State).newKey 0

/-- Every profile-scoped entry takes a profile's value (R359, R363). -/
def State.loadProfile (s : State) (p : Nat) : State :=
  { s with dict := { s.dict with
    active := p
    present := (entryCodes (·.profileScoped)).foldl (fun m x => mset (x.2.default 0) m x.1 (s.profileValue p x.1 x.2)) [] } }

/-- The levers at the settings of the profile in force: VCORE at its ceiling, the budgets and the grant (R363, R404..R406). -/
def State.profileLevers (s : State) : State :=
  (s.modPower fun p => { p with vcore := s.vcoreMax, vcoreKept := s.vcoreMax, writeSlots := s.writeSlotsOf }).regrant

/-- The profile of a start-up, from the pins or from PROFILE_BOOT (R362). -/
def State.bootProfile (s : State) : State :=
  let pins := s.clk.straps % 4
  let s : State := { s with dict := { s.dict with pins := pins } }
  (s.loadProfile (if s.setting 0x2000 3 = 0 then pins else s.setting 0x2000 4)).profileLevers

/-- Device counters restart (R420), and the first SEQ is the stored mark (R458). -/
def State.bootCounters (s : State) : State :=
  let f := s.faults.clearGroup 0
  { s with faults := { f with nextSeq := f.seqMark } }

/-- Unacknowledged records of the fatal log are delivered again with BEFORE_RESET, and hold FAULT_N (R417, R418, R458). -/
def State.redeliver (s : State) : State :=
  let es := s.faults.fatalLog.filter fun e => serialAfter 32 e.seq s.faults.ackSeq
  { s with faults := { s.faults with queue := s.faults.queue ++ es.map (fun e => { e with flags := e.flags ||| 2 }), unacked := s.faults.unacked ++ es.map (·.seq) } }

/-- A COMMISSION key becomes MGMT_KEY KEY_ID 0 (R386, R448). -/
def State.bootKey (s : State) : State :=
  match s.pins.latch with
  | none => s
  | some k => { (s.setStored 0x4001 1 0 k) with pins := { s.pins with latch := none } }

/-- A channel that is lost: class tenant-failed for the tenant that owns its cluster, which is removed; else corrected (R251, R372). -/
def State.channelLost (s : State) (l : Nat × Nat) : State :=
  let t := s.clusterOwner (l.1 / 2)
  if t = 0 then s.raise Ev.channelLost 0 Locus.channel l.1 l.2
  else
    let s := s.raise Ev.channelLostTenant t Locus.channel l.1 l.2
    if s.quotaOpen t then s.beginRemoval t 2 0 else s

/-- A tenant at start-up: a fresh key, or its removal again from step 6 (R236, R373). -/
def State.bootTenant (s : State) (t : Nat) : State :=
  match s.tenState t with
  | .free => s
  | .forming | .active => s.newKey t
  | .husk | .scrubbing => (s.setRemoval t fun r => { r with resumed := true }).beginScrub t

/-- The order of R90 to which an interrupted write belongs: what it puts into its stratum tells. -/
def State.kindOf (s : State) (x : Stratum) : WriteKind :=
  if x.releaseFlag then .release
  else match x.incoming with
    | none => .dimRewrite
    | some c =>
      if x.target ≠ some c ∨ x.content = some c then .dimRewrite
      else match (s.mslot c.tenant c.slot).state with
        | .swapping => .swapRewrite
        | .installing => .install
        | _ => .relocation

/-- A write that the loss of power interrupted begins again, ahead of those that still wait (R81, R90, R259). -/
def State.requeueWrite (s : State) (k : Nat) : State :=
  let x := s.stratum k
  let r : WriteReq := { stratum := k, kind := s.kindOf x, content := x.target }
  (((s.modStratum k fun x => { x with state := .erasing }).modDie (dieOf k) fun d => { d with writes := r :: d.writes })).loadArray (arrayOf k)

/-- One test of the sweep (R80). -/
def State.sweep (s : State) (k : Nat) : State :=
  let x := s.stratum k
  (s.tested k (s.dieOwner (dieOf k)) (testDeviation x k s.trust.fresh x.pattern)).drawn

/-- Steps 11 and 12: interrupted writes are queued again, copies are loaded for what is queued or not LIT, and every LIT stratum is tested (R80, R81, R86). -/
def State.bootVault (s : State) : State :=
  let ks := fun (s : State) (p : Stratum → Bool) => mkeys (mfilter (fun _ x => p x) s.vault.strata)
  let s := (ks s fun x => x.state.writing).foldl State.requeueWrite s
  let s := (ks s fun x => decide (x.state = .dim)).foldl (fun s k => (s.loadCopy k).repin k) s
  let s := (s.vault.dies.flatMap fun e => e.2.writes).foldl (fun s r => s.loadArray (arrayOf r.stratum)) s
  (ks s fun x => decide (x.state = .lit)).foldl State.sweep s

/-- The ways as R208 assigns them, every slice empty. -/
def State.bootWays (s : State) : State :=
  { s with tiers := { s.tiers with lines := [], wayNext := [], wayOwner := (List.range 256).foldl (fun m k => mset 0 m k (s.wayTarget (k / 32) (k % 32))) [] } }

/-- Step 8: the ports that are enabled, with their strapped roles (R322, R323). -/
def State.bootPorts (s : State) (b : Boot) : State :=
  [0, 1, 2].foldl (fun s p =>
    let s := s.modPort p fun x => { x with strapLeader := decide (p < 2) && nbit b.gpio p }
    if s.setting (portIndex p) 1 = 1 then s.enablePort p else s) s

/-- A start-up up to step 12 of R444. -/
def State.boot (s : State) (b : Boot) : State :=
  let s := ((s.bootClock b).bootCounters.redeliver).bootFirmware b
  let s := ((s.bootKey.bootProfile).bootDram b).bootWays
  let s := ((List.range 8).foldl (fun s i => s.bootTenant (i + 1)) s).bootPorts b
  (b.lost.foldl State.channelLost s).bootVault

/-- COLD_START (R388, R444, R445): held while the sensor of a thermal shutdown is above 105 degrees; with no slot verified every core stays in reset and FAULT_N is asserted until the next release. -/
def execColdStart (b : Boot) (s : State) : Res :=
  if s.power.state ≠ .held ∨ s.clk.starting = true ∨ s.clk.noBoot = true then .next s.unlisted
  else if s.power.lastOff = 2 ∧ 105000 < b.aonTemp then .next (s.modPower fun p => { p with aonTemp := b.aonTemp })
  else if s.slotBoots b s.ctl.fwActive || s.slotBoots b s.fwInactive then .next (s.boot b)
  else
    let s := s.bootClock b
    .next { s with clk := { s.clk with starting := false, noBoot := true } }

/-- SERVICE_READY (R164, R308, R309, R444): the expanders' self-test has ended; the lease is HELD with the stored epoch, jobs resume, and recording starts where it may. -/
def execServiceReady (s : State) : Res :=
  s.listed (s.clk.starting && !s.exp.selfTesting)
    (let s : State := { s with
      clk := { s.clk with starting := false, startupTime := s.now, nextCause := 1 }
      power := { s.power with state := .run, idleSince := s.now }
      svc := { s.svc with incarnBase := Config.trng 16 s.trust.fresh % 65536 }
      ctl := { s.ctl with serviceReady := true, trialLeft := if s.ctl.fwState = .trial then 60000000000 else 0, trialOver := false,
                          lease := { state := .held, holder := false, epoch := s.ctl.lease.epoch, remaining := s.leaseTime } } }
     let s := (List.range 8).foldl (fun s i => if s.tenState (i + 1) = .active then s.resumeJob (i + 1) else s) s.drawn
     ((List.range 8).foldl (fun s i => s.syncMirror (i + 1)) s).deliver)

/-! ### Pins (R402, R439) -/

/-- WAKE_PIN (R402, R439): a rising edge followed by at least 1 us high; nothing in RUN, IDLE or a start-up. -/
def execWakePin (s : State) : Res := .next (s.wake 1)

/-- PPS_PULSE (R439): GPIO[2] at a whole second of calendar time, with GPIO_PPS set and the time known. -/
def execPpsPulse (s : State) : Res :=
  let r := s.clk.cal % 1000000000
  s.listed (s.powered && decide (s.setting 0xC001 4 = 1) && !s.clk.timeUnknown && (decide (r ≤ 50) || decide (999999950 ≤ r))) { s with pins := { s.pins with gpio2 := s.pins.gpio2 + 1 } }

/-! ### The test port (R386, R391, R447, R448) -/

/-- The test port selects an instruction; the boundary cells drive the balls under EXTEST alone. -/
def State.select (s : State) (code : Nat) : State := { s with pins := { s.pins with ir := code, driven := decide (code = 0) } }

/-- Whether the port offers the boundary-scan instructions: always while debug access is unlocked, else while RESET_N is low (R391). -/
def State.scanOffered (s : State) : Bool := s.trust.debug || !s.pins.resetN

/-- Bits of the boundary-scan register. -/
def scanCells : Nat := 2 ^ 39

/-- EXTEST (R447): the cells drive the balls; where the instruction is not offered it selects BYPASS. -/
def execExtest (cells : Nat) (s : State) : Res :=
  .next (if s.scanOffered then let s := s.select 0; { s with pins := { s.pins with cells := cells % scanCells } } else s.select 0xFF)

/-- IDCODE (R447). -/
def execIdcode (s : State) : Res := .next (let s := s.select 1; { s with pins := { s.pins with tdo := 0x10880A31 } })

/-- SAMPLE/PRELOAD (R447): the levels are captured and the cells loaded. -/
def execSamplePreload (cells captured : Nat) (s : State) : Res :=
  .next (if s.scanOffered then let s := s.select 2; { s with pins := { s.pins with cells := cells % scanCells, tdo := captured % scanCells } } else s.select 0xFF)

/-- The status of a COMMISSION: 0 latched, 1 malformed, 2 refused (R386, R448). -/
def State.commissionStatus (s : State) (key reserved : Nat) : Nat :=
  if s.pins.resetN = true ∨ s.mgmtKeys ≠ 0 then 2 else if key % 256 ≠ 10 ∨ reserved ≠ 0 then 1 else 0

/-- COMMISSION (R448): the status of the execution before it is shifted out, and a key that is allowed and well formed is latched. -/
def execCommission (key reserved : Nat) (s : State) : Res :=
  let st := s.commissionStatus key reserved
  let s := s.select 0x3C
  .next { s with pins := { s.pins with tdo := s.pins.commStatus, commStatus := st, latch := if st = 0 then some key else s.pins.latch } }

/-- BYPASS (R447): one bit of delay; the register captures 0. -/
def execBypass (bit : Bool) (s : State) : Res := .next (let s := s.select 0xFF; { s with pins := { s.pins with bypass := bit, tdo := 0 } })

/-! ### The calendar clock (R449..R453) -/

/-- CAL_ALARM: 0 for none, or a time after CAL_TIME; refused while the time is unknown. -/
def calAlarmBody (v : Nat) (s : State) : Nat × State :=
  if s.clk.timeUnknown = true ∨ (v ≠ 0 ∧ v ≤ s.clk.cal) then (Bdp.outOfRange, s) else (Bdp.ok, s.setStored 0xC001 3 0 v)

/-- CAL_ALARM (R453). -/
def execCalAlarm (rq : Rq) (value : Nat) (s : State) : Res := bdpCmd (.calAlarm rq value) rq (entryCode 0xC001 3) value (calAlarmBody value) s

/-- CAL_ALARM_DUE (R453, R455): the alarm is cleared; it wakes SLEEP, DEEP_SLEEP and OFF, and an entry to the first two. -/
def execCalAlarmDue (s : State) : Res :=
  let a := s.sv 0xC001 3 0
  s.listed (decide (a ≠ 0) && decide (a ≤ s.clk.cal)) ((s.setStored 0xC001 3 0 0).wake 6)

/-- CAL_SET: refused while the clock is disciplined; the time is known from then on, and Mirror records it. -/
def calSetBody (v : Nat) (s : State) : Nat × State :=
  if s.clk.disciplined then (Bdp.badState, s)
  else
    let s : State := { s with clk := { s.clk with cal := v, timeUnknown := false, slew := 0 } }
    (Bdp.ok, s.captureAll (.time v false))

/-- CAL_SET (R452, R455). -/
def execCalSet (rq : Rq) (value : Nat) (s : State) : Res := bdpCmd (.calSet rq value) rq (entryCode 0xC001 1) value (calSetBody value) s

end Sys2Proof.Machine
end

