-- ==== Sys2Proof/Machine/Registers.lean ====
section
/-! DEFINITION. What a read of each dictionary entry gives (R357, R358 and the entry tables of every chapter). -/

namespace Sys2Proof.Machine

/-! ### State codes -/

/-- State codes of STRATUM_INFO (R92). -/
def StratumState.code : StratumState → Nat
  | .free => 0 | .erasing => 1 | .programming => 2 | .verifying => 3 | .lit => 4 | .dim => 5 | .retired => 6
/-- MODEL_STATE (R279). -/
def SlotState.code : SlotState → Nat
  | .empty => 0 | .staged => 1 | .installing => 2 | .ready => 3 | .swapping => 4 | .removing => 5 | .checking => 6
/-- ADAPTER_STATE (R279). -/
def AdState.code : AdState → Nat
  | .empty => 0 | .stored => 1 | .resident => 2 | .training => 3
/-- TRAIN_STATE (R279). -/
def JobState.code : JobState → Nat
  | .idle => 0 | .running => 1 | .suspended => 2 | .done => 3 | .failed => 4
/-- CC_STATE (R320). -/
def CoreState.code : CoreState → Nat
  | .running => 0 | .restarting => 1 | .waiting => 2
/-- LEASE_STATE (R320). -/
def LeaseState.code : LeaseState → Nat
  | .held => 0 | .grace => 1 | .unattended => 2
/-- FW_STATE (R320). -/
def FwState.code : FwState → Nat
  | .committed => 0 | .staged => 1 | .activating => 2 | .trial => 3 | .rollingBack => 4
/-- Link state of LINK_STATUS (R341). -/
def LinkState.code : LinkState → Nat
  | .down => 0 | .training => 1 | .up => 2 | .sleep => 3
/-- CH_STATE (R249). -/
def ChState.code : ChState → Nat
  | .active => 0 | .selfRefresh => 1 | .partialRefresh => 2 | .lost => 3
/-- TENANT_STATE (R393). -/
def TenState.code : TenState → Nat
  | .free => 0 | .forming => 1 | .active => 2 | .husk => 3 | .scrubbing => 4

/-! ### Vault (R74, R92) -/

/-- Strata in a state other than FREE. -/
def State.strataIn (s : State) (st : StratumState) : Nat := mcount (fun _ x => decide (x.state = st)) s.vault.strata

/-- Strata of the package. -/
def strataTotal : Nat := 262144

/-- STRATUM_INFO of a stratum (R92). -/
def State.stratumInfo (s : State) (k : Nat) : Bytes :=
  let x := s.stratum k
  le 1 x.state.code ++ le 1 x.attempt ++ le 2 x.programs ++ le 1 (s.dieOwner (dieOf k)) ++ le 1 x.pattern ++ le 2 0 ++ le 8 (s.now - x.lastTest) ++
    le 2 (uint 16 x.deviation) ++ le 2 0

/-- Entries of 0x9001, 0x9003 and 0x9004. -/
def State.readVault (s : State) (c : Conn) (index sub : Nat) : Option Bytes :=
  match index, sub with
  | 0x9001, 1 => some (le 2 s.vault.grant)
  | 0x9001, 2 => some (le 2 s.convertingCount)
  | 0x9001, 3 => some (le 8 s.vault.roundNs)
  | 0x9003, 1 => some (le 4 (strataTotal - mcount (fun _ x => decide (x.state ≠ .free)) s.vault.strata))
  | 0x9003, 2 => some (le 4 (s.strataIn .erasing + s.strataIn .programming + s.strataIn .verifying))
  | 0x9003, 3 => some (le 4 (s.strataIn .lit))
  | 0x9003, 4 => some (le 4 (s.strataIn .dim))
  | 0x9003, 5 => some (le 4 (s.strataIn .retired))
  | 0x9003, 6 => some (le 8 (2 ^ 21 * (strataTotal - s.strataIn .retired)))
  | 0x9004, 2 => some (s.stratumInfo c.stratumSelect)
  | _, _ => none

/-! ### Tiers (R215) -/

/-- Octets in use of a DRAM sub-quota. -/
def State.dramUse (s : State) (t : Nat) : Nat → Nat
  | 1 => s.usedOf t .modelC
  | 2 => s.warmUsed t * 65536
  | 3 => s.usedOf t .sessionC
  | 4 => (s.reserveUsed t).length * copyBytes
  | 5 => s.usedOf t .adapterC
  | _ => s.usedOf t .scratchC

/-- DRAM_USED: whole MiB in use, in the order of 0x811n.01..06. -/
def State.dramUsed (s : State) (t : Nat) : Bytes := (List.range 6).flatMap fun i => le 4 (cdiv (s.dramUse t (i + 1)) (2 ^ 20))

/-- Entries of tenant `t` whose index is `16 * fam + t`. -/
def State.readTenant (s : State) (fam t sub : Nat) : Option Bytes :=
  match fam, sub with
  | 0x920, 1 => some (le 2 (s.grantShare t))
  | 0x930, 1 => some (le 2 (s.writeCap t))
  | 0x930, 2 => some (le 2 (s.pinnedCopies t))
  | 0x620, 1 => some (le 4 (s.hotPages t))
  | 0x620, 2 => some (le 4 (s.warmPages t))
  | 0x620, 3 => some (le 2 (s.sessionsWhere fun x => x.isOpen && decide (x.tenant = t)).length)
  | 0x620, 4 => some (le 2 (s.connsWhere fun c => c.channelOf t).length)
  | 0x741, 2 => some (le 2 (mcount (fun k _ => decide (k / 4096 = t)) s.exp.tables))
  | 0x730, 6 => some (le 2 (s.opsInFlight t))
  | 0x730, 7 => some (le 2 (s.syncHeld t))
  | 0x811, 6 => some (le 4 (s.subQuota t 6))
  | 0x812, 1 => some (s.dramUsed t)
  | _, _ => none

/-- Octets of a receipt with its signature (R377). -/
def State.receiptBytes (s : State) (t : Nat) : Bytes :=
  if (s.receipt t).magic = 0 then List.replicate 1536 0 else s.receiptBody (s.receipt t) ++ le 1280 (s.receipt t).signature

/-- MIRROR_STATE (R424, R428). -/
def MTen.code (m : MTen) : Nat := if m.replay.isSome then 2 else if m.recording then 1 else 0

/-- MIRROR_FILES (R432). -/
def MTen.filesInfo (m : MTen) : Bytes := le 4 m.files.length ++ m.files.flatMap fun f => le 4 f.seq ++ le 4 f.records.length ++ le 8 f.bytes

/-- REPLAY_RESULT (R430). -/
def ReplayResult.bytes (r : ReplayResult) : Bytes :=
  le 4 r.replayed ++ le 4 r.diverged ++ le 4 r.statusDiff ++ le 4 r.faultsRec ++ le 4 r.faultsMet ++ le 8 r.reqId ++ le 4 r.index ++ le 4 0 ++ le 8 r.mono ++ le 8 r.lag

/-- More entries of tenant `t`: generation, datasets, training, tenant state and Mirror. -/
def State.readTenant2 (s : State) (fam t sub : Nat) : Option Bytes :=
  match fam, sub with
  | 0x530, 1 => some (le 4 (s.pointer t))
  | 0x530, 6 => some ((List.range 4).flatMap fun k => le 8 (match s.dataset (t * 4 + k) with | some (i : Image) => i.tokens.length | none => 0))
  | 0x550, 4 => some (le 1 (s.job t).state.code)
  | 0x550, 5 => some (le 8 (s.job t).step)
  | 0x550, 6 => some (le 4 (s.job t).loss.toNat)
  | 0x420, 1 => some (le 1 (s.tenState t).code)
  | 0x420, 5 => some (s.receiptBytes t)
  | 0x420, 6 => some (s.tenantDigest t)
  | 0xB10, 3 => some (le 1 (s.mten t).code)
  | 0xB10, 5 => some (s.mten t).filesInfo
  | 0xB10, 8 => some (s.mten t).result.bytes
  | _, _ => none

/-- Entries of model slot `t * 4 + m` and adapter slot `t * 16 + k` (R279). -/
def State.readSlot (s : State) (index sub : Nat) : Option Bytes :=
  let m := s.slot (index / 16 % 16 * 4 + index % 16)
  let a := s.adapter (index / 16 % 16 * 16 + index % 16)
  match index / 256, sub with
  | 0x52, 1 => some (le 1 m.state.code)
  | 0x52, 2 => some (imageInfo m.current m.stamp)
  | 0x52, 3 => some (imageInfo m.pending 0)
  | 0x52, 7 => some (le 4 m.litSoFar ++ le 4 m.toWrite)
  | 0x54, 1 => some (le 1 a.state.code)
  | 0x54, 2 => some a.info
  | _, _ => none

/-! ### Control, ports, power, faults, clock -/

/-- FW_VERSION (R320). -/
def State.fwVersion (s : State) : Bytes :=
  let i := s.fwSlot s.ctl.fwActive
  le 4 i.version ++ le 4 i.secVersion ++ le 1 s.ctl.fwActive ++ le 3 0

/-- Entries of the control complex (R320) and of free descriptor slots and objects (R194). -/
def State.readControl (s : State) (index sub : Nat) : Option Bytes :=
  match index, sub with
  | 0x1001, 2 => some s.fwVersion
  | 0x7000, 5 => some (le 4 s.ctl.lease.epoch)
  | 0x7000, 6 => some (le 1 s.ctl.lease.state.code)
  | 0x7000, 7 => some (le 8 s.ctl.lease.remaining)
  | 0x7402, 7 => some (le 1 s.ctl.fwState.code)
  | 0x7201, 1 => some (le 2 (16384 - mcount (fun _ o => o.isSome) s.ops.slots))
  | 0x7201, 2 => some (le 2 (32768 - mcount (fun _ x => decide (x.owner ≠ 0)) s.ops.objs))
  | 0x8000, 3 => some (le 4 s.tiers.ufsTenantMib)
  | 0x7400, _ => some (le 1 (s.core (sub - 1)).state.code)
  | 0x8202, _ => some (le 1 (s.chan (sub - 1)).state.code)
  | _, _ => none

/-- LINK_STATUS (R341). -/
def Port.linkStatus (x : Port) : Bytes := le 1 x.link.code ++ le 1 x.speed ++ le 1 (if x.leader then 0 else 1) ++ le 1 x.sqi

/-- CABLE_RESULT (R341). -/
def Port.cableResult (x : Port) : Bytes := le 1 x.cable ++ le 1 0 ++ le 2 x.cableDm

/-- Entries of the ports (R341). -/
def State.readPort (s : State) (index sub : Nat) : Option Bytes :=
  let x := s.port (if index = 0x3120 then 2 else index - 0x3100)
  match sub with
  | 0x05 => some x.linkStatus
  | 0x16 => some x.cableResult
  | 0x17 => some (le 6 x.mac)
  | _ => none

/-- LAST_REFUSAL (R411). -/
def LastRefusal.bytes (r : LastRefusal) : Bytes := le 1 r.state ++ le 1 r.code ++ le 1 r.tenant ++ le 1 r.port ++ le 4 0 ++ le 8 r.mono

/-- Entries of power and thermal control (R411). -/
def State.readPower (s : State) (index sub : Nat) : Option Bytes :=
  match index, sub with
  | 0x2002, 2 => some (le 4 s.digitalBudget)
  | 0x2002, 3 => some (le 2 s.power.writeSlots)
  | 0x2003, 1 => some (le 1 s.power.state.code)
  | 0x2003, 3 => some (le 1 s.power.wakeSource)
  | 0x2003, 4 => some s.power.lastRefusal.bytes
  | 0x2003, 5 => some (le 1 s.power.lastOff)
  | 0x2005, 1 => some (le32i s.power.tj)
  | 0x2005, 2 => some (le32i s.power.tjPeak)
  | 0x2005, 3 => some (le 1 s.power.thermState)
  | 0x2005, 5 => some (le 2 s.power.vcore)
  | 0x2005, 6 => some (le 4 s.power.hsRate)
  | 0x2005, 7 => some (((s.power.pNow ++ List.replicate 5 0).take 5).flatMap (le 4))
  | _, _ => none

/-- Octets padded with zeros, or cut, to a length. -/
def padTo (n : Nat) (bs : Bytes) : Bytes := (bs ++ List.replicate (n - bs.length) 0).take n

/-- EVENT_RECENT as a principal sees it: its newest 256 records, newest first (R432). -/
def State.eventRecent (s : State) (c : Conn) : Bytes := padTo 8192 (((s.faults.log.filter fun e => c.sees e.tenant).take 256).flatMap Event.bytes)

/-- Entries of identity, the trust block, profiles and the reading connection (R2, R366, R393). -/
def State.readIdentity (s : State) (c : Conn) (index sub : Nat) : Option Bytes :=
  match index, sub with
  | 0x1000, 1 => some (le 16 s.ident.orderCode.toNat)
  | 0x1000, 3 => some (le 1 c.principalCode)
  | 0x2000, 1 => some (le 1 s.dict.active)
  | 0x2000, 2 => some (le 1 s.dict.pins)
  | 0x4000, 1 => some (padTo 32 s.ident.deviceId)
  | 0x4000, 2 => some (le 1793 s.trust.identityPub)
  | 0x4000, 3 => some s.trust.identityCert
  | 0x4000, 4 => some (le 1 s.trust.secCounter)
  | 0x4000, 5 => some (le 8 s.trust.counter)
  | 0x4400, 1 => some (le 1 (if s.trust.debug then 1 else 0))
  | 0x4400, 2 => some (le 32 (Config.trng 256 s.trust.challenge))
  | _, _ => none

/-- Entries of faults (R432) and of start-up and time (R454). -/
def State.readFaults (s : State) (c : Conn) (index sub : Nat) : Option Bytes :=
  match index, sub with
  | 0xB000, 3 => some (le 4 s.faultPending)
  | 0xB000, 5 => some (le 4 ((s.faults.nextSeq + 2 ^ 32 - 1) % 2 ^ 32))
  | 0xB000, 6 => some (s.eventRecent c)
  | 0xB000, 7 => some (padTo 2048 (s.faults.fatalLog.flatMap Event.bytes))
  | 0xA0F0, 1 => some (le 4 s.faults.satCount)
  | 0xA0F0, 2 => some (s.faults.satList.flatMap (le 4))
  | 0x1002, 1 => some (le 1 s.clk.cause)
  | 0x1002, 2 => some (le 1 s.clk.straps)
  | 0x1002, 3 => some (le 8 s.clk.startupTime)
  | _, _ => none

/-- Entries of time (R454). -/
def State.readClock (s : State) (index sub : Nat) : Option Bytes :=
  match index, sub with
  | 0xC000, 1 => some (le 8 s.clk.cal)
  | 0xC000, 2 => some (le 8 s.clk.mono)
  | 0xC000, 3 => some (le 1 (flagBits [s.clk.timeUnknown, s.clk.disciplined]))
  | 0xC000, 4 => some (le 1 s.clk.source)
  | 0xC000, 5 => some (le 8 (uint 64 s.clk.gptpOffset))
  | _, _ => none

/-- What a read-only entry reports; an entry with a fixed value reports it, and a counter its count. -/
def State.readRO (s : State) (c : Conn) (code : Nat) (e : EntryDesc) : Bytes :=
  let index := code / 256
  let sub := code % 256
  let found := (s.readVault c index sub).orElse fun _ => (s.readTenant (index / 16) (index % 16) sub).orElse fun _ =>
    (s.readTenant2 (index / 16) (index % 16) sub).orElse fun _ => (s.readSlot index sub).orElse fun _ => (s.readControl index sub).orElse fun _ =>
    (if 0x3100 ≤ index ∧ index ≤ 0x3120 then s.readPort index sub else none).orElse fun _ => (s.readPower index sub).orElse fun _ =>
    (s.readIdentity c index sub).orElse fun _ => (s.readFaults c index sub).orElse fun _ => s.readClock index sub
  match found with
  | some bs => bs
  | none => if index / 4096 = 0xA then le 8 (s.counter index sub) else le (if e.len = 0 then 16 else e.len) (e.default 0)

/-- A result record: STATUS, 2 octets reserved, SEQ (R358). -/
def CmdRes.bytes (r : CmdRes) : Bytes := le 2 r.status ++ le 2 0 ++ le 4 r.seq

/-- What a read of an RO, RW or CMD entry gives on a connection (R357, R358, R359, R417). -/
def State.readEntry (s : State) (c : Conn) (code : Nat) (e : EntryDesc) : Bytes :=
  if e.acc = 3 then (s.result code).bytes
  else if e.acc = 0 then s.readRO c code e
  else if e.connScoped then le 4 c.stratumSelect
  else if code = entryCode 0xB000 1 then le 1 s.faultMask
  else e.octets (s.settingOf code e)

end Sys2Proof.Machine
end

