-- ==== Sys2Proof/Machine/Service.lean ====
section
/-! DEFINITION. The commands of sessions and the Asbaxa service: channels, sessions, requests, sampling and the end of requests and sessions (R280..R299). -/

namespace Sys2Proof.Machine

/-! ### The secure channel (R280..R284, R384) -/

/-- ASX connections that the TCP stack holds (R335). -/
def State.tcpCount (s : State) (asx : Bool) : Nat := (s.connsWhere fun c => decide (c.kind = .asx) == asx).length

/-- TCP_CONNECT (R280, R335, R336): a SYN for the ASX stream service takes a place, or receives BUSY, or RST beyond the stack's share. -/
def execTcpConnect (conn port number : Nat) (s : State) : Res :=
  s.whenUp (.tcpConnect conn port number) <|
    if (s.conn conn).isSome ∨ 2 ≤ port ∨ number ≠ s.serviceNumber 1 ∨ nbit (s.servicesOf port) 1 = false ∨ 1088 ≤ s.tcpCount true then .next s.unlisted
    else
      let full : Bool := decide (1024 ≤ s.places .asx)
      let s := s.modConn conn fun _ => some { kind := .asx, port := port, phase := .tcp, tcpPort := number, idleSince := s.now }
      if full then
        let v := s.freeValue 1
        .next ((v.2.turnAway conn (v.1 % 65536)).count 0xAE00 3 1)
      else .next s

/-- The octets of CLIENT_HELLO (R285, R343): byte 2 is TENANT or PRINCIPAL. -/
def helloBody (version who nonce : Nat) : Bytes := le 2 version ++ le 1 who ++ le 1 0 ++ le 32 nonce

/-- Whether TENANT or PRINCIPAL of a CLIENT_HELLO lets the handshake go on (R281, R344). -/
def State.helloOk (s : State) (k : Conn) (version who : Nat) : Bool :=
  decide (version = 1) &&
  match k.kind with
  | .asx => decide (1 ≤ who ∧ who ≤ 8) && decide (s.tenState who = .active)
  | _ => decide (who ≤ 10) && decide (who = 1 ↔ k.port = 2) && (decide (who < 3) || decide (s.tenState (who - 2) = .forming) || decide (s.tenState (who - 2) = .active))

/-- The principal of a PRINCIPAL byte (R343). -/
def principalOf (who : Nat) : Principal := if who = 1 then .mgmt else if who = 2 then .drv else if 3 ≤ who then .ten else .none

/-- Handshakes that the trust block can queue (R281). -/
def handshakeQueue : Nat := 64
/-- Handshakes that it works on at once (R281). -/
def handshakesAtOnce : Nat := 8

/-- RESERVED_SET in answer to a handshake message with a reserved field set, of which nothing is applied: STATUS on ASX, an error response elsewhere (R13, R285; DESIGN CHOICE of the message, log entry 75). -/
def State.answerResv (s : State) (k : Conn) (conn : Nat) : State :=
  if k.kind = .asx then s.replyStatus conn false 0 0 Asx.reservedSet 0
  else
    let t := s.send conn (.response 0 Bdp.reservedSet 0xFF s.now [])
    if k.kind = .bdp then t.count 0xA010 4 1 else t

/-- What a connection holds once its CLIENT_HELLO is accepted. -/
def State.hello (s : State) (k : Conn) (version who nonce : Nat) : Conn :=
  let t := if k.kind = .asx then who else who - 2
  { k with phase := .helloQueued, tenant := t, nonceC := nonce, transcript := helloBody version who nonce,
           principal := if k.kind = .asx then .client else principalOf who,
           ticketKey := if k.kind = .asx then BitVec.ofNat 256 (s.sv (0x6100 + t) 3 0) else 0 }

/-- CLIENT_HELLO (R281, R343, R344): the handshake joins the trust block's queue, is turned away when 64 wait, or fails. -/
def execClientHello (conn version tenant : Nat) (nonce : Padded) (s : State) : Res :=
  s.whenUp (.clientHello conn version tenant nonce) <|
    match s.conn conn with
    | none => .next s.unlisted
    | some k =>
      if k.phase ≠ .tcp then .next s.unlisted
      else if nonce.resv then .next (s.answerResv k conn)
      else if !s.helloOk k version tenant then .next (s.failHandshake conn)
      else
        let s := if k.kind = .asx then s.inbound tenant 0 1 (helloBody version tenant nonce.value) else s
        if handshakeQueue ≤ s.svc.waiting.length then
          let v := s.freeValue 1
          let s := v.2.turnAway conn (v.1 % 65536)
          .next (if k.kind = .asx then s.count 0xAE00 3 1 else s.count 0xA010 3 1)
        else
          let s := s.modConn conn fun _ => some (s.hello k version tenant nonce.value)
          .next { s with svc := { s.svc with waiting := s.svc.waiting ++ [conn] } }

/-- Time the client has for KEY_SHARE and for AUTH, ns (R281). -/
def handshakeStep : Nat := 5 * 10 ^ 9

/-- HANDSHAKE_JOB_START (R281, R381, R382, R384): the trust block takes the oldest queued handshake, makes a key pair and a nonce, signs a report and sends DEVICE_HELLO. -/
def execHandshakeJobStart (conn : Nat) (s : State) : Res :=
  s.whenUp (.handshakeJobStart conn) <|
    match s.conn conn with
    | none => .next s.unlisted
    | some k =>
      if s.svc.waiting.head? ≠ some conn ∨ handshakesAtOnce ≤ s.svc.working.length then .next s.unlisted
      else
        let kem := s.trust.fresh
        let pub := Config.kemPublic kem % 2 ^ 12544
        let v := s.drawn.trng 256
        let s := v.2
        let body := s.reportBody (decide (k.kind ≠ .asx)) (if k.kind = .asx then k.tenant else 0) k.nonceC pub
        let sig := Config.falconSign body % 2 ^ 10240
        let s := { s with trust := { s.trust with counter := counterNext s.trust.counter },
                          svc := { s.svc with waiting := s.svc.waiting.drop 1, working := s.svc.working ++ [conn] } }
        let s := s.modConn conn fun _ => some { k with
          phase := .shareWait, kem := kem, deadline := some (s.now + handshakeStep), transcript := k.transcript ++ le 32 v.1 ++ le 1568 pub ++ body ++ le 1280 sig }
        .next ((s.send conn (.deviceHello v.1 pub body sig)).count 0xA020 2 1)

/-- KEY_SHARE (R281, R283, R384): the keys of the channel are derived; a ciphertext of the wrong length fails. -/
def execKeyShare (conn : Nat) (ciphertext : Padded) (s : State) : Res :=
  s.whenUp (.keyShare conn ciphertext) <|
    match s.conn conn with
    | none => .next s.unlisted
    | some k =>
      if k.phase ≠ .shareWait then .next s.unlisted
      else if ciphertext.resv then .next (s.answerResv k conn)
      else if 2 ^ 12544 ≤ ciphertext.value then .next (s.failHandshake conn)
      else
        let s := if k.kind = .asx then s.inbound k.tenant 0 3 (le 1568 ciphertext.value) else s
        let k := { k with transcript := k.transcript ++ le 1568 ciphertext.value }
        .next (s.modConn conn fun _ => some { k with phase := .authWait, keys := k.recordKeys (Config.kemSecret k.kem ciphertext.value), kem := 0, deadline := some (s.now + handshakeStep) })

/-- Octets 0..15 of a ticket (R282). -/
def ticketHead (clientId maxClass resv expiry : Nat) : Bytes := le 4 clientId ++ le 1 maxClass ++ le 3 resv ++ le 8 expiry

/-- Whether a ticket is accepted (R282). -/
def State.ticketOk (s : State) (k : Conn) (clientId maxClass expiry : Nat) (tag : BitVec 128) (resv : Nat) : Bool :=
  decide (resv = 0) && decide (1 ≤ clientId ∧ clientId ≤ 0xFFFFFFFE) && decide (maxClass ≤ 3) && decide (k.ticketKey ≠ 0) &&
  (decide (expiry = 0) || s.clk.timeUnknown || decide (s.clk.cal ≤ expiry)) &&
  decide (shake256 (le 32 k.ticketKey.toNat ++ ticketHead clientId maxClass resv expiry ++ le 1 k.tenant) 16 = le 16 tag.toNat)

/-- AUTH (R281, R282, R283, R285): the channel is established, or its handshake fails; reserved octets of the ticket are answered RESERVED_SET. -/
def execAuth (conn : Nat) (tagOk : Bool) (clientId maxClass expiry : Nat) (tag : BitVec 128) (resv : Nat) (s : State) : Res :=
  s.whenUp (.auth conn tagOk clientId maxClass expiry tag resv) <|
    match s.conn conn with
    | none => .next s.unlisted
    | some k =>
      if k.phase ≠ .authWait ∨ k.kind ≠ .asx then .next s.unlisted
      else if !tagOk then .next ((s.failHandshake conn).tcount k.tenant 0xAE00 8 1)
      else
        let s := s.inbound k.tenant 0 4 (ticketHead clientId maxClass resv expiry ++ le 16 tag.toNat)
        if resv ≠ 0 then .next (s.answerResv k conn)
        else if s.ticketOk k clientId maxClass expiry tag resv = true ∧ s.tenState k.tenant = .active then
          let s := (s.leaveTrust conn).modConn conn fun _ => some { k with
            phase := .up, clientId := clientId, maxClass := maxClass, deadline := none, idleSince := s.now, rxSeq := 1 }
          .next ((s.send conn (.authOk conn maxClass)).count 0xAE00 1 1)
        else .next (s.failHandshake conn)

/-- HANDSHAKE_DEADLINE (R281, R344): a deadline of the sequence passes. -/
def execHandshakeDeadline (conn : Nat) (s : State) : Res :=
  s.whenUp (.handshakeDeadline conn) <|
    match s.conn conn with
    | none => .next s.unlisted
    | some k => s.listed ((match k.deadline with | some d => decide (d ≤ s.now) | none => false) && (decide (k.phase = .shareWait) || decide (k.phase = .authWait))) (s.failHandshake conn)

/-- CHANNEL_IDLE_EXPIRY (R283): a channel ends after CHANNEL_IDLE without a valid record. -/
def execChannelIdleExpiry (conn : Nat) (s : State) : Res :=
  s.whenUp (.channelIdleExpiry conn) <|
    match s.conn conn with
    | none => .next s.unlisted
    | some k => s.listed (s.countsRun && decide (k.phase = .up) && decide (60000000000 ≤ s.now - k.idleSince)) (s.closeConn conn)

/-- TCP_CONNECTION_END (R280, R284, R345): the channel ends; its sessions and their requests go on. -/
def execTcpConnectionEnd (conn : Nat) (s : State) : Res :=
  s.whenUp (.tcpConnectionEnd conn) <| s.listed (s.conn conn).isSome (s.closeConn conn)

/-! ### Sessions (R289, R290) -/

/-- The channel of a client message: established, of the ASX service. -/
def State.channel (s : State) (conn : Nat) : Option Conn :=
  match s.conn conn with
  | none => none
  | some k => if k.kind = .asx ∧ k.phase = .up then some k else none

/-- The octets of OPEN (R285). -/
def openBody (slot adapter : Nat) (persistent : Bool) (resv ctag : Nat) : Bytes :=
  le 1 slot ++ le 1 adapter ++ le 1 ((if persistent then 1 else 0) + 2 * (resv % 128)) ++ le 1 (resv / 128) ++ le 4 ctag

/-- Why OPEN is refused; OK where it is accepted (R13, R256, R289). -/
def State.openStatus (s : State) (k : Conn) (resv slot adapter : Nat) : Nat :=
  let t := k.tenant
  if resv ≠ 0 then Asx.reservedSet
  else if 3 < slot ∨ (15 < adapter ∧ adapter ≠ 0xFF) then Asx.outOfRange
  else if s.tenState t ≠ .active then Asx.tenantGone
  else if !(s.mslot t slot).serves then Asx.modelNotReady
  else if !s.adapterOk t slot adapter then Asx.adapterUnavailable
  else
    let sites := match (s.mslot t slot).current with | some i => i.params.siteMax.length | none => 0
    if s.sv (0x8100 + t) 6 512 ≤ (s.sessionsWhere fun x => x.isOpen && decide (x.tenant = t)).length ∨ s.fits t .sessionC (reservation (s.contextMax t) sites) = false ∨
      ((List.range 4096).all fun i => decide ((s.session i).state ≠ .free)) = true then Asx.quotaFull
    else Asx.ok

/-- KV_FORMAT of a tenant (R152). -/
def kvFmtOf (v : Nat) : KvFmt := if v = 0 then .e4m3 else if v = 1 then .bf16 else .mxfp8

/-- A session opens on the lowest free index, with its reservation and persistent objects (R180, R204, R285, R289). -/
def State.openOn (s : State) (k : Conn) (i slot adapter : Nat) (persistent : Bool) : State :=
  let t := k.tenant
  let im := match (s.mslot t slot).current with | some i => i | none => Image.init
  let x := s.session i
  let s := (s.allocExtent t .sessionC i none (reservation (s.contextMax t) im.params.siteMax.length)).getD s
  let r := State.armPersist t im.plan.persistent s
  r.2.modSession i fun _ => {
    used := true, state := .opened, incarn := if x.used then (x.incarn + 1) % 65536 else s.svc.incarnBase % 65536, tenant := t, clientId := k.clientId, slot := slot,
    adapter := adapterOf adapter, persistent := persistent, ctxMax := s.contextMax t, kvFmt := kvFmtOf (s.sv (0x6100 + t) 1 0), openedAt := s.now, persist := persistTable r.1 }

/-- An OPEN that arrives on a channel. -/
def State.takeOpen (s : State) (k : Conn) (conn : Nat) (dgram : Bool) (resv slot adapter : Nat) (persistent : Bool) (ctag : Nat) : State :=
  let s := s.inbound k.tenant conn 0x10 (openBody slot adapter persistent resv ctag)
  let st := s.openStatus k resv slot adapter
  if st ≠ Asx.ok then
    let s := if st = Asx.quotaFull then s.quotaRefused k.tenant else s
    s.reply conn dgram (.opened ctag st 0 0 0)
  else
    let i := ((List.range 4096).find? fun j => decide ((s.session j).state = .free)).getD 0
    let s := s.openOn k i slot adapter persistent
    s.reply conn dgram (.opened ctag Asx.ok (s.handleOf i) (s.session i).ctxMax (s.sessionImage i).plan.vocab)

/-- OPEN (R204, R285, R289). -/
def execOpenSession (conn : Nat) (dgram : Bool) (resv : Nat) (slot adapter : Nat) (persistent : Bool) (ctag : Nat) (s : State) : Res :=
  s.whenUp (.openSession conn dgram resv slot adapter persistent ctag) <|
    match s.channel conn with
    | none => .next s.unlisted
    | some k => .next (s.takeOpen k conn dgram resv slot adapter persistent ctag)

/-- The octets of a message that names a session, with octets that follow the listed ones. -/
def namedBody (session : Nat) (listed : Bytes) (n resv : Nat) : Bytes := le 4 session ++ listed ++ if resv = 0 then [] else le n resv

/-- An ADAPT that arrives on a channel: the adapter of a session changes at its next step, and its scale histories restart. -/
def State.takeAdapt (s : State) (k : Conn) (conn : Nat) (dgram : Bool) (resv session adapter : Nat) : State :=
  let s := s.inbound k.tenant conn 0x12 (namedBody session (le 1 adapter) 3 resv)
  let f := s.findSession k session
  let x := s.session f.2
  let st :=
    if resv ≠ 0 ∨ handleResv session = true then Asx.reservedSet
    else if 15 < adapter ∧ adapter ≠ 0xFF then Asx.outOfRange
    else if f.1 ≠ Asx.ok then f.1
    else if s.tenState x.tenant ≠ .active then Asx.tenantGone
    else if x.state = .active then Asx.sessionBusy
    else if !s.adapterOk x.tenant x.slot adapter then Asx.adapterUnavailable
    else Asx.ok
  let s := if st = Asx.ok ∧ x.adapter ≠ adapterOf adapter then s.modSession f.2 fun y => { y with adapter := adapterOf adapter, scales := [] } else s
  s.replyStatus conn dgram 0 session st 0

/-- ADAPT (R272, R290). -/
def execAdapt (conn : Nat) (dgram : Bool) (resv : Nat) (session adapter : Nat) (s : State) : Res :=
  s.whenUp (.adapt conn dgram resv session adapter) <|
    match s.channel conn with
    | none => .next s.unlisted
    | some k => .next (s.takeAdapt k conn dgram resv session adapter)

/-- A CLOSE that arrives on a channel. -/
def State.takeClose (s : State) (k : Conn) (conn : Nat) (dgram : Bool) (resv session : Nat) : State :=
  let s := s.inbound k.tenant conn 0x13 (namedBody session [] 4 resv)
  let f := s.findSession k session
  let st := if resv ≠ 0 ∨ handleResv session = true then Asx.reservedSet else f.1
  let s := if st = Asx.ok then s.closeSess f.2 7 else s
  s.replyStatus conn dgram 0 session st 0

/-- CLOSE (R285, R289). -/
def execCloseSession (conn : Nat) (dgram : Bool) (resv : Nat) (session : Nat) (s : State) : Res :=
  s.whenUp (.closeSession conn dgram resv session) <|
    match s.channel conn with
    | none => .next s.unlisted
    | some k => .next (s.takeClose k conn dgram resv session)

/-- IDLE_CLOSE (R289): a session without a request closes. -/
def execIdleClose (session : Nat) (s : State) : Res :=
  s.whenUp (.idleClose session) <|
    let x := s.session session
    s.listed (s.countsRun && x.isOpen && x.live.isNone && decide (s.sv (0x6100 + x.tenant) 4 3600000000000 ≠ 0) && decide (s.sv (0x6100 + x.tenant) 4 3600000000000 ≤ s.now - x.openedAt)) (s.closeSess session 7)

/-- SESSION_INDEX_FREE (R289): 60 s after its session closed, an index is free; its incarnation is kept. -/
def execSessionIndexFree (session : Nat) (s : State) : Res :=
  s.whenUp (.sessionIndexFree session) <|
    let x := s.session session
    s.listed (decide (x.state = .closed) && decide (60000000000 ≤ s.now - x.closedAt)) (s.modSession session fun _ => { used := true, incarn := x.incarn })

/-! ### Requests (R286, R295, R296) -/

/-- The octets of the STOP strings and the input of a REQUEST. -/
def ReqBody.tail (r : ReqBody) : Bytes := (r.stops.flatMap fun x => le 1 x.length ++ x) ++ if nbit r.flags 0 then r.input.flatMap (le 4) else r.input

/-- The octets of a REQUEST (R286). -/
def ReqBody.bytes (r : ReqBody) : Bytes :=
  le 8 r.reqId ++ le 4 r.session ++ le 1 r.cls ++ le 1 r.flags ++ le 2 r.streamN ++ le 4 r.maxTokens ++ le 4 r.prefixLen ++ le 4 r.resume ++
    le 4 r.temperature.toNat ++ le 4 r.topP.toNat ++ le 4 r.minP.toNat ++ le 4 r.repPenalty.toNat ++ le 2 r.repWindow ++ le 1 r.topK ++ le 1 r.stopCount ++ le 8 r.seed ++ le 8 r.resv ++ r.tail

/-- A class code. -/
def clsOf (v : Nat) : Cls := match v with | 0 => .imm | 1 => .int | 2 => .bkg | _ => .bulk

/-- Whether an FP32 value lies from `lo` to `hi`. -/
def inF32 (lo hi x : BitVec 32) : Bool := decide (f32 x ≠ .nan) && !ltF32 x lo && !ltF32 hi x

/-- Whether every field of a REQUEST lies in its range (R286). -/
def ReqBody.inRange (r : ReqBody) : Bool :=
  decide (1 ≤ r.reqId ∧ r.reqId < 2 ^ 64) && decide (r.cls ≤ 3) && decide (r.streamN ≤ 256) && decide (1 ≤ r.maxTokens ∧ r.maxTokens ≤ 131072) && decide (r.prefixLen ≤ 131072) &&
  inF32 0 0x40800000 r.temperature && inF32 0 0x3F800000 r.topP && ltF32 0 r.topP && inF32 0 0x3F800000 r.minP && ltF32 r.minP 0x3F800000 && inF32 0x3F800000 0x40000000 r.repPenalty &&
  decide (r.repWindow ≤ 4096) && decide (r.topK ≤ 64) && decide (r.stopCount ≤ 4) && decide (r.stops.length = r.stopCount) &&
  r.stops.all fun x => decide (1 ≤ x.length ∧ x.length ≤ 32) && (chars x.length x).isSome

/-- Step 1 of R296. -/
def ReqBody.formStatus (r : ReqBody) : Nat :=
  if r.resv ≠ 0 ∨ 8 ≤ r.flags ∨ handleResv r.session = true then Asx.reservedSet else if !r.inRange then Asx.outOfRange else Asx.ok

/-- The tokens of a REQUEST's input, or why it is refused (R292). -/
def State.inputTokens (s : State) (i : Nat) (r : ReqBody) : Nat × List Nat :=
  let tok := s.tokeniser i
  if nbit r.flags 0 then (if r.input.all (fun k => decide (k < tok.vocab)) then (Asx.ok, r.input) else (Asx.tokenRange, []))
  else match tok.tokens (nbit r.flags 2) r.input with
    | none => (Asx.badUtf8, [])
    | some l => (Asx.ok, (if (s.session i).history = [] then tok.bos.toList else []) ++ l)

/-- IMM requests of a tenant that are queued or running. -/
def State.immCount (s : State) (t : Nat) : Nat :=
  ((s.svc.sessions.filter fun e => decide (e.2.tenant = t)).map fun e => e.2.reqs.countP fun r => decide (r.cls = .imm) && (decide (r.state = .queued) || decide (r.state = .running))).sum

/-- RETRY_MS of OVERLOADED: the time in which a queue of `len` drains at the class's completion rate over the last second, at most 65,535. -/
def State.drainMs (s : State) (key len : Nat) : Nat :=
  let n := (s.completions key).countP fun a => decide (s.now < a + 10 ^ 9)
  if n = 0 then 65535 else min 65535 (cdiv (1000 * len) n)

/-- ADMIT_QUEUE of a tenant. -/
def State.admitQueue (s : State) (t : Nat) : Nat := s.sv (0x6100 + t) 5 256

/-- Steps 4 to 10 of R296 for a request of session `i`, and its input tokens. -/
def State.admitStatus (s : State) (k : Conn) (i : Nat) (r : ReqBody) : Nat × List Nat :=
  let x := s.session i
  let t := x.tenant
  let q := queueKey t (clsOf r.cls)
  let inp := s.inputTokens i r
  if r.cls < k.maxClass then (Asx.classDenied, [])
  else if s.tenState t ≠ .active then (Asx.tenantGone, [])
  else if s.policy t = 2 then (Asx.draining, [])
  else if s.policy t = 3 then (Asx.halted, [])
  else if x.live.isSome then (Asx.sessionBusy, [])
  else if inp.1 ≠ Asx.ok then inp
  else if min x.ctxMax (s.contextMax t) < x.history.length + inp.2.length ∨ s.kvLimit i < x.history.length + inp.2.length then (Asx.contextLimit, [])
  else if r.cls = 0 ∧ s.sv (0x6100 + t) 7 8 ≤ s.immCount t then (Asx.classLimit, [])
  else if s.admitQueue t ≤ (s.queue q).length then (Asx.overloaded, [])
  else inp

/-- The record of a new request. -/
def State.newReq (s : State) (conn : Nat) (dgram : Bool) (i : Nat) (r : ReqBody) (input : List Nat) : Req :=
  { id := r.reqId, cls := clsOf r.cls, noGenerate := nbit r.flags 1, streamN := r.streamN, maxTokens := r.maxTokens, prefixLen := r.prefixLen, temperature := r.temperature,
    topP := r.topP, minP := r.minP, repPenalty := r.repPenalty, repWindow := r.repWindow, topK := r.topK, stops := r.stops, seed := r.seed, input := input, conn := conn,
    dgram := dgram, queuedAt := s.now, limit := min (s.session i).ctxMax (s.contextMax (s.session i).tenant), kvLimit := s.kvLimit i }

/-- A request joins its session's 16 newest records (R295). -/
def State.keepReq (s : State) (i : Nat) (q : Req) : State := s.modSession i fun x => { x with reqs := (q :: x.reqs).take 16, highest := q.id }

/-- A duplicate (R295): it is counted, and answered by the state of the original. -/
def State.duplicate (s : State) (conn : Nat) (dgram : Bool) (i : Nat) (q : Req) (b : ReqBody) : State :=
  let s := s.tcount (s.session i).tenant 0xAE00 4 1
  match q.state with
  | .refused => s.replyStatus conn dgram q.id b.session q.status q.retryMs
  | .queued => (s.modReq i q.id fun r => { r with conn := conn, dgram := dgram }).replyStatus conn dgram q.id b.session Asx.queued 0
  | .running | .ended =>
    let s := s.modReq i q.id fun r => { r with conn := conn, dgram := dgram }
    s.resend i { q with conn := conn, dgram := dgram } b.resume

/-- A new request of session `i` is admitted, or refused (R296). -/
def State.admitReq (s : State) (k : Conn) (conn : Nat) (dgram : Bool) (i : Nat) (r : ReqBody) : State :=
  let a := s.admitStatus k i r
  let t := (s.session i).tenant
  let key := queueKey t (clsOf r.cls)
  let q := s.newReq conn dgram i r a.2
  if a.1 = Asx.ok then
    let s := (s.keepReq i { q with state := .queued, status := Asx.queued }).modQueue key fun l => l ++ [{ session := i, req := r.reqId }]
    (s.tcount t 0xAE00 1 1).replyStatus conn dgram r.reqId r.session Asx.queued 0
  else
    let retry := if a.1 = Asx.overloaded then s.drainMs key (s.queue key).length else 0
    let s := s.keepReq i { q with state := .refused, status := a.1, retryMs := retry }
    let s := if a.1 = Asx.overloaded then s.tcount t 0xAE00 5 1 else s
    s.replyStatus conn dgram r.reqId r.session a.1 retry

/-- A REQUEST that arrives on a channel (R286, R295, R296). -/
def State.takeRequest (s : State) (k : Conn) (conn : Nat) (dgram : Bool) (r : ReqBody) : State :=
  let s := s.inbound k.tenant conn 0x14 r.bytes
  let f := s.findSession k r.session
  let i := f.2
  if r.formStatus ≠ Asx.ok then s.replyStatus conn dgram r.reqId r.session r.formStatus 0
  else if f.1 ≠ Asx.ok then s.replyStatus conn dgram r.reqId r.session f.1 0
  else match (s.session i).req r.reqId with
    | some q => s.duplicate conn dgram i q r
    | none =>
      if r.reqId ≤ (s.session i).highest then s.replyStatus conn dgram r.reqId r.session Asx.staleRequest 0
      else s.admitReq k conn dgram i r

/-- REQUEST (R286, R295, R296). -/
def execRequest (conn : Nat) (dgram : Bool) (r : ReqBody) (s : State) : Res :=
  s.whenUp (.request conn dgram r) <|
    match s.channel conn with
    | none => .next s.unlisted
    | some k => .next (s.takeRequest k conn dgram r)

/-- A CANCEL that arrives on a channel: the request ends with STOP 5; one that is over or unknown stays as it is (R191, R285, R294). -/
def State.takeCancel (s : State) (k : Conn) (conn : Nat) (dgram : Bool) (resv session req : Nat) : State :=
  let s := s.inbound k.tenant conn 0x15 (le 4 session ++ le 4 resv ++ le 8 req)
  let f := s.findSession k session
  let st := if resv ≠ 0 ∨ handleResv session = true then Asx.reservedSet else f.1
  if st ≠ Asx.ok then s.replyStatus conn dgram req session st 0
  else match (s.session f.2).live with
    | some q => if q.id = req then s.cancelReq f.2 5 Asx.cancelled else s
    | none => s

/-- CANCEL (R191, R285, R294). -/
def execCancel (conn : Nat) (dgram : Bool) (resv : Nat) (session req : Nat) (s : State) : Res :=
  s.whenUp (.cancel conn dgram resv session req) <|
    match s.channel conn with
    | none => .next s.unlisted
    | some k => .next (s.takeCancel k conn dgram resv session req)

/-- PING (R285, R13). -/
def execPing (conn : Nat) (dgram : Bool) (value : Padded) (s : State) : Res :=
  s.whenUp (.ping conn dgram value) <| s.listed (s.channel conn).isSome (if value.resv then s.replyStatus conn dgram 0 0 Asx.reservedSet 0 else s.reply conn dgram (.pong value.value))

/-- UNKNOWN_MSG (R285, R13): STATUS OUT_OF_RANGE. -/
def execUnknownMsg (conn : Nat) (dgram : Bool) (msg : Padded) (s : State) : Res :=
  s.whenUp (.unknownMsg conn dgram msg) <| s.listed (s.channel conn).isSome (s.replyStatus conn dgram 0 0 (if msg.resv then Asx.reservedSet else Asx.outOfRange) 0)

/-! ### Queues (R297, R302) -/

/-- Whether the slot of a queued request holds its steps back (R263, R265). -/
def State.heldBack (s : State) (e : QEntry) : Bool := (s.mslot (s.session e.session).tenant (s.session e.session).slot).barrier

/-- The oldest entry of a class queue that may pass to CC2. -/
def State.queueHead (s : State) (t : Nat) (c : Cls) : Option QEntry := (s.queue (queueKey t c)).find? fun e => !s.heldBack e

/-- The class that CC1 serves next for a tenant, and its place in the cycle after it (R302). -/
def State.nextClass (s : State) (t : Nat) : Option (Cls × Nat) :=
  if (s.queueHead t .imm).isSome then some (.imm, s.served t)
  else
    let w := s.classWeights t
    (Turn.serve w (fun c => (s.queueHead t (clsOf (c + 1))).isSome) 8 (Turn.ofNat (s.served t) w)).map fun x => (clsOf (x.1 + 1), x.2.toNat)

/-- A request leaves its queue (R149, R289, R292, R293, R297): its input is appended, its seed is fixed, and its session is ACTIVE. -/
def State.startReq (s : State) (e : QEntry) : State :=
  let i := e.session
  let x := s.session i
  match x.req e.req with
  | none => s
  | some r =>
    let v := if r.seed = 0 then s.trng 64 else (r.seed, s)
    let s := v.2.capture x.tenant (.seed r.id v.1)
    let again := if x.state = .cold then x.history.length else 0
    let s := s.modSession i fun y => { y with state := .active, history := y.history ++ r.input, preemptedCold := false }
    let s := s.modReq i e.req fun q => { q with state := .running, status := Asx.running, seed := v.1, outStart := x.history.length + r.input.length, reprefill := again, input := [] }
    let s := if r.input = [] then s else s.tcount x.tenant 0xAE00 2 r.input.length
    if again = 0 then s else s.tcount x.tenant 0xA600 7 again

/-- REQUEST_DEQUEUE (R297, R302): CC1 takes the oldest request of the class that its cycle serves. -/
def execRequestDequeue (tenant : Nat) (cls : Cls) (s : State) : Res :=
  s.whenUp (.requestDequeue tenant cls) <|
    match s.nextClass tenant, s.queueHead tenant cls with
    | some (c, turn), some e =>
      if c = cls ∧ s.countsRun = true then
        let s := ((s.modQueue (queueKey tenant cls) fun l => l.filter fun x => decide (x ≠ e)).modServed tenant fun _ => turn).startReq e
        let x := s.session e.session
        .next (match x.running with
          | some r => if r.noGenerate ∧ x.due = 0 then s.endReq e.session r.id 10 Asx.ok else s
          | none => s)
      else .next s.unlisted
    | _, _ => .next s.unlisted

/-- QUEUE_TIMEOUT of a class, ns; 0 for none (R297). -/
def State.queueTimeoutOf (s : State) (t : Nat) (c : Cls) : Nat :=
  nbits (s.sv (0x6100 + t) 6 10208471007628153903938131711100465446912010000000) (64 * c.code) 64

/-- QUEUE_TIMEOUT (R294, R297): the request ends and nothing of its input is appended; while a HELD swap holds it, its time does not run. -/
def execQueueTimeout (session req : Nat) (s : State) : Res :=
  s.whenUp (.queueTimeout session req) <|
    let x := s.session session
    match x.req req with
    | none => .next s.unlisted
    | some r =>
      let m := s.mslot x.tenant x.slot
      s.listed (s.countsRun && decide (r.state = .queued) && decide (s.queueTimeoutOf x.tenant r.cls ≠ 0) && decide (s.queueTimeoutOf x.tenant r.cls ≤ s.now - r.queuedAt - r.heldNs) && !(m.held && m.barrier))
        ((s.endReq session req 11 Asx.queueTimeout).tcount x.tenant 0xAE00 6 1)

/-! ### STEP_INSTANTIATE (R151, R192) -/

/-- A step begins: its run, its batch record, and its sessions in it (R172, R192). -/
def State.beginStep (s : State) (sessions : List Nat) : State :=
  let s := s.batchTaken (s.session (sessions.headD 0)).tenant
  let n := s.ops.nextRun
  let r := s.newRun sessions
  let s := s.capture r.tenant (s.stepRecord r)
  let s := { s with ops := { s.ops with
    runs := mset none s.ops.runs n (some r), nextRun := n + 1,
    batches := match r.batch with | some b => mset [] s.ops.batches b sessions | none => s.ops.batches } }
  sessions.foldl (fun s j => s.enterRun n j) s

/-- The sessions whose request ends in place of its next step, with its running request: their history lies above a lowered KV limit (R151). -/
def State.overLimit (s : State) (sessions : List Nat) : List (Nat × Req) :=
  sessions.filterMap fun i => (s.session i).running.bind fun r => if s.kvLowered i r then some (i, r) else none

/-- STEP_INSTANTIATE (R192): the step begins, or requests above a lowered KV limit end with CONTEXT_LIMIT in place of it (R151). -/
def execStepInstantiate (sessions : List Nat) (s : State) : Res :=
  s.whenUp (.stepInstantiate sessions) <|
    let t := (s.session (sessions.headD 0)).tenant
    if s.power.state = .run ∧ s.batchOk sessions = true ∧ sessions.all s.stepDue = true ∧ s.batchAllowed t sessions = true ∧ (sessions.length ≤ 1 ∨ s.freeBatch.isSome = true) then
      match s.overLimit sessions with
      | [] => .next (s.beginStep sessions)
      | l => .next (l.foldl (fun s e => s.endReq e.1 e.2.id 4 Asx.ok) s)
    else .next s.unlisted

/-! ### Sampling (R293, R294) -/

/-- STATUS of a step that did not complete with OK (R288, R294). -/
def FailSt.asx : FailSt → Nat
  | .none => Asx.ok | .poisoned => Asx.poisoned | .cancelled => Asx.cancelled | .timeout => Asx.timeout | .failed => Asx.failed

/-- The stop reason that a generated token brings, 0 for none (R151, R294). -/
def State.stopOf (s : State) (i : Nat) (r : Req) (token : Nat) : Nat :=
  let x := s.session i
  let tok := s.tokeniser i
  if tok.isEos token then 1
  else if (firstStop r.stops (tok.text (x.outTokens r))).isSome then 2
  else if r.maxTokens ≤ r.outCount then 3
  else if r.limit ≤ x.history.length ∨ s.kvOver i r = true then 4
  else 0

/-- A token is sampled and joins the history; the request stops, or a message goes out when STREAM_N tokens have accumulated (R293, R294). -/
def State.generate (s : State) (i : Nat) (r : Req) (cands : List (Nat × BitVec 32)) : State :=
  let x := s.session i
  let token := sampleToken r (x.history.drop (x.history.length - r.repWindow)) r.outCount cands
  let s := ((s.modSession i fun y => { y with history := y.history ++ [token] }).modReq i r.id fun q => { q with outCount := q.outCount + 1 }).tcount x.tenant 0xAE00 3 1
  let r := { r with outCount := r.outCount + 1 }
  let stop := s.stopOf i r token
  if stop ≠ 0 then s.endReq i r.id stop Asx.ok
  else if 0 < r.streamN ∧ r.sent + r.streamN ≤ r.outCount then s.sendOutput i r.id false
  else s

/-- What CC1 does at the end of a session's step, which ended with `st`. -/
def State.stepEnd (s : State) (i : Nat) (r : Req) (cands : List (Nat × BitVec 32)) (st : FailSt) : State :=
  match r.cancel with
  | some (stop, status) => s.endReq i r.id stop status
  | none =>
    if st = .cancelled then s.endReq i r.id 5 Asx.cancelled
    else if st ≠ .none then s.endReq i r.id 6 st.asx
    else if r.noGenerate then s.endReq i r.id 10 Asx.ok
    else s.generate i r cands

/-- A session's step is over for it; a step that every session has left is gone. -/
def State.quitRun (s : State) (i n : Nat) : State :=
  let s := s.modSession i fun x => { x with run := none }
  match s.run n with
  | none => s
  | some r => if r.sessions.any fun j => decide ((s.session j).run = some n) then s else s.dropRun n

/-- SAMPLE (R289, R293, R294): once a step's operations are over CC1 samples for each of its sessions; a request whose input is empty and whose history is complete has no step to run, and its first token comes from the candidates that the last step left (log entry 41). -/
def execSample (session : Nat) (cands : List (Nat × BitVec 32)) (status : FailSt) (s : State) : Res :=
  s.whenUp (.sample session cands status) <|
    let x := s.session session
    match x.running with
    | none => .next s.unlisted
    | some r =>
      match x.run with
      | none => s.listed (decide (x.state = .active) && decide (x.due = 0) && decide (x.history ≠ []) && decide (status = .none)) (s.stepEnd session r cands .none)
      | some n =>
        match s.run n with
        | none => .next s.unlisted
        | some q =>
          s.listed (s.runOver n q) ((s.quitRun session n).stepEnd session r cands (if q.failed = .none then status else q.failed))

/-! ### Output (R284) -/

/-- Messages that are wholly acknowledged when `left` octets of output remain. -/
def ackedOut (left : Nat) : List OutMsg → List OutMsg
  | [] => []
  | m :: l => if left ≤ (l.map OutMsg.size).sum then ackedOut left l else m :: l

/-- OUTPUT_BUFFER_DRAIN (R284, R335): the client acknowledges output, and the buffer gives it up. -/
def execOutputBufferDrain (conn bytes : Nat) (s : State) : Res :=
  s.whenUp (.outputBufferDrain conn bytes) <|
    match s.conn conn with
    | none => .next s.unlisted
    | some k =>
      let left := k.outBytes - bytes
      s.listed (decide (1 ≤ bytes ∧ bytes ≤ k.outBytes))
        (if left = 0 ∧ k.phase = .closed ∧ k.waiting = 0 then s.closeConn conn
         else s.modConn conn fun _ => some { k with outBytes := left, out := ackedOut left k.out, unacked := if left = 0 then none else some s.now })

end Sys2Proof.Machine
end

