-- ==== Sys2Proof/Machine/FaultsMirror.lean ====
section
/-! DEFINITION. The commands of faults, counters and Mirror: acknowledgement, subscription, the self-reset, clearing, recording, export, and the start and end of a replay (R413..R433). -/

namespace Sys2Proof.Machine

/-! ### Faults (R416..R418) -/

/-- FAULT_ACK: every masked event up to the SEQ named is acknowledged; a SEQ not yet assigned is refused (R417). -/
def faultAckBody (seq : Nat) (s : State) : Nat × State :=
  if serialAfter 32 seq ((s.faults.nextSeq + 2 ^ 32 - 1) % 2 ^ 32) then (Bdp.outOfRange, s)
  else (Bdp.ok, { s with faults := { s.faults with ackSeq := seq, unacked := s.faults.unacked.filter fun k => serialAfter 32 k seq } })

/-- FAULT_ACK (R417). -/
def execFaultAck (rq : Rq) (seq : Nat) (s : State) : Res := bdpCmd (.faultAck rq seq) rq (entryCode 0xB000 2) seq (faultAckBody seq) s

/-- EVENT_SUBSCRIBE: the class mask of the connection that writes it (R416). -/
def subscribeBody (conn mask : Nat) (s : State) : Nat × State := (Bdp.ok, s.modConn conn fun o => o.map fun c => { c with eventMask := mask % 256 })

/-- EVENT_SUBSCRIBE (R416). -/
def execEventSubscribe (rq : Rq) (mask : Nat) (s : State) : Res := bdpCmd (.eventSubscribe rq mask) rq (entryCode 0xB000 4) mask (subscribeBody rq.conn mask) s

/-- FATAL_RESET (R418): within 5 ms of a device-fatal event the device resets itself. -/
def execFatalReset (s : State) : Res := s.listed (s.powered && s.faults.fatalDue) ((s.count 0xA0F3 1 1).toReset 2)

/-! ### Counters (R423) -/

/-- COUNTERS_CLEAR: the counters of a group read 0. -/
def countersClearBody (group : Nat) (s : State) : Nat × State :=
  if 8 < group then (Bdp.outOfRange, s) else (Bdp.ok, { s with faults := s.faults.clearGroup group })

/-- COUNTERS_CLEAR (R423). -/
def execCountersClear (rq : Rq) (group : Nat) (s : State) : Res := bdpCmd (.countersClear rq group) rq (entryCode 0xA0F0 3) group (countersClearBody group) s

/-! ### Mirror recording (R424..R427) -/

/-- MIRROR_CONSENT: recording starts or stops with it. -/
def mirrorConsentBody (t v : Nat) (s : State) : Nat × State :=
  if 1 < v then (Bdp.outOfRange, s) else (Bdp.ok, (s.setStored (0xB100 + t) 1 0 v).syncMirror t)

/-- MIRROR_CONSENT (R424). -/
def execMirrorConsent (rq : Rq) (tenant value : Nat) (s : State) : Res :=
  bdpCmd (.mirrorConsent rq tenant value) rq (entryCode (0xB100 + tenant) 1) value (mirrorConsentBody tenant value) s

/-- MIRROR_KEY: what was recorded under the old key is exported under it (R433). -/
def mirrorKeyBody (t key : Nat) (s : State) : Nat × State :=
  let s := if (s.mten t).recording ∧ key ≠ s.mirrorKeyOf t then s.exportOpen t else s
  (Bdp.ok, (s.setStored (0xB100 + t) 2 0 key).syncMirror t)

/-- MIRROR_KEY (R424, R433). -/
def execMirrorKey (rq : Rq) (tenant key : Nat) (s : State) : Res :=
  bdpCmd (.mirrorKey rq tenant key) rq (entryCode (0xB100 + tenant) 2) key (mirrorKeyBody tenant key) s

/-- MIRROR_FLUSH: the open segment is exported (R426, R431). -/
def mirrorFlushBody (t : Nat) (s : State) : Nat × State := if (s.mten t).recording then (Bdp.ok, s.exportOpen t) else (Bdp.mirrorOff, s)

/-- MIRROR_FLUSH (R426, R431). -/
def execMirrorFlush (rq : Rq) (tenant : Nat) (s : State) : Res :=
  bdpCmd (.mirrorFlush rq tenant) rq (entryCode (0xB100 + tenant) 4) 1 (mirrorFlushBody tenant) s

/-- Whether an export is due: a full segment, or an open one 60 s after its first record or left by a recording that has stopped (R426). -/
def State.exportDue (s : State) (t : Nat) : Bool :=
  let m := s.mten t
  decide (m.full ≠ []) || (decide (m.seg ≠ []) && (!m.recording || decide (60000000000 ≤ s.now - m.segSince)))

/-- SEGMENT_EXPORT (R426). -/
def execSegmentExport (tenant : Nat) (s : State) : Res :=
  s.whenUp (.segmentExport tenant) <|
    s.listed (s.powered && s.exportDue tenant) (if (s.mten tenant).full ≠ [] then s.exportFull tenant else s.exportOpen tenant)

/-- MIRROR_TIME_RECORD (R425): once per second. -/
def execMirrorTimeRecord (tenant : Nat) (s : State) : Res :=
  s.whenUp (.mirrorTimeRecord tenant) <| s.listed (s.powered && (s.mten tenant).recording) (s.noteTime tenant)

/-- MIRROR_POWER_RECORD (R425): every 100 ms. -/
def execMirrorPowerRecord (tenant : Nat) (s : State) : Res :=
  s.whenUp (.mirrorPowerRecord tenant) <| s.listed (s.powered && (s.mten tenant).recording) (s.capture tenant s.powerBody)

/-- Whether a principal of the Mirror export service reads a tenant's files (R427). -/
def Conn.readsMirror (c : Conn) (t : Nat) : Bool :=
  match c.principal with
  | .mgmt | .drv => true
  | .ten => decide (c.tenant = t)
  | _ => false

/-- STATUS and octets of a MIRROR_DATA (R427). -/
def State.mirrorAnswer (s : State) (c : Conn) (t fileSeq offset len : Nat) (resv : Bool) : Nat × Bytes :=
  if resv then (Bdp.reservedSet, [])
  else if 65000 < len then (Bdp.outOfRange, [])
  else if !c.readsMirror t then (Bdp.denied, [])
  else match (s.mten t).files.find? fun f => decide (f.seq = fileSeq) with
    | none => (Bdp.noObject, [])
    | some f => (Bdp.ok, ((s.mirrorFile t f).drop offset).take len)

/-- MIRROR_GET (R427): the octets of a file as stored. -/
def execMirrorGet (conn tenant fileSeq offset len : Nat) (resv : Bool) (s : State) : Res :=
  s.whenUp (.mirrorGet conn tenant fileSeq offset len resv) <|
    match s.conn conn with
    | none => .next s.unlisted
    | some c =>
      let r := s.mirrorAnswer c tenant fileSeq offset len resv
      s.listed (s.powered && decide (c.kind = .mirror) && decide (c.phase = .up)) (s.send conn (.mirrorData r.1 r.2))

/-! ### Replay (R428, R430) -/

/-- The files from FILE_SEQ `first` to `last`; none where one of them does not exist. -/
def MTen.range (m : MTen) (first last : Nat) : Option (List MFile) :=
  let seqs := m.files.map (·.seq)
  match seqs.findIdx? (fun k => decide (k = first)), seqs.findIdx? (fun k => decide (k = last)) with
  | some i, some j => if i ≤ j then some ((m.files.drop i).take (j + 1 - i)) else none
  | _, _ => none

/-- The body of a SLOTS record. -/
def MRec.slotsInfo (r : MRec) : Option Bytes := match r.body with | .slots i => some i | _ => none

/-- NAME, TAG, STRATA and BYTES of each model slot in a SLOTS body: its MODEL_INFO without the stamp. -/
def modelNames (info : Bytes) : List Bytes := (List.range 4).map fun k => let b := (info.drop (64 * k)).take 64; b.take 48 ++ b.drop 52

/-- TAG and BYTES of each adapter slot in a SLOTS body. -/
def adapterNames (info : Bytes) : List Bytes := (List.range 16).map fun k => let b := (info.drop (256 + 32 * k)).take 32; (b.drop 4).take 16 ++ (b.drop 24).take 8

/-- Whether every slot that one list names holds the same in the other. -/
def namesHeld : List Bytes → List Bytes → Bool
  | [], _ => true
  | a :: l, b :: m => (a.all (· == 0) || a == b) && namesHeld l m
  | _ :: _, [] => false

/-- Whether the slots match a recorded SLOTS body (R428). -/
def State.slotsMatch (s : State) (t : Nat) (info : Bytes) : Bool :=
  namesHeld (modelNames info) (modelNames (s.slotsInfo t)) && namesHeld (adapterNames info) (adapterNames (s.slotsInfo t))

/-- Whether a record is one that a replay injects, applies or reports. -/
def MRec.injected (r : MRec) : Bool := match r.body with | .inbound .. | .dictWrite .. | .power .. | .slots .. => true | _ => false

/-- Whether a record fixes the course of a pinned replay. -/
def MRec.pins (r : MRec) : Bool := match r.body with | .step .. | .cold .. => true | _ => false

/-- Code of the fault in an EVENT record whose CLASS is above 0 (R430). -/
def MRec.fault (r : MRec) : Option Nat :=
  match r.body with
  | .event e => if 1 ≤ e.getD 2 0 then some (unle (e.take 2)) else none
  | _ => none

/-- A replay of records, at its start. -/
def replayOf (first last mode now : Nat) (rs : List MRec) : Replay :=
  let faults := rs.filterMap MRec.fault
  { first := first, last := last, mode := mode, startAt := now, baseMono := match rs with | r :: _ => r.mono | [] => 0
    todo := rs.filter MRec.injected, expected := rs.filter fun r => match r.body with | .output .. => true | _ => false
    faultsRec := faults.length, recorded := faults
    seeds := rs.filterMap fun r => match r.body with | .seed i v => some (i, v) | _ => none
    steps := if mode = 1 then rs.filter MRec.pins else [] }

/-- REPLAY_START: its checks in the order of R428; recording stops, and the replay begins. -/
def replayStartBody (t first last mode : Nat) (resv : Bool) (s : State) : Nat × State :=
  if resv then (Bdp.reservedSet, s)
  else if 1 < mode then (Bdp.outOfRange, s)
  else match (s.mten t).range first last with
    | none => (Bdp.outOfRange, s)
    | some fs =>
      let rs := fs.flatMap (·.records)
      if s.tenState t ≠ .active ∨ s.sessionsWhere (fun x => x.isOpen && decide (x.tenant = t)) ≠ [] ∨ (s.mten t).replay.isSome then (Bdp.badState, s)
      else if fs.any fun f => decide (f.key ≠ s.mirrorKeyOf t) then (Bdp.mirrorKey, s)
      else if !((rs.findSome? MRec.slotsInfo).all (s.slotsMatch t)) then (Bdp.replayMismatch, s)
      else (Bdp.pending, (s.modMten t fun m => { m with replay := some (replayOf first last mode s.now rs) }).syncMirror t)

/-- REPLAY_START (R428): answered PENDING. -/
def execReplayStart (rq : Rq) (tenant first last mode : Nat) (resv : Bool) (s : State) : Res :=
  bdpCmd (.replayStart rq tenant first last mode resv) rq (entryCode (0xB100 + tenant) 6) (first + 2 ^ 32 * last + 2 ^ 64 * mode) (replayStartBody tenant first last mode resv) s

/-- REPLAY_STOP: the replay ends at the next step boundary. -/
def replayStopBody (t : Nat) (s : State) : Nat × State :=
  if (s.mten t).replay.isSome then (Bdp.ok, s.modMten t fun m => { m with replay := m.replay.map fun r => { r with stopping := true } }) else (Bdp.badState, s)

/-- REPLAY_STOP (R428). -/
def execReplayStop (rq : Rq) (tenant : Nat) (s : State) : Res := bdpCmd (.replayStop rq tenant) rq (entryCode (0xB100 + tenant) 7) 1 (replayStopBody tenant) s

/-- REPLAY_RESULT of a replay (R430). -/
def Replay.toResult (r : Replay) : ReplayResult :=
  let e := r.earliest.getD (0, 0, 0)
  { replayed := r.replayed, diverged := r.divergedReqs.length, statusDiff := r.statusDiff, faultsRec := r.faultsRec, faultsMet := r.faultsMet
    reqId := e.1, index := e.2.1, mono := e.2.2, lag := r.lag }

/-- Whether a replay ends: stopped and at a step boundary, or with nothing left to inject and no request left. -/
def State.replayOver (s : State) (t : Nat) (r : Replay) : Bool :=
  if r.stopping then decide (s.runsOf t = []) else r.todo.isEmpty && (s.sessionsWhere fun x => x.isOpen && decide (x.tenant = t) && x.live.isSome).isEmpty

/-- A replay ends: its result is written, its sessions close, and recording follows its conditions again (R430). -/
def State.endReplay (s : State) (t : Nat) (r : Replay) : State :=
  let s := s.modMten t fun m => { m with replay := none, result := r.toResult }
  let s := (s.sessionsWhere fun x => x.isOpen && decide (x.tenant = t)).foldl (fun s i => s.closeSess i 7) s
  let s := (s.tcount t 0xA110 4 1).tcount t 0xA110 5 r.divergedReqs.length
  ((s.raise Ev.replayDone t Locus.none 0 r.divergedReqs.length).finish (entryCode (0xB100 + t) 6) Bdp.ok).syncMirror t

/-- REPLAY_END (R428, R430). -/
def execReplayEnd (tenant : Nat) (s : State) : Res :=
  match (s.mten tenant).replay with
  | none => .next s.unlisted
  | some r => s.listed (s.powered && s.replayOver tenant r) (s.endReplay tenant r)

end Sys2Proof.Machine
end

