-- ==== Sys2Proof/Machine/Settings.lean ====
section
/-! DEFINITION. What a write of each dictionary entry checks and does: reserved bits, ranges and relations, states, and its effect (R352, R354, R359, R364 and the entry tables of every chapter). -/

namespace Sys2Proof.Machine

/-! ### Lengths and reserved bits (R349, R352 steps 4 and 5) -/

/-- Whether a written item has the length that R349 gives for its entry. -/
def EntryDesc.lengthOk (e : EntryDesc) (it : Item) : Bool :=
  if e.len ≠ 0 then it.len == e.len
  else if e.ty = 10 then decide (9 ≤ it.len ∧ it.len ≤ 65488)
  else decide (it.len = 24 + 8 * nbits it.value 128 16)

/-- Whether a reserved bit of a gate control list is set: its octets 18 to 23, and octets 1 to 3 of each entry (R341). -/
def gclResv (v : Nat) : Bool := decide (nbits v 144 48 ≠ 0) || (List.range (nbits v 128 16)).any fun i => decide (nbits v (192 + 64 * i + 8) 24 ≠ 0)

/-- Whether a reserved bit of an entry's value is set. -/
def valueResv (index sub v : Nat) : Bool :=
  match index, sub with
  | 0x9004, 1 => decide (v / 2 ^ 18 ≠ 0)
  | 0x3120, 4 => decide (nbits v 40 24 ≠ 0)
  | 0x3120, 5 => decide (nbits v 136 56 ≠ 0)
  | 0xB000, 1 => nbit v 7
  | 0x4300, _ => envelopeResv v
  | _, _ =>
    if index / 2 = 0x1880 then
      match sub with
      | 3 | 18 => decide (nbits v 4 4 ≠ 0)
      | 10 => gclResv v
      | 16 => decide (nbits v 40 24 ≠ 0)
      | 17 => decide (nbits v 136 56 ≠ 0)
      | _ => false
    else if index / 256 = 0x52 then (decide (sub = 5) && decide (nbits v 16 16 ≠ 0)) || (decide (sub = 6) && decide (v / 2 ≠ 0))
    else match index / 16, sub with
      | 0x550, 1 => decide (nbits v 16 16 ≠ 0) || decide (nbits v 288 32 ≠ 0)
      | 0x702, 1 => decide (nbits v 24 8 ≠ 0)
      | 0x530, 2 => decide (nbits v 16 48 ≠ 0)
      | 0xB10, 6 => decide (nbits v 72 56 ≠ 0)
      | _, _ => false

/-! ### Ranges and relations (R352 step 7) -/

/-- The octets of a record field that hold one octet each. -/
def bytesAll (v n : Nat) (p : Nat → Bool) : Bool := (List.range n).all fun i => p (nbits v (8 * i) 8)

/-- Whether an IP record is in range: a prefix of 1 to `bits`, or all zeros. -/
def ipOk (v addr bits : Nat) : Bool := decide (v = 0) || decide (1 ≤ nbits v addr 8 ∧ nbits v addr 8 ≤ bits)

/-- Four service numbers, none 0 and no two the same (R336). -/
def portNumbersOk (v : Nat) : Bool :=
  let l := (List.range 4).map fun i => nbits v (16 * i) 16
  l.all (fun n => decide (n ≠ 0)) && decide l.Nodup

/-- A gate control list that the octets of its record spell. -/
def GclList.ofNat (v : Nat) : GclList :=
  { base := nbits v 0 64, cycle := nbits v 64 64, entries := (List.range (nbits v 128 16)).map fun i => { mask := nbits v (192 + 64 * i) 8, interval := nbits v (192 + 64 * i + 32) 32 } }

/-- 0, or from one second to `hi` (R300, R411). -/
def offOr (hi v : Nat) : Bool := decide (v = 0) || decide (10 ^ 9 ≤ v ∧ v ≤ hi)

/-- Whether the digital budget that is left is at least 3,000 mW (R405). -/
def remainderOk (envelope budgets : Nat) : Bool := decide (((List.range 4).map fun i => nbits budgets (32 * i) 32).sum + 3000 ≤ envelope)

/-- Ranges and relations of device entries; `get` gives the values held beside the one written. -/
def deviceRange (get : Nat → Nat → Nat) (s : State) (index sub v : Nat) : Bool :=
  match index, sub with
  | 0x2001, 1 => remainderOk v (get 0x2002 1)
  | 0x2002, 1 => remainderOk (get 0x2001 1) v
  | 0x2004, 2 | 0x2004, 3 => offOr 86400000000000 v
  | 0x3000, 1 => portNumbersOk v
  | 0x3000, 5 => bytesAll v 6 fun b => decide (b ≤ 6)
  | 0x3120, 4 => ipOk v 32 32
  | 0x3120, 5 => ipOk v 128 128
  | 0x4300, _ => (EnvRec.ofNat v).inRange
  | 0xC001, 2 => decide (-1000 ≤ sint 32 v ∧ sint 32 v ≤ 1000)
  | 0xC001, 3 => !s.clk.timeUnknown && (decide (v = 0) || decide (s.clk.cal < v))
  | _, _ => true

/-- Ranges and relations of a host port's entries. -/
def portRange (get : Nat → Nat → Nat) (index sub v : Nat) : Bool :=
  match sub with
  | 2 => mediaSpeedsOk v (get index 3)
  | 3 => mediaSpeedsOk (get index 2) v
  | 10 => (GclList.ofNat v).inRange
  | 16 => ipOk v 32 32
  | 17 => ipOk v 128 128
  | 20 => decide (-1000 ≤ sint 32 v ∧ sint 32 v ≤ 1000)
  | _ => true

/-- Ranges and relations of a tenant's entries. -/
def tenantRange (get : Nat → Nat → Nat) (index sub v : Nat) : Bool :=
  match index / 16, sub with
  | 0x510, 2 => decide (0x3F800000 ≤ v ∧ v ≤ 0x40000000)
  | 0x610, 2 => decide (1 ≤ v ∧ v ≤ 131072)
  | 0x610, 4 => offOr 604800000000000 v
  | 0x702, 1 => bytesAll v 3 fun b => decide (1 ≤ b ∧ b ≤ 64)
  | 0x730, 1 => decide (2 * get index 3 ≤ v)
  | 0x730, 3 => decide (2 * v ≤ get index 1)
  | 0x730, 2 => decide (2 * get index 4 ≤ v)
  | 0x730, 4 => decide (2 * v ≤ get index 2)
  | 0x810, 4 => decide (get (0x8130 + index % 16) 1 + 2 + v ≤ 96)
  | 0x813, 1 => decide (2 ≤ v ∧ v + get (0x8100 + index % 16) 4 ≤ 94)
  | _, _ => true

/-- Whether a value lies in the range of its entry, with the relations to values held beside it, and keeps the value rule of its type. -/
def State.valueOk (s : State) (get : Nat → Nat → Nat) (e : EntryDesc) (code v : Nat) : Bool :=
  let index := code / 256
  let sub := code % 256
  (match e.range with | some r => decide (r.1 ≤ v ∧ v ≤ r.2) | none => true) &&
    (e.ty != 0 || decide (v ≤ 1)) && (e.ty != 7 || decide (nbits v 23 8 ≠ 255)) &&
    (if index / 2 = 0x1880 then portRange get index sub v else if e.ten = 0 then deviceRange get s index sub v else tenantRange get index sub v)

/-! ### Effects -/

/-- A value takes its place: present for a profile-scoped entry, else stored (R359). -/
def State.setValue (s : State) (code v : Nat) : State :=
  match Entry.find code with
  | none => s
  | some e =>
    if e.profileScoped then { s with dict := { s.dict with present := mset (e.default 0) s.dict.present code v } }
    else { s with dict := { s.dict with stored := mset (e.default 0) s.dict.stored code v } }

/-- A cluster whose channel pair is lost (R251). -/
def State.pairLost (s : State) (c : Nat) : Bool := decide ((s.chan (2 * c)).state = .lost)

/-- CLUSTERS (R202, R208, R251, R371). -/
def clustersBody (t v : Nat) (s : State) : Nat × State :=
  let s' := s.setStored (0x8100 + t) 1 0 v
  if !s'.waysFit then (Bdp.outOfRange, s)
  else if s.tenState t ≠ .forming then (Bdp.badState, s)
  else if (setBits v 16).any fun c => decide (s.clusterOwner c ≠ 0 ∧ s.clusterOwner c ≠ t) then (Bdp.notOwned, s)
  else if (setBits v 16).any s.pairLost then (Bdp.unavailable, s)
  else if !bitsWithin 16 v (s.envOf t).clusters then (Bdp.envelope, s)
  else (Bdp.ok, s'.assignWays)

/-- VAULT_DIES (R202, R371). -/
def vaultDiesBody (t v : Nat) (s : State) : Nat × State :=
  if s.tenState t ≠ .forming then (Bdp.badState, s)
  else if (setBits v 32).any fun d => decide (s.dieOwner d ≠ 0 ∧ s.dieOwner d ≠ t) then (Bdp.notOwned, s)
  else if !bitsWithin 32 v (s.envOf t).dies then (Bdp.envelope, s)
  else (Bdp.ok, (s.setStored (0x8100 + t) 2 0 v).regrant)

/-- SESSIONS_MAX (R202, R371). -/
def sessionsMaxBody (t v : Nat) (s : State) : Nat × State :=
  let s' := s.setStored (0x8100 + t) 6 512 v
  if 4096 < v ∨ 4096 < s'.quotaSum s'.sessionsMax then (Bdp.outOfRange, s)
  else if !s.quotaOpen t then (Bdp.badState, s)
  else if (s.envOf t).maxSessions < v then (Bdp.envelope, s)
  else (Bdp.ok, s')

/-- UFS_MIB (R205, R371). -/
def ufsMibBody (t v : Nat) (s : State) : Nat × State :=
  let s' := s.setStored (0x8100 + t) 7 0 v
  if s.tiers.ufsTenantMib < (((List.range 8).map (· + 1)).map s'.ufsMib).sum then (Bdp.outOfRange, s)
  else if !s.quotaOpen t then (Bdp.badState, s)
  else if (s.envOf t).maxUfs < v then (Bdp.envelope, s)
  else if v * 2 ^ 20 < s.ufsUsed t then (Bdp.quotaInUse, s)
  else (Bdp.ok, s')

/-- OPS_SHARE or SYNC_SHARE (R187, R202). -/
def shareBody (t sub v : Nat) (s : State) : Nat × State :=
  let s' := s.setValue (entryCode (0x7300 + t) sub) v
  if (if sub = 1 then decide (16384 < s'.quotaSum s'.opsShare) else decide (32768 < s'.quotaSum s'.syncShare)) then (Bdp.outOfRange, s)
  else if !s.quotaOpen t then (Bdp.badState, s)
  else (Bdp.ok, s')

/-- INTERLEAVE_GRAIN (R235). -/
def grainBody (t v : Nat) (s : State) : Nat × State :=
  if s.tenState t ≠ .forming then (Bdp.badState, s) else (Bdp.ok, s.setStored (0x8140 + t) 1 2 v)

/-- STRATUM_SELECT of a connection (R92). -/
def stratumSelectBody (conn : Nat) (c : Conn) (v : Nat) (s : State) : Nat × State :=
  if c.principal = .ten ∧ s.ownsDie c.tenant (dieOf v) = false then (Bdp.notOwned, s)
  else (Bdp.ok, s.modConn conn fun o => o.map fun k => { k with stratumSelect := v })

/-- The levers follow a written envelope, ceiling or division (R71, R363 step 3, R406). -/
def State.budgetsWritten (s : State) : State :=
  (s.modPower fun p => { p with vcore := min p.vcore s.vcoreMax, writeSlots := s.writeSlotsOf }).regrant

/-- A write of a tenant's entry, its range being kept. -/
def State.tenantEntry (s : State) (code v : Nat) : Nat × State :=
  let t := code / 256 % 16
  match code / 4096, code % 256 with
  | 0x810, 1 => clustersBody t v s
  | 0x810, 2 => vaultDiesBody t v s
  | 0x810, 3 => cacheWaysBody t v s
  | 0x810, 4 => csKvPagesBody t v s
  | 0x810, 6 => sessionsMaxBody t v s
  | 0x810, 7 => ufsMibBody t v s
  | 0x811, k => dramSubQuotaBody t k v s
  | 0x814, 1 => grainBody t v s
  | 0x730, 1 => shareBody t 1 v s
  | 0x730, 2 => shareBody t 2 v s
  | 0x410, _ => keyBody code v s
  | 0xB10, 1 => mirrorConsentBody t v s
  | 0xB10, 2 => mirrorKeyBody t v s
  | _, _ => (Bdp.ok, s.setValue code v)

/-- A write of a host port's entry, its range being kept. -/
def State.portEntry (s : State) (code v : Nat) : Nat × State :=
  let p := code / 256 - 0x3100
  match code % 256 with
  | 1 => portEnableBody p (decide (v = 1)) s
  | 2 => mediaBody p v s
  | 3 => speedsBody p v s
  | 10 => gclBody p (GclList.ofNat v) false s
  | _ => (Bdp.ok, s.setValue code v)

/-- A write of a device entry, its range being kept. -/
def State.deviceEntry (s : State) (conn : Nat) (c : Conn) (code v : Nat) : Nat × State :=
  match code / 256, code % 256 with
  | 0x9004, 1 => stratumSelectBody conn c v s
  | 0x3120, 1 => portEnableBody 2 (decide (v = 1)) s
  | 0x4001, _ | 0x4002, _ => keyBody code v s
  | 0x4300, t => envelopeBody t v s
  | 0x2001, _ | 0x2002, _ => (Bdp.ok, (s.setValue code v).budgetsWritten)
  | 0xB000, 1 => (Bdp.ok, s.setValue code (v ||| 64))
  | 0xC001, 3 => calAlarmBody v s
  | _, _ => (Bdp.ok, s.setValue code v)

/-- The value that an entry holds: present, or stored (R359). -/
def State.valueHeld (s : State) (index sub : Nat) : Nat := match Entry.find (entryCode index sub) with | some e => s.settingOf (entryCode index sub) e | none => 0

/-- Steps 7 and 8 of R352 for an RW entry or a WO value, and its effect. -/
def State.writeSetting (s : State) (conn : Nat) (c : Conn) (e : EntryDesc) (code v : Nat) : Nat × State :=
  if !s.valueOk s.valueHeld e code v then (Bdp.outOfRange, s)
  else if code / 512 = 0x1880 then s.portEntry code v
  else if e.ten = 0 ∨ e.ten = 3 then s.deviceEntry conn c code v
  else s.tenantEntry code v

/-! ### Profiles (R362..R365) -/

/-- Whether a power-state transition or a restart of CC5 is in progress (R363). -/
def State.profileWaits (s : State) : Bool := s.inTransition || decide ((s.core 5).state ≠ .running)

/-- A profile takes effect (R363 steps 2 to 4). -/
def State.applyProfile (s : State) (p : Nat) : State := ((s.loadProfile p).profileLevers).notePower

/-- PROFILE_SELECT: at once, or PENDING behind a transition or a restart of CC5 (R363). -/
def profileSelectBody (p : Nat) (s : State) : Nat × State :=
  if 3 < p then (Bdp.outOfRange, s)
  else if s.profileWaits then (Bdp.pending, { s with dict := { s.dict with selected := some p, selectPending := true } })
  else (Bdp.ok, { s with dict := { s.dict with selected := some p, selectPending := false } })

/-- Whether FACTORY_RESET leaves a stored entry as it is (R365). -/
def factoryKept (code : Nat) : Bool := decide (code = entryCode 0x2000 3 ∨ code = entryCode 0x2000 4) || decide (code / 256 = 0x4001)

/-- The value that FACTORY_RESET gives a stored entry: the active profile's default, MKA_CAK and MACSEC_REQUIRED excepted (R365). -/
def State.factoryValue (s : State) (code : Nat) (e : EntryDesc) : Nat :=
  if code / 512 = 0x1880 ∧ code % 256 = 13 then 0 else if code / 512 = 0x1880 ∧ code % 256 = 12 then 1 else s.profileValue s.dict.active code e

/-- What follows a stored entry's new value where it acts at once: ports, withdrawn keys, gate lists. -/
def State.factoryEffects (s : State) : State :=
  let s := (s.connsWhere fun c => decide (c.kind ≠ .asx) && decide (c.principal = .drv ∨ c.principal = .ten)).foldl State.closeConn s
  let s := [0, 1].foldl (fun s p => s.modPort p fun x => { x with gclNext := some (GclList.ofNat (s.setting (portIndex p) 10)) }) s
  [0, 1, 2].foldl (fun s p =>
    if (s.port p).on = decide (s.setting (portIndex p) 1 = 1) then s else (portEnableBody p (decide (s.setting (portIndex p) 1 = 1)) s).2) s

/-- FACTORY_RESET (R365). -/
def factoryResetBody (v : Nat) (s : State) : Nat × State :=
  if 1 < v then (Bdp.outOfRange, s)
  else if (List.range 8).any fun i => s.formed (i + 1) then (Bdp.badState, s)
  else
    let es := (entryCodes fun e => e.storedScoped).filter fun x => !factoryKept x.1
    let st := es.foldl (fun m x => mset (x.2.default 0) m x.1 (s.factoryValue x.1 x.2)) s.dict.stored
    (Bdp.ok, ({ s with dict := { s.dict with stored := st } } : State).factoryEffects)

end Sys2Proof.Machine
end

