-- ==== Sys2Proof/Machine/Banel.lean ====
section
/-! DEFINITION. The commands of the Banel dictionary protocol: connecting, reads, writes, snapshots, profiles, events (R342..R366, R416). -/

namespace Sys2Proof.Machine

/-! ### Connecting (R342..R345, R427) -/

/-- The service that a TCP connection to a number of a port reaches, other than ASX: BDP, or the Mirror export (R336). -/
def State.bdpService (s : State) (port number : Nat) : Option ConnKind :=
  let opens := fun (bit : Nat) => decide (port = 2) || (decide (port < 2) && nbit (s.servicesOf port) bit)
  if number = s.serviceNumber 0 ∧ opens 0 = true then some .bdp
  else if number = s.serviceNumber 3 ∧ opens 3 = true then some .mirror
  else none

/-- Whether every BDP place that a port may take is taken: 32, of which host ports hold at most 28 (R345). -/
def State.bdpFull (s : State) (port : Nat) : Bool :=
  decide (32 ≤ s.places .bdp) ||
  (decide (port ≠ 2) && decide (28 ≤ (s.connsWhere fun c => decide (c.kind = .bdp) && decide (c.phase ≠ .closed) && decide (c.port ≠ 2)).length))

/-- BDP_CONNECT (R335, R336, R342, R345): a connection takes a place, receives BUSY where all are taken, or RST beyond the stack's share. -/
def execBdpConnect (conn port number : Nat) (s : State) : Res :=
  s.whenUp (.bdpConnect conn port number) <|
    match s.bdpService port number with
    | none => .next s.unlisted
    | some k =>
      if (s.conn conn).isSome ∨ 64 ≤ s.tcpCount false then .next s.unlisted
      else
        let full : Bool := decide (k = .bdp) && s.bdpFull port
        let s := s.modConn conn fun _ => some { kind := k, port := port, phase := .tcp, tcpPort := number, idleSince := s.now }
        .next (if full then (s.turnAway conn 1000).count 0xA010 3 1 else s)

/-- The index that holds the keys of a principal (R385). -/
def Conn.keyIndex (c : Conn) : Nat := if c.principal = .mgmt then 0x4001 else if c.principal = .drv then 0x4002 else 0x4100 + c.tenant

/-- Whether AUTH shows the principal that CLIENT_HELLO named (R343, R344). -/
def State.authOk (s : State) (c : Conn) (keyId : Nat) (sigOk : Bool) : Bool :=
  if c.principal = .none then decide (keyId = 0xFF)
  else decide (keyId < 4) && decide (s.sv c.keyIndex (keyId + 1) 0 ≠ 0) && sigOk && (decide (c.principal ≠ .ten) || s.quotaOpen c.tenant)

/-- BDP_AUTH (R343, R344, R13): the channel is established, or its connection is closed. -/
def execBdpAuth (conn : Nat) (tagOk : Bool) (keyId : Nat) (sigOk resv : Bool) (s : State) : Res :=
  s.whenUp (.bdpAuth conn tagOk keyId sigOk resv) <|
    match s.conn conn with
    | none => .next s.unlisted
    | some k =>
      if k.phase ≠ .authWait ∨ k.kind = .asx then .next s.unlisted
      else if !tagOk then .next ((s.failHandshake conn).tcount k.tenant 0xAE00 8 1)
      else if resv then .next (s.answerResv k conn)
      else if s.authOk k keyId sigOk = true then
        let s := (s.leaveTrust conn).modConn conn fun _ => some { k with phase := .up, keyId := keyId, deadline := none, idleSince := s.now, rxSeq := 1 }
        let s := s.send conn (.authOk conn k.principalCode)
        .next (if k.kind = .bdp then s.count 0xA010 1 1 else s)
      else .next (s.failHandshake conn)

/-- Whether a message code has no place on a service: on ASX the BDP codes, on BDP all but its own requests, on the Mirror export all but MIRROR_GET (R342, R427). -/
def wrongCode (k : ConnKind) (msg : Nat) : Bool :=
  match k with
  | .asx => decide (0x30 ≤ msg ∧ msg ≤ 0x34)
  | .bdp => !decide (0x30 ≤ msg ∧ msg ≤ 0x32)
  | .mirror => decide (msg ≠ 0x40)

/-- BAD_MESSAGE (R342, R353): an error response with TXN 0, and nothing applies. -/
def execBadMessage (conn msg : Nat) (s : State) : Res :=
  s.whenUp (.badMessage conn msg) <|
    match s.conn conn with
    | none => .next s.unlisted
    | some k =>
      let t := s.send conn (.response 0 Bdp.badMessage 0xFF s.now [])
      s.listed (decide (k.phase = .up) && wrongCode k.kind msg) (if k.kind = .bdp then t.count 0xA010 4 1 else t)

/-! ### The checks of a transaction (R351) -/

/-- PROFILE_TARGET of a transaction (R348). -/
def BdpBody.toProfile (b : BdpBody) : Bool := nbit b.flags 0

/-- PROFILE of a transaction (R348). -/
def BdpBody.profile (b : BdpBody) : Nat := nbits b.flags 1 2

/-- The status for which a transaction is refused as a whole, BUSY aside. -/
def txnPre (rq : Rq) (b : BdpBody) (write : Bool) (c : Conn) (s : State) : Nat :=
  if b.fills = false ∨ b.count ≠ b.items.length then Bdp.lengthMismatch
  else if b.count = 0 ∨ 64 < b.count then Bdp.outOfRange
  else if b.resv = true ∨ 8 ≤ b.flags then Bdp.reservedSet
  else if b.toProfile = true ∧ (write = false ∨ c.principal ≠ .mgmt) then Bdp.denied
  else if write = false ∨ b.items.map (·.code) = [leaseClaimCode] then Bdp.ok
  else s.leaseStatus c rq.epoch

/-- Whether an index names a vendor test entry: only where debug access is unlocked (R12, R390). -/
def State.vendorNamed (s : State) (code : Nat) : Bool := s.trust.debug && decide (0xF00000 ≤ code) && Config.vendorEntry code

/-- The vendor test entry at which a unit of writes stops: no earlier item failed (R352). -/
def State.vendorAt (s : State) (items : List Item) (failed : Nat) : Option Nat :=
  match items[failed]? with
  | some it => if s.vendorNamed it.code then some it.code else none
  | none => none

/-- A write that reaches no vendor test entry has its outcome; the spec gives the write of such an entry no effect. -/
def State.unlessVendor (s : State) (items : List Item) (failed : Nat) (r : Res) : Res :=
  match s.vendorAt items failed with
  | some k => .refused (.vendorTest k)
  | none => r

/-- The answer of a vendor test entry to a read, of which the spec states nothing. -/
def State.vendorItem (s : State) (code : Nat) : RespItem :=
  let len := Config.freeNat 62 code % 4096
  { code := code, ty := Config.freeNat 60 code % 256, len := len, status := Config.freeNat 61 code % 256, value := Config.freeNat 63 (s.trust.fresh + code) % 256 ^ len }

/-! ### Reads and snapshots (R350, R352, R357) -/

/-- The status of a read item (R352); TYPE, LENGTH and the reserved bytes of a read are 0 (R349). -/
def Conn.readStatus (c : Conn) (it : Item) : Nat :=
  let st := c.itemStatus it.code false
  if st ≠ Bdp.ok then st
  else if it.ty ≠ 0 then Bdp.typeMismatch
  else if it.len ≠ 0 then Bdp.lengthMismatch
  else if it.resv then Bdp.reservedSet
  else Bdp.ok

/-- A read item as it is answered: a result record, or the value of its entry (R350, R358). -/
def State.readItem (s : State) (c : Conn) (it : Item) : RespItem :=
  let st := c.readStatus it
  match Entry.find it.code with
  | none => if s.vendorNamed it.code then s.vendorItem it.code else { code := it.code, status := st }
  | some e =>
    if st ≠ Bdp.ok then { code := it.code, status := st }
    else
      let v := s.readEntry c it.code e
      { code := it.code, ty := if e.acc = 3 then 11 else e.ty, len := v.length, value := unle v }

/-- Octets of a response body (R350). -/
def responseBody (l : List RespItem) : Nat := 16 + (l.map fun i => 8 + (i.len + 3) / 4 * 4).sum

/-- The position of the first item that failed, or 0xFF (R350). -/
def firstFailed (l : List RespItem) : Nat := (l.findIdx? fun i => decide (i.status ≠ Bdp.ok)).getD 0xFF

/-- A read of several items, each on its own; one whose response would not fit reads nothing (R350, R352). -/
def State.answerRead (s : State) (rq : Rq) (c : Conn) (items : List Item) : State :=
  let l := items.map (s.readItem c)
  if 65515 < responseBody l then s.respond rq Bdp.tooLarge 0xFF [] else s.respond rq Bdp.ok (firstFailed l) l

/-- BDP_READ (R347, R350..R353). -/
def execBdpRead (rq : Rq) (b : BdpBody) (s : State) : Res :=
  txn (.bdpRead rq b) rq (txnPre rq b false) (fun c s => .next (s.answerRead rq c b.items)) s

/-- Whether a snapshot's item fails it: an entry that the principal reaches and that is not RO (R357). -/
def Conn.spoils (c : Conn) (it : Item) : Bool :=
  let st := c.itemStatus it.code false
  (decide (st = Bdp.ok) || decide (st = Bdp.writeOnly)) && match Entry.find it.code with | some e => decide (e.acc ≠ 0) | none => false

/-- BDP_SNAPSHOT (R357): RO items, all taken at one instant. -/
def execBdpSnapshot (rq : Rq) (b : BdpBody) (s : State) : Res :=
  txn (.bdpSnapshot rq b) rq (txnPre rq b false) (fun c s =>
    match b.items.findIdx? c.spoils with
    | some k => .next (s.respond rq Bdp.groupInvalid k [])
    | none => .next (s.answerRead rq c b.items)) s

/-! ### Commands as items (R358) -/

/-- FW_ACTIVATE: mode 0 or 1 (R307). -/
def fwActivateBody (v : Nat) (s : State) : Nat × State := if v = 0 then fwRollingBody s else fwResetBody s

/-- POWER_REQUEST (R397). -/
def powerBodyOf (v : Nat) (s : State) : Nat × State :=
  match v with
  | 0 => restartTimersBody s
  | 1 => powerRequestBody .sleep s
  | 2 => powerRequestBody .deepSleep s
  | _ => powerRequestBody .off s

/-- A command item of the device. -/
def deviceCommand (rq : Rq) (b : BdpBody) (it : Item) (s : State) : Nat × State :=
  let v := it.value
  match it.code / 256, it.code % 256 with
  | 0x7401, _ => ccRestartBody v s
  | 0x7402, 1 => fwBeginBody v s
  | 0x7402, 2 => fwDataBody (nbits v 0 64) (it.len - 8) s
  | 0x7402, 3 => fwEndBody b.verified b.fw s
  | 0x7402, 4 => fwActivateBody v s
  | 0x7402, 5 => fwCommitBody s
  | 0x7402, _ => fwRevertBody s
  | 0x7000, 2 => leaseClaimBody s
  | 0x7000, 3 => leaseRenewBody v s
  | 0x7000, _ => leaseReleaseBody v s
  | 0x2000, 5 => profileSelectBody v s
  | 0x2000, _ => factoryResetBody v s
  | 0x2003, _ => powerBodyOf v s
  | 0x4400, _ => debugUnlockBody b.verified s
  | 0xB000, 2 => faultAckBody v s
  | 0xB000, _ => subscribeBody rq.conn v s
  | 0xA0F0, _ => countersClearBody v s
  | 0xC001, _ => calSetBody v s
  | i, _ => cableTestBody (i - 0x3100) s

/-- A command item of tenant `t`. -/
def tenantCommand (rq : Rq) (b : BdpBody) (it : Item) (t : Nat) (s : State) : Nat × State :=
  let v := it.value
  let k := it.code / 256 % 16
  match it.code / 4096, it.code % 256 with
  | 0x530, 2 => uploadBeginBody t (nbits v 0 8) (nbits v 8 8) (nbits v 64 64) false s
  | 0x530, 3 => uploadDataBody t (nbits v 0 64) (it.len - 8) b.img s
  | 0x530, 4 => uploadEndBody t s
  | 0x530, 5 => uploadAbortBody t s
  | 0x530, _ => datasetDeleteBody t v s
  | 0x550, 2 => trainBody t (decide (v = 1)) s
  | 0x550, _ => trainStopBody t s
  | 0x420, 2 => tenantFormBody t s
  | 0x420, 3 => tenantActivateBody t s
  | 0x420, _ => tenantRemoveBody rq.conn t v s
  | 0xB10, 4 => mirrorFlushBody t s
  | 0xB10, 6 => replayStartBody t (nbits v 0 32) (nbits v 32 32) (nbits v 64 8) false s
  | 0xB10, _ => replayStopBody t s
  | i, 3 => if i / 16 = 0x54 then adapterLoadBody t k v s else (Bdp.noObject, s)
  | i, 4 => if i / 16 = 0x54 then adapterUnloadBody t k s else installBody t k s
  | i, 5 => if i / 16 = 0x54 then adapterDeleteBody t k s else swapBody t k (nbits v 0 8) (nbits v 8 8) (decide (nbits v 16 16 ≠ 0)) s
  | _, _ => removeBody t k v s

/-- Whether a command's value keeps the range of its entry and the rule of its type (R352 step 7). -/
def EntryDesc.commandOk (e : EntryDesc) (v : Nat) : Bool :=
  (match e.range with | some r => decide (r.1 ≤ v ∧ v ≤ r.2) | none => true) && (e.ty != 0 || decide (v ≤ 1))

/-- A command item, or a piece of an upload. -/
def runCommand (rq : Rq) (b : BdpBody) (e : EntryDesc) (it : Item) (s : State) : Nat × State :=
  if !e.commandOk it.value then (Bdp.outOfRange, s)
  else if e.ten = 0 then deviceCommand rq b it s
  else tenantCommand rq b it (e.tenant it.code) s

/-! ### Writes (R352, R354, R360) -/

/-- The status of a write item before its value is looked at, and GROUP_INVALID (R352 steps 1 to 6). -/
def Conn.formStatus (c : Conn) (e : EntryDesc) (alone : Bool) (it : Item) : Nat :=
  let st := c.itemStatus it.code true
  if st ≠ Bdp.ok then st
  else if it.ty ≠ e.ty then Bdp.typeMismatch
  else if !e.lengthOk it then Bdp.lengthMismatch
  else if it.resv || valueResv (it.code / 256) (it.code % 256) it.value then Bdp.reservedSet
  else if (e.acc = 3 ∨ e.streamed = true) ∧ alone = false then Bdp.groupInvalid
  else Bdp.ok

/-- One write item: its status and the state it leaves. -/
def writeItem (rq : Rq) (c : Conn) (b : BdpBody) (alone : Bool) (it : Item) (s : State) : Nat × State :=
  match Entry.find it.code with
  | none => (Bdp.noObject, s)
  | some e =>
    let st := c.formStatus e alone it
    if st ≠ Bdp.ok then (st, s)
    else if e.acc = 3 ∨ e.streamed = true then runCommand rq b e it s
    else s.writeSetting rq.conn c e it.code it.value

/-- A written value as a record keeps it: one of varying length with its length. -/
def Item.kept (it : Item) : Nat :=
  match Entry.find it.code with
  | some e => if e.len = 0 then varValue (le it.len it.value) else it.value
  | none => it.value

/-- What a unit of writes comes to: the status of the first item that fails, its position, whether some item must wait for preparation, and the state with every item applied. -/
structure Batch where
  status : Nat
  failed : Nat
  waits : Bool
  state : State

/-- The items of a write in their order, each against the values that the earlier ones leave (R354). -/
def writeAll (one : Item → State → Nat × State) : Nat → List Item → Bool → State → Batch
  | k, [], w, s => { status := Bdp.ok, failed := k, waits := w, state := s }
  | k, it :: l, w, s =>
    let r := one it s
    if r.1 = Bdp.ok then writeAll one (k + 1) l w r.2
    else if r.1 = Bdp.prepares then writeAll one (k + 1) l true (r.2.setValue it.code it.value)
    else { status := r.1, failed := k, waits := w, state := r.2 }

/-- Items of a response to a write. -/
def writeItems (codes : List Nat) (failed status : Nat) : List RespItem :=
  codes.zipIdx.map fun p => { code := p.1, status := if p.2 < failed then Bdp.ok else status }

/-- The work that a written DRAM_KV requires: sessions become COLD until use fits, and no new page may pass it meanwhile (R147, R203). -/
def prepareItem (s : State) (code v : Nat) : State :=
  let t := code / 256 % 16
  if code / 4096 = 0x811 ∧ code % 256 = 2 ∧ s.tenState t = .active then
    let c := State.coolTo t (v * 16) 4097 s
    if c.warmUsed t ≤ v * 16 then c else c.modKvPending t fun _ => some v
  else s

/-- Whether an item has a stored value (R359, R360). -/
def Item.stored (it : Item) : Bool := match Entry.find it.code with | some e => e.storedScoped | none => false

/-- A write of settings, as one unit (R354, R360). -/
def answerBatch (rq : Rq) (c : Conn) (durable : Bool) (items : List Item) (r : Batch) (s : State) : State :=
  let codes := items.map (·.code)
  if r.status ≠ Bdp.ok then s.refuse rq r.status r.failed (writeItems codes r.failed r.status)
  else if durable = false ∧ items.any Item.stored = true then
    let k := (items.findIdx? Item.stored).getD 0
    s.refuse rq Bdp.unavailable k (writeItems codes k Bdp.unavailable)
  else if r.waits then
    (items.foldl (fun s it => prepareItem s it.code it.value) s).prepare rq c.principalCode (tenantOfCode (codes.headD 0)) (items.map fun it => { code := it.code, value := it.value })
  else (r.state.mirrorWrite c.principalCode rq.epoch (items.map fun it => (it.code, it.kept))).respond rq Bdp.ok 0xFF (writeItems codes 0xFF Bdp.ok)

/-- A write of several items (R352, R354). -/
def writeSome (rq : Rq) (c : Conn) (b : BdpBody) (s : State) : Res :=
  let r := writeAll (writeItem rq c b false) 0 b.items false s
  s.unlessVendor b.items r.failed (.next (answerBatch rq c b.durable b.items r s))

/-- A write of one item. -/
def answerOne (rq : Rq) (c : Conn) (b : BdpBody) (it : Item) (s : State) : State :=
  let r := writeItem rq c b true it s
  if (r.1 = Bdp.ok ∨ r.1 = Bdp.prepares) ∧ b.durable = false ∧ it.stored = true then s.refuse rq Bdp.unavailable 0 [{ code := it.code, status := Bdp.unavailable }]
  else answerWrite rq c.principalCode it.code it.kept r

/-! ### Profiles (R361..R365) -/

/-- The status of an item of a profile edit before its value is judged (R352, R364). -/
def Conn.editStatus (c : Conn) (e : EntryDesc) (it : Item) : Nat :=
  let st := if e.acc = 1 then Bdp.ok else c.itemStatus it.code true
  if st ≠ Bdp.ok then st
  else if it.ty ≠ e.ty then Bdp.typeMismatch
  else if !e.lengthOk it then Bdp.lengthMismatch
  else if it.resv || valueResv (it.code / 256) (it.code % 256) it.value then Bdp.reservedSet
  else if e.acc ≠ 1 ∨ e.connScoped = true then Bdp.groupInvalid
  else Bdp.ok

/-- The value or default that a profile holds. -/
def State.profileHeld (s : State) (p index sub : Nat) : Nat := match Entry.find (entryCode index sub) with | some e => s.profileValue p (entryCode index sub) e | none => 0

/-- One item of a profile edit (R364). -/
def editItem (c : Conn) (p : Nat) (it : Item) (s : State) : Nat × State :=
  match Entry.find it.code with
  | none => (Bdp.noObject, s)
  | some e =>
    let st := c.editStatus e it
    if st ≠ Bdp.ok then (st, s)
    else if !s.valueOk (s.profileHeld p) e it.code it.kept then (Bdp.outOfRange, s)
    else (Bdp.ok, { s with dict := { s.dict with profiles := mset (e.default p) s.dict.profiles (p * 2 ^ 24 + it.code) it.kept } })

/-- A profile edit: durable, as one unit (R360, R364). -/
def answerEdit (rq : Rq) (c : Conn) (durable : Bool) (p : Nat) (items : List Item) (s : State) : Res :=
  let r := writeAll (editItem c p) 0 items false s
  let codes := items.map (·.code)
  s.unlessVendor items r.failed <| .next <|
    if r.status ≠ Bdp.ok then s.refuse rq r.status r.failed (writeItems codes r.failed r.status)
    else if durable = false then s.refuse rq Bdp.unavailable 0 (writeItems codes 0 Bdp.unavailable)
    else (r.state.mirrorWrite c.principalCode rq.epoch (items.map fun it => (it.code, it.kept))).respond rq Bdp.ok 0xFF (writeItems codes 0xFF Bdp.ok)

/-- BDP_WRITE (R347, R351..R355, R358..R360, R364). -/
def execBdpWrite (rq : Rq) (b : BdpBody) (s : State) : Res :=
  txn (.bdpWrite rq b) rq (txnPre rq b true) (fun c s =>
    if b.toProfile then answerEdit rq c b.durable b.profile b.items s
    else match b.items with
      | [it] => s.unlessVendor b.items 0 (.next (answerOne rq c b it s))
      | _ => writeSome rq c b s) s

/-- A write of one item, or of several, without faults of the world. -/
def plainBody (items : List Item) (flags : Nat) : BdpBody :=
  { count := items.length, flags := flags, resv := false, fills := true, items := items, img := none, verified := false, fw := .init, durable := true }

/-- REGISTER_WRITE (R352, R354): a write of one entry. -/
def execRegisterWrite (rq : Rq) (item : Item) (s : State) : Res :=
  txn (.registerWrite rq item) rq (txnPre rq (plainBody [item] 0) true) (fun c s => s.unlessVendor [item] 0 (.next (answerOne rq c (plainBody [item] 0) item s))) s

/-- PROFILE_EDIT (R364). -/
def execProfileEdit (rq : Rq) (profile : Nat) (items : List Item) (s : State) : Res :=
  txn (.profileEdit rq profile items) rq (txnPre rq (plainBody items (1 + 2 * (profile % 4))) true)
    (fun c s => answerEdit rq c true (profile % 4) items s) s

/-- PROFILE_SELECT (R363). -/
def execProfileSelect (rq : Rq) (profile : Nat) (s : State) : Res :=
  bdpCmd (.profileSelect rq profile) rq (entryCode 0x2000 5) profile (profileSelectBody profile) s

/-- PROFILE_APPLY (R363 step 2): the selected profile takes effect. -/
def execProfileApply (s : State) : Res :=
  s.whenUp .profileApply <|
    match s.dict.selected with
    | none => .next s.unlisted
    | some p =>
      let t := s.applyProfile p
      let t : State := { t with dict := { t.dict with selected := none, selectPending := false } }
      s.listed (!s.profileWaits) (if s.dict.selectPending then t.finish (entryCode 0x2000 5) Bdp.ok else t)

/-- FACTORY_RESET (R365). -/
def execFactoryReset (rq : Rq) (value : Nat) (s : State) : Res := bdpCmd (.factoryReset rq value) rq (entryCode 0x2000 6) value (factoryResetBody value) s

/-! ### Events (R416) -/

/-- The records of the oldest queued events, up to 64. -/
def State.eventRecords (s : State) (c : Conn) : List Bytes :=
  (c.events.take 64).map fun q => match s.faults.log.find? fun e => decide (e.seq = q) with | some e => e.bytes | none => []

/-- BDP_EVENT_SEND (R416): the queued records, and how many were lost. -/
def execBdpEventSend (conn : Nat) (s : State) : Res :=
  s.whenUp (.bdpEventSend conn) <|
    match s.conn conn with
    | none => .next s.unlisted
    | some c =>
      s.listed (decide (c.kind = .bdp) && decide (c.phase = .up) && decide (c.events ≠ []))
        ((s.send conn (.event c.eventsLost (s.eventRecords c))).modConn conn fun o => o.map fun k => { k with events := k.events.drop 64, eventsLost := 0 })

end Sys2Proof.Machine
end

