-- ==== Sys2Proof/Machine/Replay.lean ====
section
/-! DEFINITION. REPLAY_INJECT: what a replay injects and applies (R429). -/

namespace Sys2Proof.Machine

/-- The session that stands for a recorded handle named on a recorded channel: one already known, or the oldest injected one whose handle is not yet known, of that channel first (DEDUCED, log entry 43). -/
def Replay.sessionOf (r : Replay) (ch h : Nat) : Option Nat × Replay :=
  match mget 0 r.handles h with
  | k + 1 => (some k, r)
  | 0 =>
    match (r.opened.find? fun p => decide (p.1 = ch)).orElse fun _ => r.opened.head? with
    | some p => (some p.2, { r with handles := mset 0 r.handles h (p.2 + 1), opened := dropFirst (fun q => decide (q = p)) r.opened })
    | none => (none, r)

/-- The octets of a little-endian field. -/
def field (b : Bytes) (off n : Nat) : Nat := unle ((b.drop off).take n)

/-- The STOP strings of a recorded REQUEST, and the octets after them. -/
def takeStops : Nat → Bytes → List Bytes × Bytes
  | 0, b => ([], b)
  | n + 1, b =>
    let r := takeStops n (b.drop (1 + b.headD 0))
    ((b.drop 1).take (b.headD 0) :: r.1, r.2)

/-- The words of four octets of a text of tokens. -/
def tokenWords (b : Bytes) : List Nat := (List.range (b.length / 4)).map fun i => field b (4 * i) 4

/-- A REQUEST from its recorded octets (R286). -/
def ReqBody.ofBytes (b : Bytes) : ReqBody :=
  let p := takeStops (field b 47 1) (b.drop 64)
  { reqId := field b 0 8, session := field b 8 4, cls := field b 12 1, flags := field b 13 1, streamN := field b 14 2, maxTokens := field b 16 4, prefixLen := field b 20 4,
    resume := field b 24 4, temperature := BitVec.ofNat 32 (field b 28 4), topP := BitVec.ofNat 32 (field b 32 4), minP := BitVec.ofNat 32 (field b 36 4),
    repPenalty := BitVec.ofNat 32 (field b 40 4), repWindow := field b 44 2, topK := field b 46 1, stopCount := field b 47 1, seed := field b 48 8, resv := field b 56 8,
    stops := p.1, input := if nbit (field b 13 1) 0 then tokenWords p.2 else p.2 }

/-- The replay of a tenant changed. -/
def State.setReplay (s : State) (t : Nat) (f : Replay → Replay) : State := s.modMten t fun m => { m with replay := m.replay.map f }

/-- The channel on which a replay injects: that of no client, whose replies go nowhere (R429). -/
def replayConn (t : Nat) : Conn := { kind := .asx, phase := .up, tenant := t }

/-- The number of that channel for a recorded one. -/
def replayNumber (ch : Nat) : Nat := 2 ^ 32 + ch

/-- A recorded handle as the replay's own session has it. -/
def State.replayHandle (s : State) (h : Nat) : Option Nat → Nat
  | some i => s.handleOf i
  | none => h

/-- A recorded OPEN is injected, and the session it opens waits for its recorded handle to be named. -/
def State.injectOpen (s : State) (t ch : Nat) (b : Bytes) : State :=
  let before := (s.sessionsWhere Session.isOpen)
  let s := s.takeOpen (replayConn t) (replayNumber ch) false (field b 2 1 / 2 + 128 * field b 3 1) (field b 0 1) (field b 1 1) (nbit (field b 2 1) 0) (field b 4 4)
  match (s.sessionsWhere Session.isOpen).find? fun i => !before.contains i with
  | some i => s.setReplay t fun r => { r with opened := r.opened ++ [(ch, i)] }
  | none => s

/-- A recorded REQUEST is injected, a SEED of 0 replaced by the recorded one. -/
def State.injectRequest (s : State) (t ch : Nat) (r : Replay) (b : Bytes) : State :=
  let q := ReqBody.ofBytes b
  let seed := if q.seed = 0 then (match r.seeds.find? fun p => decide (p.1 = q.reqId) with | some p => p.2 | none => 0) else q.seed
  s.takeRequest (replayConn t) (replayNumber ch) false { q with session := s.replayHandle q.session (r.sessionOf ch q.session).1, seed := seed }

/-- A recorded client message is injected; messages of a handshake have no channel to act on. -/
def State.injectMsg (s : State) (t ch msg : Nat) (r : Replay) (b : Bytes) : State :=
  let k := replayConn t
  let n := replayNumber ch
  let h := field b 0 4
  let own := s.replayHandle h (r.sessionOf ch h).1
  match msg with
  | 0x10 => s.injectOpen t ch b
  | 0x12 => (s.setReplay t fun _ => (r.sessionOf ch h).2).takeAdapt k n false (field b 5 3) own (field b 4 1)
  | 0x13 => (s.setReplay t fun _ => (r.sessionOf ch h).2).takeClose k n false (field b 4 4) own
  | 0x14 => (s.setReplay t fun _ => { (r.sessionOf ch (field b 8 4)).2 with replayed := r.replayed + 1 }).injectRequest t ch r b
  | 0x15 => (s.setReplay t fun _ => (r.sessionOf ch h).2).takeCancel k n false (field b 4 4) own (field b 8 8)
  | _ => s

/-- One item of a recorded DICT_WRITE is applied where it is a readable setting of the tenant's own; others are reported. -/
def State.replayItem (s : State) (t : Nat) (it : Nat × Nat × Bytes) : State :=
  let skip := s.setReplay t fun r => { r with unapplied := r.unapplied + 1 }
  match Entry.find it.1 with
  | none => skip
  | some e =>
    if e.acc = 1 ∧ e.ten ≠ 0 ∧ e.tenant it.1 = t then
      let r := s.writeSetting 0 Conn.init e it.1 (unle it.2.2)
      if r.1 = Bdp.ok then r.2
      else if r.1 = Bdp.prepares then r.2.prepare { conn := replayNumber 0, txn := 0, epoch := 0 } 0 t [{ code := it.1, value := unle it.2.2 }]
      else s
    else skip

/-- Whether a record is a REQUEST whose session still has a request, so that its injection waits. -/
def State.injectionWaits (s : State) (r : Replay) (m : MRec) : Bool :=
  match m.body with
  | .inbound ch 0x14 b => (match (r.sessionOf ch (field b 8 4)).1 with | some i => (s.session i).live.isSome | none => false)
  | _ => false

/-- A record that has fallen due is injected, applied or reported; a SLOTS record that shows a change of model ends the replay. -/
def State.injectRecord (s : State) (t : Nat) (r : Replay) (m : MRec) : State :=
  match m.body with
  | .inbound ch msg b => s.injectMsg t ch msg r b
  | .dictWrite _ _ items => items.foldl (fun s it => s.replayItem t it) s
  | .slots info => if s.slotsMatch t info then s else s.setReplay t fun q => { q with todo := [], steps := [] }
  | _ => s.setReplay t fun q => { q with unapplied := q.unapplied + 1 }

/-- The session of the COLD record that comes next in a pinned replay, once no step of it runs. -/
def State.nextCold (s : State) (r : Replay) : Option Nat :=
  match r.steps with
  | m :: _ =>
    match m.body with
    | .cold h _ => (match mget 0 r.handles h with | 0 => some h | i + 1 => if (s.session i).state = .active then none else some h)
    | _ => none
  | [] => none

/-- The oldest record is due: its session, or its time and its session's requests, let it go. -/
def State.injectsNow (s : State) (r : Replay) (m : MRec) : Bool := decide (r.startAt + (m.mono - r.baseMono) ≤ s.now) && !s.injectionWaits r m

/-- A COLD record is enforced (R429). -/
def State.enforceCold (s : State) (t h : Nat) (r : Replay) : State :=
  let s := s.setReplay t fun q => { q with steps := q.steps.drop 1 }
  match mget 0 r.handles h with
  | 0 => s
  | i + 1 => if (s.session i).state = .idle then s.makeCold i 0 else s

/-- REPLAY_INJECT (R429). -/
def execReplayInject (tenant : Nat) (s : State) : Res :=
  match (s.mten tenant).replay with
  | none => .next s.unlisted
  | some r =>
    if !s.powered || r.stopping then .next s.unlisted
    else match s.nextCold r with
      | some h => .next (s.enforceCold tenant h r)
      | none =>
        match r.todo with
        | [] => .next s.unlisted
        | m :: l =>
          let q := { r with todo := l, lag := match m.body with | .inbound _ 0x14 _ => max r.lag (s.now - (r.startAt + (m.mono - r.baseMono))) | _ => r.lag }
          s.listed (s.injectsNow r m) ((s.setReplay tenant fun _ => q).injectRecord tenant q m)

end Sys2Proof.Machine
end

