-- ==== Sys2Proof/Machine/Streaming.lean ====
section
/-! DEFINITION. The commands of weight streaming: STREAM_ISSUE, TRANSFER_LAND, STREAM_LATE (R217..R227). -/

namespace Sys2Proof.Machine

/-- Engines of a cluster that have entries to issue. -/
def State.wanting (s : State) (c : Nat) : Nat := ((List.range 16).filter fun k => (s.engine (c * 16 + k)).wants).length

/-- The credits that an engine of a cluster may hold: floor(C / a) (R220). -/
def State.creditCap (s : State) (c : Nat) : Nat := s.streamRegions (s.clusterOwner c) * 256 / max 1 (s.wanting c)

/-- The stream whose entry an engine issues next: IMM operations first, then dispatch order (R221). -/
def Engine.nextStream (e : Engine) : Option Stream :=
  let l := e.streams.filter fun x => decide (x.next < x.list.length)
  match l.find? (·.imm) with
  | some x => some x
  | none => l.head?

/-- The channel that holds a block in DRAM. -/
def State.entryChannel (s : State) (t pod : Nat) (e : SEntry) : Nat × Nat := if e.pair then s.pairLocal t (pod / 16) e.src else s.spread t e.src

/-- An entry is issued: its credits are held and its transfer is outstanding. -/
def State.issueEntry (s : State) (pod : Nat) (x : Stream) (e : SEntry) : State :=
  let t : Xfer := { slot := x.slot, operand := x.operand, entry := x.next, credits := e.credits, bytes := e.octets, source := if e.ufs then 32 else (s.entryChannel x.tenant pod e).1 }
  let s := if e.ufs then s else s.wakeChan (s.entryChannel x.tenant pod e).1
  s.modEngine pod fun g => { g with
    streams := modFirst (fun y => decide (y.slot = x.slot ∧ y.operand = x.operand)) (fun y => { y with next := y.next + 1 }) g.streams,
    xfers := g.xfers ++ [t] }

/-- STREAM_ISSUE (R220, R221): with fewer than 6 transfers outstanding and the block's credits within the cap. -/
def execStreamIssue (pod : Nat) (s : State) : Res :=
  let g := s.engine pod
  match g.nextStream with
  | none => .next s.unlisted
  | some x =>
    match x.list[x.next]? with
    | none => .next s.unlisted
    | some e => s.listed (decide (g.outstanding < 6) && decide (g.held + e.credits ≤ s.creditCap (pod / 16))) (s.issueEntry pod x e)

/-- The cache lines that a block's read touches: weights allocate, KV pages and copies only hit (R207, R223). -/
def State.cacheBlock (s : State) (pod : Nat) (x : Stream) (e : SEntry) : State :=
  if e.ufs then s
  else (List.range (cdiv e.octets 128)).foldl (fun s i =>
    let p := s.entryChannel x.tenant pod { e with src := e.src + 128 * i }
    (s.cacheAccess x.tenant p.1 p.2 (!e.pair) false).1) s

/-- The wait of an operation whose last first block has landed is counted and ends (R226). -/
def State.endLate (s : State) (slot : Nat) : State :=
  match s.streams.lates.find? fun l => decide (l.slot = slot) with
  | none => s
  | some l =>
    if (s.streamsOf slot).any fun y => y.weight && !y.firstLanded then s
    else
      let t := match s.op slot with | some o => o.d.tenant | none => 0
      ({ s with streams := { s.streams with lates := s.streams.lates.filter fun l => decide (l.slot ≠ slot) } } : State).tcount t 0xAA00 4 (s.now - l.since)

/-- A block lands whole: it is usable, and counted where it is of a weight or a copy (R225, R228). -/
def State.landBlock (s : State) (pod : Nat) (x : Stream) (t : Xfer) : State :=
  let s := match x.list[t.entry]? with
    | some e => s.cacheBlock pod x e
    | none => s
  let s := s.modEngine pod fun g => { g with
    streams := g.streams.map fun y => if y.slot = t.slot ∧ y.operand = t.operand then { y with firstLanded := y.firstLanded || decide (t.entry = 0) } else y,
    xfers := g.xfers.map fun y => if y = t then { y with landed := true } else y }
  let s := if x.weight then (s.tcount x.tenant 0xAA00 1 1).tcount x.tenant 0xAA00 2 t.bytes else s
  let s := s.endLate t.slot
  match s.op t.slot with
  | some o => if o.phase = .started then s.modEngine pod fun g => g.consume t.slot else s
  | none => s

/-- A block that no operation will read lands: its credits return (R227). -/
def State.discardBlock (s : State) (pod : Nat) (t : Xfer) (tenant : Nat) : State :=
  (s.modEngine pod fun g => { g with xfers := dropFirst (fun y => decide (y = t)) g.xfers }).tcount tenant 0xAA00 6 1

/-- Whether a transfer may land now: those that the UFS host sends to a pod land in the order in which they were issued. A channel sends in the order in which it takes its reads, which R238 does not tie to the order of issue (R21; DEDUCED, log entry 38). -/
def Engine.mayLand (g : Engine) (t : Xfer) : Bool := decide (t.source ≠ 32) || decide (g.xfers.find? (fun y => decide (y.source = 32) && !y.landed) = some t)

/-- TRANSFER_LAND (R21, R22, R225, R227): a transfer whose tag is not of the tenant that owns the pod is discarded there and reported. -/
def execTransferLand (pod slot operand entry tagTenant : Nat) (s : State) : Res :=
  let g := s.engine pod
  match g.xfers.find? fun t => decide (t.slot = slot ∧ t.operand = operand ∧ t.entry = entry) && !t.landed with
  | none => .next s.unlisted
  | some t =>
    if !g.mayLand t then .next s.unlisted
    else if s.clusterOwner (pod / 16) ≠ tagTenant then
      .next ((s.modEngine pod fun g => { g with xfers := dropFirst (fun y => decide (y = t)) g.xfers }).discardXfer tagTenant (2 ^ 41 + pod * 2 ^ 16))
    else if t.discard then .next (s.discardBlock pod t tagTenant)
    else match g.streams.find? fun x => decide (x.slot = slot ∧ x.operand = operand) with
      | none => .next (s.discardBlock pod t tagTenant)
      | some x => .next (s.landBlock pod x t)

/-- STREAM_LATE (R226): the wait has reached 20 us. -/
def execStreamLate (slot : Nat) (s : State) : Res :=
  match s.streams.lates.find? fun l => decide (l.slot = slot) with
  | none => .next s.unlisted
  | some l =>
    s.listed (!l.counted && decide (20000 ≤ s.now - l.since))
      (({ s with streams := { s.streams with lates := s.streams.lates.map fun y => if y.slot = slot then { y with counted := true } else y } } : State).tcount
        (match s.op slot with | some o => o.d.tenant | none => 0) 0xAA00 3 1)

end Sys2Proof.Machine
end

