-- ==== Sys2Proof/Machine/Dispatch.lean ====
section
/-! DEFINITION. One arm for each command: a direct call of its meaning. -/

namespace Sys2Proof.Machine

def exec (i : Instr) (s : State) : Host.Outcome State Fault Refusal :=
  match i with
  | .vmvm slot => Sys2Proof.Machine.execVmvm slot s
  | .convertingSlotGrant arr => Sys2Proof.Machine.execConvertingSlotGrant arr s
  | .mvmComplete arr => Sys2Proof.Machine.execMvmComplete arr s
  | .columnBlockWrite op vec cb => Sys2Proof.Machine.execColumnBlockWrite op vec cb s
  | .stratumChangeDone arr => Sys2Proof.Machine.execStratumChangeDone arr s
  | .mvmSuspend arr => Sys2Proof.Machine.execMvmSuspend arr s
  | .mvmResume arr => Sys2Proof.Machine.execMvmResume arr s
  | .slotReturn arr => Sys2Proof.Machine.execSlotReturn arr s
  | .grantRecompute => Sys2Proof.Machine.execGrantRecompute s
  | .rateMonitorSample kHs roundNs => Sys2Proof.Machine.execRateMonitorSample kHs roundNs s
  | .testDueMvmCount arr => Sys2Proof.Machine.execTestDueMvmCount arr s
  | .testDueIdle stratum => Sys2Proof.Machine.execTestDueIdle stratum s
  | .testVectorComplete arr => Sys2Proof.Machine.execTestVectorComplete arr s
  | .writeSlotGrant stratum => Sys2Proof.Machine.execWriteSlotGrant stratum s
  | .eraseDone stratum => Sys2Proof.Machine.execEraseDone stratum s
  | .programDone stratum => Sys2Proof.Machine.execProgramDone stratum s
  | .verifyDone stratum ok => Sys2Proof.Machine.execVerifyDone stratum ok s
  | .dieEraseDone die bad => Sys2Proof.Machine.execDieEraseDone die bad s
  | .copyLoadDone stratum => Sys2Proof.Machine.execCopyLoadDone stratum s
  | .shadowOpComplete op stratum => Sys2Proof.Machine.execShadowOpComplete op stratum s
  | .fgemm slot => Sys2Proof.Machine.execFgemm slot s
  | .fattn slot => Sys2Proof.Machine.execFattn slot s
  | .drainSet pod set => Sys2Proof.Machine.execDrainSet pod set s
  | .podIdle pod => Sys2Proof.Machine.execPodIdle pod s
  | .vprog slot => Sys2Proof.Machine.execVprog slot s
  | .vAdd unit f => Sys2Proof.Machine.execVAdd unit f s
  | .vSub unit f => Sys2Proof.Machine.execVSub unit f s
  | .vMul unit f => Sys2Proof.Machine.execVMul unit f s
  | .vFma unit f => Sys2Proof.Machine.execVFma unit f s
  | .vMax unit f => Sys2Proof.Machine.execVMax unit f s
  | .vMin unit f => Sys2Proof.Machine.execVMin unit f s
  | .vAbs unit f => Sys2Proof.Machine.execVAbs unit f s
  | .vNeg unit f => Sys2Proof.Machine.execVNeg unit f s
  | .vMov unit f => Sys2Proof.Machine.execVMov unit f s
  | .vAdds unit f => Sys2Proof.Machine.execVAdds unit f s
  | .vSubs unit f => Sys2Proof.Machine.execVSubs unit f s
  | .vMuls unit f => Sys2Proof.Machine.execVMuls unit f s
  | .vFmas unit f => Sys2Proof.Machine.execVFmas unit f s
  | .vMaxs unit f => Sys2Proof.Machine.execVMaxs unit f s
  | .vMins unit f => Sys2Proof.Machine.execVMins unit f s
  | .vExp unit f => Sys2Proof.Machine.execVExp unit f s
  | .vLog unit f => Sys2Proof.Machine.execVLog unit f s
  | .vRcp unit f => Sys2Proof.Machine.execVRcp unit f s
  | .vRsq unit f => Sys2Proof.Machine.execVRsq unit f s
  | .vSig unit f => Sys2Proof.Machine.execVSig unit f s
  | .vTanh unit f => Sys2Proof.Machine.execVTanh unit f s
  | .vGelu unit f => Sys2Proof.Machine.execVGelu unit f s
  | .vSilu unit f => Sys2Proof.Machine.execVSilu unit f s
  | .vStat unit f => Sys2Proof.Machine.execVStat unit f s
  | .vNorm unit f => Sys2Proof.Machine.execVNorm unit f s
  | .vRope unit f => Sys2Proof.Machine.execVRope unit f s
  | .vQnt unit f => Sys2Proof.Machine.execVQnt unit f s
  | .vDqt unit f => Sys2Proof.Machine.execVDqt unit f s
  | .vMxq unit f => Sys2Proof.Machine.execVMxq unit f s
  | .vOscan unit f => Sys2Proof.Machine.execVOscan unit f s
  | .vEscf unit f => Sys2Proof.Machine.execVEscf unit f s
  | .vEmap unit f => Sys2Proof.Machine.execVEmap unit f s
  | .vQsite unit f => Sys2Proof.Machine.execVQsite unit f s
  | .vCorr unit f => Sys2Proof.Machine.execVCorr unit f s
  | .vWcorr unit f => Sys2Proof.Machine.execVWcorr unit f s
  | .vRsum unit f => Sys2Proof.Machine.execVRsum unit f s
  | .vRmax unit f => Sys2Proof.Machine.execVRmax unit f s
  | .vRmin unit f => Sys2Proof.Machine.execVRmin unit f s
  | .vRamx unit f => Sys2Proof.Machine.execVRamx unit f s
  | .vTopk unit f => Sys2Proof.Machine.execVTopk unit f s
  | .vTopki unit f => Sys2Proof.Machine.execVTopki unit f s
  | .vGath unit f => Sys2Proof.Machine.execVGath unit f s
  | .vScat unit f => Sys2Proof.Machine.execVScat unit f s
  | .vLd unit f => Sys2Proof.Machine.execVLd unit f s
  | .vSt unit f => Sys2Proof.Machine.execVSt unit f s
  | .vSet unit dst imm => Sys2Proof.Machine.execVSet unit dst imm s
  | .vSopAdd unit f => Sys2Proof.Machine.execVSopAdd unit f s
  | .vSopSub unit f => Sys2Proof.Machine.execVSopSub unit f s
  | .vSopMul unit f => Sys2Proof.Machine.execVSopMul unit f s
  | .vSopMax unit f => Sys2Proof.Machine.execVSopMax unit f s
  | .vSopRcp unit f => Sys2Proof.Machine.execVSopRcp unit f s
  | .vSopRsqrt unit f => Sys2Proof.Machine.execVSopRsqrt unit f s
  | .vEnd unit => Sys2Proof.Machine.execVEnd unit s
  | .kvscat slot => Sys2Proof.Machine.execKvscat slot s
  | .kvflush slot => Sys2Proof.Machine.execKvflush slot s
  | .kvPromote tenant page cluster => Sys2Proof.Machine.execKvPromote tenant page cluster s
  | .kvPreempt tenant => Sys2Proof.Machine.execKvPreempt tenant s
  | .pageMoveStart page toHot => Sys2Proof.Machine.execPageMoveStart page toHot s
  | .pageMoveSwitch page => Sys2Proof.Machine.execPageMoveSwitch page s
  | .pageSourceRelease page => Sys2Proof.Machine.execPageSourceRelease page s
  | .tableBuild tenant slot tensor => Sys2Proof.Machine.execTableBuild tenant slot tensor s
  | .tableRebuild tenant slot tensor => Sys2Proof.Machine.execTableRebuild tenant slot tensor s
  | .tableIdFree tenant table => Sys2Proof.Machine.execTableIdFree tenant table s
  | .serialRecovery slot tensor block => Sys2Proof.Machine.execSerialRecovery slot tensor block s
  | .blockReencode tenant slot tensor block => Sys2Proof.Machine.execBlockReencode tenant slot tensor block s
  | .expanderSelftestEnd disagreeing => Sys2Proof.Machine.execExpanderSelftestEnd disagreeing s
  | .stepInstantiate sessions => Sys2Proof.Machine.execStepInstantiate sessions s
  | .groupInstantiate run => Sys2Proof.Machine.execGroupInstantiate run s
  | .opDispatch slot => Sys2Proof.Machine.execOpDispatch slot s
  | .opComplete slot heldHs => Sys2Proof.Machine.execOpComplete slot heldHs s
  | .completionAccept slot => Sys2Proof.Machine.execCompletionAccept slot s
  | .opTimeout slot => Sys2Proof.Machine.execOpTimeout slot s
  | .moveOp slot => Sys2Proof.Machine.execMoveOp slot s
  | .routeOp slot => Sys2Proof.Machine.execRouteOp slot s
  | .corrOp slot => Sys2Proof.Machine.execCorrOp slot s
  | .corrAdd slot => Sys2Proof.Machine.execCorrAdd slot s
  | .syncOp slot => Sys2Proof.Machine.execSyncOp slot s
  | .cacheWays rq tenant value => Sys2Proof.Machine.execCacheWays rq tenant value s
  | .wayHandover slice way => Sys2Proof.Machine.execWayHandover slice way s
  | .csKvPages rq tenant value => Sys2Proof.Machine.execCsKvPages rq tenant value s
  | .dramSubQuota rq tenant which value => Sys2Proof.Machine.execDramSubQuota rq tenant which value s
  | .expertRebalanceCheck tenant slot layer => Sys2Proof.Machine.execExpertRebalanceCheck tenant slot layer s
  | .streamIssue pod => Sys2Proof.Machine.execStreamIssue pod s
  | .transferLand pod slot operand entry tagTenant => Sys2Proof.Machine.execTransferLand pod slot operand entry tagTenant s
  | .streamLate slot => Sys2Proof.Machine.execStreamLate slot s
  | .dramRead ch unit tenant imm op id flaw => Sys2Proof.Machine.execDramRead ch unit tenant imm op id flaw s
  | .dramWrite ch unit tenant data => Sys2Proof.Machine.execDramWrite ch unit tenant data s
  | .writeDrain ch => Sys2Proof.Machine.execWriteDrain ch s
  | .readRetry ch id => Sys2Proof.Machine.execReadRetry ch id s
  | .readRetryReturn ch good => Sys2Proof.Machine.execReadRetryReturn ch good s
  | .refresh ch pair busy => Sys2Proof.Machine.execRefresh ch pair busy s
  | .selfRefreshEntry ch => Sys2Proof.Machine.execSelfRefreshEntry ch s
  | .selfRefreshExit ch => Sys2Proof.Machine.execSelfRefreshExit ch s
  | .patrolScrub ch found => Sys2Proof.Machine.execPatrolScrub ch found s
  | .retrain ch temp => Sys2Proof.Machine.execRetrain ch temp s
  | .keyZeroise tenant => Sys2Proof.Machine.execKeyZeroise tenant s
  | .uploadBegin rq tenant kind slot bytes resv => Sys2Proof.Machine.execUploadBegin rq tenant kind slot bytes resv s
  | .uploadData rq tenant offset data img => Sys2Proof.Machine.execUploadData rq tenant offset data img s
  | .uploadEnd rq tenant => Sys2Proof.Machine.execUploadEnd rq tenant s
  | .uploadAbort rq tenant => Sys2Proof.Machine.execUploadAbort rq tenant s
  | .install rq tenant slot => Sys2Proof.Machine.execInstall rq tenant slot s
  | .swap rq tenant slot mode context resv => Sys2Proof.Machine.execSwap rq tenant slot mode context resv s
  | .remove rq tenant slot value => Sys2Proof.Machine.execRemove rq tenant slot value s
  | .checkPassEnd tenant slot => Sys2Proof.Machine.execCheckPassEnd tenant slot s
  | .installReady tenant slot => Sys2Proof.Machine.execInstallReady tenant slot s
  | .swapDrainDone tenant slot => Sys2Proof.Machine.execSwapDrainDone tenant slot s
  | .swapComplete tenant slot => Sys2Proof.Machine.execSwapComplete tenant slot s
  | .removeComplete tenant slot => Sys2Proof.Machine.execRemoveComplete tenant slot s
  | .adapterLoad rq tenant ad slot => Sys2Proof.Machine.execAdapterLoad rq tenant ad slot s
  | .adapterLoadDone tenant ad => Sys2Proof.Machine.execAdapterLoadDone tenant ad s
  | .adapterUnload rq tenant ad => Sys2Proof.Machine.execAdapterUnload rq tenant ad s
  | .adapterDelete rq tenant ad => Sys2Proof.Machine.execAdapterDelete rq tenant ad s
  | .datasetDelete rq tenant slot => Sys2Proof.Machine.execDatasetDelete rq tenant slot s
  | .trainStartNew rq tenant => Sys2Proof.Machine.execTrainStartNew rq tenant s
  | .trainResume rq tenant => Sys2Proof.Machine.execTrainResume rq tenant s
  | .trainStop rq tenant => Sys2Proof.Machine.execTrainStop rq tenant s
  | .trainStep tenant ok loss grads => Sys2Proof.Machine.execTrainStep tenant ok loss grads s
  | .checkpointLanded tenant => Sys2Proof.Machine.execCheckpointLanded tenant s
  | .modelReloadDone tenant slot => Sys2Proof.Machine.execModelReloadDone tenant slot s
  | .tcpConnect conn port number => Sys2Proof.Machine.execTcpConnect conn port number s
  | .clientHello conn version tenant nonce => Sys2Proof.Machine.execClientHello conn version tenant nonce s
  | .handshakeJobStart conn => Sys2Proof.Machine.execHandshakeJobStart conn s
  | .keyShare conn ciphertext => Sys2Proof.Machine.execKeyShare conn ciphertext s
  | .auth conn tagOk clientId maxClass expiry tag resv => Sys2Proof.Machine.execAuth conn tagOk clientId maxClass expiry tag resv s
  | .handshakeDeadline conn => Sys2Proof.Machine.execHandshakeDeadline conn s
  | .channelIdleExpiry conn => Sys2Proof.Machine.execChannelIdleExpiry conn s
  | .tcpConnectionEnd conn => Sys2Proof.Machine.execTcpConnectionEnd conn s
  | .openSession conn dgram resv slot adapter persistent ctag => Sys2Proof.Machine.execOpenSession conn dgram resv slot adapter persistent ctag s
  | .adapt conn dgram resv session adapter => Sys2Proof.Machine.execAdapt conn dgram resv session adapter s
  | .closeSession conn dgram resv session => Sys2Proof.Machine.execCloseSession conn dgram resv session s
  | .request conn dgram r => Sys2Proof.Machine.execRequest conn dgram r s
  | .cancel conn dgram resv session req => Sys2Proof.Machine.execCancel conn dgram resv session req s
  | .ping conn dgram value => Sys2Proof.Machine.execPing conn dgram value s
  | .unknownMsg conn dgram msg => Sys2Proof.Machine.execUnknownMsg conn dgram msg s
  | .requestDequeue tenant cls => Sys2Proof.Machine.execRequestDequeue tenant cls s
  | .queueTimeout session req => Sys2Proof.Machine.execQueueTimeout session req s
  | .sample session cands status => Sys2Proof.Machine.execSample session cands status s
  | .idleClose session => Sys2Proof.Machine.execIdleClose session s
  | .sessionIndexFree session => Sys2Proof.Machine.execSessionIndexFree session s
  | .outputBufferDrain conn bytes => Sys2Proof.Machine.execOutputBufferDrain conn bytes s
  | .watchdogExpire core => Sys2Proof.Machine.execWatchdogExpire core s
  | .ccRestart rq core => Sys2Proof.Machine.execCcRestart rq core s
  | .ccRestartDone core ok => Sys2Proof.Machine.execCcRestartDone core ok s
  | .fwBegin rq length => Sys2Proof.Machine.execFwBegin rq length s
  | .fwData rq offset data => Sys2Proof.Machine.execFwData rq offset data s
  | .fwEnd rq verified image => Sys2Proof.Machine.execFwEnd rq verified image s
  | .fwActivateRolling rq => Sys2Proof.Machine.execFwActivateRolling rq s
  | .fwActivateReset rq => Sys2Proof.Machine.execFwActivateReset rq s
  | .fwCommit rq => Sys2Proof.Machine.execFwCommit rq s
  | .fwRevert rq => Sys2Proof.Machine.execFwRevert rq s
  | .fwTrialWindowEnd => Sys2Proof.Machine.execFwTrialWindowEnd s
  | .leaseClaim rq => Sys2Proof.Machine.execLeaseClaim rq s
  | .leaseRenew rq epoch => Sys2Proof.Machine.execLeaseRenew rq epoch s
  | .leaseRelease rq epoch => Sys2Proof.Machine.execLeaseRelease rq epoch s
  | .leaseExpiry => Sys2Proof.Machine.execLeaseExpiry s
  | .graceExpiry => Sys2Proof.Machine.execGraceExpiry s
  | .portEnable rq port on => Sys2Proof.Machine.execPortEnable rq port on s
  | .media rq port value => Sys2Proof.Machine.execMedia rq port value s
  | .speeds rq port value => Sys2Proof.Machine.execSpeeds rq port value s
  | .linkUp port speed leader sqi => Sys2Proof.Machine.execLinkUp port speed leader sqi s
  | .linkDown port => Sys2Proof.Machine.execLinkDown port s
  | .cableTest rq port => Sys2Proof.Machine.execCableTest rq port s
  | .cableTestDone port result dm => Sys2Proof.Machine.execCableTestDone port result dm s
  | .frameReceive port f => Sys2Proof.Machine.execFrameReceive port f s
  | .frameTransmit port => Sys2Proof.Machine.execFrameTransmit port s
  | .datagramTxDrop port pcp => Sys2Proof.Machine.execDatagramTxDrop port pcp s
  | .sakInstall port an key => Sys2Proof.Machine.execSakInstall port an key s
  | .mkaPeerLost port => Sys2Proof.Machine.execMkaPeerLost port s
  | .mkaHello port live => Sys2Proof.Machine.execMkaHello port live s
  | .macMergeVerified port => Sys2Proof.Machine.execMacMergeVerified port s
  | .gcl rq port l resv => Sys2Proof.Machine.execGcl rq port l resv s
  | .gclSwitch port => Sys2Proof.Machine.execGclSwitch port s
  | .tc10SleepRequest port fromPartner accepted => Sys2Proof.Machine.execTc10SleepRequest port fromPartner accepted s
  | .tc10AckTimeout port => Sys2Proof.Machine.execTc10AckTimeout port s
  | .tc10Wake port => Sys2Proof.Machine.execTc10Wake port s
  | .peerDelay port delay => Sys2Proof.Machine.execPeerDelay port delay s
  | .gptpSync port time bmca utc => Sys2Proof.Machine.execGptpSync port time bmca utc s
  | .disciplineLoss => Sys2Proof.Machine.execDisciplineLoss s
  | .tcpUserTimeout conn => Sys2Proof.Machine.execTcpUserTimeout conn s
  | .tcpRetransmissionTimeout conn => Sys2Proof.Machine.execTcpRetransmissionTimeout conn s
  | .plcaBeacon received => Sys2Proof.Machine.execPlcaBeacon received s
  | .bdpConnect conn port number => Sys2Proof.Machine.execBdpConnect conn port number s
  | .bdpAuth conn tagOk keyId sigOk resv => Sys2Proof.Machine.execBdpAuth conn tagOk keyId sigOk resv s
  | .bdpRead rq b => Sys2Proof.Machine.execBdpRead rq b s
  | .bdpWrite rq b => Sys2Proof.Machine.execBdpWrite rq b s
  | .bdpSnapshot rq b => Sys2Proof.Machine.execBdpSnapshot rq b s
  | .badMessage conn msg => Sys2Proof.Machine.execBadMessage conn msg s
  | .registerWrite rq item => Sys2Proof.Machine.execRegisterWrite rq item s
  | .profileEdit rq profile items => Sys2Proof.Machine.execProfileEdit rq profile items s
  | .profileSelect rq profile => Sys2Proof.Machine.execProfileSelect rq profile s
  | .profileApply => Sys2Proof.Machine.execProfileApply s
  | .factoryReset rq value => Sys2Proof.Machine.execFactoryReset rq value s
  | .bdpEventSend conn => Sys2Proof.Machine.execBdpEventSend conn s
  | .tenantForm rq tenant => Sys2Proof.Machine.execTenantForm rq tenant s
  | .tenantActivate rq tenant => Sys2Proof.Machine.execTenantActivate rq tenant s
  | .tenantRemove rq tenant nonce => Sys2Proof.Machine.execTenantRemove rq tenant nonce s
  | .removalOpsCancelled tenant => Sys2Proof.Machine.execRemovalOpsCancelled tenant s
  | .removalXfersDone tenant aborted => Sys2Proof.Machine.execRemovalXfersDone tenant aborted s
  | .scrubPartDone tenant part => Sys2Proof.Machine.execScrubPartDone tenant part s
  | .receiptSigned tenant => Sys2Proof.Machine.execReceiptSigned tenant s
  | .ufsPurgeDone => Sys2Proof.Machine.execUfsPurgeDone s
  | .envelope rq tenant value => Sys2Proof.Machine.execEnvelope rq tenant value s
  | .principalKeyWrite rq code key => Sys2Proof.Machine.execPrincipalKeyWrite rq code key s
  | .debugUnlock rq sigOk => Sys2Proof.Machine.execDebugUnlock rq sigOk s
  | .trngFail => Sys2Proof.Machine.execTrngFail s
  | .powerRequestRestartTimers rq => Sys2Proof.Machine.execPowerRequestRestartTimers rq s
  | .powerRequestSleep rq => Sys2Proof.Machine.execPowerRequestSleep rq s
  | .powerRequestDeepSleep rq => Sys2Proof.Machine.execPowerRequestDeepSleep rq s
  | .powerRequestOff rq => Sys2Proof.Machine.execPowerRequestOff rq s
  | .idleEntry => Sys2Proof.Machine.execIdleEntry s
  | .idleExit => Sys2Proof.Machine.execIdleExit s
  | .sleepAfterExpiry => Sys2Proof.Machine.execSleepAfterExpiry s
  | .deepAfterExpiry => Sys2Proof.Machine.execDeepAfterExpiry s
  | .entryProgress => Sys2Proof.Machine.execEntryProgress s
  | .entryAbort code port tenant => Sys2Proof.Machine.execEntryAbort code port tenant s
  | .wakeEvent code => Sys2Proof.Machine.execWakeEvent code s
  | .returnComplete => Sys2Proof.Machine.execReturnComplete s
  | .vcoreLoop powers rate => Sys2Proof.Machine.execVcoreLoop powers rate s
  | .thermalSample tj => Sys2Proof.Machine.execThermalSample tj s
  | .throttleStep => Sys2Proof.Machine.execThrottleStep s
  | .thermalTrip tj => Sys2Proof.Machine.execThermalTrip tj s
  | .thermalShutdown tj => Sys2Proof.Machine.execThermalShutdown tj s
  | .faultAck rq seq => Sys2Proof.Machine.execFaultAck rq seq s
  | .eventSubscribe rq mask => Sys2Proof.Machine.execEventSubscribe rq mask s
  | .fatalReset => Sys2Proof.Machine.execFatalReset s
  | .countersClear rq group => Sys2Proof.Machine.execCountersClear rq group s
  | .mirrorConsent rq tenant value => Sys2Proof.Machine.execMirrorConsent rq tenant value s
  | .mirrorKey rq tenant key => Sys2Proof.Machine.execMirrorKey rq tenant key s
  | .mirrorFlush rq tenant => Sys2Proof.Machine.execMirrorFlush rq tenant s
  | .segmentExport tenant => Sys2Proof.Machine.execSegmentExport tenant s
  | .mirrorTimeRecord tenant => Sys2Proof.Machine.execMirrorTimeRecord tenant s
  | .mirrorPowerRecord tenant => Sys2Proof.Machine.execMirrorPowerRecord tenant s
  | .mirrorGet conn tenant fileSeq offset len resv => Sys2Proof.Machine.execMirrorGet conn tenant fileSeq offset len resv s
  | .replayStart rq tenant first last mode resv => Sys2Proof.Machine.execReplayStart rq tenant first last mode resv s
  | .replayStop rq tenant => Sys2Proof.Machine.execReplayStop rq tenant s
  | .replayInject tenant => Sys2Proof.Machine.execReplayInject tenant s
  | .replayEnd tenant => Sys2Proof.Machine.execReplayEnd tenant s
  | .resetAssert => Sys2Proof.Machine.execResetAssert s
  | .coldStart b => Sys2Proof.Machine.execColdStart b s
  | .serviceReady => Sys2Proof.Machine.execServiceReady s
  | .wakePin => Sys2Proof.Machine.execWakePin s
  | .brownout => Sys2Proof.Machine.execBrownout s
  | .aonLoss => Sys2Proof.Machine.execAonLoss s
  | .calAlarmDue => Sys2Proof.Machine.execCalAlarmDue s
  | .calAlarm rq value => Sys2Proof.Machine.execCalAlarm rq value s
  | .calSet rq value => Sys2Proof.Machine.execCalSet rq value s
  | .ppsPulse => Sys2Proof.Machine.execPpsPulse s
  | .extest cells => Sys2Proof.Machine.execExtest cells s
  | .idcode => Sys2Proof.Machine.execIdcode s
  | .samplePreload cells captured => Sys2Proof.Machine.execSamplePreload cells captured s
  | .commission key reserved => Sys2Proof.Machine.execCommission key reserved s
  | .bypass bit => Sys2Proof.Machine.execBypass bit s
  | .calendarLost => Sys2Proof.Machine.execCalendarLost s

end Sys2Proof.Machine
end

