-- ==== Sys2Proof/Machine/Tick.lean ====
section
/-! DEFINITION. What happens when no command waits: a command held for a control core, or behind a preparing write, runs once it may, and otherwise time passes by one nanosecond (DESIGN CHOICE, log entry 3). -/

namespace Sys2Proof.Machine

/-! ### Held commands (R305, R355) -/

/-- The place of the held command that runs next: the first that need not wait any longer (R301). -/
def State.readyAt (s : State) : Option Nat :=
  if s.powered then
    (List.range s.held.length).find? fun i =>
      match s.held[i]? with
      | none => false
      | some c => !s.waitsBehind (s.held.take i) (s.held.drop (i + 1)) c
  else none

/-- A transaction of a connection waits no longer. -/
def State.unwait (s : State) (conn : Nat) : State :=
  s.modConn conn fun o => o.map fun c => { c with waiting := c.waiting - 1 }

/-- A connection that has ended goes with its last transaction (R345). -/
def State.dropEnded (s : State) (conn : Nat) : State :=
  s.modConn conn fun o => o.bind fun c => if c.phase = .closed ∧ c.waiting = 0 ∧ c.out = [] then none else some c

/-- The state in which a held command runs: those before it still wait. -/
def State.beginHeld (s : State) (i : Nat) (c : Instr) : State :=
  let t := { s with held := s.held.take i }
  match reqOf c with
  | none => t
  | some r => { (t.unwait r.conn) with dict := { t.dict with serving := some r.conn } }

/-- After a held command the younger ones wait again; a reset has discarded them. -/
def State.endHeld (t : State) (c : Instr) (rest : List Instr) : State :=
  let t := { t with held := if t.powered then t.held ++ rest else t.held }
  match reqOf c with
  | none => t
  | some r => let t := t.dropEnded r.conn; { t with dict := { t.dict with serving := none } }

/-- A held command runs. -/
def State.runHeld (s : State) (i : Nat) : Res :=
  match s.held[i]? with
  | none => .next s
  | some c =>
    match exec c (s.beginHeld i c) with
    | .next t => .next (t.endHeld c (s.held.drop (i + 1)))
    | .fault f => .fault f
    | .refused f => .refused f

/-! ### Writes that wait for preparation (R354) -/

/-- The DRAM_KV that a write would lower binds its tenant no longer. -/
def State.dropPending (s : State) (items : List PrepItem) : State :=
  items.foldl (fun s i => if i.code / 4096 = 0x811 ∧ i.code % 256 = 2 then s.modKvPending (i.code / 256 % 16) fun _ => none else s) s

/-- One value of a waiting write: its checks again, and its effect. -/
def State.prepOne (s : State) (conn : Nat) (it : Item) : Nat × State :=
  match Entry.find it.code with
  | none => (Bdp.noObject, s)
  | some e => s.writeSetting conn ((s.conn conn).getD Conn.init) e it.code it.value

/-- A waiting write ends: its answer goes out, where a principal awaits one. -/
def State.endPrep (s : State) (p : PrepWrite) (st failed : Nat) : State :=
  let codes := p.items.map (·.code)
  let rq : Rq := { conn := p.conn, txn := p.txn, epoch := p.epoch }
  let s : State := { s with dict := { s.dict with prep := dropFirst (fun q => decide (q = p)) s.dict.prep } }
  if p.principal = 0 then s
  else ((if st = Bdp.ok then s.respond rq Bdp.ok 0xFF (writeItems codes 0xFF Bdp.ok) else s.refuse rq st failed (writeItems codes failed st)).unwait p.conn).dropEnded p.conn

/-- A write that waits is tried: all its values change at once when its preparation is done (R354). -/
def State.tryPrep (s : State) (p : PrepWrite) : State :=
  let items : List Item := p.items.map fun i => { code := i.code, ty := 0, len := 0, value := i.value, resv := false }
  let f := s.dropPending p.items
  let r := writeAll (fun it s => s.prepOne p.conn it) 0 items false f
  if r.status ≠ Bdp.ok then f.endPrep p r.status r.failed
  else if r.waits then p.items.foldl (fun s i => prepareItem s i.code i.value) s
  else (r.state.mirrorWrite p.principal p.epoch (p.items.map fun i => (i.code, i.value))).endPrep p Bdp.ok 0xFF

/-- The waiting writes are tried, oldest first, while CC7 runs. -/
def State.prepStep (s : State) : State := if s.coreUp 7 then s.dict.prep.foldl State.tryPrep s else s

/-! ### Time (R449..R451) -/

/-- Whether monotonic time runs: in every state except OFF, from step 1 of a start-up on (R450). -/
def State.monoRuns (s : State) : Bool := decide (s.power.state ≠ .off) && (decide (s.power.state ≠ .held) || s.clk.starting)

/-- The slewed part of a nanosecond: 100 ppm is one in 10,000 (R451). -/
def Clk.slewStep (c : Clk) : Clk :=
  if c.slew = 0 ∨ c.mono % 10000 ≠ 0 then c
  else if 0 < c.slew then { c with cal := c.cal + 1, slew := c.slew - 1 }
  else { c with cal := c.cal - 1, slew := c.slew + 1 }

/-- The clocks count one nanosecond; a lost calendar waits for the next start-up (R452). -/
def State.tickClock (s : State) : State :=
  let c := { s.clk with mono := if s.monoRuns then s.clk.mono + 1 else s.clk.mono, cal := if s.clk.calLost then s.clk.cal else s.clk.cal + 1 }
  { s with clk := if s.monoRuns then c.slewStep else c }

/-- The counts of power states (R395, R396), and THROTTLE_NS (R411). -/
def State.tickPower (s : State) : State :=
  let busy := s.dataWork
  let s := s.modPower fun p =>
    { p with runNs := if p.state = .run then p.runNs + 1 else p.runNs, idleSince := if p.state = .run ∧ busy = true then s.now else p.idleSince,
             sleepCount := if p.state = .idle then p.sleepCount + 1 else p.sleepCount, deepCount := if p.state = .sleep then p.deepCount + 1 else p.deepCount }
  if s.power.thermState ≠ 0 then s.count 0xA033 1 1 else s

/-- The lease and its grace run down, but not while CC0 or CC7 restarts (R309, R403); so does the trial of a firmware image (R308). -/
def State.tickControl (s : State) : State :=
  let runs := s.countsRun && decide ((s.core 0).state = .running) && decide ((s.core 7).state = .running)
  s.modCtl fun c => { c with
    lease := if runs && decide (c.lease.state ≠ .unattended) then { c.lease with remaining := c.lease.remaining - 1 } else c.lease
    trialLeft := if c.fwState = .trial then c.trialLeft - 1 else c.trialLeft }

/-- The operating gate list of a port moves on (R331). -/
def Port.tickGates (p : Port) : Port :=
  if p.gcl.entries = [] then p
  else if 1 < p.gateLeft then { p with gateLeft := p.gateLeft - 1 }
  else
    let i := (p.gateIdx + 1) % p.gcl.entries.length
    { p with gateIdx := i, gateLeft := ((p.gcl.entries[i]?).getD Gate.init).interval }

/-- Ports: gate lists move on, and CC0 processes the frames that came while it did not run (R305). -/
def State.tickPorts (s : State) : State :=
  let s := [0, 1].foldl (fun s p => s.modPort p Port.tickGates) s
  if s.coreUp 0 then [0, 1, 2].foldl (fun s p => if (s.port p).rxList = [] then s else s.drainIngress p) s else s

/-- A microsecond's ramp of every die begins (R25). R25 does not say over which microsecond the 16 raises or falls count, nor whether a raise and a fall within it cancel: the model takes the fixed microseconds of monotonic time and the net change within each (DESIGN CHOICE, log entry 76). -/
def State.tickDies (s : State) : State :=
  if s.clk.mono % 1000 = 0 then { s with vault := { s.vault with dies := mmap .init (fun _ d => { d with raised := 0, lowered := 0 }) s.vault.dies } } else s

/-- The wait of every MVM that waits for a converting slot alone grows (R74), and CC4 goes on loading the copies that are wanted (R86). -/
def State.tickVault (s : State) : State :=
  let s := (mkeys s.vault.arrays).foldl (fun s k => match s.slotWaiter k with
    | some m => if m.test.isNone then s.tcount m.tenant 0xA200 6 1 else s
    | none => s) s
  if s.coreUp 4 && s.testsRun then s.loadDue else s

/-- CC3 keeps the cluster stores to CS_KV_PAGES and STREAM_REGIONS: surplus hot pages leave as their reads end and DRAM takes them, and hot copies give way (R199, R216). -/
def State.tickStores (s : State) : State :=
  if s.coreUp 3 && s.testsRun then
    (List.range 8).foldl (fun s i => (s.clusterList (i + 1)).foldl (fun s c => State.trimCopies (i + 1) c 6 s) (s.trimHot (i + 1))) s
  else s

/-- The queued reads of the active channels issue (R238). -/
def State.tickDram (s : State) : State := (mkeys s.dram.channels).foldl (fun s k => if (s.chan k).state = .active then s.issueRead k else s) s

/-- One nanosecond passes. -/
def State.tick (s : State) : State :=
  let s := s.tickClock
  if s.powered then (((((((s.tickPower).tickControl).tickPorts).tickDies).tickVault).tickStores).tickDram).deliver.prepStep else s

end Sys2Proof.Machine
end

