-- ==== Sys2Proof/Safety.lean ====
section
/-! DEFINITION. What counts as a safe state and a safe run, in the terms that claims use. -/

namespace Sys2Proof

open Machine

/-- A state whose memory stands in its canonical form. -/
def Safe (s : State) : Prop := Memory.wf s.mem = true

/-- One step leads from a state to another. -/
def StepsTo (s t : State) : Prop := step s = .next t

/-- The states that a run of some steps from `s` reaches. -/
inductive Reaches : State → State → Prop where
  | refl (s : State) : Reaches s s
  | step {s t u : State} : Reaches s t → StepsTo t u → Reaches s u

end Sys2Proof
end

