-- ==== Sys2Proof/WellFormed.lean ====
section
/-! DEFINITION. Which commands name things that the block has: every operand that numbers a resource is in the range the spec gives that resource. -/

namespace Sys2Proof

open Machine

/-- Whether a number is a tenant number 1..8 (R369). -/
def okTenant (t : Nat) : Bool := decide (1 ≤ t) && decide (t ≤ 8)

/-- Whether a number is a tenant number or 0, the system domain (R369). -/
def okDomain (t : Nat) : Bool := decide (t ≤ 8)

/-- Whether a number is a pod, and its vector unit, of 256 (R15). -/
def okPod (p : Nat) : Bool := decide (p < 256)

/-- Whether a number is an array of 32,768 (R15). -/
def okArray (a : Nat) : Bool := decide (a < 32768)

/-- Whether a number is an 18-bit stratum address (R93). -/
def okStratum (a : Nat) : Bool := decide (a < 262144)

/-- Whether a number is a vault die of 32 (R15). -/
def okDie (d : Nat) : Bool := decide (d < 32)

/-- Whether a number is a port: HP0, HP1 or MP (R322). -/
def okPort (p : Nat) : Bool := decide (p < 3)

/-- Whether a number is a session index of 4,096 (R289). -/
def okSession (i : Nat) : Bool := decide (i < 4096)

/-- Whether a number is a cluster of 16 (R15). -/
def okCluster (c : Nat) : Bool := decide (c < 16)

/-- Whether a number is a DRAM channel of 32 (R230). -/
def okChannel (c : Nat) : Bool := decide (c < 32)

/-- Whether a number is an accumulator set of 32 (R105). -/
def okSet (n : Nat) : Bool := decide (n < 32)

/-- Whether a number is a bank pair of 16, rank * 8 + b (R243). -/
def okPair (n : Nat) : Bool := decide (n < 16)

/-- Whether a number is a cache slice of 8 (R207). -/
def okSlice (n : Nat) : Bool := decide (n < 8)

/-- Whether a number is a cache way of 32 (R207). -/
def okWay (n : Nat) : Bool := decide (n < 32)

/-- Whether a number is a control core of 8 (R24). -/
def okCore (k : Nat) : Bool := decide (k < 8)

/-- Whether a number is an adapter slot of 16 (R270). -/
def okAdapter (n : Nat) : Bool := decide (n < 16)

/-- Whether a number is an association number of 2 (R326). -/
def okAn (n : Nat) : Bool := decide (n < 2)

/-- Whether a number is an egress queue of 8 (R330). -/
def okPcp (n : Nat) : Bool := decide (n < 8)

/-- Whether a number is a work-queue slot of 16,384 (R172). -/
def okOpSlot (n : Nat) : Bool := decide (n < 16384)

/-- Whether a number is a model slot, or dataset slot, of 4 (R256). -/
def okModelSlot (n : Nat) : Bool := decide (n < 4)

/-- Whether the fields of a vector instruction word fit it (R115). -/
def okVF (f : VF) : Bool := decide (f.cnt < 4096) && decide (f.dst < 4096) && decide (f.spa < 2) && decide (f.addra < 8192) && decide (f.srcb < 4096) && decide (f.mod < 64)

/-- A well-formed command. -/
def Instr.wellFormed : Instr → Bool
  | .vmvm slot => okOpSlot slot
  | .convertingSlotGrant arr => okArray arr
  | .mvmComplete arr => okArray arr
  | .columnBlockWrite op _ _ => okOpSlot op
  | .stratumChangeDone arr => okArray arr
  | .mvmSuspend arr => okArray arr
  | .mvmResume arr => okArray arr
  | .slotReturn arr => okArray arr
  | .grantRecompute => true
  | .rateMonitorSample _ _ => true
  | .testDueMvmCount arr => okArray arr
  | .testDueIdle stratum => okStratum stratum
  | .testVectorComplete arr => okArray arr
  | .writeSlotGrant stratum => okStratum stratum
  | .eraseDone stratum => okStratum stratum
  | .programDone stratum => okStratum stratum
  | .verifyDone stratum _ => okStratum stratum
  | .dieEraseDone die _ => okDie die
  | .copyLoadDone stratum => okStratum stratum
  | .shadowOpComplete op stratum => okOpSlot op && okStratum stratum
  | .fgemm slot => okOpSlot slot
  | .fattn slot => okOpSlot slot
  | .drainSet pod set => okPod pod && okSet set
  | .podIdle pod => okPod pod
  | .vprog slot => okOpSlot slot
  | .vAdd unit f => okPod unit && okVF f
  | .vSub unit f => okPod unit && okVF f
  | .vMul unit f => okPod unit && okVF f
  | .vFma unit f => okPod unit && okVF f
  | .vMax unit f => okPod unit && okVF f
  | .vMin unit f => okPod unit && okVF f
  | .vAbs unit f => okPod unit && okVF f
  | .vNeg unit f => okPod unit && okVF f
  | .vMov unit f => okPod unit && okVF f
  | .vAdds unit f => okPod unit && okVF f
  | .vSubs unit f => okPod unit && okVF f
  | .vMuls unit f => okPod unit && okVF f
  | .vFmas unit f => okPod unit && okVF f
  | .vMaxs unit f => okPod unit && okVF f
  | .vMins unit f => okPod unit && okVF f
  | .vExp unit f => okPod unit && okVF f
  | .vLog unit f => okPod unit && okVF f
  | .vRcp unit f => okPod unit && okVF f
  | .vRsq unit f => okPod unit && okVF f
  | .vSig unit f => okPod unit && okVF f
  | .vTanh unit f => okPod unit && okVF f
  | .vGelu unit f => okPod unit && okVF f
  | .vSilu unit f => okPod unit && okVF f
  | .vStat unit f => okPod unit && okVF f
  | .vNorm unit f => okPod unit && okVF f
  | .vRope unit f => okPod unit && okVF f
  | .vQnt unit f => okPod unit && okVF f
  | .vDqt unit f => okPod unit && okVF f
  | .vMxq unit f => okPod unit && okVF f
  | .vOscan unit f => okPod unit && okVF f
  | .vEscf unit f => okPod unit && okVF f
  | .vEmap unit f => okPod unit && okVF f
  | .vQsite unit f => okPod unit && okVF f
  | .vCorr unit f => okPod unit && okVF f
  | .vWcorr unit f => okPod unit && okVF f
  | .vRsum unit f => okPod unit && okVF f
  | .vRmax unit f => okPod unit && okVF f
  | .vRmin unit f => okPod unit && okVF f
  | .vRamx unit f => okPod unit && okVF f
  | .vTopk unit f => okPod unit && okVF f
  | .vTopki unit f => okPod unit && okVF f
  | .vGath unit f => okPod unit && okVF f
  | .vScat unit f => okPod unit && okVF f
  | .vLd unit f => okPod unit && okVF f
  | .vSt unit f => okPod unit && okVF f
  | .vSet unit _ _ => okPod unit
  | .vSopAdd unit f => okPod unit && okVF f
  | .vSopSub unit f => okPod unit && okVF f
  | .vSopMul unit f => okPod unit && okVF f
  | .vSopMax unit f => okPod unit && okVF f
  | .vSopRcp unit f => okPod unit && okVF f
  | .vSopRsqrt unit f => okPod unit && okVF f
  | .vEnd unit => okPod unit
  | .kvscat slot => okOpSlot slot
  | .kvflush slot => okOpSlot slot
  | .kvPromote tenant _ cluster => okTenant tenant && okCluster cluster
  | .kvPreempt tenant => okTenant tenant
  | .pageMoveStart _ _ => true
  | .pageMoveSwitch _ => true
  | .pageSourceRelease _ => true
  | .tableBuild tenant slot _ => okTenant tenant && okModelSlot slot
  | .tableRebuild tenant slot _ => okTenant tenant && okModelSlot slot
  | .tableIdFree tenant _ => okTenant tenant
  | .serialRecovery slot _ _ => okOpSlot slot
  | .blockReencode tenant slot _ _ => okTenant tenant && okModelSlot slot
  | .expanderSelftestEnd _ => true
  | .stepInstantiate _ => true
  | .groupInstantiate _ => true
  | .opDispatch slot => okOpSlot slot
  | .opComplete slot _ => okOpSlot slot
  | .completionAccept slot => okOpSlot slot
  | .opTimeout slot => okOpSlot slot
  | .moveOp slot => okOpSlot slot
  | .routeOp slot => okOpSlot slot
  | .corrOp slot => okOpSlot slot
  | .corrAdd slot => okOpSlot slot
  | .syncOp slot => okOpSlot slot
  | .cacheWays _ tenant _ => okTenant tenant
  | .wayHandover slice way => okSlice slice && okWay way
  | .csKvPages _ tenant _ => okTenant tenant
  | .dramSubQuota _ tenant _ _ => okTenant tenant
  | .expertRebalanceCheck tenant slot _ => okTenant tenant && okModelSlot slot
  | .streamIssue pod => okPod pod
  | .transferLand pod slot _ _ _ => okPod pod && okOpSlot slot
  | .streamLate slot => okOpSlot slot
  | .dramRead ch unit tenant _ _ _ _ => okChannel ch && okPod unit && okDomain tenant
  | .dramWrite ch unit tenant _ => okChannel ch && okPod unit && okDomain tenant
  | .writeDrain ch => okChannel ch
  | .readRetry ch _ => okChannel ch
  | .readRetryReturn ch _ => okChannel ch
  | .refresh ch pair _ => okChannel ch && okPair pair
  | .selfRefreshEntry ch => okChannel ch
  | .selfRefreshExit ch => okChannel ch
  | .patrolScrub ch _ => okChannel ch
  | .retrain ch _ => okChannel ch
  | .keyZeroise tenant => okTenant tenant
  | .uploadBegin _ tenant _ slot _ _ => okTenant tenant && okModelSlot slot
  | .uploadData _ tenant _ _ _ => okTenant tenant
  | .uploadEnd _ tenant => okTenant tenant
  | .uploadAbort _ tenant => okTenant tenant
  | .install _ tenant slot => okTenant tenant && okModelSlot slot
  | .swap _ tenant slot _ _ _ => okTenant tenant && okModelSlot slot
  | .remove _ tenant slot _ => okTenant tenant && okModelSlot slot
  | .checkPassEnd tenant slot => okTenant tenant && okModelSlot slot
  | .installReady tenant slot => okTenant tenant && okModelSlot slot
  | .swapDrainDone tenant slot => okTenant tenant && okModelSlot slot
  | .swapComplete tenant slot => okTenant tenant && okModelSlot slot
  | .removeComplete tenant slot => okTenant tenant && okModelSlot slot
  | .adapterLoad _ tenant ad slot => okTenant tenant && okAdapter ad && okModelSlot slot
  | .adapterLoadDone tenant ad => okTenant tenant && okAdapter ad
  | .adapterUnload _ tenant ad => okTenant tenant && okAdapter ad
  | .adapterDelete _ tenant ad => okTenant tenant && okAdapter ad
  | .datasetDelete _ tenant slot => okTenant tenant && okModelSlot slot
  | .trainStartNew _ tenant => okTenant tenant
  | .trainResume _ tenant => okTenant tenant
  | .trainStop _ tenant => okTenant tenant
  | .trainStep tenant _ _ _ => okTenant tenant
  | .checkpointLanded tenant => okTenant tenant
  | .modelReloadDone tenant slot => okTenant tenant && okModelSlot slot
  | .tcpConnect _ port _ => okPort port
  | .clientHello _ _ _ _ => true
  | .handshakeJobStart _ => true
  | .keyShare _ _ => true
  | .auth _ _ _ _ _ _ _ => true
  | .handshakeDeadline _ => true
  | .channelIdleExpiry _ => true
  | .tcpConnectionEnd _ => true
  | .openSession _ _ _ slot _ _ _ => okModelSlot slot
  | .adapt _ _ _ _ _ => true
  | .closeSession _ _ _ _ => true
  | .request _ _ _ => true
  | .cancel _ _ _ _ _ => true
  | .ping _ _ _ => true
  | .unknownMsg _ _ _ => true
  | .requestDequeue tenant _ => okTenant tenant
  | .queueTimeout session _ => okSession session
  | .sample session _ _ => okSession session
  | .idleClose session => okSession session
  | .sessionIndexFree session => okSession session
  | .outputBufferDrain _ _ => true
  | .watchdogExpire core => okCore core
  | .ccRestart _ _ => true
  | .ccRestartDone core _ => okCore core
  | .fwBegin _ _ => true
  | .fwData _ _ _ => true
  | .fwEnd _ _ _ => true
  | .fwActivateRolling _ => true
  | .fwActivateReset _ => true
  | .fwCommit _ => true
  | .fwRevert _ => true
  | .fwTrialWindowEnd => true
  | .leaseClaim _ => true
  | .leaseRenew _ _ => true
  | .leaseRelease _ _ => true
  | .leaseExpiry => true
  | .graceExpiry => true
  | .portEnable _ port _ => okPort port
  | .media _ port _ => okPort port
  | .speeds _ port _ => okPort port
  | .linkUp port _ _ _ => okPort port
  | .linkDown port => okPort port
  | .cableTest _ port => okPort port
  | .cableTestDone port _ _ => okPort port
  | .frameReceive port _ => okPort port
  | .frameTransmit port => okPort port
  | .datagramTxDrop port pcp => okPort port && okPcp pcp
  | .sakInstall port an _ => okPort port && okAn an
  | .mkaPeerLost port => okPort port
  | .mkaHello port _ => okPort port
  | .macMergeVerified port => okPort port
  | .gcl _ port _ _ => okPort port
  | .gclSwitch port => okPort port
  | .tc10SleepRequest port _ _ => okPort port
  | .tc10AckTimeout port => okPort port
  | .tc10Wake port => okPort port
  | .peerDelay port _ => okPort port
  | .gptpSync port _ _ _ => okPort port
  | .disciplineLoss => true
  | .tcpUserTimeout _ => true
  | .tcpRetransmissionTimeout _ => true
  | .plcaBeacon _ => true
  | .bdpConnect _ port _ => okPort port
  | .bdpAuth _ _ _ _ _ => true
  | .bdpRead _ _ => true
  | .bdpWrite _ _ => true
  | .bdpSnapshot _ _ => true
  | .badMessage _ _ => true
  | .registerWrite _ _ => true
  | .profileEdit _ _ _ => true
  | .profileSelect _ _ => true
  | .profileApply => true
  | .factoryReset _ _ => true
  | .bdpEventSend _ => true
  | .tenantForm _ tenant => okTenant tenant
  | .tenantActivate _ tenant => okTenant tenant
  | .tenantRemove _ tenant _ => okTenant tenant
  | .removalOpsCancelled tenant => okTenant tenant
  | .removalXfersDone tenant _ => okTenant tenant
  | .scrubPartDone tenant _ => okTenant tenant
  | .receiptSigned tenant => okTenant tenant
  | .ufsPurgeDone => true
  | .envelope _ tenant _ => okTenant tenant
  | .principalKeyWrite _ _ _ => true
  | .debugUnlock _ _ => true
  | .trngFail => true
  | .powerRequestRestartTimers _ => true
  | .powerRequestSleep _ => true
  | .powerRequestDeepSleep _ => true
  | .powerRequestOff _ => true
  | .idleEntry => true
  | .idleExit => true
  | .sleepAfterExpiry => true
  | .deepAfterExpiry => true
  | .entryProgress => true
  | .entryAbort _ _ _ => true
  | .wakeEvent _ => true
  | .returnComplete => true
  | .vcoreLoop _ _ => true
  | .thermalSample _ => true
  | .throttleStep => true
  | .thermalTrip _ => true
  | .thermalShutdown _ => true
  | .faultAck _ _ => true
  | .eventSubscribe _ _ => true
  | .fatalReset => true
  | .countersClear _ _ => true
  | .mirrorConsent _ tenant _ => okTenant tenant
  | .mirrorKey _ tenant _ => okTenant tenant
  | .mirrorFlush _ tenant => okTenant tenant
  | .segmentExport tenant => okTenant tenant
  | .mirrorTimeRecord tenant => okTenant tenant
  | .mirrorPowerRecord tenant => okTenant tenant
  | .mirrorGet _ _ _ _ _ _ => true
  | .replayStart _ tenant _ _ _ _ => okTenant tenant
  | .replayStop _ tenant => okTenant tenant
  | .replayInject tenant => okTenant tenant
  | .replayEnd tenant => okTenant tenant
  | .resetAssert => true
  | .coldStart _ => true
  | .serviceReady => true
  | .wakePin => true
  | .brownout => true
  | .aonLoss => true
  | .calAlarmDue => true
  | .calAlarm _ _ => true
  | .calSet _ _ => true
  | .ppsPulse => true
  | .extest _ => true
  | .idcode => true
  | .samplePreload _ _ => true
  | .commission _ _ => true
  | .bypass _ => true
  | .calendarLost => true

end Sys2Proof
end

