-- ==== Sys2Proof/Certificates/Slice0/Obligations.lean ====
section
/-! DEFINITION. The statements for the provers: what each command does when the state lists it, what it leaves alone, and what holds of every step. -/

open Sys2Proof Sys2Proof.Machine

/-- Every place that the operands of an operation name, with the octets that it must have, exists. -/
def Claims.Placed (s : State) (o : Op) (hs : List (Handle × Nat)) : Prop :=
  ∀ h ∈ hs, ∀ d, s.tensor o h.1 = some d → s.tensorFault o h.1 d h.2 = none

/-- No pass fills a set that an instruction reads (R117, R118). -/
def Claims.Ready (s : State) (unit : Nat) (sets : List Nat) : Prop := ∀ k ∈ sets, mget .free (s.pod unit).setState k ≠ .filling

/-- The program of a unit goes on after an instruction, and no other unit changes. -/
def Claims.Advanced (s t : State) (unit : Nat) (r : Running) : Prop :=
  (t.unit unit).running.map (·.pc) = some (r.pc + 1) ∧ ∀ u, u ≠ unit → t.unit u = s.unit u

/-- Bit `k` of a vector buffer, numbered from bit 0 of word 0. -/
def Claims.bit (u : VecUnit) (k : Nat) : Nat := u.bits 0 k 1

/-- A packed run of `n` codes of `bits` bits stands at word `dst` of a unit's buffer, and no bit of the buffer outside the run differs from `old`. -/
def Claims.RunIs (old new : VecUnit) (dst bits n : Nat) (code : Nat → Nat) : Prop :=
  (∀ i, i < n → new.bits dst (i * bits) bits = code i % 2 ^ bits) ∧
  (∀ k, k < 131072 → (k < dst * 32 ∨ dst * 32 + n * bits ≤ k) → Claims.bit new k = Claims.bit old k)

/-- Words stand from word `dst` of a unit's buffer on, and no other word of the buffer differs from `old`. -/
def Claims.WordsAre (old new : VecUnit) (dst : Nat) (ws : List (BitVec 32)) : Prop :=
  (∀ i (h : i < ws.length), new.word (dst + i) = ws[i]) ∧ (∀ a, (a < dst ∨ dst + ws.length ≤ a) → new.word a = old.word a)

/-- An element-wise instruction whose second operand is a run: the run at DST holds `g a b d` of every element, narrowed to the format of MOD bit 0; the scalars stay. -/
def Claims.EwRuns (c : Instr) (unit opc : Nat) (f : VF) (g : Val → Val → Val → Val) : Prop :=
  ∀ (s : State) (r : Running), s.nextWord unit (f.encode opc) = some r → Claims.Ready s unit f.setsRead →
    f.dst * 32 + f.n * f.ewFmt.bits ≤ 131072 →
    ∃ t, exec c s = .next t ∧ Claims.Advanced s t unit r ∧ (t.unit unit).sc = (s.unit unit).sc ∧
      Claims.RunIs (s.unit unit) (t.unit unit) f.dst f.ewFmt.bits f.n
        (fun i => (narrow f.ewFmt (g (s.srcVal unit f f.ewFmt i) (s.srcB unit f i) (s.dstVal unit f i))).code)

/-- The same with the scalar that SRCB names for every second operand. -/
def Claims.EwScalarRuns (c : Instr) (unit opc : Nat) (f : VF) (g : Val → Val → Val → Val) : Prop :=
  ∀ (s : State) (r : Running), s.nextWord unit (f.encode opc) = some r → Claims.Ready s unit f.setsRead →
    f.dst * 32 + f.n * f.ewFmt.bits ≤ 131072 →
    ∃ t, exec c s = .next t ∧ Claims.Advanced s t unit r ∧ (t.unit unit).sc = (s.unit unit).sc ∧
      Claims.RunIs (s.unit unit) (t.unit unit) f.dst f.ewFmt.bits f.n
        (fun i => (narrow f.ewFmt (g (s.srcVal unit f f.ewFmt i) (f32 ((s.unit unit).scalar f.scB)) (s.dstVal unit f i))).code)

/-- An instruction that writes the words `ws` at DST, when they fit, and leaves the scalars. -/
def Claims.WritesWords (c : Instr) (unit opc : Nat) (f : VF) (sets : List Nat) (ws : State → List (BitVec 32)) : Prop :=
  ∀ (s : State) (r : Running), s.nextWord unit (f.encode opc) = some r → Claims.Ready s unit sets →
    f.dst + (ws s).length ≤ 4096 →
    ∃ t, exec c s = .next t ∧ Claims.Advanced s t unit r ∧ (t.unit unit).sc = (s.unit unit).sc ∧
      Claims.WordsAre (s.unit unit) (t.unit unit) f.dst (ws s)

/-- An instruction that changes only scalar registers of its unit: the scalar table after it is `sc`. -/
def Claims.WritesScalars (c : Instr) (unit opc : Nat) (f : VF) (sets : List Nat) (sc : State → SMap (BitVec 32)) : Prop :=
  ∀ (s : State) (r : Running), s.nextWord unit (f.encode opc) = some r → Claims.Ready s unit sets →
    ∃ t, exec c s = .next t ∧ Claims.Advanced s t unit r ∧ (t.unit unit).sc = sc s ∧ (t.unit unit).buf = (s.unit unit).buf

/-- A reduction: along the whole run it writes SC[DST] alone, along rows or columns one word for each group from DST on. -/
def Claims.Reduces (c : Instr) (unit opc : Nat) (f : VF) (g : List (Nat × BitVec 32) → BitVec 32) : Prop :=
  (f.mod % 4 = 2 → Claims.WritesScalars c unit opc f f.setsRead (fun s => ((s.unit unit).setScalar f.scD (g (s.srcWords unit f))).sc)) ∧
  (f.mod % 4 < 2 → Claims.WritesWords c unit opc f f.setsRead (fun s => (axisGroups (f.mod % 4) f.n (s.srcWords unit f)).map g))

/-- A selection: the values of the k selected elements from DST on, their indices from DST + k on; every word outside the 2k words stays. -/
def Claims.Selects (c : Instr) (unit opc : Nat) (f : VF) (xs : State → List (Nat × BitVec 32)) : Prop :=
  ∀ (s : State) (r : Running), s.nextWord unit (f.encode opc) = some r → Claims.Ready s unit f.setsRead → f.dst + 2 * (f.mod + 1) ≤ 4096 →
    ∃ t, exec c s = .next t ∧ Claims.Advanced s t unit r ∧ (t.unit unit).sc = (s.unit unit).sc ∧
      (∀ i (h : i < (topK (f.mod + 1) (xs s)).length),
        (t.unit unit).word (f.dst + i) = (topK (f.mod + 1) (xs s))[i].2 ∧
        (t.unit unit).word (f.dst + f.mod + 1 + i) = BitVec.ofNat 32 (topK (f.mod + 1) (xs s))[i].1) ∧
      ∀ a, (a < f.dst ∨ f.dst + 2 * (f.mod + 1) ≤ a) → (t.unit unit).word a = (s.unit unit).word a

/-- A scalar operation: SC[DST] becomes `g` of SC[DST] and SC[SRCB]. -/
def Claims.ScalarOp (c : Instr) (unit code : Nat) (f : VF) (g : BitVec 32 → BitVec 32 → BitVec 32) : Prop :=
  f.mod = code → Claims.WritesScalars c unit 0x71 f []
    (fun s => ((s.unit unit).setScalar f.scD (g ((s.unit unit).scalar f.scD) ((s.unit unit).scalar f.scB))).sc)

/-- The unit of a vector instruction that neither loads, stores nor ends a program, and whether it releases accumulator sets. -/
def Claims.vecOf : Instr → Option (Nat × Bool)
  | .vAdd u f | .vSub u f | .vMul u f | .vFma u f | .vMax u f | .vMin u f | .vAbs u f | .vNeg u f | .vMov u f
  | .vAdds u f | .vSubs u f | .vMuls u f | .vFmas u f | .vMaxs u f | .vMins u f
  | .vExp u f | .vLog u f | .vRcp u f | .vRsq u f | .vSig u f | .vTanh u f | .vGelu u f | .vSilu u f
  | .vStat u f | .vNorm u f | .vRope u f | .vQnt u f | .vDqt u f | .vMxq u f | .vOscan u f | .vEmap u f | .vQsite u f
  | .vCorr u f | .vWcorr u f | .vRsum u f | .vRmax u f | .vRmin u f | .vRamx u f | .vScat u f => some (u, f.mbit 5)
  | .vEscf u _ | .vTopk u _ | .vTopki u _ | .vGath u _ | .vSet u _ _
  | .vSopAdd u _ | .vSopSub u _ | .vSopMul u _ | .vSopMax u _ | .vSopRcp u _ | .vSopRsqrt u _ => some (u, false)
  | _ => none

/-- The device is on and a command that needs control cores need not wait: the cores run and nothing that it must follow waits (R305, R355). -/
def Claims.Up (s : State) (c : Instr) : Prop := s.powered = true ∧ s.mustHold c = false

/-- Command `i`, a write of entry `code` by the request `rq`, reaches the entry's own rule: its BDP channel `c` is established and on, nothing makes it wait, the lease lets it pass, and checks 1 to 3 of R352 give OK. -/
def Claims.Reaches (s : State) (i : Instr) (rq : Rq) (c : Conn) (code : Nat) : Prop :=
  s.conn rq.conn = some c ∧ c.kind = .bdp ∧ c.phase = .up ∧ Claims.Up s i ∧ leasePre rq code c s = Bdp.ok ∧ c.itemStatus code true = Bdp.ok

/-- The next state of a command that is accepted: its effect `t`, then the result record, the Mirror records and the answer with `status`. -/
def Claims.Accepts (s : State) (i : Instr) (rq : Rq) (c : Conn) (code status value : Nat) (t : State) : Prop :=
  exec i s = .next (t.accept rq c.principalCode code status value)

/-- A transaction of several kinds runs: its BDP channel `c` is established and on, nothing makes it wait, its own checks of R351 give OK, and a write names no vendor test entry that unlocked debug access opens. -/
def Claims.Transacts (s : State) (i : Instr) (rq : Rq) (c : Conn) (b : BdpBody) (write : Bool) : Prop :=
  s.conn rq.conn = some c ∧ c.kind = .bdp ∧ c.phase = .up ∧ Claims.Up s i ∧ txnPre rq b write c s = Bdp.ok ∧ (write = true → ∀ it ∈ b.items, s.vendorNamed it.code = false)

/-- For every command c and every state with c at the front of its queue, the step is exec of c on the state with the rest of the queue. (The queue of waiting commands is the model's own, log entry 3.) Rules: 00_scope.md. -/
def Obligations.StepFront : Prop :=
  ∀ (s : State) (c : Instr) (rest : List Instr), s.pending = c :: rest → Machine.step s = Machine.exec c { s with pending := rest }

/-- For every state and operands that meet the conditions named, VMVM, CONVERTING_SLOT_GRANT, MVM_COMPLETE, COLUMN_BLOCK_WRITE and STRATUM_CHANGE_DONE each answer exactly the next state shown: a dispatched VMVM whose operands' places exist starts and queues its MVMs; an array that may convert takes a slot and begins; a completed MVM of an array gives its slot back, counts itself and ends; a column block whose row-blocks have all arrived is dequantised and written; a stratum change selects its stratum. Nothing but what that state shows changes. Rules: 03_weight_vault.md R71, 03_weight_vault.md R65, 03_weight_vault.md R66, 03_weight_vault.md R68, 09_execution_plans.md R176. -/
def Obligations.VaultMatrixCommandsRun : Prop :=
  (∀ (s : State) (slot : Nat) (o : Op) (first count rbs vecs : Nat) (inFmt : Nat) (ind : Bool) (tok rs : Nat),
    s.opIn slot .vmvm .dispatched = some o → o.d.k = .vmvm first count rbs vecs inFmt ind tok rs →
    Claims.Placed s o [(o.d.opA, (vecs * (s.vmvmProj o).2.inputs * (if (Kspec.vmvm first count rbs vecs inFmt ind tok rs).vmvmInput.1 = .int4 then 4 else 8) + 7) / 8 + 4 * vecs),
      (o.d.opC, vecs * outLength (s.vmvmProj o).2 * 4)] →
    exec (.vmvm slot) s = .next (((s.startOp slot).queueVmvm slot o first count rbs vecs).vmvmCheck slot)) ∧
  (∀ (s : State) (arr : Nat) (m : Mvm), s.nextOn arr = some m → s.mayConvert arr = true →
    exec (.convertingSlotGrant arr) s =
      .next ((s.takeSlot arr m.tenant).modArray arr fun a => a.begin m)) ∧
  (∀ (s : State) (arr : Nat) (m : Mvm) (p : Nat), (s.array arr).running = some m → m.test = none → (s.array arr).slotOf = some p →
    s.slotFalls (dieOf (8 * arr)) = true →
    exec (.mvmComplete arr) s =
      .next ((((s.dropSlot arr).countMvm m).endMvm arr (m.planesRun (s.stratum m.stratum) s.trust.fresh m.nextPlane)).drawn)) ∧
  (∀ (s : State) (op vec cb : Nat) (o : Op) (c : ColSum), s.opIn op .vmvm .started = some o → s.sumOf op vec cb = some c →
    c.waiting = 0 → 0 < c.arrived → c.written = false →
    exec (.columnBlockWrite op vec cb) s =
      .next ((((({ s with vault := { s.vault with sums := modFirst (fun x => decide (x = c)) (fun x => { x with written := true, banks := [] }) s.vault.sums } } : State).writeBlock
        o vec cb c.results).ocount o 0xA100 1 ((c.resultsF.map (·.clamps)).sum)).ocount o 0xA900 7 (if s.crosses o c then 1 else 0)).releaseHolds.vmvmCheck op)) ∧
  (∀ (s : State) (arr k : Nat), (s.array arr).changing = some k →
    exec (.stratumChangeDone arr) s = .next (s.modArray arr fun a => ({ a with selected := k, changing := none, resuming := false }).advance))

/-- For every state and operands that meet the conditions named, MVM_SUSPEND, MVM_RESUME, SLOT_RETURN, GRANT_RECOMPUTE and RATE_MONITOR_SAMPLE each answer exactly the next state shown: the running MVM that gives way ends its plane, gives its slot back, waits suspended and is counted, and one that waits for a slot again gives way without a plane; a suspended MVM takes a slot and runs again; an array that borrows its slot, or that a fall of the grant or of its payer's share reaches, gives it back at the end of a plane, and one with nothing running gives it back; the grant follows the budget; the measured round time is stored, and the handshake rate as the rate rule holds it. Nothing but what that state shows changes. Rules: 03_weight_vault.md R69, 03_weight_vault.md R71, 01_engine_overview.md R8. -/
def Obligations.VaultSlotCommandsRun : Prop :=
  (∀ (s : State) (arr : Nat) (m : Mvm), (s.array arr).running = some m → (s.array arr).maySuspend = true →
    ((s.array arr).slotOf.isSome = true → s.slotFalls (dieOf (8 * arr)) = true →
      exec (.mvmSuspend arr) s =
        .next ((((s.dropSlot arr).modArray arr fun a =>
          ({ a with running := none, suspended := some { (m.plane (s.stratum m.stratum) s.trust.fresh) with resumed := true } } : VArray).advance).tcount m.tenant 0xA200 5 1).drawn)) ∧
    ((s.array arr).slotOf = none →
      exec (.mvmSuspend arr) s =
        .next ((s.modArray arr fun a => ({ a with running := none, suspended := some { m with resumed := true } } : VArray).advance).tcount m.tenant 0xA200 5 1))) ∧
  (∀ (s : State) (arr : Nat) (m : Mvm), (s.array arr).suspended = some m → (s.array arr).free = true → (s.array arr).running = none →
    (s.array arr).selected = m.stratum % 8 → (∀ x ∈ (s.array arr).queue, x.imm = false) → s.slotFree (dieOf (8 * arr)) = true → (s.payer m.tenant).isSome = true →
    exec (.mvmResume arr) s = .next ((s.takeSlot arr m.tenant).modArray arr fun a => { a with running := some m, suspended := none })) ∧
  (∀ (s : State) (arr p : Nat) (m : Mvm), (s.array arr).running = some m → (s.array arr).slotOf = some p → 2 ≤ m.nextPlane →
    ((p ≠ m.tenant ∧ s.slotWaits p = true) ∨ s.vault.grant < s.convertingCount ∨
      (s.grantShare p < s.slotsPaid p ∧ ∃ u, 1 ≤ u ∧ u ≤ 8 ∧ s.underShare u = true ∧ s.slotWaits u = true)) → s.slotFalls (dieOf (8 * arr)) = true →
    exec (.slotReturn arr) s =
      .next (((s.dropSlot arr).modArray arr fun a => { a with running := some (m.plane (s.stratum m.stratum) s.trust.fresh) }).drawn)) ∧
  (∀ (s : State) (arr p : Nat), (s.array arr).running = none → (s.array arr).slotOf = some p → s.slotFalls (dieOf (8 * arr)) = true →
    exec (.slotReturn arr) s = .next ((s.dropSlot arr).modArray arr VArray.advance)) ∧
  (∀ s : State, s.powered = true → exec .grantRecompute s = .next { s with vault := { s.vault with grant := s.grantOf } }) ∧
  (∀ (s : State) (kHs roundNs : Nat), s.powered = true →
    exec (.rateMonitorSample kHs roundNs) s =
      .next { s with vault := { s.vault with roundNs := roundNs }, power := { s.power with hsRate := s.power.heldRate kHs } })

/-- For every state and operands that meet the conditions named, TEST_DUE_MVM_COUNT, TEST_DUE_IDLE and TEST_VECTOR_COMPLETE each answer exactly the next state shown: a test becomes due on the array after 4,096 MVMs, on a LIT stratum after 10 s without a test, and a completed test gives the slot back, clears what was due and records its deviation. Nothing but what that state shows changes. Rules: 04_vault_upkeep.md R77, 04_vault_upkeep.md R78, 04_vault_upkeep.md R79. -/
def Obligations.VaultTestCommandsRun : Prop :=
  (∀ (s : State) (arr : Nat), 4096 ≤ (s.array arr).sinceTest → (s.array arr).countDue = false →
    (s.stratum (arr * 8 + (s.array arr).selected)).state = .lit → (s.power.state = .run ∨ s.power.state = .idle) →
    exec (.testDueMvmCount arr) s = .next (s.modArray arr fun a => ({ a with countDue := true }).advance)) ∧
  (∀ (s : State) (k : Nat), (s.stratum k).state = .lit → 10000000000 ≤ s.now - (s.stratum k).lastTest →
    k ∉ (s.array (k / 8)).testDue → (s.power.state = .run ∨ s.power.state = .idle) →
    exec (.testDueIdle k) s = .next (s.modArray (k / 8) fun a => ({ a with testDue := a.testDue ++ [k] }).advance)) ∧
  (∀ (s : State) (arr p k : Nat) (m : Mvm), (s.array arr).running = some m → m.test = some k → (s.array arr).slotOf = some p →
    s.slotFalls (dieOf (8 * arr)) = true →
    exec (.testVectorComplete arr) s =
      .next (((((s.dropSlot arr).modArray arr fun a =>
        ({ a with running := none, sinceTest := 0, countDue := false, testDue := a.testDue.filter (· ≠ m.stratum) } : VArray).advance).drawn).tested
          m.stratum m.tenant (testDeviation (s.stratum m.stratum) m.stratum s.trust.fresh k))))

/-- For every state and operands that meet the conditions named, WRITE_SLOT_GRANT, ERASE_DONE, PROGRAM_DONE, VERIFY_DONE, DIE_ERASE_DONE, COPY_LOAD_DONE and SHADOW_OP_COMPLETE each answer exactly the next state shown. ERASE_DONE, PROGRAM_DONE and VERIFY_DONE need the stratum in the state ERASING, PROGRAMMING or VERIFYING and its array writing it. Nothing but what that state shows changes. Rules: 04_vault_upkeep.md R81, 04_vault_upkeep.md R83, 04_vault_upkeep.md R90, 04_vault_upkeep.md R88. -/
def Obligations.VaultWriteCommandsRun : Prop :=
  (∀ (s : State) (k : Nat) (r : WriteReq), Claims.Up s (.writeSlotGrant k) → s.nextWrite (dieOf k) = some r → r.stratum = k →
    writeListed (s.stratum k) r.kind = true → exec (.writeSlotGrant k) s = .next (s.beginWrite r)) ∧
  (∀ (s : State) (k : Nat), (s.stratum k).state = .erasing → (s.array (k / 8)).writing = some k → exec (.eraseDone k) s = .next (s.eraseDone k)) ∧
  (∀ (s : State) (k : Nat) (w : WContent), (s.stratum k).state = .programming → (s.array (k / 8)).writing = some k → (s.stratum k).target = some w →
    exec (.programDone k) s =
      .next (s.modStratum k fun x => { x with state := .verifying, programs := x.programs + 1, enc := (s.copyOf w).enc, cells := (s.copyOf w).cells, scales := (s.copyOf w).scales, check := checkTable (s.copyOf w).cells })) ∧
  (∀ (s : State) (k : Nat) (ok : Bool), (s.stratum k).state = .verifying → (s.array (k / 8)).writing = some k →
    exec (.verifyDone k ok) s = .next (if ok then (s.verifyTests k ok).nowLit k else (s.verifyTests k ok).verifyFailed k)) ∧
  (∀ (s : State) (die : Nat) (bad : List Nat), (s.die die).dieErase = true →
    exec (.dieEraseDone die bad) s =
      .next ((s.endDieErase die bad).modRemoval (s.dieOwner die) fun o => o.map fun (r : Removal) => r.dieDone die (s.retiring die bad).length)) ∧
  (∀ (s s1 : State) (k : Nat), Claims.Up s (.copyLoadDone k) → (s.stratum k).copyLoading = true →
    s1 = (s.modStratum k fun x => { x with copyIn := true, copyLoading := false, copyAge := s.now, copyAt := x.copyAt.map fun c => { c with addr := k, gen := (x.anyContent.getD WContent.init).gen } }) →
    exec (.copyLoadDone k) s =
      .next (({ s1 with vault := { s1.vault with shadows := s.vault.shadows.map fun o => if o.stratum = k then { o with arrived := true } else o } } : State).repin k)) ∧
  (∀ (s : State) (op k pod : Nat) (o : Op) (x : ShadowOp), s.opIn op .vmvm .started = some o →
    s.vault.shadows.find? (fun x => decide (x.op = op ∧ x.stratum = k) && x.pod.isSome) = some x → x.pod = some pod →
    s.shadowReady op x.content.cb x.vecs = true → s.copyStreamed op k = true → x.vecs.length ≤ (s.pod pod).freeSets.length →
    exec (.shadowOpComplete op k) s =
      .next ((((x.vecs.foldl (fun s v => s.shadowAdd op o x.content v) (s.runShadow x pod o.d.tenant)).dropShadow x o.d.tenant).keepHot x pod o.d.tenant).placeShadows.vmvmCheck op))

/-- For every state and operands that meet the conditions named, FGEMM, DRAIN_SET, POD_IDLE and FATTN each answer exactly the next state shown: a dispatched FGEMM or FATTN starts on its pod when the pod can take it and its operands' places exist, and runs as its pod's sets allow; a full set is written to the result and freed; a pod whose cores have stopped becomes idle. A FATTN that its pod can run writes, for each query row, the sums, the maximum and the divisor of its key range, and counts its time. Nothing but what those states show changes. Rules: 05_matrix_fabric.md R99, 05_matrix_fabric.md R104, 05_matrix_fabric.md R105, 05_matrix_fabric.md R106, 07_attention_and_kv_cache.md R131. -/
def Obligations.FabricCommandsRun : Prop :=
  (∀ (s : State) (slot : Nat) (o : Op) (m n k : Nat) (sh : Shape) (i : Nat) (accIn back : Bool),
    s.opIn slot .fgemm .dispatched = some o → o.d.k.gemm = some (m, n, k, sh, i, accIn, back) → s.podOpen o = true →
    Claims.Placed s o [(o.d.opA, 1), (o.d.opB, 1), (o.d.opC, 1)] →
    exec (.fgemm slot) s = .next (((((s.startOp slot).joinPod slot o (passesOf sh i m n)).meetBlocks slot o).runPod o.podOf).fabCheck slot o)) ∧
  (∀ (s : State) (pod set : Nat) (o : Op) (m n k : Nat) (sh : Shape) (i : Nat) (accIn back : Bool),
    s.op (mget 0 (s.pod pod).setOwner set - 1) = some o → o.d.k.gemm = some (m, n, k, sh, i, accIn, back) →
    mget .free (s.pod pod).setState set = .full →
    exec (.drainSet pod set) s =
      .next (((((s.writeSet o (mget false (s.pod pod).setInt set) accIn (s.setWords pod set m n sh i)).modPod pod fun q => q.drop set).drawn).runPod pod).fabCheck
        (mget 0 (s.pod pod).setOwner set - 1) o)) ∧
  (∀ (s : State) (pod : Nat), pod < 256 → (s.pod pod).stopped = true → (s.pod pod).idle = false →
    exec (.podIdle pod) s = .next (s.modPod pod fun q => { q with idle := true })) ∧
  (∀ (s : State) (slot : Nat) (o : Op) (head g first keys pre : Nat) (run : StepRun),
    s.opIn slot .fattn .dispatched = some o → o.d.k = .fattn head g first keys pre → s.run o.run = some run → s.podOpen o = true →
    Claims.Placed s o [(o.d.opA, 1), (o.d.opC, (o.member * 16 + (o.range + 1)) * (run.attRows g * ((s.kvShape o.d.session).2.2 + 2) * 4))] →
    exec (.fattn slot) s =
      .next (((((s.startOp slot).joinPod slot o 1).holdPages slot o.d.session (s.opTemplate o).layer
        (s.rangePages o.d.session (s.opTemplate o).layer (s.opKeys o run))).meetBlocks slot o).runPod o.podOf)) ∧
  (∀ (s : State) (slot : Nat) (o : Op) (head g first keys pre : Nat) (run : StepRun) (f : FabOp) (td : TDesc),
    s.op slot = some o → o.d.kind = .fattn → o.d.k = .fattn head g first keys pre → s.run o.run = some run →
    (s.pod o.podOf).ops.find? (fun f => decide (f.slot = slot)) = some f → f.poisoned = false → f.passes < f.total →
    max 1 (s.opTemplate o).inter ≤ (s.pod o.podOf).freeSets.length → (∀ r ∈ s.exp.recovering, r.slot ≠ slot) →
    s.tensor o o.d.opC = some td →
    s.runOne slot =
      (((((s.wakePod o.podOf o.d.tenant).countAtt o run g (s.opKeys o run) (s.valueClamps o (s.opTemplate o).layer head (s.opKeys o run))
        ((List.range (run.attRows g)).map (s.attRow o (s.opTemplate o) run head g pre (s.opKeys o run)))).putWords o o.d.opC td
          ((o.member * 16 + o.range) * (run.attRows g * ((s.kvShape o.d.session).2.2 + 2) * 4))
          (((List.range (run.attRows g)).map (s.attRow o (s.opTemplate o) run head g pre (s.opKeys o run))).flatMap fun a => a.o ++ [a.m, a.l])).modPod o.podOf
            fun q => { q with ops := q.ops.map fun f => if f.slot = slot then { f with passes := f.total } else f }).fabCheck slot o))

/-- For every state in which a unit's next program word is an element-wise instruction (ADD, SUB, MUL, FMA, MAX, MIN, ABS, NEG, MOV, ADDS, SUBS, MULS, FMAS, MAXS, MINS), every set it reads is not being filled, and the run at DST fits the buffer, the command answers a next state in which the run at DST holds the instruction's result of every element in the format of MOD bit 0, every other bit of the buffer, the scalars and every other unit are unchanged, and the program has gone on one word. Rules: 06_vector_engine.md R116, 06_vector_engine.md R112, 02_number_formats.md R38. -/
def Obligations.VectorArithmeticResult : Prop :=
  (∀ (unit : Nat) (f : VF), Claims.EwRuns (.vAdd unit f) unit 0x01 f (fun a b _ => a.add b)) ∧
  (∀ (unit : Nat) (f : VF), Claims.EwRuns (.vSub unit f) unit 0x02 f (fun a b _ => a.sub b)) ∧
  (∀ (unit : Nat) (f : VF), Claims.EwRuns (.vMul unit f) unit 0x03 f (fun a b _ => a.mul b)) ∧
  (∀ (unit : Nat) (f : VF), Claims.EwRuns (.vFma unit f) unit 0x04 f (fun a b d => (a.mul b).add d)) ∧
  (∀ (unit : Nat) (f : VF), Claims.EwRuns (.vMax unit f) unit 0x05 f (fun a b _ => a.max b)) ∧
  (∀ (unit : Nat) (f : VF), Claims.EwRuns (.vMin unit f) unit 0x06 f (fun a b _ => a.min b)) ∧
  (∀ (unit : Nat) (f : VF), Claims.EwRuns (.vAbs unit f) unit 0x07 f (fun a _ _ => a.abs)) ∧
  (∀ (unit : Nat) (f : VF), Claims.EwRuns (.vNeg unit f) unit 0x08 f (fun a _ _ => a.neg)) ∧
  (∀ (unit : Nat) (f : VF), Claims.EwRuns (.vMov unit f) unit 0x09 f (fun a _ _ => a)) ∧
  (∀ (unit : Nat) (f : VF), Claims.EwScalarRuns (.vAdds unit f) unit 0x11 f (fun a b _ => a.add b)) ∧
  (∀ (unit : Nat) (f : VF), Claims.EwScalarRuns (.vSubs unit f) unit 0x12 f (fun a b _ => a.sub b)) ∧
  (∀ (unit : Nat) (f : VF), Claims.EwScalarRuns (.vMuls unit f) unit 0x13 f (fun a b _ => a.mul b)) ∧
  (∀ (unit : Nat) (f : VF), Claims.EwScalarRuns (.vFmas unit f) unit 0x14 f (fun a b d => (a.mul b).add d)) ∧
  (∀ (unit : Nat) (f : VF), Claims.EwScalarRuns (.vMaxs unit f) unit 0x15 f (fun a b _ => a.max b)) ∧
  (∀ (unit : Nat) (f : VF), Claims.EwScalarRuns (.vMins unit f) unit 0x16 f (fun a b _ => a.min b))

/-- For every state in which a unit's next program word is EXP, LOG, RCP, RSQ, SIG, TANH, GELU, SILU, NORM or ROPE, every set it reads is not being filled, and its results fit the buffer, the command answers a next state in which the words from DST on are the function of every element of source A (for NORM with the mean and scale of its scalars and the weights at SRCB, for ROPE the rotated pairs), every other word, the scalars and every other unit are unchanged, and the program has gone on one word. Rules: 06_vector_engine.md R116, 06_vector_engine.md R121, 06_vector_engine.md R122, 06_vector_engine.md R123. -/
def Obligations.VectorFunctionResult : Prop :=
  (∀ (unit : Nat) (f : VF), Claims.WritesWords (.vExp unit f) unit 0x21 f f.setsRead (fun s => (s.srcWords unit f).map fun x => vexp x.2)) ∧
  (∀ (unit : Nat) (f : VF), Claims.WritesWords (.vLog unit f) unit 0x22 f f.setsRead (fun s => (s.srcWords unit f).map fun x => vlog x.2)) ∧
  (∀ (unit : Nat) (f : VF), Claims.WritesWords (.vRcp unit f) unit 0x23 f f.setsRead (fun s => (s.srcWords unit f).map fun x => vrcp x.2)) ∧
  (∀ (unit : Nat) (f : VF), Claims.WritesWords (.vRsq unit f) unit 0x24 f f.setsRead (fun s => (s.srcWords unit f).map fun x => vrsq x.2)) ∧
  (∀ (unit : Nat) (f : VF), Claims.WritesWords (.vSig unit f) unit 0x25 f f.setsRead (fun s => (s.srcWords unit f).map fun x => vsig x.2)) ∧
  (∀ (unit : Nat) (f : VF), Claims.WritesWords (.vTanh unit f) unit 0x26 f f.setsRead (fun s => (s.srcWords unit f).map fun x => vtanh x.2)) ∧
  (∀ (unit : Nat) (f : VF), Claims.WritesWords (.vGelu unit f) unit 0x27 f f.setsRead (fun s => (s.srcWords unit f).map fun x => vgelu x.2)) ∧
  (∀ (unit : Nat) (f : VF), Claims.WritesWords (.vSilu unit f) unit 0x28 f f.setsRead (fun s => (s.srcWords unit f).map fun x => vsilu x.2)) ∧
  (∀ (unit : Nat) (f : VF), Claims.WritesWords (.vNorm unit f) unit 0x31 f f.setsRead (fun s => (s.srcWords unit f).map fun x =>
    normY (f.mbit 0)
      (normR (f.mbit 0) ((s.unit unit).scalar (nbits f.mod 1 4)) ((s.unit unit).scalar (nbits f.mod 1 4 + 1)) ((s.unit unit).scalar (nbits f.mod 1 4 + 2)) ((s.unit unit).scalar (nbits f.mod 1 4 + 3))).1
      (normR (f.mbit 0) ((s.unit unit).scalar (nbits f.mod 1 4)) ((s.unit unit).scalar (nbits f.mod 1 4 + 1)) ((s.unit unit).scalar (nbits f.mod 1 4 + 2)) ((s.unit unit).scalar (nbits f.mod 1 4 + 3))).2
      x.2 ((s.unit unit).word (f.srcb + x.1)) (if f.mbit 0 then (s.unit unit).word (f.srcb + f.n + x.1) else 0))) ∧
  (∀ (unit : Nat) (f : VF), Claims.WritesWords (.vRope unit f) unit 0x32 f f.setsRead (fun s => (List.range (f.n / 2)).flatMap fun j =>
    rotate ((s.unit unit).scalar (f.mod % 16)) ((s.unit unit).word (f.srcb + j)) (s.srcA unit f (2 * j)) (s.srcA unit f (2 * j + 1))))

/-- For every state in which a unit's next program word is QNT, DQT, MXQ, QSITE, CORR or WCORR, every set it reads is not being filled, and the runs it writes fit the buffer, the command answers a next state whose program has gone on one word, with the scalars and every other unit unchanged. QNT writes the quotients by SC[SRCB], each narrowed to the format of MOD, a microscaling format taking them into its element format; DQT writes the products with SC[SRCB] in FP32; MXQ writes the block scales at SRCB and, where the two runs are apart, the elements of each block at DST, and no bit outside the two runs. QSITE writes the codes of the site's scale with the listed positions as 0, and the scale goes with the vector. CORR adds to each word the escaped element times its weight and scale; WCORR leaves the buffer with every unmasked table entry applied in order. Rules: 06_vector_engine.md R116, 02_number_formats.md R37, 02_number_formats.md R42, 06_vector_engine.md R125, 06_vector_engine.md R126. -/
def Obligations.VectorConversionResult : Prop :=
  (∀ (s : State) (unit : Nat) (f : VF) (r : Running), s.nextWord unit (f.encode 0x40) = some r → Claims.Ready s unit f.setsRead →
    f.dst * 32 + f.n * fmtBits (f.mod % 16) ≤ 131072 →
    ∃ t, exec (.vQnt unit f) s = .next t ∧ Claims.Advanced s t unit r ∧ (t.unit unit).sc = (s.unit unit).sc ∧
      Claims.RunIs (s.unit unit) (t.unit unit) f.dst (fmtBits (f.mod % 16)) f.n
        (fun i => (qntElem (f.mod % 16) ((f32 (s.srcA unit f i)).div (f32 ((s.unit unit).scalar f.scB)))).code) ∧
      ∀ fm v, fmtOf (f.mod % 16) = some fm → qntElem (f.mod % 16) v = if isMx (f.mod % 16) ∧ v = .nan then { code := 0, drop := 1 } else narrow fm v) ∧
  (∀ (s : State) (unit : Nat) (f : VF) (r : Running), s.nextWord unit (f.encode 0x41) = some r → Claims.Ready s unit f.setsRead →
    f.dst + f.n ≤ 4096 →
    ∃ t, exec (.vDqt unit f) s = .next t ∧ Claims.Advanced s t unit r ∧ (t.unit unit).sc = (s.unit unit).sc ∧
      Claims.RunIs (s.unit unit) (t.unit unit) f.dst 32 f.n
        (fun i => (narrow .fp32 ((s.srcVal unit f ((fmtOf (f.mod % 16)).getD .fp32) i).mul (f32 ((s.unit unit).scalar f.scB)))).code)) ∧
  (∀ (s : State) (unit : Nat) (f : VF) (r : Running) (fm : Fmt) (emax : Int) (bl : Nat → MxBlock), s.nextWord unit (f.encode 0x42) = some r → Claims.Ready s unit f.setsRead →
    mxElem (f.mod % 16) = some (fm, emax) → f.dst * 32 + f.n / 32 * 32 * fm.bits ≤ 131072 → f.srcb * 32 + f.n / 32 * 8 ≤ 131072 →
    bl = (fun b => mxEncode fm emax ((List.range 32).map fun i => f32 (s.srcA unit f (32 * b + i)))) →
    ∃ t, exec (.vMxq unit f) s = .next t ∧ Claims.Advanced s t unit r ∧ (t.unit unit).sc = (s.unit unit).sc ∧
      (∀ b, b < f.n / 32 → (t.unit unit).bits f.srcb (b * 8) 8 = (bl b).scale % 256) ∧
      (f.srcb * 32 + f.n / 32 * 8 ≤ f.dst * 32 ∨ f.dst * 32 + f.n / 32 * 32 * fm.bits ≤ f.srcb * 32 →
        ∀ b i, b < f.n / 32 → i < 32 → (t.unit unit).bits f.dst ((32 * b + i) * fm.bits) fm.bits = ((bl b).elems[i]?).getD 0 % 2 ^ fm.bits) ∧
      ∀ k, k < 131072 → (k < f.dst * 32 ∨ f.dst * 32 + f.n / 32 * 32 * fm.bits ≤ k) → (k < f.srcb * 32 ∨ f.srcb * 32 + f.n / 32 * 8 ≤ k) →
        Claims.bit (t.unit unit) k = Claims.bit (s.unit unit) k) ∧
  (∀ (s : State) (unit : Nat) (f : VF) (r : Running), s.nextWord unit (f.encode 0x46) = some r → Claims.Ready s unit f.setsRead →
    f.dst * 32 + f.n * (if f.mbit 4 then 4 else 8) ≤ 131072 →
    ∃ t, exec (.vQsite unit f) s = .next t ∧ Claims.Advanced s t unit r ∧ (t.unit unit).sc = (s.unit unit).sc ∧
      ∀ o, s.runningOp r = some o →
        (f.mbit 5 = false → t.ops = (s.sendScale o (s.opScale o f.q)).ops) ∧
        Claims.RunIs (s.unit unit) (t.unit unit) f.dst (if f.mbit 4 then 4 else 8) f.n
          (fun i => (quantSite f.q (f32 (s.opScale o f.q)) (f32 (s.srcA unit f i))
            (((List.range ((s.unit unit).scalar 12).toNat).map fun j => ((s.unit unit).word (f.srcb + 2 * j)).toNat).contains (((s.unit unit).scalar 13).toNat + i))).code)) ∧
  (∀ (s : State) (unit : Nat) (f : VF) (r : Running) (b : Nat) (codes : List Nat) (ws : List Val), s.nextWord unit (f.encode 0x48) = some r → Claims.Ready s unit f.setsRead →
    f.dst + f.n ≤ 4096 → b = (if f.mbit 4 then 8 else 4) → codes = (List.range f.n).map (fun i => (s.unit unit).bits (f.addra % 4096) (i * b) b) →
    ws = rowWeights b ((List.range (codes.filter fun c => decide (b = 4 ∧ c = 8)).length).map fun j => bf16 (BitVec.ofNat 16 ((s.unit unit).bits f.srcb ((f.n + j) * 16) 16))) codes →
    ∃ t, exec (.vCorr unit f) s = .next t ∧ Claims.Advanced s t unit r ∧ (t.unit unit).sc = (s.unit unit).sc ∧
      Claims.RunIs (s.unit unit) (t.unit unit) f.dst 32 f.n
        (fun i => (narrow .fp32 ((f32 ((s.unit unit).word (f.dst + i))).add ((bf16 (((s.unit unit).scalar (f.mod % 16)).setWidth 16)).mul
          (f32 (toF32 (((ws[i]?).getD (.fin false 0 0)).mul (bf16 (BitVec.ofNat 16 ((s.unit unit).bits f.srcb (i * 16) 16))))))))).code)) ∧
  (∀ (s : State) (unit : Nat) (f : VF) (r : Running), s.nextWord unit (f.encode 0x49) = some r → Claims.Ready s unit (f.setsOf (2 * f.n)) →
    ∃ t, exec (.vWcorr unit f) s = .next t ∧ Claims.Advanced s t unit r ∧ (t.unit unit).sc = (s.unit unit).sc ∧
      (t.unit unit).buf = (wcorrAll f (s.unit unit)
        ((List.range f.n).map fun i => (s.srcA unit f (2 * i)).toNat + 2 ^ 32 * (s.srcA unit f (2 * i + 1)).toNat)).1.buf)

/-- For every state in which a unit's next program word is STAT, RSUM, RMAX, RMIN, RAMX, TOPK or TOPKI and every set it reads is not being filled, the command answers a next state whose program has gone on one word, with no other unit changed: STAT adds the sum and the sum of squares to two scalars; a reduction along the whole run writes SC[DST] (RAMX also the index into the next scalar); along rows or columns it writes one word for each group; TOPK and TOPKI write the selected values and their indices. Rules: 06_vector_engine.md R116, 06_vector_engine.md R119, 06_vector_engine.md R120. -/
def Obligations.VectorReductionResult : Prop :=
  (∀ (unit : Nat) (f : VF), Claims.WritesScalars (.vStat unit f) unit 0x30 f f.setsRead (fun s =>
    (((s.unit unit).setScalar f.scD (addF32 ((s.unit unit).scalar f.scD) (laneSum (s.srcWords unit f)))).setScalar (f.scD + 1)
      (addF32 ((s.unit unit).scalar (f.scD + 1)) (squareSum (s.srcWords unit f)))).sc)) ∧
  (∀ (unit : Nat) (f : VF), Claims.Reduces (.vRsum unit f) unit 0x50 f laneSum) ∧
  (∀ (unit : Nat) (f : VF), Claims.Reduces (.vRmax unit f) unit 0x51 f (fun xs => toF32 ((xs.map fun x => f32 x.2).foldl Val.max (f32 ninfF)))) ∧
  (∀ (unit : Nat) (f : VF), Claims.Reduces (.vRmin unit f) unit 0x52 f (fun xs => toF32 ((xs.map fun x => f32 x.2).foldl Val.min (f32 infF)))) ∧
  (∀ (unit : Nat) (f : VF), f.mod % 4 = 2 → Claims.WritesScalars (.vRamx unit f) unit 0x53 f f.setsRead (fun s =>
    (((s.unit unit).setScalar f.scD (ramx (s.srcWords unit f)).2).setScalar (f.scD + 1) (BitVec.ofNat 32 (ramx (s.srcWords unit f)).1)).sc)) ∧
  (∀ (unit : Nat) (f : VF), f.mod % 4 < 2 → Claims.WritesWords (.vRamx unit f) unit 0x53 f f.setsRead (fun s =>
    (axisGroups (f.mod % 4) f.n (s.srcWords unit f)).map fun x => (ramx x).2)) ∧
  (∀ (unit : Nat) (f : VF), Claims.Selects (.vTopk unit f) unit 0x54 f (fun s =>
    (s.srcWords unit f).map fun x => (((s.unit unit).scalar 15).toNat + x.1, x.2))) ∧
  (∀ (unit : Nat) (f : VF), Claims.Selects (.vTopki unit f) unit 0x55 f (fun s =>
    (s.srcWords unit f).map fun x => (((s.unit unit).word (f.srcb + x.1)).toNat, x.2)))

/-- For every state in which a unit's next program word is EMAP, OSCAN or ESCF and every set it reads is not being filled, the command answers a next state whose program has gone on one word, with no other unit changed: EMAP loads the outlier map, clears the candidate list and sets SC11 to 0; OSCAN advances SC13 by the element count, leaves the map and adds the outliers on the map to the candidates; ESCF writes the kept candidates at DST when they fit, sets SC12 to their number and leaves the candidate list. Rules: 06_vector_engine.md R124, 02_number_formats.md R48. -/
def Obligations.VectorEscapeResult : Prop :=
  (∀ (s : State) (unit : Nat) (f : VF) (r : Running), s.nextWord unit (f.encode 0x45) = some r → Claims.Ready s unit f.setsRead →
    ∃ t, exec (.vEmap unit f) s = .next t ∧ Claims.Advanced s t unit r ∧ (t.unit unit).buf = (s.unit unit).buf ∧ (t.unit unit).cands = [] ∧
      (t.unit unit).mapRows = (List.range f.n).map (fun i => (s.srcA unit f i).toNat) ∧ (t.unit unit).sc = ((s.unit unit).setScalar 11 0).sc) ∧
  (∀ (s : State) (unit : Nat) (f : VF) (r : Running), s.nextWord unit (f.encode 0x43) = some r → Claims.Ready s unit f.setsRead →
    ∃ t, exec (.vOscan unit f) s = .next t ∧ Claims.Advanced s t unit r ∧ (t.unit unit).buf = (s.unit unit).buf ∧ (t.unit unit).mapRows = (s.unit unit).mapRows ∧
      (t.unit unit).scalar 13 = BitVec.ofNat 32 (((s.unit unit).scalar 13).toNat + f.n) ∧
      (t.unit unit).cands = (s.unit unit).cands ++ (((s.srcWords unit f).filter fun x => isOutlier f.q (f32 x.2) (f32 ((s.unit unit).scalar f.scB))).filter fun x =>
        (s.unit unit).mapRows.contains (((s.unit unit).scalar 13).toNat + x.1)).map fun x =>
          { pos := ((s.unit unit).scalar 13).toNat + x.1, value := BitVec.ofNat 16 (escValue f.q (f32 ((s.unit unit).scalar f.scB)) (f32 x.2)).code }) ∧
  (∀ (s : State) (unit : Nat) (f : VF) (r : Running), s.nextWord unit (f.encode 0x44) = some r → f.dst + 2 * (keep8 (s.unit unit).cands).length ≤ 4096 →
    ∃ t, exec (.vEscf unit f) s = .next t ∧ Claims.Advanced s t unit r ∧ (t.unit unit).cands = (s.unit unit).cands ∧
      (t.unit unit).scalar 12 = BitVec.ofNat 32 (keep8 (s.unit unit).cands).length ∧
      Claims.WordsAre (s.unit unit) (t.unit unit) f.dst ((keep8 (s.unit unit).cands).flatMap fun c => [BitVec.ofNat 32 c.pos, c.value.setWidth 32]))

/-- For every state in which a unit's next program word is LD, ST, SET or a form of SOP, and (for ST) every set it reads is not being filled, the command answers a next state whose program has gone on one word: LD reads the bytes at its place when the unit's tenant owns them; ST, when the tenant owns its place and it releases no set, writes exactly its bytes and changes no other byte of memory; SET writes its immediate; SOP writes SC[DST] alone. A load or store needs every byte of its place to exist. Rules: 06_vector_engine.md R128, 06_vector_engine.md R115, 06_vector_engine.md R116. -/
def Obligations.VectorMoveResult : Prop :=
  (∀ (s : State) (unit : Nat) (f : VF) (r : Running) (p : Place) (a e : Nat), s.nextWord unit (f.encode 0x68) = some r → s.lsPlace unit f = some p →
    p.flat = some a → (p.plus (4 * f.n - 1)).flat = some e → f.dst + f.n ≤ 4096 →
    ∃ t, exec (.vLd unit f) s = .next t ∧ Claims.Advanced s t unit r ∧ (t.unit unit).sc = (s.unit unit).sc ∧ t.mem = s.mem ∧
      Claims.WordsAre (s.unit unit) (t.unit unit) f.dst
        (if s.ownerAt a = r.tenant then (List.range f.n).map fun i => BitVec.ofNat 32 (s.word (a + 4 * i) 4) else [])) ∧
  (∀ (s : State) (unit : Nat) (f : VF) (r : Running) (p : Place) (a e : Nat), s.nextWord unit (f.encode 0x69) = some r → s.lsPlace unit f = some p →
    Claims.Ready s unit f.setsRead → p.flat = some a → (p.plus (4 * f.n - 1)).flat = some e →
    ∃ t, exec (.vSt unit f) s = .next t ∧ Claims.Advanced s t unit r ∧ (t.unit unit).sc = (s.unit unit).sc ∧ (t.unit unit).buf = (s.unit unit).buf ∧
      (f.mbit 5 = false → s.ownerAt a = r.tenant →
        (∀ i k, i < f.n → k < 4 → t.byte (a + 4 * i + k) = (s.srcA unit f i).toNat / 256 ^ k % 256) ∧ ∀ x, (x < a ∨ a + 4 * f.n ≤ x) → t.byte x = s.byte x) ∧
      (f.mbit 5 = false → s.ownerAt a ≠ r.tenant → t.mem = s.mem)) ∧
  (∀ (s : State) (unit dst : Nat) (imm : BitVec 32) (r : Running), s.nextWord unit (BitVec.ofNat 64 (0x70 * 2 ^ 56 + dst * 2 ^ 32 + imm.toNat)) = some r →
    ∃ t, exec (.vSet unit dst imm) s = .next t ∧ Claims.Advanced s t unit r ∧ (t.unit unit).sc = ((s.unit unit).setScalar (dst % 16) imm).sc ∧
      (t.unit unit).buf = (s.unit unit).buf) ∧
  (∀ (unit : Nat) (f : VF), Claims.ScalarOp (.vSopAdd unit f) unit 0 f addF32) ∧
  (∀ (unit : Nat) (f : VF), Claims.ScalarOp (.vSopSub unit f) unit 1 f (fun a b => toF32 ((f32 a).sub (f32 b)))) ∧
  (∀ (unit : Nat) (f : VF), Claims.ScalarOp (.vSopMul unit f) unit 2 f mulF32) ∧
  (∀ (unit : Nat) (f : VF), Claims.ScalarOp (.vSopMax unit f) unit 3 f (fun a b => toF32 ((f32 a).max (f32 b)))) ∧
  (∀ (unit : Nat) (f : VF), Claims.ScalarOp (.vSopRcp unit f) unit 4 f (fun a _ => vrcp a)) ∧
  (∀ (unit : Nat) (f : VF), Claims.ScalarOp (.vSopRsqrt unit f) unit 5 f (fun a _ => vrsq a))

/-- For every state in which a VPROG operation is dispatched and the unit of its pod runs no program, VPROG answers exactly the state in which the unit runs the program from its first word with its scalars loaded; for every state in which a unit stands at an END word, END answers exactly the state in which its program has ended. Nothing but what those states show changes. Rules: 06_vector_engine.md R111, 06_vector_engine.md R116, 09_execution_plans.md R174. -/
def Obligations.VectorProgramsRun : Prop :=
  (∀ (s : State) (slot : Nat) (o : Op), s.opIn slot .vprog .dispatched = some o → (s.unit o.podOf).running = none →
    exec (.vprog slot) s = .next ((s.startUnit slot o (s.opProgram o)).loadScalars o)) ∧
  (∀ (s : State) (unit : Nat) (r : Running), (s.unit unit).running = some r → ((r.words[r.pc]?).getD 0).toNat / 2 ^ 56 = 0x7F →
    exec (.vEnd unit) s = .next ((s.tcount r.tenant 0xA500 2 1).endProgram unit r))

/-- For every vector instruction but LD, ST and END, and every state: where the instruction releases no accumulator set and answers a next state, that state differs from the one before only in the vector engine, in the counters with what they report, in the number of the model's next free value, and for QSITE in the scales that its step run carries; and no unit but the instruction's own differs. Rules: 06_vector_engine.md R111, 06_vector_engine.md R113, 06_vector_engine.md R117. -/
def Obligations.VectorFrame : Prop :=
  ∀ (c : Instr) (u : Nat) (s t : State), Claims.vecOf c = some (u, false) → exec c s = .next t →
    t = { s with vec := t.vec, faults := t.faults, ops := { s.ops with runs := t.ops.runs }, trust := { s.trust with fresh := t.trust.fresh } } ∧
    (∀ v, v ≠ u → t.unit v = s.unit v) ∧
    ((∀ f, c ≠ .vQsite u f) → t.ops = s.ops) ∧ ∀ k, (t.run k).map (fun r => { r with scales := [] }) = (s.run k).map fun r => { r with scales := [] }

/-- For every state and operands that meet the conditions named, KVSCAT, KVFLUSH, PAGE_MOVE_START, PAGE_MOVE_SWITCH, PAGE_SOURCE_RELEASE, KV_PROMOTE and KV_PREEMPT each answer exactly the next state shown. A KVSCAT runs with no earlier KVSCAT of its session and layer incomplete: it writes position after position into the page, or into the staging buffer while the page moves, waits where the buffer is full, and ends after the last; a page move starts only for a page that may move to a place with room. Nothing but what that state shows changes. Rules: 07_attention_and_kv_cache.md R142, 07_attention_and_kv_cache.md R143, 07_attention_and_kv_cache.md R144, 07_attention_and_kv_cache.md R146, 07_attention_and_kv_cache.md R148. -/
def Obligations.KvCommandsRun : Prop :=
  (∀ (s : State) (slot : Nat) (o : Op) (layer pos count : Nat) (staged : Bool),
    s.scatReady slot = some o → o.d.k = .kvscat layer pos count staged → s.scatBehind slot o layer pos = false →
    Claims.Placed s o [(o.d.opA, 1)] →
    exec (.kvscat slot) s = .next (State.scatLoop slot o layer pos count staged (count - o.scatDone) (s.scatBegin slot o))) ∧
  (∀ (s : State) (slot : Nat) (o : Op) (layer pos count n : Nat) (staged : Bool),
    State.scatLoop slot o layer pos count staged 0 s = s.scatEnd slot o layer pos count ∧
    (s.scatStaged o layer (pos + (count - (n + 1))) staged = false →
      State.scatLoop slot o layer pos count staged (n + 1) s =
        State.scatLoop slot o layer pos count staged n ((s.scatPage o layer (pos + (count - (n + 1))) (o.member * count + (count - (n + 1)))).setOp slot fun x =>
          { x with scatDone := count - (n + 1) + 1 })) ∧
    (s.scatStaged o layer (pos + (count - (n + 1))) staged = true → (s.stagingOf o.d.session).length < s.stageCap o.d.session →
      State.scatLoop slot o layer pos count staged (n + 1) s =
        State.scatLoop slot o layer pos count staged n ((s.scatStage o layer (pos + (count - (n + 1))) (o.member * count + (count - (n + 1)))).setOp slot fun x =>
          { x with scatDone := count - (n + 1) + 1 })) ∧
    (s.scatStaged o layer (pos + (count - (n + 1))) staged = true → s.stageCap o.d.session ≤ (s.stagingOf o.d.session).length →
      State.scatLoop slot o layer pos count staged (n + 1) s = s.setOp slot fun x => { x with waitAt := max 1 s.now })) ∧
  (∀ (s : State) (slot : Nat) (o : Op), s.opIn slot .kvflush .dispatched = some o →
    (∀ e ∈ s.stagedFor o.d.session (o.pages.headD 0), e.readers = 0) →
    exec (.kvflush slot) s =
      .next ((((s.setPage (o.pages.headD 0) fun p =>
        { (((s.stagedFor o.d.session (o.pages.headD 0)).mergeSort fun a b => decide (a.pos ≤ b.pos)).foldl
            (fun p e => p.flushEntry (kvRecord (s.kvShape o.d.session).1 (s.kvShape o.d.session).2.1 (s.kvShape o.d.session).2.2) e) p) with lastUse := s.now }).modStagingOf o.d.session
          fun l => l.filter fun e => decide (e.page ≠ o.pages.headD 0)).startOp slot).workDone slot)) ∧
  (∀ (s : State) (page : Nat) (toHot : Option Nat) (p : Page), Claims.Up s (.pageMoveStart page toHot) → s.page page = some p →
    p.moving = none → p.srcHeld = false → p.writesOut = 0 → p.hot ≠ toHot → s.takesPage p.tenant toHot = true →
    exec (.pageMoveStart page toHot) s = .next (s.setPage page fun p => { p with moving := some toHot })) ∧
  (∀ (s : State) (page : Nat) (p : Page) (dst : Option Nat), Claims.Up s (.pageMoveSwitch page) → s.page page = some p → p.moving = some dst →
    exec (.pageMoveSwitch page) s =
      .next (((({ s with ops := { s.ops with slots := mmap none (fun _ (o : Option Op) => o.map fun (x : Op) => x.moved page) s.ops.slots } } : State).setPage page
        fun p => { p with hot := dst, moving := none, srcHeld := true, src := p.hot, srcReaders := p.readers, readers := 0 }).countMove p.tenant p.hot dst).queueFlush page)) ∧
  (∀ (s : State) (t : Nat) (src dst : Option Nat),
    s.countMove t src dst = if src.isSome ∧ dst = none then s.tcount t 0xA600 1 1 else if src = none ∧ dst.isSome then s.tcount t 0xA600 2 1 else s) ∧
  (∀ (s : State) (page : Nat) (p : Page), s.page page = some p → p.srcHeld = true → p.srcReaders = 0 →
    exec (.pageSourceRelease page) s = .next (s.setPage page fun p => { p with srcHeld := false, src := none })) ∧
  (∀ (s : State) (tenant page cluster : Nat) (e : Nat × Page), Claims.Up s (.kvPromote tenant page cluster) →
    (s.promotable tenant).find? (fun e => decide (e.1 = page)) = some e → (∀ x ∈ s.promotable tenant, x.2.firstPos ≤ e.2.firstPos) →
    s.takesPage tenant (some cluster) = true →
    exec (.kvPromote tenant page cluster) s = .next (s.setPage page fun p => { p with moving := some (some cluster) })) ∧
  (∀ (s : State) (tenant x : Nat), Claims.Up s (.kvPreempt tenant) → s.kvStuck tenant = true → s.pinned tenant = false → s.preemptee tenant = some x →
    exec (.kvPreempt tenant) s =
      .next ((((s.leaveRun x).makeCold x 1).tcount tenant 0xA600 6 1).modSession x fun q => { q with preemptedCold := true }))

/-- For every state and operands that meet the conditions named, TABLE_BUILD, TABLE_REBUILD, TABLE_ID_FREE, SERIAL_RECOVERY, BLOCK_REENCODE and EXPANDER_SELFTEST_END each answer exactly the next state shown: an occurrence whose producers have completed gives its tensor a table under a free identifier, or leaves it raw where there is none; a rebuild takes a new identifier and the old table retires, or the old one is kept; a retired table whose operations have completed is freed; a block under recovery is delivered and counted, or poisoned; a poisoned weight block is encoded again; the self-test withdraws the pods named. Nothing but what that state shows changes. Rules: 08_operand_expander.md R158, 08_operand_expander.md R159, 08_operand_expander.md R160, 08_operand_expander.md R164, 08_operand_expander.md R166. -/
def Obligations.ExpanderCommandsRun : Prop :=
  (∀ (s : State) (tenant slot tensor k : Nat), k = actKey tenant slot tensor → (s.act k).occurred = true → (s.act k).table = none →
    s.producing tenant slot tensor = false →
    (∀ id, s.freeActTable tenant = some id →
      exec (.tableBuild tenant slot tensor) s =
        .next ((s.addTable tenant slot tensor id (s.act k).fmt (s.act k).counts false).modAct k fun a => { a with table := some id, occurred := false, counts := [] })) ∧
    (s.freeActTable tenant = none →
      exec (.tableBuild tenant slot tensor) s = .next ((s.modAct k fun a => { a with occurred := false, counts := [] }).tcount tenant 0xA700 8 1))) ∧
  (∀ (s : State) (tenant slot tensor old k : Nat), k = actKey tenant slot tensor → (s.act k).table = some old → (s.act k).rebuild = true → (s.act k).occurred = true →
    s.producing tenant slot tensor = false →
    (∀ id, s.freeActTable tenant = some id →
      exec (.tableRebuild tenant slot tensor) s =
        .next ((((s.modTable (tenant * 4096 + old) fun o => o.map fun x => { x with retiring := true, waitOps := s.ordersInFlight tenant }).addTable tenant slot tensor id
          (s.act k).fmt (s.act k).counts false).modAct k fun a => { a with table := some id, rebuild := false, occurred := false, counts := [] }).tcount tenant 0xA700 9 1)) ∧
    (s.freeActTable tenant = none →
      exec (.tableRebuild tenant slot tensor) s = .next (s.modAct k fun a => { a with rebuild := false, occurred := false, counts := [] }))) ∧
  (∀ (s : State) (tenant table : Nat) (x : ExpTable), s.table (tenant * 4096 + table) = some x → x.retiring = true →
    (∀ k ∈ x.waitOps, k ∉ s.ordersInFlight tenant) →
    exec (.tableIdFree tenant table) s = .next (s.modTable (tenant * 4096 + table) fun _ => none)) ∧
  (∀ (s s1 : State) (slot tensor block : Nat) (o : Op) (d0 d : TDesc) (h : Handle) (r : Recovering), r = { slot := slot, tensor := tensor, block := block } →
    h = Handle.ofCode tensor → r ∈ s.exp.recovering → s.op slot = some o → s.tensor o h = some d0 → d = s.actTable o h d0 →
    s1 = (({ s with exp := { s.exp with recovering := s.exp.recovering.filter fun x => decide (x ≠ r) } } : State).setOp slot fun x =>
      { x with timerHeld := (s.exp.recovering.filter fun x => decide (x ≠ r)).any fun y => decide (y.slot = slot) }).ocount o 0xA700 5 1 →
    exec (.serialRecovery slot tensor block) s =
      .next (match s1.serialPlace o h d block with
        | none => s1.poisonBlock slot o h block
        | some _ =>
          let s2 := ((({ s1 with exp := { s1.exp with recovered := s1.exp.recovered ++ [r] } } : State).ocount o 0xA700 6 1).ocount o 0xA700 1 1).ocount o 0xA700 3
            (placeBytes - ({ s1 with exp := { s1.exp with recovered := s1.exp.recovered ++ [r] } } : State).mapEntry o h d block % 512 * 16)
          (if h.tab = 0 ∧ (s2.opPlan o).written h = false then s2.rewriteHeader o h d block else s2).runPod o.podOf)) ∧
  (∀ (s : State) (tenant slot tensor block : Nat) (i : Image) (d : TDesc), Claims.Up s (.blockReencode tenant slot tensor block) →
    (s.mslot tenant slot).current = some i → i.plan.tensors[tensor]? = some d →
    ({ slot := tenant * 4 + slot, tensor := tensor, block := block } : Recovering) ∈ s.exp.poisonedWeights →
    exec (.blockReencode tenant slot tensor block) s =
      .next { (s.encodeWeight i tenant slot tensor d block) with exp := { (s.encodeWeight i tenant slot tensor d block).exp with
        poisonedWeights := s.exp.poisonedWeights.filter fun x => decide (x ≠ { slot := tenant * 4 + slot, tensor := tensor, block := block }) } }) ∧
  (∀ (s : State) (l : List Nat), s.clk.starting = true → s.exp.selfTesting = true →
    exec (.expanderSelftestEnd l) s =
      .next (((l.filter fun p => decide (p < 256)).dedup).foldl (fun s p => s.raise Ev.expanderFault (s.clusterOwner (p / 16)) Locus.pod p 0)
        { s with exp := { s.exp with selfTesting := false, withdrawn := (l.filter fun p => decide (p < 256)).dedup } }))

/-- For every state and operands that meet the conditions named, STEP_INSTANTIATE, GROUP_INSTANTIATE, OP_DISPATCH, OP_COMPLETE, COMPLETION_ACCEPT and OP_TIMEOUT each answer exactly the next state shown: a batch whose sessions are all due becomes a run and its Mirror record is captured; a batch with a session above a lowered KV limit ends that session's request instead; the next group of a run within its lookahead, with no IMM work ahead of it, reserves its scratch and the next at most 64 of its descriptors are written; the waiting operation that is its unit's next is dispatched; an operation at its end completes; an accepted record frees its slot; an operation that started a millisecond ago is to stop with TIMEOUT and raises its event. Nothing but what that state shows changes. Rules: 09_execution_plans.md R192, 09_execution_plans.md R182, 09_execution_plans.md R185, 09_execution_plans.md R186, 09_execution_plans.md R190. -/
def Obligations.StepCommandsRun : Prop :=
  (∀ (s s1 s2 : State) (l : List Nat) (r : StepRun), Claims.Up s (.stepInstantiate l) → s.power.state = .run → s.batchOk l = true → (∀ i ∈ l, s.stepDue i = true) →
    s.batchAllowed (s.session (l.headD 0)).tenant l = true → (l.length ≤ 1 ∨ s.freeBatch.isSome = true) →
    (s.overLimit l = [] → s1 = s.batchTaken (s.session (l.headD 0)).tenant → r = s1.newRun l → s2 = s1.capture r.tenant (s1.stepRecord r) →
      exec (.stepInstantiate l) s =
        .next (l.foldl (fun x j => x.enterRun s1.ops.nextRun j) { s2 with ops := { s2.ops with
          runs := mset none s2.ops.runs s1.ops.nextRun (some r), nextRun := s1.ops.nextRun + 1,
          batches := match r.batch with | some b => mset [] s2.ops.batches b l | none => s2.ops.batches } })) ∧
    (s.overLimit l ≠ [] → exec (.stepInstantiate l) s = .next ((s.overLimit l).foldl (fun x e => x.endReq e.1 e.2.id 4 Asx.ok) s))) ∧
  (∀ (s : State) (run : Nat) (r : StepRun) (g : Group), Claims.Up s (.groupInstantiate run) → s.run run = some r → s.nextGroupOf r = some g → s.mayLook run r = true →
    s.immAhead r = false →
    exec (.groupInstantiate run) s =
      .next (if (s.reserveScratch run r).2 then (State.writeBatch 130 64 run g (s.reserveScratch run r).1).lateWaits else (s.reserveScratch run r).1)) ∧
  (∀ (s : State) (slot c : Nat) (o : Op), s.op slot = some o → s.nextFor o.unit o.d.tenant = some (slot, c) → o.phase = .waiting → s.unitFree o = true →
    exec (.opDispatch slot) s = .next (((s.setOp slot fun x => { x with phase := .dispatched }).modCredit o.unit fun _ => c).noteStart o)) ∧
  (∀ (s : State) (slot heldHs : Nat) (o : Op), s.op slot = some o → s.atEnd o = true → (s.endStatus o ≠ .none ∨ s.streamed slot = true) →
    exec (.opComplete slot heldHs) s = .next (s.complete slot o (s.endStatus o) heldHs).lateWaits) ∧
  (∀ (s : State) (slot : Nat) (o : Op), Claims.Up s (.completionAccept slot) → s.op slot = some o → slot ∈ s.ops.records →
    exec (.completionAccept slot) s =
      (let s1 := s.modOp slot fun _ => none
       let s2 := ({ s1 with ops := { s1.ops with records := s.ops.records.filter fun k => decide (k ≠ slot) } } : State).sweepObjs
       let s3 := match s2.run o.run with
         | some r => if s2.runOver o.run r then s2.endRun o.run r else s2
         | none => s2
       .next ((mkeys s3.kv.pages).foldl State.queueFlush s3))) ∧
  (∀ (s : State) (slot : Nat) (o : Op), s.op slot = some o → o.phase = .started → o.timerHeld = false → o.stopping = .none → o.startAt + 1000000 ≤ s.now →
    exec (.opTimeout slot) s = .next ((s.stopOp slot .timeout).raise Ev.opTimeout o.d.tenant Locus.slot slot o.d.req))

/-- For every state and operands that meet the conditions named, MOVE, ROUTE, CORR_OP, CORR_ADD and SYNC each answer exactly the next state shown: a dispatched MOVE, ROUTE or CORR whose operands' places exist starts and does its work; CORR_ADD of a started CORR whose second wait is satisfied adds the contribution; SYNC only ends its work. Nothing but what that state shows changes. Rules: 09_execution_plans.md R177, 09_execution_plans.md R178, 09_execution_plans.md R179, 10_tiers_and_placement.md R201. -/
def Obligations.PlanOperationsRun : Prop :=
  (∀ (s : State) (slot : Nat) (o : Op) (first tiles : Nat) (a c : TDesc), s.opIn slot .move .dispatched = some o → o.d.k = .move first tiles →
    s.tensor o o.d.opA = some a → s.tensor o o.d.opC = some c →
    Claims.Placed s o [(o.d.opA, (first + tiles) * a.tileOctets), (o.d.opC, (first + tiles) * a.tileOctets)] →
    exec (.moveOp slot) s = .next ((((s.startOp slot).moveTiles o a c first tiles).moveTable o a).workDone slot)) ∧
  (∀ (s : State) (slot : Nat) (o : Op) (experts k tokens mode : Nat) (a c : TDesc), s.opIn slot .route .dispatched = some o → o.d.k = .route experts k tokens mode →
    s.tensor o o.d.opA = some a → s.tensor o o.d.opC = some c →
    Claims.Placed s o [(o.d.opA, tokens * (if experts = 0 then 256 else experts) * 4), (o.d.opC, tokens * k * 8)] →
    exec (.routeOp slot) s =
      (let n := if experts = 0 then 256 else experts
       let sel := (List.range tokens).map fun v => routeToken k mode ((List.range n).map fun i => toF32 (s.runElem o o.d.opA a n v i))
       .next ((((s.startOp slot).putTensor o o.d.opC c 0 (sel.flatMap fun l => l.flatMap fun e => [e.1 % 256, 0, 0, 0] ++ le 4 e.2.toNat)).modPopular
         (popKey o.d.tenant o.slotModel (s.opTemplate o).layer) fun p => p.select (sel.flatMap fun l => l.map (·.1))).workDone slot))) ∧
  (∀ (s : State) (slot : Nat) (o : Op), s.opIn slot .corr .dispatched = some o → Claims.Placed s o [(o.d.opA, 68), (o.d.opC, 4)] →
    exec (.corrOp slot) s =
      .next ((s.startOp slot).modUnit o.podOf fun u => u.puts 2048 (((s.corrSpan o).take 2048).map fun x => (s.corrWord o x.1 x.2.1 x.2.2).w))) ∧
  (∀ (s : State) (slot : Nat) (o : Op) (d : TDesc), s.opIn slot .corr .started = some o → s.tensor o o.d.opC = some d → s.waitOk o.d.wait1 = true → o.workDone = false →
    exec (.corrAdd slot) s = .next (((s.corrSpan o).foldl (fun s x => s.corrPut o d x) s).workDone slot)) ∧
  (∀ (s : State) (slot : Nat) (o : Op), s.opIn slot .sync .dispatched = some o →
    exec (.syncOp slot) s = .next ((s.startOp slot).workDone slot))

/-- For every state and operands that meet the conditions named, CACHE_WAYS, CS_KV_PAGES, DRAM_SUB_QUOTA (of a FORMING tenant), WAY_HANDOVER and EXPERT_REBALANCE_CHECK each answer exactly the next state shown: an accepted quota is stored, CACHE_WAYS also assigns the ways and CS_KV_PAGES also trims the hot pages; a way that waits for its new owner loses its lines and passes to it; a layer whose check is due is checked. Nothing but what that state shows changes. Rules: 10_tiers_and_placement.md R202, 10_tiers_and_placement.md R203, 10_tiers_and_placement.md R208, 10_tiers_and_placement.md R209, 10_tiers_and_placement.md R212. -/
def Obligations.TierCommandsRun : Prop :=
  (∀ (s : State) (rq : Rq) (c : Conn) (t v : Nat), Claims.Reaches s (.cacheWays rq t v) rq c (entryCode (0x8100 + t) 3) → 2 ≤ v → v ≤ 30 →
    (s.setStored (0x8100 + t) 3 2 v).waysFit = true → (s.tenState t = .forming ∨ s.tenState t = .active) → v ≤ (s.envOf t).maxWays →
    Claims.Accepts s (.cacheWays rq t v) rq c (entryCode (0x8100 + t) 3) Bdp.ok v (s.setStored (0x8100 + t) 3 2 v).assignWays) ∧
  (∀ (s : State) (rq : Rq) (c : Conn) (t v : Nat), Claims.Reaches s (.csKvPages rq t v) rq c (entryCode (0x8100 + t) 4) → v ≤ 88 → s.sv (0x8130 + t) 1 6 + 2 ≤ 96 - v →
    Claims.Accepts s (.csKvPages rq t v) rq c (entryCode (0x8100 + t) 4) Bdp.ok v ((s.setStored (0x8100 + t) 4 80 v).trimHot t)) ∧
  (∀ (s : State) (rq : Rq) (c : Conn) (t w v : Nat), Claims.Reaches s (.dramSubQuota rq t w v) rq c (entryCode (0x8110 + t) w) → (w = 4 → 9 ≤ v) → s.tenState t = .forming →
    Claims.Accepts s (.dramSubQuota rq t w v) rq c (entryCode (0x8110 + t) w) Bdp.ok v (s.setStored (0x8110 + t) w (subDefault w) v)) ∧
  (∀ (s : State) (slice way : Nat), slice < 8 → way < 32 → s.wayNext (slice * 32 + way) ≠ 0 →
    exec (.wayHandover slice way) s =
      .next ((({ s with tiers := { s.tiers with lines := s.tiers.lines.filter fun e => !decide (e.1 / 1024 = slice * 32 + way) } } : State).modWayOwner (slice * 32 + way)
        fun _ => if s.wayNext (slice * 32 + way) = 10 then 0 else s.wayNext (slice * 32 + way)).modWayNext (slice * 32 + way) fun _ => 0)) ∧
  (∀ (s : State) (t slot layer : Nat), Claims.Up s (.expertRebalanceCheck t slot layer) → (s.popular (popKey t slot layer)).checkDue = true →
    exec (.expertRebalanceCheck t slot layer) s = .next (s.expertCheck t slot layer))

/-- For every state and operands that meet the conditions named, STREAM_ISSUE, TRANSFER_LAND and STREAM_LATE each answer exactly the next state shown: the next entry of the engine's stream is issued while fewer than 6 transfers are outstanding and its credits fit; an outstanding transfer of the pod's tenant, the oldest of those the UFS host sends among them, lands, or is discarded when no operation will read it; a wait of 20 us is counted once. Nothing but what that state shows changes. Rules: 11_weight_streaming.md R220, 11_weight_streaming.md R221, 11_weight_streaming.md R225, 11_weight_streaming.md R226, 11_weight_streaming.md R227. -/
def Obligations.StreamCommandsRun : Prop :=
  (∀ (s : State) (pod : Nat) (x : Stream) (e : SEntry), (s.engine pod).nextStream = some x → x.list[x.next]? = some e → (s.engine pod).outstanding < 6 →
    (s.engine pod).held + e.credits ≤ s.creditCap (pod / 16) → exec (.streamIssue pod) s = .next (s.issueEntry pod x e)) ∧
  (∀ (s : State) (pod slot operand entry : Nat) (t : Xfer) (x : Stream),
    (s.engine pod).xfers.find? (fun t => decide (t.slot = slot ∧ t.operand = operand ∧ t.entry = entry) && !t.landed) = some t → (s.engine pod).mayLand t = true → t.discard = false →
    (s.engine pod).streams.find? (fun x => decide (x.slot = slot ∧ x.operand = operand)) = some x →
    exec (.transferLand pod slot operand entry (s.clusterOwner (pod / 16))) s = .next (s.landBlock pod x t)) ∧
  (∀ (s : State) (pod slot operand entry : Nat) (t : Xfer),
    (s.engine pod).xfers.find? (fun t => decide (t.slot = slot ∧ t.operand = operand ∧ t.entry = entry) && !t.landed) = some t → (s.engine pod).mayLand t = true → t.discard = true →
    exec (.transferLand pod slot operand entry (s.clusterOwner (pod / 16))) s = .next (s.discardBlock pod t (s.clusterOwner (pod / 16)))) ∧
  (∀ (s : State) (slot : Nat) (l : Late), s.streams.lates.find? (fun l => decide (l.slot = slot)) = some l → l.counted = false → 20000 ≤ s.now - l.since →
    exec (.streamLate slot) s =
      .next (({ s with streams := { s.streams with lates := s.streams.lates.map fun y => if y.slot = slot then { y with counted := true } else y } } : State).tcount
        (match s.op slot with | some o => o.d.tenant | none => 0) 0xAA00 3 1))

/-- For every state and operands that meet the conditions named, DRAM_READ, DRAM_WRITE, WRITE_DRAIN, READ_RETRY and READ_RETRY_RETURN each answer exactly the next state shown. A read or write needs a unit that exists, a channel that takes requests, room in the queue, a tenant that may access the unit, and for a write a key that is not being zeroised; an accepted write's octets are those that reads return from then on. Nothing but what that state shows changes. Rules: 12_dram_controller.md R232, 12_dram_controller.md R237, 12_dram_controller.md R238, 12_dram_controller.md R239, 12_dram_controller.md R242. -/
def Obligations.DramRequestsRun : Prop :=
  (∀ (s : State) (ch u t : Nat) (imm : Bool) (op : Option Nat) (id : Nat) (flaw : ReadFlaw), ch < 32 → u < unitCount → s.chanOpen ch = true →
    (s.chan ch).reads.length < 64 → s.mayAccess ch u t = true →
    exec (.dramRead ch u t imm op id flaw) s =
      (let r := if t = 0 then (s, false) else s.cacheAccess t ch (u * 64) (s.allocates t (u * 64)) false
       if r.2 then .next (r.1.modChan ch fun c => { c with lastRead := some id, lastData := r.1.unitData ch u })
       else .next (((r.1.wakeChan ch).drainFor ch u t).modChan ch fun c =>
         { c with reads := c.reads ++ [{ id := id, unit := u, tenant := t, imm := imm, op := op, flaw := flaw }] }))) ∧
  (∀ (s : State) (ch u t : Nat) (data : List Nat), ch < 32 → u < unitCount → s.chanOpen ch = true → (s.chan ch).writes.length < 64 → s.mayAccess ch u t = true →
    (s.keySlot t).zeroising = false → exec (.dramWrite ch u t data) s = .next (s.acceptWrite ch u t data)) ∧
  (∀ (s : State) (ch : Nat), (s.chan ch).writes ≠ [] → (s.chan ch).reads = [] →
    exec (.writeDrain ch) s = .next (s.issueWrites ch (s.chan ch).writes.length)) ∧
  (∀ (s : State) (ch : Nat), 48 ≤ (s.chan ch).writes.length → (s.chan ch).reads ≠ [] →
    exec (.writeDrain ch) s = .next (s.issueWrites ch ((s.chan ch).writes.length - 16))) ∧
  (∀ (s : State) (ch id : Nat) (r : RdReq), (s.chan ch).reads.find? (fun r => decide (r.id = id)) = some r → (s.chan ch).retrying = none → (s.chan ch).state = .active →
    exec (.readRetry ch id) s =
      .next ((s.modChan ch fun c => { c with reads := dropFirst (fun x => decide (x = r)) c.reads, retrying := some r }).holdTimer r.op true)) ∧
  (∀ (s : State) (ch : Nat) (good : Bool) (r : RdReq), (s.chan ch).retrying = some r →
    exec (.readRetryReturn ch good) s =
      .next (if good then ((((s.modChan ch fun c => { c with retrying := none }).holdTimer r.op false).deliverRead ch r).tcount r.tenant 0xAB00 1 1).raise Ev.dramRetryOk
          (((s.modChan ch fun c => { c with retrying := none }).holdTimer r.op false).clusterOwner (ch / 2)) Locus.channel ch (r.unit * 64)
        else ((s.modChan ch fun c => { c with retrying := none }).holdTimer r.op false).readFailed ch r))

/-- For every state and operands that meet the conditions named, REFRESH, SELF_REFRESH_ENTRY, SELF_REFRESH_EXIT, PATROL_SCRUB (of a row with nothing to correct), RETRAIN and KEY_ZEROISE each answer exactly the next state shown: a free bank pair of an active channel is refreshed; an idle channel enters self-refresh and is counted; the scrub moves to the next of 3,145,728 rows and counts it; a channel retrained 100 ms ago or more takes the temperature and time; a key slot with no write left under it becomes empty. Nothing but what that state shows changes. Rules: 12_dram_controller.md R243, 12_dram_controller.md R244, 12_dram_controller.md R245, 12_dram_controller.md R250, 12_dram_controller.md R237. -/
def Obligations.DramUpkeepRuns : Prop :=
  (∀ (s : State) (ch pair : Nat), (s.chan ch).state = .active → pair < 16 →
    exec (.refresh ch pair false) s = .next (s.modChan ch fun c => c.refreshed pair)) ∧
  (∀ (s : State) (ch pair : Nat), (s.chan ch).state = .active → pair < 16 →
    exec (.refresh ch pair true) s =
      .next (s.modChan ch fun c => if mget 0 c.postponed pair < 7 then { c with postponed := mmod 0 c.postponed pair (· + 1) } else c.refreshed pair)) ∧
  (∀ (s : State) (ch : Nat), ch < 32 → (s.chan ch).state = .active → (s.chan ch).reads = [] → (s.chan ch).writes = [] → (s.chan ch).retrying = none →
    (s.chan ch).idleLimit ≤ s.now - (s.chan ch).lastBusy →
    exec (.selfRefreshEntry ch) s = .next ((s.modChan ch fun c => { c with state := .selfRefresh, openRow := [] }).count 0xAC04 (ch + 1) 1)) ∧
  (∀ (s : State) (ch : Nat), (s.chan ch).state = .selfRefresh → s.chanOpen ch = true → exec (.selfRefreshExit ch) s = .next (s.wakeChan ch)) ∧
  (∀ (s : State) (ch : Nat), ch < 32 → (s.chan ch).state = .active → s.chanOpen ch = true →
    exec (.patrolScrub ch none) s = .next ((s.modChan ch fun c => { c with scrubRow := (c.scrubRow + 1) % 3145728 }).count 0xAC03 (ch + 1) 1)) ∧
  (∀ (s : State) (ch : Nat) (temp : Int), ch < 32 → (s.chan ch).state = .active → 100000000 ≤ s.now - (s.chan ch).lastRetrain →
    exec (.retrain ch temp) s = .next (s.modChan ch fun c => { c with oscTemp := temp, lastRetrain := s.now })) ∧
  (∀ (s : State) (t : Nat), (s.keySlot t).zeroising = true → s.keyWrites t = 0 → s.removal t = none →
    exec (.keyZeroise t) s = .next (s.modKeySlot t fun _ => {})) ∧
  (∀ (s : State) (t : Nat) (r : Removal), (s.keySlot t).zeroising = true → s.keyWrites t = 0 → s.removal t = some r → r.step = 5 →
    exec (.keyZeroise t) s = .next ((s.modKeySlot t fun _ => {}).beginScrub t))

/-- For every state and operands that meet the conditions named, UPLOAD_BEGIN, UPLOAD_DATA, UPLOAD_END, UPLOAD_ABORT and DATASET_DELETE are each accepted with exactly the effect shown: an upload of a valid kind, slot and length that UFS fits opens in an ACTIVE tenant that has none open; data within its length is noted; a whole upload whose image passes its checks is handed to its slot; an abort drops it; an unused dataset is deleted. Nothing but what that state shows changes. Rules: 13_model_lifecycle.md R254, 13_model_lifecycle.md R256, 13_model_lifecycle.md R271. -/
def Obligations.UploadCommandsRun : Prop :=
  (∀ (s : State) (rq : Rq) (c : Conn) (t kind slot bytes : Nat),
    Claims.Reaches s (.uploadBegin rq t kind slot bytes false) rq c (entryCode (0x5300 + t) 2) → kind ≤ 2 → slot < (if kind = 1 then 16 else 4) →
    0 < bytes → bytes % 4096 = 0 → s.tenState t = .active → s.upload t = none → s.slotTakes t kind slot = true →
    (kind = 2 → s.datasetInUse t slot = false) → s.ufsFits t bytes = true →
    Claims.Accepts s (.uploadBegin rq t kind slot bytes false) rq c (entryCode (0x5300 + t) 2) Bdp.ok (unle (le 1 kind ++ le 1 slot ++ le 6 0 ++ le 8 bytes))
      (s.modUpload t fun _ => some { kind := kind, slot := slot, bytes := bytes })) ∧
  (∀ (s : State) (rq : Rq) (c : Conn) (t offset : Nat) (data : List Nat) (img : Option Image) (u : Upload),
    Claims.Reaches s (.uploadData rq t offset data img) rq c (entryCode (0x5300 + t) 3) → s.upload t = some u → offset + data.length ≤ u.bytes →
    Claims.Accepts s (.uploadData rq t offset data img) rq c (entryCode (0x5300 + t) 3) Bdp.ok (varValue (le 8 offset ++ data))
      (s.modUpload t fun o => o.map fun u => { u with written := if data.length = 0 then u.written else u.written ++ [(offset, offset + data.length)], img := img })) ∧
  (∀ (s : State) (rq : Rq) (c : Conn) (t : Nat) (u : Upload),
    Claims.Reaches s (.uploadEnd rq t) rq c (entryCode (0x5300 + t) 4) → s.upload t = some u → u.endStatus = Bdp.ok → s.slotTakes t u.kind u.slot = true →
    Claims.Accepts s (.uploadEnd rq t) rq c (entryCode (0x5300 + t) 4) Bdp.pending 1
      (((s.handOver t u).modUpload t fun _ => none).finish (entryCode (0x5300 + t) 4) Bdp.ok)) ∧
  (∀ (s : State) (rq : Rq) (c : Conn) (t : Nat) (u : Upload), Claims.Reaches s (.uploadAbort rq t) rq c (entryCode (0x5300 + t) 5) → s.upload t = some u →
    Claims.Accepts s (.uploadAbort rq t) rq c (entryCode (0x5300 + t) 5) Bdp.ok 1 (s.modUpload t fun _ => none)) ∧
  (∀ (s : State) (rq : Rq) (c : Conn) (t slot : Nat) (i : Image), Claims.Reaches s (.datasetDelete rq t slot) rq c (entryCode (0x5300 + t) 7) → slot < 4 →
    s.dataset (t * 4 + slot) = some i → s.datasetInUse t slot = false →
    Claims.Accepts s (.datasetDelete rq t slot) rq c (entryCode (0x5300 + t) 7) Bdp.ok slot (s.modDataset (t * 4 + slot) fun _ => none))

/-- For every state and operands that meet the conditions named, INSTALL, SWAP, REMOVE, CHECK_PASS_END, INSTALL_READY, SWAP_DRAIN_DONE, SWAP_COMPLETE, REMOVE_COMPLETE and MODEL_RELOAD_DONE have exactly the effect shown: INSTALL takes a STAGED slot and SWAP a READY slot with a pending image to CHECKING; a check pass that ends OK begins the install or the swap; an install with nothing left to write is READY; the swap flips once no step is in flight and ends once the old strata are gone; a removal ends once its strata are released; a model that was not loaded is loaded again. Nothing but what that state shows changes. Rules: 13_model_lifecycle.md R256, 13_model_lifecycle.md R257, 13_model_lifecycle.md R262, 13_model_lifecycle.md R263, 13_model_lifecycle.md R268. -/
def Obligations.ModelSlotCommandsRun : Prop :=
  (∀ (s : State) (rq : Rq) (c : Conn) (t slot : Nat), Claims.Reaches s (.install rq t slot) rq c (entryCode (slotIndex t slot) 4) → s.tenState t = .active →
    (s.mslot t slot).state = .staged →
    Claims.Accepts s (.install rq t slot) rq c (entryCode (slotIndex t slot) 4) Bdp.pending 1
      (s.modSlot (t * 4 + slot) fun m => { m with state := .checking, fromReady := false })) ∧
  (∀ (s : State) (rq : Rq) (c : Conn) (t slot mode context : Nat) (i : Image), Claims.Reaches s (.swap rq t slot mode context false) rq c (entryCode (slotIndex t slot) 5) →
    mode ≤ 1 → context ≤ 1 → s.tenState t = .active → (s.mslot t slot).state = .ready → (s.mslot t slot).pending = some i →
    Claims.Accepts s (.swap rq t slot mode context false) rq c (entryCode (slotIndex t slot) 5) Bdp.pending (unle (le 1 mode ++ le 1 context ++ le 2 0))
      (s.modSlot (t * 4 + slot) fun m => { m with state := .checking, fromReady := true, held := decide (mode = 1), replay := decide (context = 1) })) ∧
  (∀ (s : State) (rq : Rq) (c : Conn) (t slot v : Nat), Claims.Reaches s (.remove rq t slot v) rq c (entryCode (slotIndex t slot) 6) → v ≤ 1 → s.tenState t = .active →
    (s.mslot t slot).state = .staged →
    Claims.Accepts s (.remove rq t slot v) rq c (entryCode (slotIndex t slot) 6) Bdp.ok v (s.modSlot (t * 4 + slot) fun _ => .init)) ∧
  (∀ (s : State) (rq : Rq) (c : Conn) (t slot v : Nat), Claims.Reaches s (.remove rq t slot v) rq c (entryCode (slotIndex t slot) 6) → s.tenState t = .active →
    ((s.mslot t slot).state = .ready ∨ (s.mslot t slot).state = .installing ∨ (s.mslot t slot).state = .swapping) → (v = 1 ∨ v = 0 ∧ s.slotSessions t slot = []) →
    Claims.Accepts s (.remove rq t slot v) rq c (entryCode (slotIndex t slot) 6) Bdp.pending v (s.beginRemove t slot)) ∧
  (∀ (s : State) (t slot : Nat) (i : Image), Claims.Up s (.checkPassEnd t slot) → (s.mslot t slot).pending = some i → (s.mslot t slot).state = .checking →
    (s.checkPass t slot i).1 = Bdp.ok →
    exec (.checkPassEnd t slot) s =
      .next (if (s.mslot t slot).fromReady then (s.checkPass t slot i).2.2.beginSwap t slot i (s.checkPass t slot i).2.1
        else (s.checkPass t slot i).2.2.beginInstall t slot i (s.checkPass t slot i).2.1)) ∧
  (∀ (s : State) (t slot : Nat), Claims.Up s (.installReady t slot) → (s.mslot t slot).state = .installing → s.unwritten t slot = false →
    exec (.installReady t slot) s =
      .next ((((((s.buildTables t slot).modSlot (t * 4 + slot) fun m => { m with state := .ready }).tcount t 0xAD00 1 1).raise Ev.modelReady t Locus.none 0 slot).finish
        (entryCode (slotIndex t slot) 4) Bdp.ok).noteSlots t)) ∧
  (∀ (s : State) (t slot : Nat) (i : Image), Claims.Up s (.swapDrainDone t slot) → (s.mslot t slot).pending = some i → (s.mslot t slot).state = .swapping →
    (s.mslot t slot).flipped = false → s.slotBusy t slot = false → (s.job t).state ≠ .running →
    exec (.swapDrainDone t slot) s = .next ((s.flip t slot i).afterFlip t slot)) ∧
  (∀ (s : State) (t slot : Nat), Claims.Up s (.swapComplete t slot) → (s.mslot t slot).state = .swapping → (s.mslot t slot).flipped = true → s.unwritten t slot = false →
    s.strataWhere (fun x => isContent t slot (s.mslot t slot).oldStamp x.content) = [] →
    exec (.swapComplete t slot) s =
      .next (((((((s.dropBarrier t slot).freeExtents t .modelC (slot + 8)).modSlot (t * 4 + slot)
        fun m => { m with state := .ready, old := none, oldStamp := 0, flipped := false }).tcount t 0xAD00 2 1).raise
          Ev.swapDone t Locus.none 0 slot).finish (entryCode (slotIndex t slot) 5) Bdp.ok).noteSlots t)) ∧
  (∀ (s : State) (t slot : Nat), Claims.Up s (.removeComplete t slot) → (s.mslot t slot).state = .removing → s.slotBusy t slot = false →
    s.strataWhere (fun x => x.ofSlot t slot) = [] →
    exec (.removeComplete t slot) s =
      .next ((((((((s.freeExtents t .modelC slot).freeExtents t .modelC (slot + 4)).freeExtents t .modelC (slot + 8)).dropTables t slot).modSlot (t * 4 + slot)
        fun _ => .init).raise Ev.modelRemoved t Locus.none 0 slot).finish (entryCode (slotIndex t slot) 6) Bdp.ok).noteSlots t)) ∧
  (∀ (s : State) (t slot : Nat) (i : Image), Claims.Up s (.modelReloadDone t slot) → (s.mslot t slot).current = some i → (s.mslot t slot).loaded = false →
    (s.mslot t slot).state ≠ .swapping →
    exec (.modelReloadDone t slot) s =
      .next ((((s.reload t slot (some i)).buildTables t slot).reloadAdapters t slot).modSlot (t * 4 + slot) fun m => { m with loaded := true }))

/-- For every state and operands that meet the conditions named, ADAPTER_LOAD, ADAPTER_LOAD_DONE, ADAPTER_UNLOAD and ADAPTER_DELETE have exactly the effect shown: a STORED adapter whose load passes the checks of R269 takes its space and is being loaded; a load that is done makes it RESIDENT and bound; an unused RESIDENT adapter is unloaded; an unused adapter with no load in progress is deleted. Nothing but what that state shows changes. Rules: 13_model_lifecycle.md R269, 13_model_lifecycle.md R270. -/
def Obligations.AdapterCommandsRun : Prop :=
  (∀ (s s' : State) (rq : Rq) (c : Conn) (t ad slot : Nat), Claims.Reaches s (.adapterLoad rq t ad slot) rq c (entryCode (adapterIndex t ad) 3) → slot < 4 →
    s.tenState t = .active → (s.adapter (t * 16 + ad)).state = .stored → (s.adapter (t * 16 + ad)).loading = none → s.loadStatus t ad slot = Bdp.ok →
    s.allocExtent t .adapterC ad none (Image.adapterOctets ((s.adapter (t * 16 + ad)).img.getD Image.init)) = some s' →
    Claims.Accepts s (.adapterLoad rq t ad slot) rq c (entryCode (adapterIndex t ad) 3) Bdp.pending slot
      (s'.modAdapter (t * 16 + ad) fun a => { a with loading := some slot })) ∧
  (∀ (s : State) (t ad slot : Nat), Claims.Up s (.adapterLoadDone t ad) → (s.adapter (t * 16 + ad)).loading = some slot →
    exec (.adapterLoadDone t ad) s =
      .next ((((s.modAdapter (t * 16 + ad) fun a => { a with state := .resident, binding := a.loading, loading := none, loaded := true }).fillAdapter t ad).finish
        (entryCode (adapterIndex t ad) 3) Bdp.ok).noteSlots t)) ∧
  (∀ (s : State) (rq : Rq) (c : Conn) (t ad : Nat), Claims.Reaches s (.adapterUnload rq t ad) rq c (entryCode (adapterIndex t ad) 4) →
    (s.adapter (t * 16 + ad)).state = .resident → s.adapterUsed t ad = false →
    Claims.Accepts s (.adapterUnload rq t ad) rq c (entryCode (adapterIndex t ad) 4) Bdp.ok 1 (s.unloadAdapter t ad)) ∧
  (∀ (s : State) (rq : Rq) (c : Conn) (t ad : Nat), Claims.Reaches s (.adapterDelete rq t ad) rq c (entryCode (adapterIndex t ad) 5) →
    ((s.adapter (t * 16 + ad)).state = .resident ∨ (s.adapter (t * 16 + ad)).state = .stored) → (s.adapter (t * 16 + ad)).loading = none → s.adapterUsed t ad = false →
    Claims.Accepts s (.adapterDelete rq t ad) rq c (entryCode (adapterIndex t ad) 5) Bdp.ok 1
      (((s.freeExtents t .adapterC ad).modAdapter (t * 16 + ad) fun _ => .init).noteSlots t))

/-- For every state and operands that meet the conditions named, TRAIN_START, TRAIN_RESUME, TRAIN_STOP, TRAIN_STEP and CHECKPOINT_LANDED have exactly the effect shown: a start whose configuration passes its checks starts the job, a resume also needs a checkpoint of the same adapter; a stop of a running job is noted; a step of a running job that writes no checkpoint updates it or counts the failure; a landed checkpoint becomes the newest file. Nothing but what that state shows changes. Rules: 13_model_lifecycle.md R273, 13_model_lifecycle.md R277, 13_model_lifecycle.md R278. -/
def Obligations.TrainingCommandsRun : Prop :=
  (∀ (s : State) (rq : Rq) (c : Conn) (t : Nat), Claims.Reaches s (.trainStartNew rq t) rq c (entryCode (0x5500 + t) 2) → s.trainStatus t (s.setting (0x5500 + t) 1) = Bdp.ok →
    Claims.Accepts s (.trainStartNew rq t) rq c (entryCode (0x5500 + t) 2) Bdp.pending 0
      ((s.startJob t (s.setting (0x5500 + t) 1) false).finish (entryCode (0x5500 + t) 2) Bdp.ok)) ∧
  (∀ (s : State) (rq : Rq) (c : Conn) (t : Nat) (k : Ckpt), Claims.Reaches s (.trainResume rq t) rq c (entryCode (0x5500 + t) 2) → s.trainStatus t (s.setting (0x5500 + t) 1) = Bdp.ok →
    (s.job t).checkpoint = some k → cfgField k.config 0 1 = cfgField (s.setting (0x5500 + t) 1) 0 1 →
    Claims.Accepts s (.trainResume rq t) rq c (entryCode (0x5500 + t) 2) Bdp.pending 1
      ((s.startJob t (s.setting (0x5500 + t) 1) true).finish (entryCode (0x5500 + t) 2) Bdp.ok)) ∧
  (∀ (s : State) (rq : Rq) (c : Conn) (t : Nat), Claims.Reaches s (.trainStop rq t) rq c (entryCode (0x5500 + t) 3) → (s.job t).state = .running →
    Claims.Accepts s (.trainStop rq t) rq c (entryCode (0x5500 + t) 3) Bdp.pending 1 (s.modJob t fun j => { j with stopAt := some .idle, stopCmd := true })) ∧
  (∀ (s : State) (t : Nat) (ok : Bool) (loss : BitVec 32) (g : List (List (BitVec 32))), (s.job t).state = .running → (s.job t).writing = none → s.power.state = .run →
    s.tenState t = .active →
    exec (.trainStep t ok loss g) s = .next (if ok then (s.optimise t loss g).afterStep t else s.failedStep t)) ∧
  (∀ (s : State) (t w : Nat), (s.job t).writing = some w →
    exec (.checkpointLanded t) s =
      .next (((s.modJob t fun j => { j with files := mset none j.files (j.writing.getD 0) j.wrote, newest := j.writing, writing := none, wrote := none }).tcount t 0xAD00 5 1).enterStop t))

/-- For every state and operands that meet the conditions named, TCP_CONNECT, CLIENT_HELLO, KEY_SHARE, AUTH, HANDSHAKE_JOB_START, HANDSHAKE_DEADLINE, CHANNEL_IDLE_EXPIRY, TCP_CONNECTION_END and OUTPUT_BUFFER_DRAIN answer a next state with what the statement says of it: a new connection takes a place; an accepted hello joins the trust block's queue; the oldest queued handshake is taken while fewer than 8 are worked on and waits for the key share; a key share derives the channel's keys; a hello or a key share with a reserved field set is answered RESERVED_SET and applies nothing else; an accepted ticket establishes the channel with its client and class; a passed deadline, 60 s without a record, or the end of the connection has exactly the effect shown; acknowledged output leaves the buffer. Rules: 14_sessions_and_service.md R280, 14_sessions_and_service.md R281, 14_sessions_and_service.md R283, 14_sessions_and_service.md R284. -/
def Obligations.ChannelCommandsRun : Prop :=
  (∀ (s : State) (conn port : Nat), Claims.Up s (.tcpConnect conn port (s.serviceNumber 1)) → s.conn conn = none → port < 2 → nbit (s.servicesOf port) 1 = true → s.tcpCount true < 1088 →
    s.places .asx < 1024 →
    exec (.tcpConnect conn port (s.serviceNumber 1)) s =
      .next (s.modConn conn fun _ => some { kind := .asx, port := port, phase := .tcp, tcpPort := s.serviceNumber 1, idleSince := s.now })) ∧
  (∀ (s : State) (conn version who nonce : Nat) (k : Conn), Claims.Up s (.clientHello conn version who ⟨nonce, false⟩) → s.conn conn = some k → k.phase = .tcp → k.kind ≠ .asx →
    s.helloOk k version who = true → s.svc.waiting.length < 64 →
    exec (.clientHello conn version who ⟨nonce, false⟩) s =
      .next { (s.modConn conn fun _ => some (s.hello k version who nonce)) with
        svc := { (s.modConn conn fun _ => some (s.hello k version who nonce)).svc with waiting := s.svc.waiting ++ [conn] } }) ∧
  (∀ (s : State) (conn version who nonce : Nat) (k : Conn), Claims.Up s (.clientHello conn version who ⟨nonce, false⟩) → s.conn conn = some k → k.phase = .tcp → k.kind = .asx →
    s.helloOk k version who = true → s.svc.waiting.length < 64 →
    ∃ t, exec (.clientHello conn version who ⟨nonce, false⟩) s = .next t ∧ t.svc.waiting = s.svc.waiting ++ [conn] ∧
      ∃ x, t.conn conn = some x ∧ x.phase = .helloQueued ∧ x.tenant = who ∧ x.nonceC = nonce) ∧
  (∀ (s : State) (conn : Nat) (l : List Nat) (k : Conn), Claims.Up s (.handshakeJobStart conn) → s.conn conn = some k → s.svc.waiting = conn :: l → s.svc.working.length < 8 →
    ∃ t, exec (.handshakeJobStart conn) s = .next t ∧ t.svc.waiting = l ∧ t.svc.working = s.svc.working ++ [conn] ∧ t.trust.counter = counterNext s.trust.counter ∧
      ∃ x, t.conn conn = some x ∧ x.phase = .shareWait ∧ x.deadline = some (s.now + 5 * 10 ^ 9)) ∧
  (∀ (s : State) (conn ct : Nat) (k : Conn), Claims.Up s (.keyShare conn ⟨ct, false⟩) → s.conn conn = some k → k.phase = .shareWait → ct < 2 ^ 12544 →
    ∃ t, exec (.keyShare conn ⟨ct, false⟩) s = .next t ∧ ∃ x, t.conn conn = some x ∧ x.phase = .authWait ∧ x.kem = 0 ∧ x.deadline = some (s.now + 5 * 10 ^ 9) ∧
      x.keys = ({ k with transcript := k.transcript ++ le 1568 ct } : Conn).recordKeys (Config.kemSecret k.kem ct)) ∧
  (∀ (s : State) (conn version who nonce ct : Nat) (k : Conn), s.conn conn = some k →
    (Claims.Up s (.clientHello conn version who ⟨nonce, true⟩) → k.phase = .tcp → exec (.clientHello conn version who ⟨nonce, true⟩) s = .next (s.answerResv k conn)) ∧
    (Claims.Up s (.keyShare conn ⟨ct, true⟩) → k.phase = .shareWait → exec (.keyShare conn ⟨ct, true⟩) s = .next (s.answerResv k conn))) ∧
  (∀ (s : State) (conn clientId maxClass expiry resv : Nat) (tag : BitVec 128) (k : Conn), Claims.Up s (.auth conn true clientId maxClass expiry tag resv) →
    s.conn conn = some k → k.phase = .authWait → k.kind = .asx → s.ticketOk k clientId maxClass expiry tag resv = true → s.tenState k.tenant = .active →
    ∃ t, exec (.auth conn true clientId maxClass expiry tag resv) s = .next t ∧
      ∃ x, t.conn conn = some x ∧ x.phase = .up ∧ x.clientId = clientId ∧ x.maxClass = maxClass ∧ x.deadline = none) ∧
  (∀ (s : State) (conn d : Nat) (k : Conn), Claims.Up s (.handshakeDeadline conn) → s.conn conn = some k → k.deadline = some d → d ≤ s.now →
    (k.phase = .shareWait ∨ k.phase = .authWait) → exec (.handshakeDeadline conn) s = .next (s.failHandshake conn)) ∧
  (∀ (s : State) (conn : Nat) (k : Conn), Claims.Up s (.channelIdleExpiry conn) → s.conn conn = some k → s.countsRun = true → k.phase = .up →
    60000000000 ≤ s.now - k.idleSince → exec (.channelIdleExpiry conn) s = .next (s.closeConn conn)) ∧
  (∀ (s : State) (conn : Nat) (k : Conn), Claims.Up s (.tcpConnectionEnd conn) → s.conn conn = some k →
    exec (.tcpConnectionEnd conn) s = .next (s.closeConn conn)) ∧
  (∀ (s : State) (conn n : Nat) (k : Conn), Claims.Up s (.outputBufferDrain conn n) → s.conn conn = some k → 1 ≤ n → n < k.outBytes →
    exec (.outputBufferDrain conn n) s =
      .next (s.modConn conn fun _ => some { k with outBytes := k.outBytes - n, out := ackedOut (k.outBytes - n) k.out, unacked := some s.now }))

/-- For every state and operands that meet the conditions named, OPEN, ADAPT, CLOSE, PING, UNKNOWN_MSG, IDLE_CLOSE and SESSION_INDEX_FREE answer exactly the next state shown, once the message is recorded: an OPEN that passes its checks opens a session on the lowest free index and answers with its handle; ADAPT changes the adapter of a session that is not ACTIVE; CLOSE closes the session; PING is answered with its value; an unknown message with OUT_OF_RANGE; a session without a request for IDLE_CLOSE closes; 60 s after its session closed an index is free. Nothing but what that state shows changes. Rules: 14_sessions_and_service.md R285, 14_sessions_and_service.md R289, 14_sessions_and_service.md R290, 14_sessions_and_service.md R272. -/
def Obligations.SessionCommandsRun : Prop :=
  (∀ (s s1 : State) (conn slot adapter ctag i : Nat) (dgram persistent : Bool) (k : Conn), Claims.Up s (.openSession conn dgram 0 slot adapter persistent ctag) → s.channel conn = some k →
    s1 = s.inbound k.tenant conn 0x10 (openBody slot adapter persistent 0 ctag) → s1.openStatus k 0 slot adapter = Asx.ok →
    (List.range 4096).find? (fun j => decide ((s1.session j).state = .free)) = some i →
    exec (.openSession conn dgram 0 slot adapter persistent ctag) s =
      .next ((s1.openOn k i slot adapter persistent).reply conn dgram (.opened ctag Asx.ok ((s1.openOn k i slot adapter persistent).handleOf i)
        ((s1.openOn k i slot adapter persistent).session i).ctxMax ((s1.openOn k i slot adapter persistent).sessionImage i).plan.vocab))) ∧
  (∀ (s s1 : State) (conn session adapter i : Nat) (dgram : Bool) (k : Conn), Claims.Up s (.adapt conn dgram 0 session adapter) → s.channel conn = some k →
    s1 = s.inbound k.tenant conn 0x12 (namedBody session (le 1 adapter) 3 0) → handleResv session = false → (adapter ≤ 15 ∨ adapter = 0xFF) →
    s1.findSession k session = (Asx.ok, i) → s1.tenState (s1.session i).tenant = .active → (s1.session i).state ≠ .active →
    s1.adapterOk (s1.session i).tenant (s1.session i).slot adapter = true →
    exec (.adapt conn dgram 0 session adapter) s =
      .next ((if (s1.session i).adapter ≠ adapterOf adapter then s1.modSession i fun y => { y with adapter := adapterOf adapter, scales := [] } else s1).replyStatus conn dgram 0 session Asx.ok 0)) ∧
  (∀ (s s1 : State) (conn session i : Nat) (dgram : Bool) (k : Conn), Claims.Up s (.closeSession conn dgram 0 session) → s.channel conn = some k →
    s1 = s.inbound k.tenant conn 0x13 (namedBody session [] 4 0) → handleResv session = false → s1.findSession k session = (Asx.ok, i) →
    exec (.closeSession conn dgram 0 session) s = .next ((s1.closeSess i 7).replyStatus conn dgram 0 session Asx.ok 0)) ∧
  (∀ (s : State) (conn value : Nat) (dgram resv : Bool) (k : Conn), Claims.Up s (.ping conn dgram ⟨value, resv⟩) → s.channel conn = some k →
    exec (.ping conn dgram ⟨value, resv⟩) s = .next (if resv then s.replyStatus conn dgram 0 0 Asx.reservedSet 0 else s.reply conn dgram (.pong value))) ∧
  (∀ (s : State) (conn msg : Nat) (dgram resv : Bool) (k : Conn), Claims.Up s (.unknownMsg conn dgram ⟨msg, resv⟩) → s.channel conn = some k →
    exec (.unknownMsg conn dgram ⟨msg, resv⟩) s = .next (s.replyStatus conn dgram 0 0 (if resv then Asx.reservedSet else Asx.outOfRange) 0)) ∧
  (∀ (s : State) (i : Nat), Claims.Up s (.idleClose i) → s.countsRun = true → (s.session i).isOpen = true → (s.session i).live = none →
    s.sv (0x6100 + (s.session i).tenant) 4 3600000000000 ≠ 0 → s.sv (0x6100 + (s.session i).tenant) 4 3600000000000 ≤ s.now - (s.session i).openedAt →
    exec (.idleClose i) s = .next (s.closeSess i 7)) ∧
  (∀ (s : State) (i : Nat), Claims.Up s (.sessionIndexFree i) → (s.session i).state = .closed → 60000000000 ≤ s.now - (s.session i).closedAt →
    exec (.sessionIndexFree i) s = .next (s.modSession i fun _ => { used := true, incarn := (s.session i).incarn }))

/-- For every state and operands that meet the conditions named, REQUEST, CANCEL, REQUEST_DEQUEUE, QUEUE_TIMEOUT and SAMPLE answer exactly the next state shown: a new request whose form, session and number are right is admitted or refused as the checks of R296 say, once it is recorded; a CANCEL of the request in flight cancels it; the oldest request of the class whose turn it is leaves its queue; a request queued for its class's time-out ends; the end of a session's step is sampled. Nothing but what that state shows changes. Rules: 14_sessions_and_service.md R286, 14_sessions_and_service.md R293, 14_sessions_and_service.md R294, 14_sessions_and_service.md R296, 14_sessions_and_service.md R297, 15_control_complex.md R302. -/
def Obligations.RequestCommandsRun : Prop :=
  (∀ (s s1 : State) (conn i : Nat) (dgram : Bool) (r : ReqBody) (k : Conn), Claims.Up s (.request conn dgram r) → s.channel conn = some k →
    s1 = s.inbound k.tenant conn 0x14 r.bytes → r.formStatus = Asx.ok → s1.findSession k r.session = (Asx.ok, i) → (s1.session i).req r.reqId = none →
    (s1.session i).highest < r.reqId → (s1.admitStatus k i r).1 = Asx.ok →
    exec (.request conn dgram r) s =
      .next (((((s1.keepReq i { (s1.newReq conn dgram i r (s1.admitStatus k i r).2) with state := .queued, status := Asx.queued }).modQueue
        (queueKey (s1.session i).tenant (clsOf r.cls)) fun l => l ++ [{ session := i, req := r.reqId }]).tcount (s1.session i).tenant 0xAE00 1 1).replyStatus
          conn dgram r.reqId r.session Asx.queued 0))) ∧
  (∀ (s s1 : State) (conn session req i : Nat) (dgram : Bool) (k : Conn) (q : Req), Claims.Up s (.cancel conn dgram 0 session req) → s.channel conn = some k →
    s1 = s.inbound k.tenant conn 0x15 (le 4 session ++ le 4 0 ++ le 8 req) → handleResv session = false → s1.findSession k session = (Asx.ok, i) →
    (s1.session i).live = some q → q.id = req →
    exec (.cancel conn dgram 0 session req) s = .next (s1.cancelReq i 5 Asx.cancelled)) ∧
  (∀ (s s1 : State) (t turn : Nat) (cls : Cls) (e : QEntry), Claims.Up s (.requestDequeue t cls) → s.nextClass t = some (cls, turn) → s.queueHead t cls = some e → s.countsRun = true →
    s1 = ((s.modQueue (queueKey t cls) fun l => l.filter fun x => decide (x ≠ e)).modServed t fun _ => turn).startReq e →
    exec (.requestDequeue t cls) s =
      .next (match (s1.session e.session).running with
        | some r => if r.noGenerate = true ∧ (s1.session e.session).due = 0 then s1.endReq e.session r.id 10 Asx.ok else s1
        | none => s1)) ∧
  (∀ (s : State) (i req : Nat) (r : Req), Claims.Up s (.queueTimeout i req) → (s.session i).req req = some r → s.countsRun = true → r.state = .queued →
    s.queueTimeoutOf (s.session i).tenant r.cls ≠ 0 → s.queueTimeoutOf (s.session i).tenant r.cls ≤ s.now - r.queuedAt - r.heldNs →
    (s.mslot (s.session i).tenant (s.session i).slot).held = false →
    exec (.queueTimeout i req) s = .next ((s.endReq i req 11 Asx.queueTimeout).tcount (s.session i).tenant 0xAE00 6 1)) ∧
  (∀ (s : State) (i n : Nat) (cands : List (Nat × BitVec 32)) (st : FailSt) (r : Req) (q : StepRun), Claims.Up s (.sample i cands st) → (s.session i).running = some r →
    (s.session i).run = some n → s.run n = some q → s.runOver n q = true →
    exec (.sample i cands st) s = .next ((s.quitRun i n).stepEnd i r cands (if q.failed = .none then st else q.failed))) ∧
  (∀ (s : State) (i : Nat) (cands : List (Nat × BitVec 32)) (r : Req), Claims.Up s (.sample i cands .none) → (s.session i).running = some r → (s.session i).run = none →
    (s.session i).state = .active → (s.session i).due = 0 → (s.session i).history ≠ [] →
    exec (.sample i cands .none) s = .next (s.stepEnd i r cands .none))

/-- For every state and operands that meet the conditions named, WATCHDOG_EXPIRE, CC_RESTART, CC_RESTART_DONE, FW_BEGIN, FW_DATA, FW_END, FW_ACTIVATE_ROLLING, FW_ACTIVATE_RESET, FW_COMMIT, FW_REVERT and FW_TRIAL_WINDOW_END have exactly the effect shown: a core that fails for the first or second time in 60 s restarts, and one that fails a third time makes the device fail; a commanded restart begins while none runs; a restarted core runs; an upload opens, takes data and stages its image when it verifies; a staged image is activated either way; a trial is committed after its window and reverted within it. Nothing but what that state shows changes. Rules: 15_control_complex.md R304, 15_control_complex.md R306, 15_control_complex.md R307, 15_control_complex.md R308, 18_tenants_and_trust.md R389. -/
def Obligations.CoreCommandsRun : Prop :=
  (∀ (s : State) (k : Nat), k < 8 → s.coreUp k = true → ((s.core k).firings.filter fun t => decide (s.now < t + 60000000000)).length < 2 → s.rollsBack k = false →
    exec (.watchdogExpire k) s =
      .next ((s.modCore k fun c => { c with firings := ((s.core k).firings.filter fun t => decide (s.now < t + 60000000000)) ++ [s.now] }).restartFailed k)) ∧
  (∀ (s : State) (k : Nat), k < 8 → s.coreUp k = true → 2 ≤ ((s.core k).firings.filter fun t => decide (s.now < t + 60000000000)).length →
    exec (.watchdogExpire k) s = .next (s.raise Ev.ccFail 0 Locus.core k 0)) ∧
  (∀ (s : State) (rq : Rq) (c : Conn) (k : Nat), Claims.Reaches s (.ccRestart rq k) rq c (entryCode 0x7401 1) → k ≤ 7 → s.restartRuns = false →
    Claims.Accepts s (.ccRestart rq k) rq c (entryCode 0x7401 1) Bdp.pending k ((s.modCore k fun c => { c with cmd := true }).startRestart k 1)) ∧
  (∀ (s : State) (k : Nat), k < 8 → (s.core k).state = .restarting → exec (.ccRestartDone k true) s = .next (s.coreRuns k).nextRestart) ∧
  (∀ (s : State) (k : Nat), k < 8 → (s.core k).state = .restarting → s.rollsBack k = true →
    exec (.ccRestartDone k false) s = .next ((s.modCore k fun c => { c with state := .running, cmd := false, onNew := true }).rollBack)) ∧
  (∀ (s : State) (rq : Rq) (c : Conn) (n : Nat), Claims.Reaches s (.fwBegin rq n) rq c (entryCode 0x7402 1) → s.ctl.fwUpload = none →
    (s.ctl.fwState = .committed ∨ s.ctl.fwState = .staged) →
    Claims.Accepts s (.fwBegin rq n) rq c (entryCode 0x7402 1) Bdp.ok n
      ((s.modFwSlot s.fwInactive fun _ => .init).modCtl fun c => { c with fwUpload := some { length := n }, fwState := .committed })) ∧
  (∀ (s : State) (rq : Rq) (c : Conn) (off : Nat) (data : List Nat) (u : FwUpload), Claims.Reaches s (.fwData rq off data) rq c (entryCode 0x7402 2) → s.ctl.fwUpload = some u →
    off + data.length ≤ u.length →
    Claims.Accepts s (.fwData rq off data) rq c (entryCode 0x7402 2) Bdp.ok (varValue (le 8 off ++ data))
      (s.modCtl fun c => { c with fwUpload := some { u with written := if data.length = 0 then u.written else u.written ++ [(off, off + data.length)] } })) ∧
  (∀ (s : State) (rq : Rq) (c : Conn) (v : Bool) (i : FwImage) (u : FwUpload), Claims.Reaches s (.fwEnd rq v i) rq c (entryCode 0x7402 3) → s.ctl.fwUpload = some u →
    s.fwStatus u v i = Bdp.ok →
    Claims.Accepts s (.fwEnd rq v i) rq c (entryCode 0x7402 3) Bdp.pending 1
      ((((s.modCtl fun c => { c with fwUpload := none }).modFwSlot s.fwInactive fun _ => { i with present := true }).modCtl fun c => { c with fwState := .staged }).finish (entryCode 0x7402 3) Bdp.ok)) ∧
  (∀ (s : State) (rq : Rq) (c : Conn), Claims.Reaches s (.fwActivateRolling rq) rq c (entryCode 0x7402 4) → s.ctl.fwState = .staged →
    (s.fwSlot s.fwInactive).compatMin ≤ (s.fwSlot s.ctl.fwActive).version →
    Claims.Accepts s (.fwActivateRolling rq) rq c (entryCode 0x7402 4) Bdp.pending 0
      (s.modCtl fun c => { c with fwState := .activating, rolling := [6, 5, 4, 3, 2, 1, 7, 0] }).nextRestart) ∧
  (∀ (s : State) (rq : Rq) (c : Conn), Claims.Reaches s (.fwActivateReset rq) rq c (entryCode 0x7402 4) → s.ctl.fwState = .staged →
    Claims.Accepts s (.fwActivateReset rq) rq c (entryCode 0x7402 4) Bdp.pending 1
      ((s.modCtl fun c => { c with fwState := .trial, fwActive := s.fwInactive, trialOver := false }).toReset 3)) ∧
  (∀ (s : State) (rq : Rq) (c : Conn), Claims.Reaches s (.fwCommit rq) rq c (entryCode 0x7402 5) → s.ctl.fwState = .trial → s.ctl.trialOver = true →
    Claims.Accepts s (.fwCommit rq) rq c (entryCode 0x7402 5) Bdp.ok 1
      ((List.range 8).foldl (fun s k => s.modCore k fun c => { c with onNew := false })
        (({ s with trust := s.trust.commit (s.fwSlot s.ctl.fwActive) } : State).modCtl fun c => { c with fwState := .committed, trialOver := false }))) ∧
  (∀ (s : State) (rq : Rq) (c : Conn), Claims.Reaches s (.fwRevert rq) rq c (entryCode 0x7402 6) → s.ctl.fwState = .trial → s.ctl.trialOver = false →
    Claims.Accepts s (.fwRevert rq) rq c (entryCode 0x7402 6) Bdp.pending 1 (s.modCtl fun c => { c with revertCmd := true }).rollBack) ∧
  (∀ (s : State), s.ctl.fwState = .trial → s.ctl.trialOver = false → s.ctl.trialLeft = 0 →
    exec .fwTrialWindowEnd s = .next (s.modCtl fun c => { c with trialOver := true }))

/-- For every state and operands that meet the conditions named, LEASE_CLAIM, LEASE_RENEW, LEASE_RELEASE, LEASE_EXPIRY and GRACE_EXPIRY have exactly the effect shown: a claim takes the next epoch, holds the lease for LEASE_TIME, lifts every policy and reports a takeover from another holder; a renewal in the right epoch holds it for LEASE_TIME again; a release, or the end of GRACE, enters UNATTENDED; the end of the lease's time enters GRACE for one second, counted and reported. Nothing but what that state shows changes. Rules: 15_control_complex.md R309, 15_control_complex.md R310, 15_control_complex.md R312. -/
def Obligations.LeaseCommandsRun : Prop :=
  (∀ (s : State) (rq : Rq) (c : Conn), Claims.Reaches s (.leaseClaim rq) rq c (entryCode 0x7000 2) →
    Claims.Accepts s (.leaseClaim rq) rq c (entryCode 0x7000 2) Bdp.ok 1
      (let s1 := (s.modLease fun _ => { state := .held, holder := true, epoch := nextEpoch s.ctl.lease.epoch, remaining := s.leaseTime }).modCtl fun c => { c with policies := [] }
       if s.ctl.lease.holder = true ∧ s.ctl.lease.state ≠ .unattended then s1.raise Ev.leaseTakeover 0 Locus.none 0 (nextEpoch s.ctl.lease.epoch) else s1)) ∧
  (∀ (s : State) (rq : Rq) (c : Conn) (e : Nat), Claims.Reaches s (.leaseRenew rq e) rq c (entryCode 0x7000 3) → s.ctl.lease.state ≠ .unattended → e ≠ 0 → e = s.ctl.lease.epoch →
    Claims.Accepts s (.leaseRenew rq e) rq c (entryCode 0x7000 3) Bdp.ok e (s.modLease fun l => { l with state := .held, holder := true, remaining := s.leaseTime })) ∧
  (∀ (s : State) (rq : Rq) (c : Conn) (e : Nat), Claims.Reaches s (.leaseRelease rq e) rq c (entryCode 0x7000 4) → s.ctl.lease.state ≠ .unattended → e ≠ 0 → e = s.ctl.lease.epoch →
    Claims.Accepts s (.leaseRelease rq e) rq c (entryCode 0x7000 4) Bdp.ok e s.enterUnattended) ∧
  (∀ (s : State), s.countsRun = true → s.ctl.lease.state = .held → s.ctl.lease.remaining = 0 →
    exec .leaseExpiry s = .next (((s.modLease fun l => { l with state := .grace, remaining := 1000000000 }).count 0xAF01 1 1).raise Ev.leaseExpired 0 Locus.none 0 s.ctl.lease.epoch)) ∧
  (∀ (s : State), s.countsRun = true → s.ctl.lease.state = .grace → s.ctl.lease.remaining = 0 → exec .graceExpiry s = .next s.enterUnattended)

/-- For every state and operands that meet the conditions named, PORT_ENABLE, MEDIA, SPEEDS, GCL, CABLE_TEST, LINK_UP, LINK_DOWN, CABLE_TEST_DONE and GCL_SWITCH have exactly the effect shown: a port is enabled, or disabled with the loss of a link that is up; MEDIA and SPEEDS that may stand together are stored; a gate control list in range waits for its cycle start and then becomes the operating list; a cable test runs while the link is not up and writes its result; an enabled link that trains comes up at one of its speeds; a link that is up goes back to training. Nothing but what that state shows changes. Rules: 16_network_ports.md R322, 16_network_ports.md R323, 16_network_ports.md R331, 16_network_ports.md R339. -/
def Obligations.PortCommandsRun : Prop :=
  (∀ (s : State) (rq : Rq) (c : Conn) (p : Nat), Claims.Reaches s (.portEnable rq p true) rq c (entryCode (portIndex p) 1) →
    Claims.Accepts s (.portEnable rq p true) rq c (entryCode (portIndex p) 1) Bdp.ok 1
      (if (s.port p).on then s.setStored (portIndex p) 1 1 1 else (s.setStored (portIndex p) 1 1 1).enablePort p)) ∧
  (∀ (s : State) (rq : Rq) (c : Conn) (p : Nat), Claims.Reaches s (.portEnable rq p false) rq c (entryCode (portIndex p) 1) → (s.port p).link = .up →
    Claims.Accepts s (.portEnable rq p false) rq c (entryCode (portIndex p) 1) Bdp.ok 0
      (((s.setStored (portIndex p) 1 1 0).linkLoss p .down).modPort p fun x => { x with on := false, link := .down, speed := 0, beacon := false })) ∧
  (∀ (s : State) (rq : Rq) (c : Conn) (p : Nat), Claims.Reaches s (.portEnable rq p false) rq c (entryCode (portIndex p) 1) → (s.port p).link ≠ .up → (s.port p).link ≠ .sleep →
    Claims.Accepts s (.portEnable rq p false) rq c (entryCode (portIndex p) 1) Bdp.ok 0
      ((s.setStored (portIndex p) 1 1 0).modPort p fun x => { x with on := false, link := .down, speed := 0, beacon := false })) ∧
  (∀ (s : State) (rq : Rq) (c : Conn) (p v : Nat), Claims.Reaches s (.media rq p v) rq c (entryCode (portIndex p) 2) → v ≤ 1 → mediaSpeedsOk v (s.setting (portIndex p) 3) = true →
    Claims.Accepts s (.media rq p v) rq c (entryCode (portIndex p) 2) Bdp.ok v (s.setStored (portIndex p) 2 0 v)) ∧
  (∀ (s : State) (rq : Rq) (c : Conn) (p v : Nat), Claims.Reaches s (.speeds rq p v) rq c (entryCode (portIndex p) 3) → v ≤ 15 → mediaSpeedsOk (s.setting (portIndex p) 2) v = true →
    Claims.Accepts s (.speeds rq p v) rq c (entryCode (portIndex p) 3) Bdp.ok v (s.setStored (portIndex p) 3 15 v)) ∧
  (∀ (s : State) (rq : Rq) (c : Conn) (p : Nat) (l : GclList), Claims.Reaches s (.gcl rq p l false) rq c (entryCode (portIndex p) 10) → l.inRange = true →
    Claims.Accepts s (.gcl rq p l false) rq c (entryCode (portIndex p) 10) Bdp.ok (varValue l.bytes)
      ((s.setStored (portIndex p) 10 (2 ^ 192) (varValue l.bytes)).modPort p fun x => { x with gclNext := some l })) ∧
  (∀ (s : State) (rq : Rq) (c : Conn) (p : Nat), Claims.Reaches s (.cableTest rq p) rq c (entryCode (portIndex p) 0x15) → (s.port p).link ≠ .up →
    Claims.Accepts s (.cableTest rq p) rq c (entryCode (portIndex p) 0x15) Bdp.pending 1 (s.modPort p fun x => { x with cableBusy := true })) ∧
  (∀ (s : State) (p speed sqi : Nat) (leader : Bool), p < 2 → (s.port p).on = true → (s.port p).link = .training → (speed = 1 ∨ speed = 2 ∨ speed = 4 ∨ speed = 8) →
    s.eff p 3 &&& speed ≠ 0 → sqi < 8 →
    exec (.linkUp p speed leader sqi) s =
      .next (s.modPort p fun x => { x with link := .up, speed := speed, leader := s.roleOf p leader, sqi := sqi, verified := false })) ∧
  (∀ (s : State) (p : Nat), p < 2 → (s.port p).link = .up → exec (.linkDown p) s = .next (s.linkLoss p .training)) ∧
  (∀ (s : State) (p result dm : Nat), p < 2 → (s.port p).cableBusy = true → result < 3 →
    exec (.cableTestDone p result dm) s =
      .next ((s.modPort p fun x => { x with cable := result, cableDm := dm % 65536, cableBusy := false }).finish (entryCode (portIndex p) 0x15) Bdp.ok)) ∧
  (∀ (s : State) (p : Nat) (l : GclList), p < 2 → (s.port p).gclNext = some l → l.base ≤ s.clk.cal →
    exec (.gclSwitch p) s =
      .next (s.modPort p fun x => { x with gcl := l, gclNext := none, gateIdx := 0, gateLeft := (l.entries.headD Gate.init).interval }))

/-- For every state and operands that meet the conditions named, FRAME_RECEIVE, FRAME_TRANSMIT, DATAGRAM_TX_DROP, MKA_HELLO, SAK_INSTALL, MKA_PEER_LOST, MAC_MERGE_VERIFIED, TCP_USER_TIMEOUT, TCP_RETRANSMISSION_TIMEOUT and PLCA_BEACON answer exactly the next state shown: a good frame that MACsec and the VLAN let pass is buffered; the next queue's frame leaves, or begins as a preemptable one; a datagram with no room for 1 ms is dropped and counted; a live peer, its SAK and its loss are noted; sent data that stays unacknowledged resets its connection or goes out again. Nothing but what that state shows changes. Rules: 16_network_ports.md R324, 16_network_ports.md R326, 16_network_ports.md R327, 16_network_ports.md R330, 16_network_ports.md R332, 16_network_ports.md R335. -/
def Obligations.FrameCommandsRun : Prop :=
  (∀ (s : State) (p : Nat) (f : RxFrame), p < 3 → (s.port p).link = .up → f.len ≤ 1522 → 64 ≤ f.len → f.fcsOk = true → s.macsecPass p f = true → (s.macsecSeen p f).vlanPass p f = true →
    exec (.frameReceive p f) s = .next (((s.macsecSeen p f).bufferFrame p f).frameWake p)) ∧
  (∀ (s : State) (p q : Nat), p < 3 → s.sends p = true → (s.port p).fragment = none → s.nextQueue p false = some q →
    exec (.frameTransmit p) s = .next (if s.preemptable p q then s.modPort p fun x => { x with fragment := some q } else s.sentFrame p q)) ∧
  (∀ (s : State) (p q : Nat), p < 3 → s.sends p = true → (s.port p).fragment = some q → s.nextQueue p true = none → s.mayStart p q = true →
    exec (.frameTransmit p) s = .next (s.sentFrame p q)) ∧
  (∀ (s : State) (p pcp c : Nat) (l : List Nat) (k : Conn) (f : TxFrame),
    s.connsWhere (fun k => decide (k.port = p) && (match k.waitingDatagram pcp with | some f => decide (f.since + 1000000 ≤ s.now) && !(s.port p).takes f | none => false)) = c :: l →
    s.conn c = some k → k.waitingDatagram pcp = some f →
    exec (.datagramTxDrop p pcp) s =
      .next (((s.modConn c fun o => o.map fun k => { k with toQueue := k.toQueue.erase f }).dropDatagrams [f]).count 0xA005 (p + 1) 1)) ∧
  (∀ (s : State) (p : Nat), p < 2 → (s.port p).link = .up → s.sv (0x3100 + p) 13 0 ≠ 0 → (s.port p).peerLive = false →
    exec (.mkaHello p true) s = .next (s.modPort p fun x => { x with peerLive := true, cak := s.sv (0x3100 + p) 13 0, ckn := s.sv (0x3100 + p) 14 0 })) ∧
  (∀ (s : State) (p an key : Nat), p < 2 → (s.port p).link = .up → (s.port p).peerLive = true → an < 4 →
    exec (.sakInstall p an key) s =
      .next (s.modPort p fun x => { x with
        txSa := mset .init (mfilter (fun k _ => decide (k = x.txAn)) x.txSa) an { installed := true, key := key % 2 ^ 256 },
        rxSa := mset .init (mfilter (fun k _ => decide (k = x.txAn)) x.rxSa) an { installed := true, key := key % 2 ^ 256 },
        txAn := an, mode := s.setting (0x3100 + p) 11, sakAsked := false })) ∧
  (∀ (s : State) (p : Nat), p < 2 → (s.port p).peerLive = true →
    exec (.mkaPeerLost p) s =
      (let s1 := s.modPort p fun x => { x with peerLive := false, txSa := [], rxSa := [], sakAsked := false }
       .next (if s1.macsecRequired p then s1.raise Ev.mkaPeerLost 0 Locus.port p 0 else s1))) ∧
  (∀ (s : State) (p : Nat), p < 2 → (s.port p).link = .up → s.eff p 9 = 1 → exec (.macMergeVerified p) s = .next (s.modPort p fun x => { x with verified := true })) ∧
  (∀ (s : State) (conn t : Nat) (k : Conn), Claims.Up s (.tcpUserTimeout conn) → s.conn conn = some k → k.unacked = some t → t + s.setting 0x3000 3 ≤ s.now →
    exec (.tcpUserTimeout conn) s = .next (s.closeConn conn)) ∧
  (∀ (s : State) (conn t : Nat) (k : Conn), Claims.Up s (.tcpRetransmissionTimeout conn) → s.conn conn = some k → k.unacked = some t → t + 10000000 ≤ s.now → 0 < k.outBytes →
    exec (.tcpRetransmissionTimeout conn) s = .next (s.retransmit conn k)) ∧
  (∀ (s : State) (received : Bool), (s.port 2).on = true → s.eff 2 2 ≠ 255 → (received = true ↔ s.eff 2 2 ≠ 0) →
    exec (.plcaBeacon received) s = .next (s.modPort 2 fun x => { x with beacon := true }))

/-- For every state and operands that meet the conditions named, PEER_DELAY, GPTP_SYNC, DISCIPLINE_LOSS, TC10_SLEEP_REQUEST, TC10_ACK_TIMEOUT and TC10_WAKE answer exactly the next state shown: a measured delay is stored less the external part; a Sync of the supplying port disciplines the clock and one of the other port is noted; 3 s without Sync end the discipline; the partner's answer, its own request during an entry, and the end of the wait are taken; the wake detector wakes the device. Nothing but what that state shows changes. Rules: 16_network_ports.md R333, 16_network_ports.md R334, 21_pins_startup_clock.md R451. -/
def Obligations.TimeAndSleepCommandsRun : Prop :=
  (∀ (s : State) (p : Nat) (d : Int), p < 2 → (s.port p).link = .up →
    exec (.peerDelay p d) s = .next (s.modPort p fun x => { x with peerDelay := d - s.tsOffset p })) ∧
  (∀ (s s1 : State) (p time : Nat) (bmca : Bool), Claims.Up s (.gptpSync p time bmca none) → p < 2 → (s.port p).link = .up →
    s1 = s.modPort p (fun x => { x with syncLive := true, bmca := bmca }) → s1.supplies p = true →
    exec (.gptpSync p time bmca none) s = .next (s1.discipline p ((s1.clk.cal : Int) - s1.tsOffset p - (time + (s1.port p).peerDelay)))) ∧
  (∀ (s s1 : State) (p time : Nat) (bmca : Bool) (utc : Option Int), Claims.Up s (.gptpSync p time bmca utc) → p < 2 → (s.port p).link = .up →
    s1 = s.modPort p (fun x => { x with syncLive := true, bmca := bmca }) → s1.supplies p = false →
    exec (.gptpSync p time bmca utc) s = .next s1) ∧
  (∀ (s : State), s.clk.disciplined = true → s.clk.lastSync + 3000000000 ≤ s.now →
    exec .disciplineLoss s =
      .next ((({ s with clk := { s.clk with disciplined := false, source := 0, slew := 0 } } : State).modPort 0 fun x => { x with syncLive := false }).modPort 1 fun x => { x with syncLive := false })) ∧
  (∀ (s : State) (p : Nat) (accepted : Bool), s.awaitsPort p = true →
    exec (.tc10SleepRequest p false accepted) s = .next (s.tc10Answer p accepted)) ∧
  (∀ (s : State) (p : Nat) (accepted : Bool), p < 2 → (s.port p).link = .up → s.tc10 p = true → s.power.state = .entering → s.awaitsPort p = false →
    exec (.tc10SleepRequest p true accepted) s = .next (s.sleepPorts [p])) ∧
  (∀ (s : State) (p : Nat), s.awaitsPort p = true → exec (.tc10AckTimeout p) s = .next (s.tc10Answer p false)) ∧
  (∀ (s : State) (p : Nat), p < 2 → s.tc10 p = true → exec (.tc10Wake p) s = .next (s.wake (2 + p)))

/-- For every state and operands that meet the conditions named, BDP_CONNECT, BDP_AUTH, BDP_READ, BDP_WRITE, BDP_SNAPSHOT, REGISTER_WRITE, PROFILE_EDIT, BAD_MESSAGE and BDP_EVENT_SEND answer exactly the next state shown: a connection takes a place that is free; an authenticated principal's channel is established; a read or a snapshot of RO items is answered item by item; a write of several settings that all pass is applied as one unit, recorded and answered OK; a write of one setting that passes is accepted; an edit of a profile is applied to the profile; a write of a vendor test entry that unlocked debug access opens stops by name; a message out of place is answered BAD_MESSAGE; queued events are sent, up to 64. Nothing but what that state shows changes. Rules: 17_banel_dictionary.md R342, 17_banel_dictionary.md R347, 17_banel_dictionary.md R350, 17_banel_dictionary.md R354, 17_banel_dictionary.md R357, 17_banel_dictionary.md R360. -/
def Obligations.BdpTransactionsRun : Prop :=
  (∀ (s : State) (conn port number : Nat), Claims.Up s (.bdpConnect conn port number) → s.bdpService port number = some .bdp → s.conn conn = none → s.tcpCount false < 64 →
    s.bdpFull port = false →
    exec (.bdpConnect conn port number) s =
      .next (s.modConn conn fun _ => some { kind := .bdp, port := port, phase := .tcp, tcpPort := number, idleSince := s.now })) ∧
  (∀ (s : State) (conn keyId : Nat) (sigOk : Bool) (k : Conn), Claims.Up s (.bdpAuth conn true keyId sigOk false) → s.conn conn = some k → k.phase = .authWait → k.kind = .bdp →
    s.authOk k keyId sigOk = true →
    exec (.bdpAuth conn true keyId sigOk false) s =
      .next ((((s.leaveTrust conn).modConn conn fun _ => some { k with phase := .up, keyId := keyId, deadline := none, idleSince := s.now, rxSeq := 1 }).send
        conn (.authOk conn k.principalCode)).count 0xA010 1 1)) ∧
  (∀ (s : State) (rq : Rq) (b : BdpBody) (c : Conn), Claims.Transacts s (.bdpRead rq b) rq c b false → exec (.bdpRead rq b) s = .next (s.answerRead rq c b.items)) ∧
  (∀ (s : State) (rq : Rq) (b : BdpBody) (c : Conn), Claims.Transacts s (.bdpSnapshot rq b) rq c b false → (∀ it ∈ b.items, c.spoils it = false) →
    exec (.bdpSnapshot rq b) s = .next (s.answerRead rq c b.items)) ∧
  (∀ (s t : State) (rq : Rq) (b : BdpBody) (c : Conn) (i j : Item) (l : List Item), Claims.Transacts s (.bdpWrite rq b) rq c b true → b.toProfile = false →
    b.items = i :: j :: l → b.durable = true → (writeAll (writeItem rq c b false) 0 b.items false s).status = Bdp.ok →
    (writeAll (writeItem rq c b false) 0 b.items false s).waits = false → (writeAll (writeItem rq c b false) 0 b.items false s).state = t →
    exec (.bdpWrite rq b) s =
      .next ((t.mirrorWrite c.principalCode rq.epoch (b.items.map fun it => (it.code, it.kept))).respond rq Bdp.ok 0xFF (writeItems (b.items.map (·.code)) 0xFF Bdp.ok))) ∧
  (∀ (s t : State) (rq : Rq) (b : BdpBody) (c : Conn) (it : Item), Claims.Transacts s (.bdpWrite rq b) rq c b true → b.toProfile = false → b.items = [it] → b.durable = true →
    writeItem rq c b true it s = (Bdp.ok, t) →
    exec (.bdpWrite rq b) s = .next (t.accept rq c.principalCode it.code Bdp.ok it.kept)) ∧
  (∀ (s t : State) (rq : Rq) (c : Conn) (it : Item), Claims.Transacts s (.registerWrite rq it) rq c (plainBody [it] 0) true → writeItem rq c (plainBody [it] 0) true it s = (Bdp.ok, t) →
    exec (.registerWrite rq it) s = .next (t.accept rq c.principalCode it.code Bdp.ok it.kept)) ∧
  (∀ (s t : State) (rq : Rq) (c : Conn) (p : Nat) (l : List Item), Claims.Transacts s (.profileEdit rq p l) rq c (plainBody l (1 + 2 * (p % 4))) true →
    (writeAll (editItem c (p % 4)) 0 l false s).status = Bdp.ok → (writeAll (editItem c (p % 4)) 0 l false s).state = t →
    exec (.profileEdit rq p l) s =
      .next ((t.mirrorWrite c.principalCode rq.epoch (l.map fun it => (it.code, it.kept))).respond rq Bdp.ok 0xFF (writeItems (l.map (·.code)) 0xFF Bdp.ok))) ∧
  (∀ (s : State) (rq : Rq) (c : Conn) (it : Item), s.conn rq.conn = some c → c.kind = .bdp → c.phase = .up → Claims.Up s (.registerWrite rq it) →
    txnPre rq (plainBody [it] 0) true c s = Bdp.ok → s.vendorNamed it.code = true → exec (.registerWrite rq it) s = .refused (.vendorTest it.code)) ∧
  (∀ (s : State) (conn msg : Nat) (k : Conn), Claims.Up s (.badMessage conn msg) → s.conn conn = some k → k.phase = .up → k.kind = .bdp → wrongCode .bdp msg = true →
    exec (.badMessage conn msg) s = .next ((s.send conn (.response 0 Bdp.badMessage 0xFF s.now [])).count 0xA010 4 1)) ∧
  (∀ (s : State) (conn : Nat) (k : Conn), Claims.Up s (.bdpEventSend conn) → s.conn conn = some k → k.kind = .bdp → k.phase = .up → k.events ≠ [] →
    exec (.bdpEventSend conn) s =
      .next ((s.send conn (.event k.eventsLost (s.eventRecords k))).modConn conn fun o => o.map fun k => { k with events := k.events.drop 64, eventsLost := 0 }))

/-- For every state and operands that meet the conditions named, PROFILE_SELECT, PROFILE_APPLY and FACTORY_RESET have exactly the effect shown: a selection is noted, pending where a transition or a restart of CC5 stands before it; a noted selection takes effect; with every tenant FREE a factory reset gives every stored entry that it does not keep the active profile's default. Nothing but what that state shows changes. Rules: 17_banel_dictionary.md R363, 17_banel_dictionary.md R365. -/
def Obligations.ProfileCommandsRun : Prop :=
  (∀ (s : State) (rq : Rq) (c : Conn) (p : Nat), Claims.Reaches s (.profileSelect rq p) rq c (entryCode 0x2000 5) → p ≤ 3 → s.profileWaits = false →
    Claims.Accepts s (.profileSelect rq p) rq c (entryCode 0x2000 5) Bdp.ok p { s with dict := { s.dict with selected := some p, selectPending := false } }) ∧
  (∀ (s : State) (rq : Rq) (c : Conn) (p : Nat), Claims.Reaches s (.profileSelect rq p) rq c (entryCode 0x2000 5) → p ≤ 3 → s.profileWaits = true →
    Claims.Accepts s (.profileSelect rq p) rq c (entryCode 0x2000 5) Bdp.pending p { s with dict := { s.dict with selected := some p, selectPending := true } }) ∧
  (∀ (s : State) (p : Nat), Claims.Up s .profileApply → s.dict.selected = some p → s.profileWaits = false →
    exec .profileApply s =
      .next (if s.dict.selectPending then
        ({ (s.applyProfile p) with dict := { (s.applyProfile p).dict with selected := none, selectPending := false } } : State).finish (entryCode 0x2000 5) Bdp.ok
        else { (s.applyProfile p) with dict := { (s.applyProfile p).dict with selected := none, selectPending := false } })) ∧
  (∀ (s : State) (rq : Rq) (c : Conn) (v : Nat), Claims.Reaches s (.factoryReset rq v) rq c (entryCode 0x2000 6) → v ≤ 1 → (∀ i, i < 8 → s.tenState (i + 1) = .free) →
    Claims.Accepts s (.factoryReset rq v) rq c (entryCode 0x2000 6) Bdp.ok v
      ({ s with dict := { s.dict with stored := ((entryCodes fun e => e.storedScoped).filter fun x => !factoryKept x.1).foldl (fun m x => mset (x.2.default 0) m x.1 (s.factoryValue x.1 x.2)) s.dict.stored } } : State).factoryEffects)

/-- For every state and operands that meet the conditions named, TENANT_FORM, TENANT_ACTIVATE, TENANT_REMOVE, REMOVAL_OPS_CANCELLED, REMOVAL_XFERS_DONE, SCRUB_PART_DONE, RECEIPT_SIGNED and UFS_PURGE_DONE have exactly the effect shown: a FREE tenant within its envelope, with nothing contested and the sums kept, is FORMING with a new key and pointer 1; a FORMING one with clusters, dies and DRAM is ACTIVE; either begins its removal; each step of a removal ends and begins the next; when all five parts of the scrub have ended the tenant is released. Nothing but what that state shows changes. Rules: 18_tenants_and_trust.md R371, 18_tenants_and_trust.md R372, 18_tenants_and_trust.md R374, 18_tenants_and_trust.md R375, 18_tenants_and_trust.md R376, 18_tenants_and_trust.md R377. -/
def Obligations.TenantCommandsRun : Prop :=
  (∀ (s : State) (rq : Rq) (c : Conn) (t : Nat), Claims.Reaches s (.tenantForm rq t) rq c (entryCode (0x4200 + t) 2) → s.tenState t = .free → s.trust.debug = false →
    (s.envOf t).enabled = true → bitsWithin 16 (s.clustersOf t) (s.envOf t).clusters = true → bitsWithin 32 (s.diesOf t) (s.envOf t).dies = true → s.contested t = false →
    ((s.clamped t).modTenState t fun _ => .forming).sumsHold = true →
    Claims.Accepts s (.tenantForm rq t) rq c (entryCode (0x4200 + t) 2) Bdp.ok 1
      ((((((s.clamped t).modTenState t fun _ => .forming).newKey t).modPointer t fun _ => 1).assignWays).syncMirror t)) ∧
  (∀ (s : State) (rq : Rq) (c : Conn) (t : Nat), Claims.Reaches s (.tenantActivate rq t) rq c (entryCode (0x4200 + t) 3) → s.tenState t = .forming → s.clustersOf t ≠ 0 → s.diesOf t ≠ 0 →
    s.subSum t + 256 ≤ s.dramMib t →
    Claims.Accepts s (.tenantActivate rq t) rq c (entryCode (0x4200 + t) 3) Bdp.ok 1 (s.modTenState t fun _ => .active)) ∧
  (∀ (s : State) (rq : Rq) (c : Conn) (t nonce : Nat), Claims.Reaches s (.tenantRemove rq t nonce) rq c (entryCode (0x4200 + t) 4) → (s.tenState t = .forming ∨ s.tenState t = .active) →
    Claims.Accepts s (.tenantRemove rq t nonce) rq c (entryCode (0x4200 + t) 4) Bdp.pending nonce (s.beginRemoval t (s.removalCause rq.conn) nonce)) ∧
  (∀ (s : State) (t : Nat), Claims.Up s (.removalOpsCancelled t) → s.removalStep t = 2 → s.opsInFlight t = 0 →
    exec (.removalOpsCancelled t) s = .next (s.setRemoval t fun r => { r with step := 3 })) ∧
  (∀ (s : State) (t n : Nat), Claims.Up s (.removalXfersDone t n) → s.removalStep t = 3 →
    exec (.removalXfersDone t n) s = .next ((((s.dropXfers t).setRemoval t fun r => { r with xfersAborted := n }).purgeTenant t).zeroiseTenant t)) ∧
  (∀ (s : State) (t : Nat) (part : ScrubPart), s.powered = true → part ≠ .vault → s.scrubLeft t part = true →
    exec (.scrubPartDone t part) s = .next ((s.scrubPart t part).setRemoval t fun r => { r with parts := r.parts ++ [part] })) ∧
  (∀ (s : State) (t : Nat) (r : Removal), s.removal t = some r → s.powered = true → r.step = 6 → (∀ p : ScrubPart, p ∈ r.parts) →
    exec (.receiptSigned t) s = .next (s.released t r)) ∧
  (∀ s : State, s.powered = true → s.tenants.purging = true →
    exec .ufsPurgeDone s =
      .next (({ s with tenants := { s.tenants with purging := s.tenants.purgeAgain, purgeAgain := false } } : State).raise Ev.ufsPurged 0 Locus.none 0 0))

/-- For every state and operands that meet the conditions named, ENVELOPE, PRINCIPAL_KEY_WRITE, DEBUG_UNLOCK and TRNG_FAIL have exactly the effect shown: an envelope in range that covers what its tenant holds is stored; a key that may be written is stored and the channels of the old key end; with every tenant FREE a right signature unlocks debug access behind a new challenge and is counted; a failed TRNG raises its device-fatal event. Nothing but what that state shows changes. Rules: 18_tenants_and_trust.md R370, 18_tenants_and_trust.md R379, 18_tenants_and_trust.md R385, 18_tenants_and_trust.md R390. -/
def Obligations.TrustCommandsRun : Prop :=
  (∀ (s : State) (rq : Rq) (c : Conn) (t v : Nat), Claims.Reaches s (.envelope rq t v) rq c (entryCode 0x4300 t) → envelopeResv v = false → (EnvRec.ofNat v).inRange = true →
    s.envCovers t (EnvRec.ofNat v) = true →
    Claims.Accepts s (.envelope rq t v) rq c (entryCode 0x4300 t) Bdp.ok v ((s.setStored 0x4300 t 0 v).syncMirror t)) ∧
  (∀ (s : State) (rq : Rq) (c : Conn) (code key : Nat), Claims.Reaches s (.principalKeyWrite rq code key) rq c code →
    (code / 256 = 0x4001 → key ≠ 0 ∨ s.mgmtKeys ≠ 1) → (keyPrincipal (code / 256) = .ten → s.quotaOpen (code / 256 % 16) = true) →
    Claims.Accepts s (.principalKeyWrite rq code key) rq c code Bdp.ok key
      ((s.connsWhere fun c => c.usesKey (code / 256) (code % 256)).foldl State.closeConn (s.setStored (code / 256) (code % 256) 0 key))) ∧
  (∀ (s : State) (rq : Rq) (c : Conn), Claims.Reaches s (.debugUnlock rq true) rq c (entryCode 0x4400 3) → (∀ i, i < 8 → s.tenState (i + 1) = .free) →
    Claims.Accepts s (.debugUnlock rq true) rq c (entryCode 0x4400 3) Bdp.ok 0
      (({ s.newChallenge with trust := { s.newChallenge.trust with debug := true } } : State).count 0xA020 3 1)) ∧
  (∀ s : State, s.powered = true → exec .trngFail s = .next (s.raise Ev.trngFail 0 Locus.none 0 0))

/-- For every state and operands that meet the conditions named, the four POWER_REQUEST commands, IDLE_ENTRY, IDLE_EXIT, SLEEP_AFTER_EXPIRY, DEEP_AFTER_EXPIRY, ENTRY_PROGRESS, ENTRY_ABORT, WAKE_EVENT and RETURN_COMPLETE have exactly the effect shown: with no entry or return in progress a request restarts the automatic timers or, with no refuser, begins its entry; a still data path goes to IDLE and back with work; an automatic entry begins when its count is reached and nothing refuses it; a step that has ended leads to the next; a refuser that may abort an entry aborts it; a wake in SLEEP begins the return and a return ends in RUN. Nothing but what that state shows changes. Rules: 19_power.md R395, 19_power.md R396, 19_power.md R397, 19_power.md R398, 19_power.md R400, 19_power.md R401, 19_power.md R402. -/
def Obligations.PowerRequestsRun : Prop :=
  (∀ (s : State) (rq : Rq) (c : Conn), Claims.Reaches s (.powerRequestRestartTimers rq) rq c powerRequestCode → s.inTransition = false →
    Claims.Accepts s (.powerRequestRestartTimers rq) rq c powerRequestCode Bdp.ok 0 (s.modPower fun p => { p with sleepCount := 0, deepCount := 0 })) ∧
  (∀ (s : State) (rq : Rq) (c : Conn), Claims.Reaches s (.powerRequestSleep rq) rq c powerRequestCode → s.inTransition = false → s.refusers .sleep false = [] →
    Claims.Accepts s (.powerRequestSleep rq) rq c powerRequestCode Bdp.pending 1 (s.beginEntry .sleep false)) ∧
  (∀ (s : State) (rq : Rq) (c : Conn), Claims.Reaches s (.powerRequestDeepSleep rq) rq c powerRequestCode → s.inTransition = false → s.refusers .deepSleep false = [] →
    Claims.Accepts s (.powerRequestDeepSleep rq) rq c powerRequestCode Bdp.pending 2 (s.beginEntry .deepSleep false)) ∧
  (∀ (s : State) (rq : Rq) (c : Conn), Claims.Reaches s (.powerRequestOff rq) rq c powerRequestCode → s.inTransition = false → s.refusers .off false = [] →
    Claims.Accepts s (.powerRequestOff rq) rq c powerRequestCode Bdp.pending 3 (s.beginEntry .off false)) ∧
  (∀ (s : State), Claims.Up s .idleEntry → s.power.state = .run → s.dataWork = false → s.power.idleSince + s.pv 0x2004 1 20000 ≤ s.now →
    exec .idleEntry s = .next ((s.modPower fun p => { p with state := .idle }).count 0xA032 1 1).notePower) ∧
  (∀ (s : State), s.power.state = .idle → s.dataWork = true → exec .idleExit s = .next (s.beginReturn .idle)) ∧
  (∀ (s : State), Claims.Up s .sleepAfterExpiry → s.power.state = .idle → s.pv 0x2004 2 0 ≠ 0 → s.pv 0x2004 2 0 ≤ s.power.sleepCount → s.refusers .sleep true = [] →
    exec .sleepAfterExpiry s = .next ((s.beginEntry .sleep true).modPower fun p => { p with sleepCount := 0 })) ∧
  (∀ (s : State), Claims.Up s .deepAfterExpiry → s.power.state = .sleep → s.pv 0x2004 3 0 ≠ 0 → s.pv 0x2004 3 0 ≤ s.power.deepCount → s.refusers .deepSleep true = [] →
    exec .deepAfterExpiry s = .next ((s.dataPathOn.beginEntry .deepSleep true).modPower fun p => { p with deepCount := 0 })) ∧
  (∀ (s : State) (e : Entry), Claims.Up s .entryProgress → s.power.entry = some e → s.power.state = .entering → s.stepDone e = true →
    exec .entryProgress s = .next (s.advanceEntry e)) ∧
  (∀ (s : State) (code port tenant : Nat) (e : Entry), s.power.entry = some e → s.power.state = .entering → e.mayAbort code = true →
    exec (.entryAbort code port tenant) s = .next (s.abortEntry code (if code = 3 then tenant else 0) (if code = 1 then port else 0xFF))) ∧
  (∀ (s : State) (code : Nat), 1 ≤ code → code ≤ 6 → s.power.state = .sleep → exec (.wakeEvent code) s = .next ((s.wakeSource code).beginReturn .sleep)) ∧
  (∀ (s : State), s.power.state = .returning → s.power.returnFrom = .idle →
    exec .returnComplete s = .next (s.modPower fun p => { p with state := .run, idleSince := s.now }).notePower) ∧
  (∀ (s : State), s.power.state = .returning → s.power.returnFrom = .sleep → exec .returnComplete s = .next s.dataPathOn.enterRunState) ∧
  (∀ (s : State), s.power.state = .returning → s.power.returnFrom = .deepSleep → exec .returnComplete s = .next s.dieMemoryZero.dataPathOn.enterRunState)

/-- For every state and operands that meet the conditions named, VCORE_LOOP, THERMAL_SAMPLE, THROTTLE_STEP, THERMAL_TRIP and THERMAL_SHUTDOWN answer exactly the next state shown. The loop moves the levers by a step in RUN and during an entry, keeps the measured powers, keeps a handshake rate that is at least the guaranteed floor at the VCORE it leaves and the table's at 85 degrees with typical silicon, recomputes the grant, counts the input energy, and counts the time over the envelope with the levers at their floors. A sample of 115 degrees or more with no throttling begins it and drives THERM_N, one of 115 or less after a trip resumes throttling, and every other sample is only recorded. A step while throttling at 115 degrees or more lowers the levers, and one at 110 or less raises them, with THERM_N released once both are restored. A trip at 125 degrees or more and a shutdown at 135 degrees or more have the effect shown. Nothing but what those states show changes. Rules: 00_scope.md R8, 00_scope.md R456, 19_power.md R404, 19_power.md R406, 19_power.md R408, 19_power.md R409. -/
def Obligations.ThermalCommandsRun : Prop :=
  (∀ (s s1 s2 : State) (pIn pConv pRest pDram pDig pIo rate excess : Nat), s.corePowered 0 = true →
    excess = (pDram - s.budget 2) + (pIo - s.budget 3) →
    s1 = (s.modPower fun p => (if s.power.state = .run ∨ s.power.state = .entering then p.loopStep s.vcoreMax (s.digitalBudget - excess) excess pDig else p).measured
      [pIn, pConv, pRest, pDram, pDig, pIo] rate) →
    s2 = s1.regrant.count 0xA0F1 1 (pIn / 10) →
    exec (.vcoreLoop [pIn, pConv, pRest, pDram, pDig, pIo] rate) s =
      .next (if s2.power.vcore ≤ 600 ∧ s2.power.pvTenths ≤ s2.power.pvCut + 1 ∧ s2.pv 0x2001 1 110000 < pIn then s2.count 0xA033 4 10000 else s2) ∧
    s1.power.pNow = [pIn, pConv, pRest, pDram, pDig] ∧
    (600 ≤ s1.power.vcore → s1.power.vcore ≤ 850 → -40000 ≤ s.power.tj → s.power.tj ≤ 125000 → floorRate s1.power.vcore ≤ s1.power.hsRate) ∧
    (600 ≤ s1.power.vcore → s1.power.vcore ≤ 850 → s.power.tj = 85000 → Config.typicalSilicon = true → s1.power.hsRate = tableRate s1.power.vcore)) ∧
  (∀ (s : State) (tj : Int), s.powered = true →
    exec (.thermalSample tj) s =
      .next (if s.power.thermState = 0 ∧ 115000 ≤ tj then
          (((s.reading tj).modPower fun p => { p with thermState := 1 }).driveThermN true).raise Ev.thermalThrottle 0 Locus.none 0 (uint 64 tj)
        else if s.power.thermState = 2 ∧ tj ≤ 115000 then (s.reading tj).modPower fun p => { p with thermState := 1 }
        else s.reading tj)) ∧
  (∀ (s : State), s.powered = true → s.power.thermState = 1 → 115000 ≤ s.power.tj →
    exec .throttleStep s = .next (s.modPower fun p => p.throttle (s.pv 0x2001 2 850)).regrant) ∧
  (∀ (s s1 : State), s.powered = true → s.power.thermState = 1 → s.power.tj ≤ 110000 →
    s1 = (s.modPower fun p => p.release (s.pv 0x2001 2 850)).regrant →
    exec .throttleStep s = .next (if s1.power.thermState = 0 then s1.driveThermN false else s1)) ∧
  (∀ (s : State) (tj : Int), s.powered = true → 125000 ≤ tj → s.power.thermState ≠ 2 →
    exec (.thermalTrip tj) s =
      .next ((((((s.reading tj).modPower Power.tripLevers).regrant).driveThermN true).count 0xA033 2 1).raise Ev.thermalTrip 0 Locus.none 0 (uint 64 tj))) ∧
  (∀ (s : State) (tj : Int), s.powered = true → 135000 ≤ tj →
    exec (.thermalShutdown tj) s = .next ((((s.reading tj).count 0xA033 3 1).raise Ev.thermalShutdown 0 Locus.none 0 (uint 64 tj)).toOff 2))

/-- For every state and operands that meet the conditions named, FAULT_ACK, EVENT_SUBSCRIBE, FATAL_RESET and COUNTERS_CLEAR have exactly the effect shown: a SEQ already assigned is kept and every masked event up to it is acknowledged; a class mask is the connection's; a device-fatal event is counted and resets the device; the counters of a group 0 to 8 read 0. Nothing but what that state shows changes. Rules: 20_faults_counters_mirror.md R416, 20_faults_counters_mirror.md R417, 20_faults_counters_mirror.md R418, 20_faults_counters_mirror.md R423. -/
def Obligations.FaultCommandsRun : Prop :=
  (∀ (s : State) (rq : Rq) (c : Conn) (q : Nat), Claims.Reaches s (.faultAck rq q) rq c (entryCode 0xB000 2) → serialAfter 32 q ((s.faults.nextSeq + 2 ^ 32 - 1) % 2 ^ 32) = false →
    Claims.Accepts s (.faultAck rq q) rq c (entryCode 0xB000 2) Bdp.ok q
      { s with faults := { s.faults with ackSeq := q, unacked := s.faults.unacked.filter fun k => serialAfter 32 k q } }) ∧
  (∀ (s : State) (rq : Rq) (c : Conn) (m : Nat), Claims.Reaches s (.eventSubscribe rq m) rq c (entryCode 0xB000 4) →
    Claims.Accepts s (.eventSubscribe rq m) rq c (entryCode 0xB000 4) Bdp.ok m (s.modConn rq.conn fun o => o.map fun c => { c with eventMask := m % 256 })) ∧
  (∀ s : State, s.powered = true → s.faults.fatalDue = true → exec .fatalReset s = .next ((s.count 0xA0F3 1 1).toReset 2)) ∧
  (∀ (s : State) (rq : Rq) (c : Conn) (g : Nat), Claims.Reaches s (.countersClear rq g) rq c (entryCode 0xA0F0 3) → g ≤ 8 →
    Claims.Accepts s (.countersClear rq g) rq c (entryCode 0xA0F0 3) Bdp.ok g { s with faults := s.faults.clearGroup g })

/-- For every state and operands that meet the conditions named, MIRROR_CONSENT, MIRROR_KEY, MIRROR_FLUSH, SEGMENT_EXPORT, MIRROR_TIME_RECORD, MIRROR_POWER_RECORD and MIRROR_GET have exactly the effect shown: consent and key are stored and recording follows them; a flush, or an export that is due, exports a segment; a recording tenant gets a TIME or POWER record; a Mirror connection gets the octets of a file or a refusal. Nothing but what that state shows changes. Rules: 20_faults_counters_mirror.md R424, 20_faults_counters_mirror.md R425, 20_faults_counters_mirror.md R426, 20_faults_counters_mirror.md R427, 20_faults_counters_mirror.md R433. -/
def Obligations.MirrorCommandsRun : Prop :=
  (∀ (s : State) (rq : Rq) (c : Conn) (t v : Nat), Claims.Reaches s (.mirrorConsent rq t v) rq c (entryCode (0xB100 + t) 1) → v ≤ 1 →
    Claims.Accepts s (.mirrorConsent rq t v) rq c (entryCode (0xB100 + t) 1) Bdp.ok v ((s.setStored (0xB100 + t) 1 0 v).syncMirror t)) ∧
  (∀ (s : State) (rq : Rq) (c : Conn) (t k : Nat), Claims.Reaches s (.mirrorKey rq t k) rq c (entryCode (0xB100 + t) 2) →
    Claims.Accepts s (.mirrorKey rq t k) rq c (entryCode (0xB100 + t) 2) Bdp.ok k
      (((if (s.mten t).recording = true ∧ k ≠ s.mirrorKeyOf t then s.exportOpen t else s).setStored (0xB100 + t) 2 0 k).syncMirror t)) ∧
  (∀ (s : State) (rq : Rq) (c : Conn) (t : Nat), Claims.Reaches s (.mirrorFlush rq t) rq c (entryCode (0xB100 + t) 4) → (s.mten t).recording = true →
    Claims.Accepts s (.mirrorFlush rq t) rq c (entryCode (0xB100 + t) 4) Bdp.ok 1 (s.exportOpen t)) ∧
  (∀ (s : State) (t : Nat), Claims.Up s (.segmentExport t) → s.exportDue t = true →
    exec (.segmentExport t) s = .next (if (s.mten t).full ≠ [] then s.exportFull t else s.exportOpen t)) ∧
  (∀ (s : State) (t : Nat), Claims.Up s (.mirrorTimeRecord t) → (s.mten t).recording = true → exec (.mirrorTimeRecord t) s = .next (s.noteTime t)) ∧
  (∀ (s : State) (t : Nat), Claims.Up s (.mirrorPowerRecord t) → (s.mten t).recording = true → exec (.mirrorPowerRecord t) s = .next (s.capture t s.powerBody)) ∧
  (∀ (s : State) (conn t f off len : Nat) (resv : Bool) (k : Conn), Claims.Up s (.mirrorGet conn t f off len resv) → s.conn conn = some k → k.kind = .mirror → k.phase = .up →
    exec (.mirrorGet conn t f off len resv) s =
      .next (s.send conn (.mirrorData (s.mirrorAnswer k t f off len resv).1 (s.mirrorAnswer k t f off len resv).2)))

/-- For every state and operands that meet the conditions named, REPLAY_START, REPLAY_INJECT, REPLAY_STOP and REPLAY_END have exactly the effect shown: a replay of existing files of an ACTIVE tenant with no open session and no replay, under its key and with matching slots, begins; a COLD record whose turn it is is enforced; a record that is due is injected; a stop is noted; a replay that is over ends with its result. Nothing but what that state shows changes. Rules: 20_faults_counters_mirror.md R428, 20_faults_counters_mirror.md R429, 20_faults_counters_mirror.md R430. -/
def Obligations.ReplayCommandsRun : Prop :=
  (∀ (s : State) (rq : Rq) (c : Conn) (t first last mode : Nat) (fs : List MFile), Claims.Reaches s (.replayStart rq t first last mode false) rq c (entryCode (0xB100 + t) 6) → mode ≤ 1 →
    (s.mten t).range first last = some fs → s.tenState t = .active → s.sessionsWhere (fun x => x.isOpen && decide (x.tenant = t)) = [] → (s.mten t).replay = none →
    (∀ f ∈ fs, f.key = s.mirrorKeyOf t) → ((fs.flatMap (·.records)).findSome? MRec.slotsInfo).all (s.slotsMatch t) = true →
    Claims.Accepts s (.replayStart rq t first last mode false) rq c (entryCode (0xB100 + t) 6) Bdp.pending (first + 2 ^ 32 * last + 2 ^ 64 * mode)
      ((s.modMten t fun m => { m with replay := some (replayOf first last mode s.now (fs.flatMap (·.records))) }).syncMirror t)) ∧
  (∀ (s : State) (t h : Nat) (r : Replay), (s.mten t).replay = some r → s.powered = true → r.stopping = false → s.nextCold r = some h →
    exec (.replayInject t) s = .next (s.enforceCold t h r)) ∧
  (∀ (s : State) (t : Nat) (r : Replay) (m : MRec) (l : List MRec), (s.mten t).replay = some r → s.powered = true → r.stopping = false → s.nextCold r = none → r.todo = m :: l →
    s.injectsNow r m = true →
    exec (.replayInject t) s =
      (let q := { r with todo := l, lag := match m.body with | .inbound _ 0x14 _ => max r.lag (s.now - (r.startAt + (m.mono - r.baseMono))) | _ => r.lag }
       .next ((s.setReplay t fun _ => q).injectRecord t q m))) ∧
  (∀ (s : State) (rq : Rq) (c : Conn) (t : Nat) (r : Replay), Claims.Reaches s (.replayStop rq t) rq c (entryCode (0xB100 + t) 7) → (s.mten t).replay = some r →
    Claims.Accepts s (.replayStop rq t) rq c (entryCode (0xB100 + t) 7) Bdp.ok 1 (s.modMten t fun m => { m with replay := m.replay.map fun r => { r with stopping := true } })) ∧
  (∀ (s : State) (t : Nat) (r : Replay), (s.mten t).replay = some r → s.powered = true → s.replayOver t r = true → exec (.replayEnd t) s = .next (s.endReplay t r))

/-- For every state and operands that meet the conditions named, RESET_ASSERT, BROWNOUT, AON_LOSS, CALENDAR_LOST, COLD_START, SERVICE_READY, WAKE_PIN and PPS_PULSE answer exactly the next state shown: RESET_N falls and the device is held; a supply that fails outside OFF takes it to OFF; the loss of the always-on supply takes what it kept; a device that is held starts from a slot whose image boots; a start-up whose self-test has ended ends in RUN with the lease HELD; a wake in OFF takes the device out of OFF; a pulse at a whole second is given when it is set and the time is known. Rules: 21_pins_startup_clock.md R439, 21_pins_startup_clock.md R441, 21_pins_startup_clock.md R444, 21_pins_startup_clock.md R446, 21_pins_startup_clock.md R452. -/
def Obligations.StartupCommandsRun : Prop :=
  (∀ s : State, s.pins.resetN = true → exec .resetAssert s = .next { (s.toReset 1) with pins := { (s.toReset 1).pins with resetN := false } }) ∧
  (∀ s : State, s.power.state ≠ .off → s.clk.vaon = true → exec .brownout s = .next (s.toOff 0)) ∧
  (∀ s : State, s.clk.vaon = true →
    exec .aonLoss s =
      .next { (s.toReset 0) with power := { (s.toReset 0).power with lastOff := 0, wakeSource := 0 }, pins := { (s.toReset 0).pins with latch := none, commStatus := 0, thermN := false },
                                 clk := { (s.toReset 0).clk with vaon := false } }) ∧
  (∀ s : State, s.clk.vaon = false → exec .calendarLost s = .next { s with clk := { s.clk with calLost := true } }) ∧
  (∀ (s : State) (b : Boot), s.power.state = .held → s.clk.starting = false → s.clk.noBoot = false → (s.power.lastOff ≠ 2 ∨ b.aonTemp ≤ 105000) →
    (s.slotBoots b s.ctl.fwActive = true ∨ s.slotBoots b s.fwInactive = true) → exec (.coldStart b) s = .next (s.boot b)) ∧
  (∀ s : State, s.clk.starting = true → s.exp.selfTesting = false →
    ∃ t, exec .serviceReady s = .next t ∧ t.clk.starting = false ∧ t.ctl.serviceReady = true ∧ t.power.state = .run ∧ t.ctl.lease.state = .held ∧ t.ctl.lease.holder = false ∧
      t.ctl.lease.epoch = s.ctl.lease.epoch ∧ t.ctl.lease.remaining = s.leaseTime) ∧
  (∀ s : State, s.power.state = .off → exec .wakePin s = .next ((s.wakeSource 1).modPower fun p => { p with state := .held })) ∧
  (∀ s : State, (s.power.state = .run ∨ s.power.state = .idle) → exec .wakePin s = .next s) ∧
  (∀ s : State, s.powered = true → s.setting 0xC001 4 = 1 → s.clk.timeUnknown = false → s.clk.cal % 1000000000 ≤ 50 →
    exec .ppsPulse s = .next { s with pins := { s.pins with gpio2 := s.pins.gpio2 + 1 } })

/-- For every state and operands that meet the conditions named, EXTEST, IDCODE, SAMPLE_PRELOAD, BYPASS, COMMISSION, CAL_ALARM, CAL_SET and CAL_ALARM_DUE have exactly the effect shown: boundary-scan instructions that are offered load the cells; IDCODE shifts out 0x10880A31; BYPASS holds one bit; COMMISSION shifts out the status of the execution before it and latches a well-formed key while RESET_N is low and no MGMT key is enrolled; an alarm after CAL_TIME is stored while the time is known; an undisciplined clock is set; an alarm that is due is cleared and wakes. Nothing but what that state shows changes. Rules: 21_pins_startup_clock.md R447, 21_pins_startup_clock.md R448, 21_pins_startup_clock.md R452, 21_pins_startup_clock.md R453. -/
def Obligations.TestPortAndClockRun : Prop :=
  (∀ (s : State) (cells : Nat), s.scanOffered = true →
    exec (.extest cells) s = .next { s with pins := { s.pins with ir := 0, driven := true, cells := cells % 2 ^ 39 } }) ∧
  (∀ s : State, exec .idcode s = .next { s with pins := { s.pins with ir := 1, driven := false, tdo := 0x10880A31 } }) ∧
  (∀ (s : State) (cells cap : Nat), s.scanOffered = true →
    exec (.samplePreload cells cap) s = .next { s with pins := { s.pins with ir := 2, driven := false, cells := cells % 2 ^ 39, tdo := cap % 2 ^ 39 } }) ∧
  (∀ (s : State) (b : Bool), exec (.bypass b) s = .next { s with pins := { s.pins with ir := 0xFF, driven := false, bypass := b, tdo := 0 } }) ∧
  (∀ (s : State) (key : Nat), s.pins.resetN = false → s.mgmtKeys = 0 → key % 256 = 10 →
    exec (.commission key 0) s =
      .next { s with pins := { s.pins with ir := 0x3C, driven := false, tdo := s.pins.commStatus, commStatus := 0, latch := some key } }) ∧
  (∀ (s : State) (rq : Rq) (c : Conn) (v : Nat), Claims.Reaches s (.calAlarm rq v) rq c (entryCode 0xC001 3) → s.clk.timeUnknown = false → (v = 0 ∨ s.clk.cal < v) →
    Claims.Accepts s (.calAlarm rq v) rq c (entryCode 0xC001 3) Bdp.ok v (s.setStored 0xC001 3 0 v)) ∧
  (∀ (s : State) (rq : Rq) (c : Conn) (v : Nat), Claims.Reaches s (.calSet rq v) rq c (entryCode 0xC001 1) → s.clk.disciplined = false →
    Claims.Accepts s (.calSet rq v) rq c (entryCode 0xC001 1) Bdp.ok v
      (({ s with clk := { s.clk with cal := v, timeUnknown := false, slew := 0 } } : State).captureAll (.time v false))) ∧
  (∀ s : State, s.sv 0xC001 3 0 ≠ 0 → s.sv 0xC001 3 0 ≤ s.clk.cal → exec .calAlarmDue s = .next ((s.setStored 0xC001 3 0 0).wake 6))

/-- At reset memory lists nothing and is canonical, no command waits or is held, no MGMT key is enrolled, the lease epoch is 0, and both host ports have MACSEC_REQUIRED 1 and MKA_CAK all zeros. (That every tenant is FREE, RESET_N is low and debug access is locked is the model's choice of the moment of reset, log entry 1.) Rules: 18_tenants_and_trust.md R386, 16_network_ports.md R327, 15_control_complex.md R309. -/
def Obligations.ResetState : Prop :=
  State.reset.mem = [] ∧ Memory.wf State.reset.mem = true ∧ State.reset.pending = [] ∧ State.reset.held = [] ∧ State.reset.mgmtKeys = 0 ∧
  State.reset.ctl.lease.epoch = 0 ∧ State.reset.pins.resetN = false ∧ State.reset.trust.debug = false ∧
  (∀ p, p < 2 → State.reset.setting (0x3100 + p) 12 = 1 ∧ State.reset.setting (0x3100 + p) 13 = 0) ∧
  (∀ t, State.reset.tenState t = .free)

/-- On an empty queue the step runs the oldest held command that need not wait any longer; where there is none, the answer is a next state in which one nanosecond has passed. (The queue, the held list and the tick are the model's own, log entry 3.) Rules: 15_control_complex.md R305, 21_pins_startup_clock.md R450. -/
def Obligations.IdleStep : Prop :=
  ∀ s : State, s.pending = [] →
    (∀ i, s.readyAt = some i → Machine.step s = s.runHeld i) ∧ (s.readyAt = none → Machine.step s = .next s.tick)

/-- For every state, if a step answers a next state, the queue of waiting commands is the old one without its front command: no command adds to the queue, drops from it or reorders it. (The queue is the model's own, log entry 3.) Rules: 00_scope.md, 15_control_complex.md R305. -/
def Obligations.StepTakesOneCommand : Prop :=
  ∀ s t : State, Machine.step s = .next t → t.pending = s.pending.drop 1

/-- For every state whose memory is in canonical form (addresses rise, no listed byte equals what an unlisted one reads as), every next state that a step answers has its memory in canonical form, so that equal memories stay equal data whatever command runs. (The form is the model's own, log entry 4.) Rules: 10_tiers_and_placement.md R195, 10_tiers_and_placement.md R199, 12_dram_controller.md R231. -/
def Obligations.MemoryKeepsForm : Prop :=
  ∀ s t : State, Memory.wf s.mem = true → Machine.step s = .next t → Memory.wf t.mem = true

/-- For every format, table number, complete code table and place of elements, the block that the encoder forms decodes to exactly the elements encoded, by the parallel decoders, by the serial decoder in the self-test, and by the serial recovery; where the block is stored raw instead, reading it gives back exactly the elements. Every bit pattern of an element is covered, so every NaN, infinity, subnormal and signed zero is. Rules: 08_operand_expander.md R153. -/
def Obligations.LosslessCompression : Prop :=
  ∀ (fmt table : Nat) (lens : SMap Nat) (elems : List Nat) (selfTest : Bool), fmt < 3 → table < 65536 → completeCode fmt lens = true →
    elems.length ≤ placeBytes / elemBytes fmt → (∀ v ∈ elems, v < 2 ^ (8 * elemBytes fmt)) →
    (∀ bs, encodeBlock fmt table lens elems = some bs →
      readBlock selfTest fmt table elems.length (bs.length / 16) lens bs = .good elems ∧
      decodeSerial fmt elems.length (canon fmt lens) 16 0 (bs.drop 0x30) = some elems) ∧
    readBlock selfTest fmt table elems.length (2 ^ 15 + 256) lens (elems.flatMap fun v => le (elemBytes fmt) v) = .raw elems

/-- For every element -127..127 of INT8 and -7..7 of INT4: a nonnegative element drives +1 on each plane whose bit is 1; a negative one drives -1 on the plane above its highest 0 bit and +1 on the lower planes whose bit is 1; the weighted sum over planes is the element; only elements below -64 (INT8) or below -4 (INT4) drive the top plane, always at -1; at most 7 or 3 planes are driven; a row is active exactly when it is driven, and a drive of -1 reverses its contribution to every column. Rules: 03_weight_vault.md R59. -/
def Obligations.DriveDecomposition : Prop :=
  (∀ (f : VFmt) (q : Int), -(2 ^ (f.top + 1) : Int) < q → q < 2 ^ (f.top + 1) →
    (0 ≤ q → ∀ p, drive f q p = if p ≤ f.top ∧ nbit q.toNat p = true then 1 else 0) ∧
    (q < 0 → ∃ j : Int, -1 ≤ j ∧ j ≤ f.top ∧ (0 ≤ j → nbit (uint f.planes q) j.toNat = false) ∧
      (∀ p : Nat, j < p → p ≤ f.top → nbit (uint f.planes q) p = true) ∧
      ∀ p : Nat, drive f q p = if (p : Int) = j + 1 then -1 else if (p : Int) ≤ j ∧ nbit (uint f.planes q) p = true then 1 else 0) ∧
    ((List.range (f.top + 2)).map fun p => (2 ^ p : Int) * drive f q p).sum = q ∧
    drive f q (f.top + 1) = (if q < -(2 ^ f.top : Int) then -1 else 0) ∧
    ((List.range (f.top + 2)).filter fun p => drive f q p != 0).length ≤ f.top + 1) ∧
  (∀ (f : VFmt) (q : SMap Int) (p r : Nat) (d : Int), (r, d) ∈ activeRows f q p ↔ d ≠ 0 ∧ ∃ e ∈ q, e.1 = r ∧ drive f e.2 p = d) ∧
  (∀ (cells : SMap Int) (r c : Nat), idealSum cells [(r, -1)] c = -idealSum cells [(r, 1)] c)

/-- An MVM whose accumulators are clear and whose planes are all still to convert, with every input element in the range of its format, ends after its planes with, in every column, the sum over the row-block of input element times cell plus the conversion error, and that error is at most 3 times the sum over planes of 2^p times the plane's rounds; an INT8 row-block result is 16 times the even column's accumulator plus the odd one's, and any other is the accumulators. (The error itself is a free value, log entry 6.) Rules: 03_weight_vault.md R59, 03_weight_vault.md R60, 03_weight_vault.md R65, 03_weight_vault.md R73. -/
def Obligations.MvmAccumulates : Prop :=
  (∀ (m : Mvm) (st : Stratum) (draw c : Nat), m.acc = [] → m.nextPlane = m.fmt.planes → c < 1024 →
    (∀ e ∈ m.q, -(2 ^ (m.fmt.top + 1) : Int) < e.2 ∧ e.2 < 2 ^ (m.fmt.top + 1)) →
    (m.planesRun st draw m.fmt.planes).nextPlane = 0 ∧
    ∃ err : Int, mget 0 (m.planesRun st draw m.fmt.planes).acc c = (m.q.map fun e => e.2 * mget 0 st.cells (e.1 * 1024 + c)).sum + err ∧
      err = ((List.range m.fmt.planes).map fun p => (2 ^ p : Int) * planeError m.stratum draw p (roundsOf (activeRows m.fmt m.q p).length) c).sum ∧
      err ≤ 3 * ((List.range m.fmt.planes).map fun p => (2 ^ p : Int) * (roundsOf (activeRows m.fmt m.q p).length : Int)).sum ∧
      -err ≤ 3 * ((List.range m.fmt.planes).map fun p => (2 ^ p : Int) * (roundsOf (activeRows m.fmt m.q p).length : Int)).sum) ∧
  (∀ (acc : SMap Int) (k : Nat), k < 512 → mget 0 (rowBlockResult .int8 acc) k = 16 * mget 0 acc (2 * k) + mget 0 acc (2 * k + 1)) ∧
  (∀ (e : Enc) (acc : SMap Int), e ≠ .int8 → rowBlockResult e acc = acc)

/-- Every BDP write by DRV other than LEASE_CLAIM, on an established channel while nothing makes it wait and with the transaction's earlier checks passed, is refused with NO_LEASE in UNATTENDED, and with STALE_EPOCH where its epoch is 0 or not the current one; the refusal changes nothing but the answer's connection, its port's queues, and the counters and events, and STALE_EPOCH is counted in STALE_EPOCH_WRITES. LEASE_CLAIM passes the check, so do writes by other principals, and reads are never refused for their epoch. A write that is accepted applies whole in its own step. Rules: 15_control_complex.md R311. -/
def Obligations.LeaseFence : Prop :=
  (∀ (s : State) (i : Instr) (rq : Rq) (c : Conn), reqOf i = some rq → isRead i = false → i.wellFormed = true → i ≠ .leaseClaim rq → namedEntries i ≠ [leaseClaimCode] →
    (∀ p l, i ≠ .profileEdit rq p l) →
    (∀ b, i = .bdpWrite rq b → b.fills = true ∧ b.count = b.items.length ∧ 0 < b.count ∧ b.count ≤ 64 ∧ b.resv = false ∧ b.flags < 8 ∧ b.toProfile = false) →
    s.conn rq.conn = some c → c.kind = .bdp → c.phase = .up → c.principal = .drv → Claims.Up s i →
    (s.ctl.lease.state = .unattended → exec i s = .next (s.refuse rq Bdp.noLease 0xFF [])) ∧
    (s.ctl.lease.state ≠ .unattended → rq.epoch = 0 ∨ rq.epoch ≠ s.ctl.lease.epoch → exec i s = .next (s.refuse rq Bdp.staleEpoch 0xFF []))) ∧
  (∀ (s : State) (rq : Rq) (st : Nat),
    s.refuse rq st 0xFF [] = { s with
      faults := (s.refuse rq st 0xFF []).faults, ports := (s.refuse rq st 0xFF []).ports, svc := { s.svc with conns := (s.refuse rq st 0xFF []).svc.conns } } ∧
    (∀ k, k ≠ rq.conn → (s.refuse rq st 0xFF []).conn k = s.conn k)) ∧
  (∀ (s : State) (rq : Rq), (s.refuse rq Bdp.staleEpoch 0xFF []).counter 0xAF01 3 = min (s.counter 0xAF01 3 + 1) counterMax) ∧
  (∀ (s : State) (rq : Rq) (c : Conn), leasePre rq leaseClaimCode c s = Bdp.ok ∧ (c.principal ≠ .drv → s.leaseStatus c rq.epoch = Bdp.ok) ∧
    ∀ b, txnPre rq b false c s ≠ Bdp.noLease ∧ txnPre rq b false c s ≠ Bdp.staleEpoch)

/-- An accepted COUNTERS_CLEAR of 0 (the device) or n (tenant Tn) sets every counter of the group to 0 at once, removes the group's entries from SAT_LIST, and leaves every other counter, every other SAT_LIST entry and everything else but its own answer as they were; a greater value is refused with OUT_OF_RANGE and clears nothing. Rules: 20_faults_counters_mirror.md R423. -/
def Obligations.CountersClearZeroes : Prop :=
  ∀ (s : State) (rq : Rq) (c : Conn) (g : Nat), Claims.Reaches s (.countersClear rq g) rq c (entryCode 0xA0F0 3) →
    (8 < g → exec (.countersClear rq g) s = .next (s.refuse rq Bdp.outOfRange 0 [{ code := entryCode 0xA0F0 3, status := Bdp.outOfRange }])) ∧
    (g ≤ 8 → ∃ f : Faults, Claims.Accepts s (.countersClear rq g) rq c (entryCode 0xA0F0 3) Bdp.ok g { s with faults := f } ∧
      (∀ code, mget 0 f.counters code = if counterIn g code = true then 0 else mget 0 s.faults.counters code) ∧
      (∀ code, code ∈ f.satList ↔ code ∈ s.faults.satList ∧ counterIn g code = false) ∧
      f.queue = s.faults.queue ∧ f.log = s.faults.log ∧ f.fatalLog = s.faults.fatalLog ∧ f.unacked = s.faults.unacked ∧
      f.nextSeq = s.faults.nextSeq ∧ f.seqMark = s.faults.seqMark ∧ f.ackSeq = s.faults.ackSeq)

/-- Raising a counter by n adds n and holds at 2^64 - 1, and leaves every other counter but the two that count COUNTER_SAT itself; it enters SAT_LIST and raises COUNTER_SAT only at the raise that takes it to the maximum, so a counter that stands there raises nothing more. (The two counters that a COUNTER_SAT event itself may raise, its class counter and EVENTS_LOST, are excepted: R416, R420.) Rules: 20_faults_counters_mirror.md R420, 20_faults_counters_mirror.md R421. -/
def Obligations.CounterSaturates : Prop :=
  ∀ (s : State) (index sub n : Nat), entryCode index sub ≠ entryCode 0xA0F2 2 → entryCode index sub ≠ entryCode 0xAF01 6 →
    (s.count index sub n).counter index sub = min (s.counter index sub + n) counterMax ∧
    (∀ code, code ≠ entryCode index sub → code ≠ entryCode 0xA0F2 2 → code ≠ entryCode 0xAF01 6 →
      mget 0 (s.count index sub n).faults.counters code = mget 0 s.faults.counters code) ∧
    (s.counter index sub + n < counterMax ∨ counterMax ≤ s.counter index sub →
      (s.counter index sub ≤ counterMax) → (s.count index sub n).faults = { s.faults with counters := (s.count index sub n).faults.counters }) ∧
    (s.counter index sub < counterMax → counterMax ≤ s.counter index sub + n →
      (s.faults.satList.length < 64 → entryCode index sub ∈ (s.count index sub n).faults.satList) ∧
      (s.counter 0xA0F2 2 + 1 < counterMax → (s.count index sub n).faults.nextSeq = (s.faults.nextSeq + 1) % 2 ^ 32))

/-- Of two numbers of w bits, at least one bit, never both are after each other, none is after itself, at a distance of exactly 2^(w-1) neither is after the other, at every other distance than 0 exactly one is, and the comparison depends on the numbers only modulo 2^w; counting on from a number by less than 2^(w-1) gives a number after it, across the wrap too. Rules: 20_faults_counters_mirror.md R422. -/
def Obligations.SerialOrder : Prop :=
  ∀ w a b : Nat, 0 < w →
    (serialAfter w a b = true → serialAfter w b a = false) ∧ serialAfter w a a = false ∧
    ((a + 2 ^ (w - 1)) % 2 ^ w = b % 2 ^ w → serialAfter w a b = false ∧ serialAfter w b a = false) ∧
    (a % 2 ^ w ≠ b % 2 ^ w → (a + 2 ^ (w - 1)) % 2 ^ w ≠ b % 2 ^ w → serialAfter w a b = true ∨ serialAfter w b a = true) ∧
    serialAfter w (a % 2 ^ w) (b % 2 ^ w) = serialAfter w a b ∧
    (∀ k, 0 < k → k < 2 ^ (w - 1) → serialAfter w ((a + k) % 2 ^ w) a = true)

/-- An event that is raised takes the next SEQ and uses it up, a masked class counts it in FAULT_PENDING, and the record joins the hardware queue, or is dropped from a full one while its SEQ is still used and still counts; a device-fatal event enters the fatal log and makes the self-reset due; the SEQ mark, at most 69,631 ahead of the next SEQ before, is 4,096 to 69,631 ahead after, so no assigned SEQ reaches the stored mark; no event acknowledges another. Rules: 20_faults_counters_mirror.md R414, 20_faults_counters_mirror.md R416, 20_faults_counters_mirror.md R417, 20_faults_counters_mirror.md R418, 20_faults_counters_mirror.md R458. -/
def Obligations.EventNumbers : Prop :=
  ∀ (f : Faults) (mask mono flags : Nat) (k : EvKind) (tenant kind locus detail : Nat), f.nextSeq < 2 ^ 32 →
    (f.push mask mono flags k tenant kind locus detail).nextSeq = (f.nextSeq + 1) % 2 ^ 32 ∧
    (f.push mask mono flags k tenant kind locus detail).unacked = f.unacked ++ (if nbit mask k.cls = true then [f.nextSeq] else []) ∧
    (f.push mask mono flags k tenant kind locus detail).queue = f.queue ++ (if f.queue.length < 4096 then
      [{ code := k.code, cls := k.cls, flags := flags, seq := f.nextSeq, mono := mono, tenant := tenant, kind := kind, locus := locus, detail := detail }] else []) ∧
    ((f.push mask mono flags k tenant kind locus detail).fatalDue = (f.fatalDue || decide (k.cls = 6))) ∧
    (f.fatalLog.length ≤ 64 → (f.push mask mono flags k tenant kind locus detail).fatalLog.length ≤ 64) ∧
    (f.push mask mono flags k tenant kind locus detail).ackSeq = f.ackSeq ∧
    ((f.seqMark + 2 ^ 32 - f.nextSeq) % 2 ^ 32 ≤ 69631 →
      4096 ≤ ((f.push mask mono flags k tenant kind locus detail).seqMark + 2 ^ 32 - (f.push mask mono flags k tenant kind locus detail).nextSeq) % 2 ^ 32 ∧
      ((f.push mask mono flags k tenant kind locus detail).seqMark + 2 ^ 32 - (f.push mask mono flags k tenant kind locus detail).nextSeq) % 2 ^ 32 ≤ 69631)

/-- Whatever the state, a granted converting slot or a resumed MVM leaves the count of converting arrays at most at the grant, or where it stood when a lowered grant has not been reached yet, at most 64 of each die or where it stood, and the die's arrays added in the present microsecond at most 16 or where they stood; each changes the slot of no other array. Rules: 03_weight_vault.md R71, 01_engine_overview.md R25. -/
def Obligations.GrantNotExceeded : Prop :=
  ∀ (s t : State) (arr : Nat), (exec (.convertingSlotGrant arr) s = .next t ∨ exec (.mvmResume arr) s = .next t) →
    t.convertingCount ≤ max s.convertingCount s.vault.grant ∧ t.vault.grant = s.vault.grant ∧
    (∀ d, t.convertingOn d ≤ max (s.convertingOn d) 64 ∧ (t.die d).raised ≤ max (s.die d).raised 16) ∧
    ∀ a, a ≠ arr → t.array a = s.array a

/-- For every state in which a unit's next program word is GATH or SCAT, the destination run fits the buffer (GATH), and no set the instruction reads is being filled (SCAT), the command answers a next state whose program has gone on one word, with the scalars and every other unit unchanged. After GATH each destination word is the buffer word that its index names before the instruction, and keeps its contents where the index is beyond 4,095, and every other word stays. After SCAT each word of the buffer that an index names is the last element whose index names it, and every other word stays. A GATH, and a SCAT that releases no set, adds its masked indices to VEC_IDX_OOR of the running tenant, up to the counter's maximum. (What a release of sets adds to other counters follows from the passes it lets run.) Rules: 06_vector_engine.md R112, 06_vector_engine.md R116, 06_vector_engine.md R127. -/
def Obligations.IndexedMoves : Prop :=
  (∀ (s : State) (unit : Nat) (f : VF) (r : Running), s.nextWord unit (f.encode 0x60) = some r → f.dst + f.n ≤ 4096 →
    ∃ t, exec (.vGath unit f) s = .next t ∧ Claims.Advanced s t unit r ∧ (t.unit unit).sc = (s.unit unit).sc ∧
      Claims.WordsAre (s.unit unit) (t.unit unit) f.dst ((List.range f.n).map fun i =>
        if 4095 < ((s.unit unit).word (f.srcb + i)).toNat then (s.unit unit).word (f.dst + i) else (s.unit unit).word ((s.unit unit).word (f.srcb + i)).toNat) ∧
      (r.tenant ≠ 0 → t.counter (0xA500 + r.tenant) 5 =
        if ((List.range f.n).filter fun i => decide (4095 < ((s.unit unit).word (f.srcb + i)).toNat)) = [] then s.counter (0xA500 + r.tenant) 5
        else min (s.counter (0xA500 + r.tenant) 5 + ((List.range f.n).filter fun i => decide (4095 < ((s.unit unit).word (f.srcb + i)).toNat)).length) counterMax)) ∧
  (∀ (s : State) (unit : Nat) (f : VF) (r : Running), s.nextWord unit (f.encode 0x61) = some r → Claims.Ready s unit f.setsRead →
    ∃ t, exec (.vScat unit f) s = .next t ∧ Claims.Advanced s t unit r ∧ (t.unit unit).sc = (s.unit unit).sc ∧
      (∀ a, (t.unit unit).word a =
        match (s.srcWords unit f).reverse.find? fun x => decide (((s.unit unit).word (f.srcb + x.1)).toNat = a ∧ a < 4096) with
        | some x => x.2
        | none => (s.unit unit).word a) ∧
      (f.mbit 5 = false → r.tenant ≠ 0 → t.counter (0xA500 + r.tenant) 5 =
        if ((s.srcWords unit f).filter fun x => decide (4095 < ((s.unit unit).word (f.srcb + x.1)).toNat)) = [] then s.counter (0xA500 + r.tenant) 5
        else min (s.counter (0xA500 + r.tenant) 5 + ((s.srcWords unit f).filter fun x => decide (4095 < ((s.unit unit).word (f.srcb + x.1)).toNat)).length) counterMax))

/-- With debug access locked, BYPASS and IDCODE are always carried out; with RESET_N high, EXTEST and SAMPLE/PRELOAD select BYPASS and touch no boundary cell, and COMMISSION latches no key; with RESET_N low they are offered: EXTEST drives the cells, SAMPLE/PRELOAD loads and captures them, and COMMISSION latches a well-formed key where R386 allows it. Rules: 18_tenants_and_trust.md R391. -/
def Obligations.TestPortOffers : Prop :=
  ∀ (s : State) (cells captured key reserved : Nat) (bit : Bool), s.trust.debug = false →
    exec (.bypass bit) s = .next { s with pins := { s.pins with ir := 0xFF, driven := false, bypass := bit, tdo := 0 } } ∧
    exec .idcode s = .next { s with pins := { s.pins with ir := 1, driven := false, tdo := 0x10880A31 } } ∧
    (s.pins.resetN = true →
      exec (.extest cells) s = .next { s with pins := { s.pins with ir := 0xFF, driven := false } } ∧
      exec (.samplePreload cells captured) s = .next { s with pins := { s.pins with ir := 0xFF, driven := false } } ∧
      ∃ t, exec (.commission key reserved) s = .next t ∧ t.pins.latch = s.pins.latch) ∧
    (s.pins.resetN = false →
      exec (.extest cells) s = .next { s with pins := { s.pins with ir := 0, driven := true, cells := cells % 2 ^ 39 } } ∧
      exec (.samplePreload cells captured) s = .next { s with pins := { s.pins with ir := 2, driven := false, cells := cells % 2 ^ 39, tdo := captured % 2 ^ 39 } } ∧
      (s.mgmtKeys = 0 → key % 256 = 10 → reserved = 0 →
        ∃ t, exec (.commission key reserved) s = .next t ∧ t.pins.latch = some key))
end

