-- ==== Sys2Proof/Laws/Map.lean ====
section
/-! SUPPORT. The laws of the sparse tables. -/

namespace Sys2Proof.Machine

section Read

variable {α : Type} {d : α}

@[simp] theorem mget_nil (k : Nat) : mget d [] k = d := rfl

theorem mget_cons (a k : Nat) (v : α) (t : SMap α) : mget d ((a, v) :: t) k = if a = k then v else mget d t k := rfl

theorem mget_mdel_self (k : Nat) : ∀ m : SMap α, mget d (mdel m k) k = d
  | [] => rfl
  | (a, w) :: t => by
    simp only [mdel]; split
    · exact mget_mdel_self k t
    · rw [mget_cons, if_neg (by assumption)]; exact mget_mdel_self k t

theorem mget_mdel_ne {j k : Nat} (h : j ≠ k) : ∀ m : SMap α, mget d (mdel m k) j = mget d m j
  | [] => rfl
  | (a, w) :: t => by
    simp only [mdel]; split
    · subst_vars; rw [mget_cons, if_neg (Ne.symm h)]; exact mget_mdel_ne h t
    · rw [mget_cons, mget_cons, mget_mdel_ne h t]

theorem mget_minsert_ne {j k : Nat} (h : j ≠ k) (v : α) : ∀ m : SMap α, mget d (minsert k v m) j = mget d m j
  | [] => by simp [minsert, mget_cons, Ne.symm h]
  | (a, w) :: t => by
    simp only [minsert]; split
    · rw [mget_cons, if_neg (Ne.symm h)]
    · rw [mget_cons, mget_cons, mget_minsert_ne h v t]

theorem mget_minsert_mdel (k : Nat) (v : α) : ∀ m : SMap α, mget d (minsert k v (mdel m k)) k = v
  | [] => by simp [mdel, minsert, mget_cons]
  | (a, w) :: t => by
    simp only [mdel]; split
    · exact mget_minsert_mdel k v t
    · simp only [minsert]; split
      · simp [mget_cons]
      · rw [mget_cons, if_neg (by assumption)]; exact mget_minsert_mdel k v t

end Read

variable {α : Type} [DecidableEq α] {d : α}

@[simp] theorem mget_mset_self (m : SMap α) (k : Nat) (v : α) : mget d (mset d m k v) k = v := by
  unfold mset; split
  · subst_vars; exact mget_mdel_self k m
  · exact mget_minsert_mdel k v m

@[simp] theorem mget_mset_ne {j k : Nat} (h : j ≠ k) (m : SMap α) (v : α) : mget d (mset d m k v) j = mget d m j := by
  unfold mset; split
  · exact mget_mdel_ne h m
  · rw [mget_minsert_ne h, mget_mdel_ne h]

theorem mget_mset (m : SMap α) (j k : Nat) (v : α) : mget d (mset d m k v) j = if j = k then v else mget d m j := by
  split
  · subst_vars; exact mget_mset_self m _ v
  · exact mget_mset_ne (by assumption) m v

theorem mwfFrom_mono {lo lo' : Nat} (h : lo' ≤ lo) : ∀ {m : SMap α}, mwfFrom d lo m = true → mwfFrom d lo' m = true
  | [], _ => rfl
  | (a, v) :: t, hm => by
    simp only [mwfFrom, Bool.and_eq_true, decide_eq_true_eq] at hm ⊢
    exact ⟨⟨Nat.le_trans h hm.1.1, hm.1.2⟩, hm.2⟩

theorem mdel_wf (k : Nat) : ∀ {lo : Nat} {m : SMap α}, mwfFrom d lo m = true → mwfFrom d lo (mdel m k) = true
  | _, [], _ => rfl
  | lo, (a, w) :: t, hm => by
    simp only [mwfFrom, Bool.and_eq_true, decide_eq_true_eq] at hm
    simp only [mdel]; split
    · exact mwfFrom_mono (by omega) (mdel_wf k hm.2)
    · simp only [mwfFrom, Bool.and_eq_true, decide_eq_true_eq]; exact ⟨hm.1, mdel_wf k hm.2⟩

theorem minsert_wf {k : Nat} {v : α} (hv : v ≠ d) :
    ∀ {lo : Nat} {m : SMap α}, lo ≤ k → (∀ e ∈ m, e.1 ≠ k) → mwfFrom d lo m = true → mwfFrom d lo (minsert k v m) = true
  | _, [], hk, _, _ => by simp [minsert, mwfFrom, hk, hv]
  | lo, (a, w) :: t, hk, hne, hm => by
    simp only [mwfFrom, Bool.and_eq_true, decide_eq_true_eq] at hm
    have ha : a ≠ k := hne (a, w) (by simp)
    simp only [minsert]; split
    · simp only [mwfFrom, Bool.and_eq_true, decide_eq_true_eq]
      exact ⟨⟨hk, by simpa using hv⟩, ⟨by omega, hm.1.2⟩, hm.2⟩
    · simp only [mwfFrom, Bool.and_eq_true, decide_eq_true_eq]
      exact ⟨hm.1, minsert_wf hv (by omega) (fun e he => hne e (by simp [he])) hm.2⟩

omit [DecidableEq α] in
theorem mdel_ne (k : Nat) : ∀ m : SMap α, ∀ e ∈ mdel m k, e.1 ≠ k
  | [], e, he => by simp [mdel] at he
  | (a, w) :: t, e, he => by
    simp only [mdel] at he; split at he
    · exact mdel_ne k t e he
    · rcases List.mem_cons.1 he with h | h
      · subst h; assumption
      · exact mdel_ne k t e h

theorem mset_wf {k : Nat} {v : α} {m : SMap α} (h : mwf d m = true) : mwf d (mset d m k v) = true := by
  unfold mset; split
  · exact mdel_wf k h
  · exact minsert_wf (by assumption) (Nat.zero_le _) (mdel_ne k m) (mdel_wf k h)

theorem mfilterFrom_wf (p : Nat × α → Bool) : ∀ {lo : Nat} {m : SMap α}, mwfFrom d lo m = true → mwfFrom d lo (m.filter p) = true
  | _, [], _ => rfl
  | lo, (a, v) :: t, hm => by
    simp only [mwfFrom, Bool.and_eq_true, decide_eq_true_eq] at hm
    rw [List.filter_cons]; split
    · simp only [mwfFrom, Bool.and_eq_true, decide_eq_true_eq]; exact ⟨hm.1, mfilterFrom_wf p hm.2⟩
    · exact mwfFrom_mono (by omega) (mfilterFrom_wf p hm.2)

theorem mfilter_wf (p : Nat × α → Bool) {m : SMap α} (h : mwf d m = true) : mwf d (m.filter p) = true := mfilterFrom_wf p h

theorem mmod_wf {k : Nat} {f : α → α} {m : SMap α} (h : mwf d m = true) : mwf d (mmod d m k f) = true := mset_wf h

end Sys2Proof.Machine
end

