-- ==== Sys2Proof/Laws/Faults.lean ====
section
/-! SUPPORT. Counters and events: what each part of raising one changes, and what it leaves. -/

namespace Sys2Proof.Machine

variable (f : Faults)

/-! ### Counters -/
@[simp] theorem Faults.bump_nextSeq (code n : Nat) : (f.bump code n).nextSeq = f.nextSeq := by unfold Faults.bump; dsimp only; split <;> rfl
@[simp] theorem Faults.bump_seqMark (code n : Nat) : (f.bump code n).seqMark = f.seqMark := by unfold Faults.bump; dsimp only; split <;> rfl
@[simp] theorem Faults.bump_ackSeq (code n : Nat) : (f.bump code n).ackSeq = f.ackSeq := by unfold Faults.bump; dsimp only; split <;> rfl
@[simp] theorem Faults.bump_unacked (code n : Nat) : (f.bump code n).unacked = f.unacked := by unfold Faults.bump; dsimp only; split <;> rfl
@[simp] theorem Faults.bump_queue (code n : Nat) : (f.bump code n).queue = f.queue := by unfold Faults.bump; dsimp only; split <;> rfl
@[simp] theorem Faults.bump_log (code n : Nat) : (f.bump code n).log = f.log := by unfold Faults.bump; dsimp only; split <;> rfl
@[simp] theorem Faults.bump_fatalLog (code n : Nat) : (f.bump code n).fatalLog = f.fatalLog := by unfold Faults.bump; dsimp only; split <;> rfl
@[simp] theorem Faults.bump_fatalDue (code n : Nat) : (f.bump code n).fatalDue = f.fatalDue := by unfold Faults.bump; dsimp only; split <;> rfl
@[simp] theorem Faults.bump_unlisted (code n : Nat) : (f.bump code n).unlisted = f.unlisted := by unfold Faults.bump; dsimp only; split <;> rfl

/-- The counters after a bump: the one named is raised and holds its maximum. -/
@[simp] theorem Faults.bump_counters (code n : Nat) : (f.bump code n).counters = mset 0 f.counters code (min (mget 0 f.counters code + n) counterMax) := by
  unfold Faults.bump; dsimp only; split <;> rfl

/-- The named counter after a bump. -/
theorem Faults.bump_self (code n : Nat) : mget 0 (f.bump code n).counters code = min (mget 0 f.counters code + n) counterMax := by simp

/-- Every other counter after a bump. -/
theorem Faults.bump_ne {code c : Nat} (h : c ≠ code) (n : Nat) : mget 0 (f.bump code n).counters c = mget 0 f.counters c := by simp [h]

/-- A bump that does not take its counter to the maximum changes the counter alone. -/
theorem Faults.bump_quiet {code n : Nat} (h : f.saturates code n = false) : f.bump code n = { f with counters := (f.bump code n).counters } := by
  unfold Faults.bump
  unfold Faults.saturates at h
  simp only [Bool.and_eq_false_iff, decide_eq_false_iff_not] at h
  dsimp only
  split
  · rename_i h2; omega
  · rfl

/-- A bump that takes its counter to the maximum enters it into SAT_LIST, while there is room. -/
theorem Faults.bump_sat {code n : Nat} (h : f.saturates code n = true) :
    (f.bump code n).satList = if f.satList.length < 64 then f.satList ++ [code] else f.satList := by
  unfold Faults.bump
  unfold Faults.saturates at h
  simp only [Bool.and_eq_true, decide_eq_true_eq] at h
  dsimp only
  rw [if_pos (by omega)]

/-- No bump takes a counter out of SAT_LIST. -/
theorem Faults.bump_satList_mono {c : Nat} (code n : Nat) (h : c ∈ f.satList) : c ∈ (f.bump code n).satList := by
  unfold Faults.bump; dsimp only; split
  · split
    · exact List.mem_append_left _ h
    · exact h
  · exact h

/-! ### The parts of raising an event -/
@[simp] theorem Faults.moveMark_counters : f.moveMark.counters = f.counters := by unfold Faults.moveMark; split <;> rfl
@[simp] theorem Faults.moveMark_satList : f.moveMark.satList = f.satList := by unfold Faults.moveMark; split <;> rfl
@[simp] theorem Faults.moveMark_satCount : f.moveMark.satCount = f.satCount := by unfold Faults.moveMark; split <;> rfl
@[simp] theorem Faults.moveMark_nextSeq : f.moveMark.nextSeq = f.nextSeq := by unfold Faults.moveMark; split <;> rfl
@[simp] theorem Faults.moveMark_ackSeq : f.moveMark.ackSeq = f.ackSeq := by unfold Faults.moveMark; split <;> rfl
@[simp] theorem Faults.moveMark_unacked : f.moveMark.unacked = f.unacked := by unfold Faults.moveMark; split <;> rfl
@[simp] theorem Faults.moveMark_queue : f.moveMark.queue = f.queue := by unfold Faults.moveMark; split <;> rfl
@[simp] theorem Faults.moveMark_log : f.moveMark.log = f.log := by unfold Faults.moveMark; split <;> rfl
@[simp] theorem Faults.moveMark_fatalLog : f.moveMark.fatalLog = f.fatalLog := by unfold Faults.moveMark; split <;> rfl
@[simp] theorem Faults.moveMark_fatalDue : f.moveMark.fatalDue = f.fatalDue := by unfold Faults.moveMark; split <;> rfl
@[simp] theorem Faults.moveMark_unlisted : f.moveMark.unlisted = f.unlisted := by unfold Faults.moveMark; split <;> rfl
@[simp] theorem Faults.takeSeq_counters (mask cls : Nat) : (f.takeSeq mask cls).counters = f.counters := rfl
@[simp] theorem Faults.takeSeq_satList (mask cls : Nat) : (f.takeSeq mask cls).satList = f.satList := rfl
@[simp] theorem Faults.takeSeq_satCount (mask cls : Nat) : (f.takeSeq mask cls).satCount = f.satCount := rfl
@[simp] theorem Faults.takeSeq_seqMark (mask cls : Nat) : (f.takeSeq mask cls).seqMark = f.seqMark := rfl
@[simp] theorem Faults.takeSeq_ackSeq (mask cls : Nat) : (f.takeSeq mask cls).ackSeq = f.ackSeq := rfl
@[simp] theorem Faults.takeSeq_queue (mask cls : Nat) : (f.takeSeq mask cls).queue = f.queue := rfl
@[simp] theorem Faults.takeSeq_log (mask cls : Nat) : (f.takeSeq mask cls).log = f.log := rfl
@[simp] theorem Faults.takeSeq_fatalLog (mask cls : Nat) : (f.takeSeq mask cls).fatalLog = f.fatalLog := rfl
@[simp] theorem Faults.takeSeq_fatalDue (mask cls : Nat) : (f.takeSeq mask cls).fatalDue = f.fatalDue := rfl
@[simp] theorem Faults.takeSeq_unlisted (mask cls : Nat) : (f.takeSeq mask cls).unlisted = f.unlisted := rfl
@[simp] theorem Faults.takeSeq_nextSeq (mask cls : Nat) : (f.takeSeq mask cls).nextSeq = (f.nextSeq + 1) % 2 ^ 32 := rfl
@[simp] theorem Faults.enqueue_nextSeq (e : Event) : (f.enqueue e).nextSeq = f.nextSeq := by unfold Faults.enqueue; split <;> simp
@[simp] theorem Faults.enqueue_seqMark (e : Event) : (f.enqueue e).seqMark = f.seqMark := by unfold Faults.enqueue; split <;> simp
@[simp] theorem Faults.enqueue_ackSeq (e : Event) : (f.enqueue e).ackSeq = f.ackSeq := by unfold Faults.enqueue; split <;> simp
@[simp] theorem Faults.enqueue_unacked (e : Event) : (f.enqueue e).unacked = f.unacked := by unfold Faults.enqueue; split <;> simp
@[simp] theorem Faults.enqueue_log (e : Event) : (f.enqueue e).log = f.log := by unfold Faults.enqueue; split <;> simp
@[simp] theorem Faults.enqueue_fatalLog (e : Event) : (f.enqueue e).fatalLog = f.fatalLog := by unfold Faults.enqueue; split <;> simp
@[simp] theorem Faults.enqueue_fatalDue (e : Event) : (f.enqueue e).fatalDue = f.fatalDue := by unfold Faults.enqueue; split <;> simp
@[simp] theorem Faults.enqueue_unlisted (e : Event) : (f.enqueue e).unlisted = f.unlisted := by unfold Faults.enqueue; split <;> simp
@[simp] theorem Faults.logFatal_counters (e : Event) : (f.logFatal e).counters = f.counters := by unfold Faults.logFatal; split <;> rfl
@[simp] theorem Faults.logFatal_satList (e : Event) : (f.logFatal e).satList = f.satList := by unfold Faults.logFatal; split <;> rfl
@[simp] theorem Faults.logFatal_satCount (e : Event) : (f.logFatal e).satCount = f.satCount := by unfold Faults.logFatal; split <;> rfl
@[simp] theorem Faults.logFatal_nextSeq (e : Event) : (f.logFatal e).nextSeq = f.nextSeq := by unfold Faults.logFatal; split <;> rfl
@[simp] theorem Faults.logFatal_seqMark (e : Event) : (f.logFatal e).seqMark = f.seqMark := by unfold Faults.logFatal; split <;> rfl
@[simp] theorem Faults.logFatal_ackSeq (e : Event) : (f.logFatal e).ackSeq = f.ackSeq := by unfold Faults.logFatal; split <;> rfl
@[simp] theorem Faults.logFatal_unacked (e : Event) : (f.logFatal e).unacked = f.unacked := by unfold Faults.logFatal; split <;> rfl
@[simp] theorem Faults.logFatal_queue (e : Event) : (f.logFatal e).queue = f.queue := by unfold Faults.logFatal; split <;> rfl
@[simp] theorem Faults.logFatal_log (e : Event) : (f.logFatal e).log = f.log := by unfold Faults.logFatal; split <;> rfl
@[simp] theorem Faults.logFatal_unlisted (e : Event) : (f.logFatal e).unlisted = f.unlisted := by unfold Faults.logFatal; split <;> rfl

/-- The hardware queue after a record comes. -/
@[simp] theorem Faults.enqueue_queue (e : Event) : (f.enqueue e).queue = f.queue ++ (if f.queue.length < 4096 then [e] else []) := by
  unfold Faults.enqueue; split <;> simp [*]

/-- A counter other than EVENTS_LOST stays when a record comes. -/
theorem Faults.enqueue_counter {c : Nat} (h : c ≠ entryCode 0xAF01 6) (e : Event) : mget 0 (f.enqueue e).counters c = mget 0 f.counters c := by
  unfold Faults.enqueue; split
  · rfl
  · exact Faults.bump_ne _ h 1

/-- The SEQ mark stays ahead of the number to assign next. -/
theorem Faults.moveMark_ahead (mask cls : Nat) (hn : f.nextSeq < 2 ^ 32) (h : (f.seqMark + 2 ^ 32 - f.nextSeq) % 2 ^ 32 ≤ 69631) :
    4096 ≤ ((f.takeSeq mask cls).moveMark.seqMark + 2 ^ 32 - (f.nextSeq + 1) % 2 ^ 32) % 2 ^ 32 ∧
    ((f.takeSeq mask cls).moveMark.seqMark + 2 ^ 32 - (f.nextSeq + 1) % 2 ^ 32) % 2 ^ 32 ≤ 69631 := by
  unfold Faults.moveMark
  split <;> rename_i hm <;> simp only [Faults.takeSeq_nextSeq, Faults.takeSeq_seqMark] at hm ⊢ <;> omega

/-! ### Raising an event -/

variable (mask mono flags : Nat) (k : EvKind) (tenant kind locus detail : Nat)

/-- The record of an event. -/
abbrev evRecord : Event := { code := k.code, cls := k.cls, flags := flags, seq := f.nextSeq, mono := mono, tenant := tenant, kind := kind, locus := locus, detail := detail }

@[simp] theorem Faults.push_nextSeq : (f.push mask mono flags k tenant kind locus detail).nextSeq = (f.nextSeq + 1) % 2 ^ 32 := by simp [Faults.push]
@[simp] theorem Faults.push_ackSeq : (f.push mask mono flags k tenant kind locus detail).ackSeq = f.ackSeq := by simp [Faults.push]
@[simp] theorem Faults.push_log : (f.push mask mono flags k tenant kind locus detail).log = f.log := by simp [Faults.push]
@[simp] theorem Faults.push_unlisted : (f.push mask mono flags k tenant kind locus detail).unlisted = f.unlisted := by simp [Faults.push]
@[simp] theorem Faults.push_seqMark : (f.push mask mono flags k tenant kind locus detail).seqMark = (f.takeSeq mask k.cls).moveMark.seqMark := by simp [Faults.push]
theorem Faults.push_unacked : (f.push mask mono flags k tenant kind locus detail).unacked = f.unacked ++ (if nbit mask k.cls = true then [f.nextSeq] else []) := by
  simp only [Faults.push, Faults.logFatal_unacked, Faults.bump_unacked, Faults.enqueue_unacked, Faults.moveMark_unacked, Faults.takeSeq]
  split <;> simp
theorem Faults.push_queue : (f.push mask mono flags k tenant kind locus detail).queue = f.queue ++ (if f.queue.length < 4096 then [evRecord f mono flags k tenant kind locus detail] else []) := by
  simp [Faults.push]

/-- A counter other than the event's class counter and EVENTS_LOST stays when an event is raised. -/
theorem Faults.push_counter {c : Nat} (h1 : c ≠ entryCode 0xA0F2 (k.cls + 1)) (h2 : c ≠ entryCode 0xAF01 6) :
    mget 0 (f.push mask mono flags k tenant kind locus detail).counters c = mget 0 f.counters c := by
  simp only [Faults.push, Faults.logFatal_counters]
  rw [Faults.bump_ne _ h1, Faults.enqueue_counter _ h2]; simp

/-- A record that comes takes no counter out of SAT_LIST. -/
theorem Faults.enqueue_satList_mono {c : Nat} (e : Event) (h : c ∈ f.satList) : c ∈ (f.enqueue e).satList := by
  unfold Faults.enqueue; split
  · exact h
  · exact Faults.bump_satList_mono f _ _ h

/-- Raising an event takes no counter out of SAT_LIST. -/
theorem Faults.push_satList_mono {c : Nat} (h : c ∈ f.satList) : c ∈ (f.push mask mono flags k tenant kind locus detail).satList := by
  have h1 : c ∈ (f.takeSeq mask k.cls).moveMark.satList := by rw [Faults.moveMark_satList, Faults.takeSeq_satList]; exact h
  simp only [Faults.push, Faults.logFatal_satList]
  exact Faults.bump_satList_mono _ _ _ (Faults.enqueue_satList_mono _ _ h1)

/-- A device-fatal event makes the self-reset due; no event clears it. -/
theorem Faults.push_fatalDue : (f.push mask mono flags k tenant kind locus detail).fatalDue = (f.fatalDue || decide (k.cls = 6)) := by
  simp only [Faults.push]
  unfold Faults.logFatal; split <;> simp_all

/-- The fatal log holds at most 64 records. -/
theorem Faults.push_fatalLog (h : f.fatalLog.length ≤ 64) : (f.push mask mono flags k tenant kind locus detail).fatalLog.length ≤ 64 := by
  simp only [Faults.push]
  unfold Faults.logFatal; split
  · simp; omega
  · simpa using h

/-! ### Counting with COUNTER_SAT -/

/-- A count that does not take its counter to the maximum changes the counter alone. -/
theorem Faults.count_quiet {code n : Nat} (h : f.saturates code n = false) : f.count mask mono flags code n = f.bump code n := by
  simp [Faults.count, h]

/-- A counter other than the one counted, and than those that a COUNTER_SAT event raises, stays. -/
theorem Faults.count_ne {code c : Nat} (n : Nat) (h : c ≠ code) (h1 : c ≠ entryCode 0xA0F2 2) (h2 : c ≠ entryCode 0xAF01 6) :
    mget 0 (f.count mask mono flags code n).counters c = mget 0 f.counters c := by
  have e : Ev.counterSat.cls + 1 = 2 := rfl
  unfold Faults.count
  dsimp only
  split
  · split
    · rw [Faults.push_counter _ _ _ _ _ _ _ _ _ (by rwa [e]) h2, Faults.push_counter _ _ _ _ _ _ _ _ _ (by rwa [e]) h2, Faults.bump_ne _ h]
    · rw [Faults.push_counter _ _ _ _ _ _ _ _ _ (by rwa [e]) h2, Faults.bump_ne _ h]
  · rw [Faults.bump_ne _ h]

/-- The counter counted, where it is not one that a COUNTER_SAT event raises. -/
theorem Faults.count_self {code : Nat} (n : Nat) (h1 : code ≠ entryCode 0xA0F2 2) (h2 : code ≠ entryCode 0xAF01 6) :
    mget 0 (f.count mask mono flags code n).counters code = min (mget 0 f.counters code + n) counterMax := by
  have e : Ev.counterSat.cls + 1 = 2 := rfl
  unfold Faults.count
  dsimp only
  split
  · split
    · rw [Faults.push_counter _ _ _ _ _ _ _ _ _ (by rwa [e]) h2, Faults.push_counter _ _ _ _ _ _ _ _ _ (by rwa [e]) h2, Faults.bump_self]
    · rw [Faults.push_counter _ _ _ _ _ _ _ _ _ (by rwa [e]) h2, Faults.bump_self]
  · rw [Faults.bump_self]

/-- Counter `index.sub` after it is counted. -/
theorem State.counter_count (s : State) {index sub : Nat} (n : Nat) (h1 : entryCode index sub ≠ entryCode 0xA0F2 2) (h2 : entryCode index sub ≠ entryCode 0xAF01 6) :
    (s.count index sub n).counter index sub = min (s.counter index sub + n) counterMax := Faults.count_self _ _ _ _ n h1 h2

/-- Another counter after a count. -/
theorem State.counter_count_ne (s : State) {index sub i j : Nat} (n : Nat) (h : entryCode i j ≠ entryCode index sub) (h1 : entryCode i j ≠ entryCode 0xA0F2 2)
    (h2 : entryCode i j ≠ entryCode 0xAF01 6) : (s.count index sub n).counter i j = s.counter i j := Faults.count_ne _ _ _ _ n h h1 h2

/-- The counters of a group read 0 after it is cleared, and no other changes. -/
theorem mget_mfilter {α : Type} (d : α) (p : Nat → Bool) (c : Nat) : ∀ m : SMap α, mget d (mfilter (fun k _ => p k) m) c = if p c then mget d m c else d
  | [] => by simp [mfilter, mget]
  | (a, v) :: t => by
    have ih := mget_mfilter d p c t
    by_cases hp : p a = true
    · simp only [mfilter, List.filter_cons, hp, if_true, mget] at ih ⊢
      by_cases hc : a = c
      · subst hc; simp [hp]
      · simp [hc, ih]
    · simp only [mfilter, List.filter_cons, hp, mget] at ih ⊢
      by_cases hc : a = c
      · subst hc; simp_all
      · simp [hc, ih]

end Sys2Proof.Machine
end

