-- ==== Sys2Proof/Laws/State.lean ====
section
/-! SUPPORT. What each update of a numbered resource leaves, and what it reads as afterwards. -/

namespace Sys2Proof.Machine

@[simp] theorem stratum_modStratum_ne (s : State) (k j : Nat) (f : Stratum → Stratum) (h : j ≠ k) : (s.modStratum k f).stratum j = s.stratum j :=
  mget_mset_ne h _ _
@[simp] theorem stratum_modStratum_self (s : State) (k : Nat) (f : Stratum → Stratum) : (s.modStratum k f).stratum k = f (s.stratum k) :=
  mget_mset_self _ _ _
@[simp] theorem modStratum_ident (s : State) (k : Nat) (f : Stratum → Stratum) : (s.modStratum k f).ident = s.ident := rfl
@[simp] theorem modStratum_fabric (s : State) (k : Nat) (f : Stratum → Stratum) : (s.modStratum k f).fabric = s.fabric := rfl
@[simp] theorem modStratum_vec (s : State) (k : Nat) (f : Stratum → Stratum) : (s.modStratum k f).vec = s.vec := rfl
@[simp] theorem modStratum_mem (s : State) (k : Nat) (f : Stratum → Stratum) : (s.modStratum k f).mem = s.mem := rfl
@[simp] theorem modStratum_kv (s : State) (k : Nat) (f : Stratum → Stratum) : (s.modStratum k f).kv = s.kv := rfl
@[simp] theorem modStratum_exp (s : State) (k : Nat) (f : Stratum → Stratum) : (s.modStratum k f).exp = s.exp := rfl
@[simp] theorem modStratum_ops (s : State) (k : Nat) (f : Stratum → Stratum) : (s.modStratum k f).ops = s.ops := rfl
@[simp] theorem modStratum_tiers (s : State) (k : Nat) (f : Stratum → Stratum) : (s.modStratum k f).tiers = s.tiers := rfl
@[simp] theorem modStratum_streams (s : State) (k : Nat) (f : Stratum → Stratum) : (s.modStratum k f).streams = s.streams := rfl
@[simp] theorem modStratum_dram (s : State) (k : Nat) (f : Stratum → Stratum) : (s.modStratum k f).dram = s.dram := rfl
@[simp] theorem modStratum_models (s : State) (k : Nat) (f : Stratum → Stratum) : (s.modStratum k f).models = s.models := rfl
@[simp] theorem modStratum_svc (s : State) (k : Nat) (f : Stratum → Stratum) : (s.modStratum k f).svc = s.svc := rfl
@[simp] theorem modStratum_ctl (s : State) (k : Nat) (f : Stratum → Stratum) : (s.modStratum k f).ctl = s.ctl := rfl
@[simp] theorem modStratum_ports (s : State) (k : Nat) (f : Stratum → Stratum) : (s.modStratum k f).ports = s.ports := rfl
@[simp] theorem modStratum_dict (s : State) (k : Nat) (f : Stratum → Stratum) : (s.modStratum k f).dict = s.dict := rfl
@[simp] theorem modStratum_tenants (s : State) (k : Nat) (f : Stratum → Stratum) : (s.modStratum k f).tenants = s.tenants := rfl
@[simp] theorem modStratum_trust (s : State) (k : Nat) (f : Stratum → Stratum) : (s.modStratum k f).trust = s.trust := rfl
@[simp] theorem modStratum_power (s : State) (k : Nat) (f : Stratum → Stratum) : (s.modStratum k f).power = s.power := rfl
@[simp] theorem modStratum_faults (s : State) (k : Nat) (f : Stratum → Stratum) : (s.modStratum k f).faults = s.faults := rfl
@[simp] theorem modStratum_mirror (s : State) (k : Nat) (f : Stratum → Stratum) : (s.modStratum k f).mirror = s.mirror := rfl
@[simp] theorem modStratum_pins (s : State) (k : Nat) (f : Stratum → Stratum) : (s.modStratum k f).pins = s.pins := rfl
@[simp] theorem modStratum_clk (s : State) (k : Nat) (f : Stratum → Stratum) : (s.modStratum k f).clk = s.clk := rfl
@[simp] theorem modStratum_held (s : State) (k : Nat) (f : Stratum → Stratum) : (s.modStratum k f).held = s.held := rfl
@[simp] theorem modStratum_pending (s : State) (k : Nat) (f : Stratum → Stratum) : (s.modStratum k f).pending = s.pending := rfl
@[simp] theorem array_modArray_ne (s : State) (k j : Nat) (f : VArray → VArray) (h : j ≠ k) : (s.modArray k f).array j = s.array j :=
  mget_mset_ne h _ _
@[simp] theorem array_modArray_self (s : State) (k : Nat) (f : VArray → VArray) : (s.modArray k f).array k = f (s.array k) :=
  mget_mset_self _ _ _
@[simp] theorem modArray_ident (s : State) (k : Nat) (f : VArray → VArray) : (s.modArray k f).ident = s.ident := rfl
@[simp] theorem modArray_fabric (s : State) (k : Nat) (f : VArray → VArray) : (s.modArray k f).fabric = s.fabric := rfl
@[simp] theorem modArray_vec (s : State) (k : Nat) (f : VArray → VArray) : (s.modArray k f).vec = s.vec := rfl
@[simp] theorem modArray_mem (s : State) (k : Nat) (f : VArray → VArray) : (s.modArray k f).mem = s.mem := rfl
@[simp] theorem modArray_kv (s : State) (k : Nat) (f : VArray → VArray) : (s.modArray k f).kv = s.kv := rfl
@[simp] theorem modArray_exp (s : State) (k : Nat) (f : VArray → VArray) : (s.modArray k f).exp = s.exp := rfl
@[simp] theorem modArray_ops (s : State) (k : Nat) (f : VArray → VArray) : (s.modArray k f).ops = s.ops := rfl
@[simp] theorem modArray_tiers (s : State) (k : Nat) (f : VArray → VArray) : (s.modArray k f).tiers = s.tiers := rfl
@[simp] theorem modArray_streams (s : State) (k : Nat) (f : VArray → VArray) : (s.modArray k f).streams = s.streams := rfl
@[simp] theorem modArray_dram (s : State) (k : Nat) (f : VArray → VArray) : (s.modArray k f).dram = s.dram := rfl
@[simp] theorem modArray_models (s : State) (k : Nat) (f : VArray → VArray) : (s.modArray k f).models = s.models := rfl
@[simp] theorem modArray_svc (s : State) (k : Nat) (f : VArray → VArray) : (s.modArray k f).svc = s.svc := rfl
@[simp] theorem modArray_ctl (s : State) (k : Nat) (f : VArray → VArray) : (s.modArray k f).ctl = s.ctl := rfl
@[simp] theorem modArray_ports (s : State) (k : Nat) (f : VArray → VArray) : (s.modArray k f).ports = s.ports := rfl
@[simp] theorem modArray_dict (s : State) (k : Nat) (f : VArray → VArray) : (s.modArray k f).dict = s.dict := rfl
@[simp] theorem modArray_tenants (s : State) (k : Nat) (f : VArray → VArray) : (s.modArray k f).tenants = s.tenants := rfl
@[simp] theorem modArray_trust (s : State) (k : Nat) (f : VArray → VArray) : (s.modArray k f).trust = s.trust := rfl
@[simp] theorem modArray_power (s : State) (k : Nat) (f : VArray → VArray) : (s.modArray k f).power = s.power := rfl
@[simp] theorem modArray_faults (s : State) (k : Nat) (f : VArray → VArray) : (s.modArray k f).faults = s.faults := rfl
@[simp] theorem modArray_mirror (s : State) (k : Nat) (f : VArray → VArray) : (s.modArray k f).mirror = s.mirror := rfl
@[simp] theorem modArray_pins (s : State) (k : Nat) (f : VArray → VArray) : (s.modArray k f).pins = s.pins := rfl
@[simp] theorem modArray_clk (s : State) (k : Nat) (f : VArray → VArray) : (s.modArray k f).clk = s.clk := rfl
@[simp] theorem modArray_held (s : State) (k : Nat) (f : VArray → VArray) : (s.modArray k f).held = s.held := rfl
@[simp] theorem modArray_pending (s : State) (k : Nat) (f : VArray → VArray) : (s.modArray k f).pending = s.pending := rfl
@[simp] theorem die_modDie_ne (s : State) (k j : Nat) (f : VDie → VDie) (h : j ≠ k) : (s.modDie k f).die j = s.die j :=
  mget_mset_ne h _ _
@[simp] theorem die_modDie_self (s : State) (k : Nat) (f : VDie → VDie) : (s.modDie k f).die k = f (s.die k) :=
  mget_mset_self _ _ _
@[simp] theorem modDie_ident (s : State) (k : Nat) (f : VDie → VDie) : (s.modDie k f).ident = s.ident := rfl
@[simp] theorem modDie_fabric (s : State) (k : Nat) (f : VDie → VDie) : (s.modDie k f).fabric = s.fabric := rfl
@[simp] theorem modDie_vec (s : State) (k : Nat) (f : VDie → VDie) : (s.modDie k f).vec = s.vec := rfl
@[simp] theorem modDie_mem (s : State) (k : Nat) (f : VDie → VDie) : (s.modDie k f).mem = s.mem := rfl
@[simp] theorem modDie_kv (s : State) (k : Nat) (f : VDie → VDie) : (s.modDie k f).kv = s.kv := rfl
@[simp] theorem modDie_exp (s : State) (k : Nat) (f : VDie → VDie) : (s.modDie k f).exp = s.exp := rfl
@[simp] theorem modDie_ops (s : State) (k : Nat) (f : VDie → VDie) : (s.modDie k f).ops = s.ops := rfl
@[simp] theorem modDie_tiers (s : State) (k : Nat) (f : VDie → VDie) : (s.modDie k f).tiers = s.tiers := rfl
@[simp] theorem modDie_streams (s : State) (k : Nat) (f : VDie → VDie) : (s.modDie k f).streams = s.streams := rfl
@[simp] theorem modDie_dram (s : State) (k : Nat) (f : VDie → VDie) : (s.modDie k f).dram = s.dram := rfl
@[simp] theorem modDie_models (s : State) (k : Nat) (f : VDie → VDie) : (s.modDie k f).models = s.models := rfl
@[simp] theorem modDie_svc (s : State) (k : Nat) (f : VDie → VDie) : (s.modDie k f).svc = s.svc := rfl
@[simp] theorem modDie_ctl (s : State) (k : Nat) (f : VDie → VDie) : (s.modDie k f).ctl = s.ctl := rfl
@[simp] theorem modDie_ports (s : State) (k : Nat) (f : VDie → VDie) : (s.modDie k f).ports = s.ports := rfl
@[simp] theorem modDie_dict (s : State) (k : Nat) (f : VDie → VDie) : (s.modDie k f).dict = s.dict := rfl
@[simp] theorem modDie_tenants (s : State) (k : Nat) (f : VDie → VDie) : (s.modDie k f).tenants = s.tenants := rfl
@[simp] theorem modDie_trust (s : State) (k : Nat) (f : VDie → VDie) : (s.modDie k f).trust = s.trust := rfl
@[simp] theorem modDie_power (s : State) (k : Nat) (f : VDie → VDie) : (s.modDie k f).power = s.power := rfl
@[simp] theorem modDie_faults (s : State) (k : Nat) (f : VDie → VDie) : (s.modDie k f).faults = s.faults := rfl
@[simp] theorem modDie_mirror (s : State) (k : Nat) (f : VDie → VDie) : (s.modDie k f).mirror = s.mirror := rfl
@[simp] theorem modDie_pins (s : State) (k : Nat) (f : VDie → VDie) : (s.modDie k f).pins = s.pins := rfl
@[simp] theorem modDie_clk (s : State) (k : Nat) (f : VDie → VDie) : (s.modDie k f).clk = s.clk := rfl
@[simp] theorem modDie_held (s : State) (k : Nat) (f : VDie → VDie) : (s.modDie k f).held = s.held := rfl
@[simp] theorem modDie_pending (s : State) (k : Nat) (f : VDie → VDie) : (s.modDie k f).pending = s.pending := rfl
@[simp] theorem pod_modPod_ne (s : State) (k j : Nat) (f : Pod → Pod) (h : j ≠ k) : (s.modPod k f).pod j = s.pod j :=
  mget_mset_ne h _ _
@[simp] theorem pod_modPod_self (s : State) (k : Nat) (f : Pod → Pod) : (s.modPod k f).pod k = f (s.pod k) :=
  mget_mset_self _ _ _
@[simp] theorem modPod_ident (s : State) (k : Nat) (f : Pod → Pod) : (s.modPod k f).ident = s.ident := rfl
@[simp] theorem modPod_vault (s : State) (k : Nat) (f : Pod → Pod) : (s.modPod k f).vault = s.vault := rfl
@[simp] theorem modPod_vec (s : State) (k : Nat) (f : Pod → Pod) : (s.modPod k f).vec = s.vec := rfl
@[simp] theorem modPod_mem (s : State) (k : Nat) (f : Pod → Pod) : (s.modPod k f).mem = s.mem := rfl
@[simp] theorem modPod_kv (s : State) (k : Nat) (f : Pod → Pod) : (s.modPod k f).kv = s.kv := rfl
@[simp] theorem modPod_exp (s : State) (k : Nat) (f : Pod → Pod) : (s.modPod k f).exp = s.exp := rfl
@[simp] theorem modPod_ops (s : State) (k : Nat) (f : Pod → Pod) : (s.modPod k f).ops = s.ops := rfl
@[simp] theorem modPod_tiers (s : State) (k : Nat) (f : Pod → Pod) : (s.modPod k f).tiers = s.tiers := rfl
@[simp] theorem modPod_streams (s : State) (k : Nat) (f : Pod → Pod) : (s.modPod k f).streams = s.streams := rfl
@[simp] theorem modPod_dram (s : State) (k : Nat) (f : Pod → Pod) : (s.modPod k f).dram = s.dram := rfl
@[simp] theorem modPod_models (s : State) (k : Nat) (f : Pod → Pod) : (s.modPod k f).models = s.models := rfl
@[simp] theorem modPod_svc (s : State) (k : Nat) (f : Pod → Pod) : (s.modPod k f).svc = s.svc := rfl
@[simp] theorem modPod_ctl (s : State) (k : Nat) (f : Pod → Pod) : (s.modPod k f).ctl = s.ctl := rfl
@[simp] theorem modPod_ports (s : State) (k : Nat) (f : Pod → Pod) : (s.modPod k f).ports = s.ports := rfl
@[simp] theorem modPod_dict (s : State) (k : Nat) (f : Pod → Pod) : (s.modPod k f).dict = s.dict := rfl
@[simp] theorem modPod_tenants (s : State) (k : Nat) (f : Pod → Pod) : (s.modPod k f).tenants = s.tenants := rfl
@[simp] theorem modPod_trust (s : State) (k : Nat) (f : Pod → Pod) : (s.modPod k f).trust = s.trust := rfl
@[simp] theorem modPod_power (s : State) (k : Nat) (f : Pod → Pod) : (s.modPod k f).power = s.power := rfl
@[simp] theorem modPod_faults (s : State) (k : Nat) (f : Pod → Pod) : (s.modPod k f).faults = s.faults := rfl
@[simp] theorem modPod_mirror (s : State) (k : Nat) (f : Pod → Pod) : (s.modPod k f).mirror = s.mirror := rfl
@[simp] theorem modPod_pins (s : State) (k : Nat) (f : Pod → Pod) : (s.modPod k f).pins = s.pins := rfl
@[simp] theorem modPod_clk (s : State) (k : Nat) (f : Pod → Pod) : (s.modPod k f).clk = s.clk := rfl
@[simp] theorem modPod_held (s : State) (k : Nat) (f : Pod → Pod) : (s.modPod k f).held = s.held := rfl
@[simp] theorem modPod_pending (s : State) (k : Nat) (f : Pod → Pod) : (s.modPod k f).pending = s.pending := rfl
@[simp] theorem unit_modUnit_ne (s : State) (k j : Nat) (f : VecUnit → VecUnit) (h : j ≠ k) : (s.modUnit k f).unit j = s.unit j :=
  mget_mset_ne h _ _
@[simp] theorem unit_modUnit_self (s : State) (k : Nat) (f : VecUnit → VecUnit) : (s.modUnit k f).unit k = f (s.unit k) :=
  mget_mset_self _ _ _
@[simp] theorem modUnit_ident (s : State) (k : Nat) (f : VecUnit → VecUnit) : (s.modUnit k f).ident = s.ident := rfl
@[simp] theorem modUnit_vault (s : State) (k : Nat) (f : VecUnit → VecUnit) : (s.modUnit k f).vault = s.vault := rfl
@[simp] theorem modUnit_fabric (s : State) (k : Nat) (f : VecUnit → VecUnit) : (s.modUnit k f).fabric = s.fabric := rfl
@[simp] theorem modUnit_mem (s : State) (k : Nat) (f : VecUnit → VecUnit) : (s.modUnit k f).mem = s.mem := rfl
@[simp] theorem modUnit_kv (s : State) (k : Nat) (f : VecUnit → VecUnit) : (s.modUnit k f).kv = s.kv := rfl
@[simp] theorem modUnit_exp (s : State) (k : Nat) (f : VecUnit → VecUnit) : (s.modUnit k f).exp = s.exp := rfl
@[simp] theorem modUnit_ops (s : State) (k : Nat) (f : VecUnit → VecUnit) : (s.modUnit k f).ops = s.ops := rfl
@[simp] theorem modUnit_tiers (s : State) (k : Nat) (f : VecUnit → VecUnit) : (s.modUnit k f).tiers = s.tiers := rfl
@[simp] theorem modUnit_streams (s : State) (k : Nat) (f : VecUnit → VecUnit) : (s.modUnit k f).streams = s.streams := rfl
@[simp] theorem modUnit_dram (s : State) (k : Nat) (f : VecUnit → VecUnit) : (s.modUnit k f).dram = s.dram := rfl
@[simp] theorem modUnit_models (s : State) (k : Nat) (f : VecUnit → VecUnit) : (s.modUnit k f).models = s.models := rfl
@[simp] theorem modUnit_svc (s : State) (k : Nat) (f : VecUnit → VecUnit) : (s.modUnit k f).svc = s.svc := rfl
@[simp] theorem modUnit_ctl (s : State) (k : Nat) (f : VecUnit → VecUnit) : (s.modUnit k f).ctl = s.ctl := rfl
@[simp] theorem modUnit_ports (s : State) (k : Nat) (f : VecUnit → VecUnit) : (s.modUnit k f).ports = s.ports := rfl
@[simp] theorem modUnit_dict (s : State) (k : Nat) (f : VecUnit → VecUnit) : (s.modUnit k f).dict = s.dict := rfl
@[simp] theorem modUnit_tenants (s : State) (k : Nat) (f : VecUnit → VecUnit) : (s.modUnit k f).tenants = s.tenants := rfl
@[simp] theorem modUnit_trust (s : State) (k : Nat) (f : VecUnit → VecUnit) : (s.modUnit k f).trust = s.trust := rfl
@[simp] theorem modUnit_power (s : State) (k : Nat) (f : VecUnit → VecUnit) : (s.modUnit k f).power = s.power := rfl
@[simp] theorem modUnit_faults (s : State) (k : Nat) (f : VecUnit → VecUnit) : (s.modUnit k f).faults = s.faults := rfl
@[simp] theorem modUnit_mirror (s : State) (k : Nat) (f : VecUnit → VecUnit) : (s.modUnit k f).mirror = s.mirror := rfl
@[simp] theorem modUnit_pins (s : State) (k : Nat) (f : VecUnit → VecUnit) : (s.modUnit k f).pins = s.pins := rfl
@[simp] theorem modUnit_clk (s : State) (k : Nat) (f : VecUnit → VecUnit) : (s.modUnit k f).clk = s.clk := rfl
@[simp] theorem modUnit_held (s : State) (k : Nat) (f : VecUnit → VecUnit) : (s.modUnit k f).held = s.held := rfl
@[simp] theorem modUnit_pending (s : State) (k : Nat) (f : VecUnit → VecUnit) : (s.modUnit k f).pending = s.pending := rfl
@[simp] theorem page_modPage_ne (s : State) (k j : Nat) (f : Option Page → Option Page) (h : j ≠ k) : (s.modPage k f).page j = s.page j :=
  mget_mset_ne h _ _
@[simp] theorem page_modPage_self (s : State) (k : Nat) (f : Option Page → Option Page) : (s.modPage k f).page k = f (s.page k) :=
  mget_mset_self _ _ _
@[simp] theorem modPage_ident (s : State) (k : Nat) (f : Option Page → Option Page) : (s.modPage k f).ident = s.ident := rfl
@[simp] theorem modPage_vault (s : State) (k : Nat) (f : Option Page → Option Page) : (s.modPage k f).vault = s.vault := rfl
@[simp] theorem modPage_fabric (s : State) (k : Nat) (f : Option Page → Option Page) : (s.modPage k f).fabric = s.fabric := rfl
@[simp] theorem modPage_vec (s : State) (k : Nat) (f : Option Page → Option Page) : (s.modPage k f).vec = s.vec := rfl
@[simp] theorem modPage_mem (s : State) (k : Nat) (f : Option Page → Option Page) : (s.modPage k f).mem = s.mem := rfl
@[simp] theorem modPage_exp (s : State) (k : Nat) (f : Option Page → Option Page) : (s.modPage k f).exp = s.exp := rfl
@[simp] theorem modPage_ops (s : State) (k : Nat) (f : Option Page → Option Page) : (s.modPage k f).ops = s.ops := rfl
@[simp] theorem modPage_tiers (s : State) (k : Nat) (f : Option Page → Option Page) : (s.modPage k f).tiers = s.tiers := rfl
@[simp] theorem modPage_streams (s : State) (k : Nat) (f : Option Page → Option Page) : (s.modPage k f).streams = s.streams := rfl
@[simp] theorem modPage_dram (s : State) (k : Nat) (f : Option Page → Option Page) : (s.modPage k f).dram = s.dram := rfl
@[simp] theorem modPage_models (s : State) (k : Nat) (f : Option Page → Option Page) : (s.modPage k f).models = s.models := rfl
@[simp] theorem modPage_svc (s : State) (k : Nat) (f : Option Page → Option Page) : (s.modPage k f).svc = s.svc := rfl
@[simp] theorem modPage_ctl (s : State) (k : Nat) (f : Option Page → Option Page) : (s.modPage k f).ctl = s.ctl := rfl
@[simp] theorem modPage_ports (s : State) (k : Nat) (f : Option Page → Option Page) : (s.modPage k f).ports = s.ports := rfl
@[simp] theorem modPage_dict (s : State) (k : Nat) (f : Option Page → Option Page) : (s.modPage k f).dict = s.dict := rfl
@[simp] theorem modPage_tenants (s : State) (k : Nat) (f : Option Page → Option Page) : (s.modPage k f).tenants = s.tenants := rfl
@[simp] theorem modPage_trust (s : State) (k : Nat) (f : Option Page → Option Page) : (s.modPage k f).trust = s.trust := rfl
@[simp] theorem modPage_power (s : State) (k : Nat) (f : Option Page → Option Page) : (s.modPage k f).power = s.power := rfl
@[simp] theorem modPage_faults (s : State) (k : Nat) (f : Option Page → Option Page) : (s.modPage k f).faults = s.faults := rfl
@[simp] theorem modPage_mirror (s : State) (k : Nat) (f : Option Page → Option Page) : (s.modPage k f).mirror = s.mirror := rfl
@[simp] theorem modPage_pins (s : State) (k : Nat) (f : Option Page → Option Page) : (s.modPage k f).pins = s.pins := rfl
@[simp] theorem modPage_clk (s : State) (k : Nat) (f : Option Page → Option Page) : (s.modPage k f).clk = s.clk := rfl
@[simp] theorem modPage_held (s : State) (k : Nat) (f : Option Page → Option Page) : (s.modPage k f).held = s.held := rfl
@[simp] theorem modPage_pending (s : State) (k : Nat) (f : Option Page → Option Page) : (s.modPage k f).pending = s.pending := rfl
@[simp] theorem stagingOf_modStagingOf_ne (s : State) (k j : Nat) (f : List Staged → List Staged) (h : j ≠ k) : (s.modStagingOf k f).stagingOf j = s.stagingOf j :=
  mget_mset_ne h _ _
@[simp] theorem stagingOf_modStagingOf_self (s : State) (k : Nat) (f : List Staged → List Staged) : (s.modStagingOf k f).stagingOf k = f (s.stagingOf k) :=
  mget_mset_self _ _ _
@[simp] theorem modStagingOf_ident (s : State) (k : Nat) (f : List Staged → List Staged) : (s.modStagingOf k f).ident = s.ident := rfl
@[simp] theorem modStagingOf_vault (s : State) (k : Nat) (f : List Staged → List Staged) : (s.modStagingOf k f).vault = s.vault := rfl
@[simp] theorem modStagingOf_fabric (s : State) (k : Nat) (f : List Staged → List Staged) : (s.modStagingOf k f).fabric = s.fabric := rfl
@[simp] theorem modStagingOf_vec (s : State) (k : Nat) (f : List Staged → List Staged) : (s.modStagingOf k f).vec = s.vec := rfl
@[simp] theorem modStagingOf_mem (s : State) (k : Nat) (f : List Staged → List Staged) : (s.modStagingOf k f).mem = s.mem := rfl
@[simp] theorem modStagingOf_exp (s : State) (k : Nat) (f : List Staged → List Staged) : (s.modStagingOf k f).exp = s.exp := rfl
@[simp] theorem modStagingOf_ops (s : State) (k : Nat) (f : List Staged → List Staged) : (s.modStagingOf k f).ops = s.ops := rfl
@[simp] theorem modStagingOf_tiers (s : State) (k : Nat) (f : List Staged → List Staged) : (s.modStagingOf k f).tiers = s.tiers := rfl
@[simp] theorem modStagingOf_streams (s : State) (k : Nat) (f : List Staged → List Staged) : (s.modStagingOf k f).streams = s.streams := rfl
@[simp] theorem modStagingOf_dram (s : State) (k : Nat) (f : List Staged → List Staged) : (s.modStagingOf k f).dram = s.dram := rfl
@[simp] theorem modStagingOf_models (s : State) (k : Nat) (f : List Staged → List Staged) : (s.modStagingOf k f).models = s.models := rfl
@[simp] theorem modStagingOf_svc (s : State) (k : Nat) (f : List Staged → List Staged) : (s.modStagingOf k f).svc = s.svc := rfl
@[simp] theorem modStagingOf_ctl (s : State) (k : Nat) (f : List Staged → List Staged) : (s.modStagingOf k f).ctl = s.ctl := rfl
@[simp] theorem modStagingOf_ports (s : State) (k : Nat) (f : List Staged → List Staged) : (s.modStagingOf k f).ports = s.ports := rfl
@[simp] theorem modStagingOf_dict (s : State) (k : Nat) (f : List Staged → List Staged) : (s.modStagingOf k f).dict = s.dict := rfl
@[simp] theorem modStagingOf_tenants (s : State) (k : Nat) (f : List Staged → List Staged) : (s.modStagingOf k f).tenants = s.tenants := rfl
@[simp] theorem modStagingOf_trust (s : State) (k : Nat) (f : List Staged → List Staged) : (s.modStagingOf k f).trust = s.trust := rfl
@[simp] theorem modStagingOf_power (s : State) (k : Nat) (f : List Staged → List Staged) : (s.modStagingOf k f).power = s.power := rfl
@[simp] theorem modStagingOf_faults (s : State) (k : Nat) (f : List Staged → List Staged) : (s.modStagingOf k f).faults = s.faults := rfl
@[simp] theorem modStagingOf_mirror (s : State) (k : Nat) (f : List Staged → List Staged) : (s.modStagingOf k f).mirror = s.mirror := rfl
@[simp] theorem modStagingOf_pins (s : State) (k : Nat) (f : List Staged → List Staged) : (s.modStagingOf k f).pins = s.pins := rfl
@[simp] theorem modStagingOf_clk (s : State) (k : Nat) (f : List Staged → List Staged) : (s.modStagingOf k f).clk = s.clk := rfl
@[simp] theorem modStagingOf_held (s : State) (k : Nat) (f : List Staged → List Staged) : (s.modStagingOf k f).held = s.held := rfl
@[simp] theorem modStagingOf_pending (s : State) (k : Nat) (f : List Staged → List Staged) : (s.modStagingOf k f).pending = s.pending := rfl
@[simp] theorem table_modTable_ne (s : State) (k j : Nat) (f : Option ExpTable → Option ExpTable) (h : j ≠ k) : (s.modTable k f).table j = s.table j :=
  mget_mset_ne h _ _
@[simp] theorem table_modTable_self (s : State) (k : Nat) (f : Option ExpTable → Option ExpTable) : (s.modTable k f).table k = f (s.table k) :=
  mget_mset_self _ _ _
@[simp] theorem modTable_ident (s : State) (k : Nat) (f : Option ExpTable → Option ExpTable) : (s.modTable k f).ident = s.ident := rfl
@[simp] theorem modTable_vault (s : State) (k : Nat) (f : Option ExpTable → Option ExpTable) : (s.modTable k f).vault = s.vault := rfl
@[simp] theorem modTable_fabric (s : State) (k : Nat) (f : Option ExpTable → Option ExpTable) : (s.modTable k f).fabric = s.fabric := rfl
@[simp] theorem modTable_vec (s : State) (k : Nat) (f : Option ExpTable → Option ExpTable) : (s.modTable k f).vec = s.vec := rfl
@[simp] theorem modTable_mem (s : State) (k : Nat) (f : Option ExpTable → Option ExpTable) : (s.modTable k f).mem = s.mem := rfl
@[simp] theorem modTable_kv (s : State) (k : Nat) (f : Option ExpTable → Option ExpTable) : (s.modTable k f).kv = s.kv := rfl
@[simp] theorem modTable_ops (s : State) (k : Nat) (f : Option ExpTable → Option ExpTable) : (s.modTable k f).ops = s.ops := rfl
@[simp] theorem modTable_tiers (s : State) (k : Nat) (f : Option ExpTable → Option ExpTable) : (s.modTable k f).tiers = s.tiers := rfl
@[simp] theorem modTable_streams (s : State) (k : Nat) (f : Option ExpTable → Option ExpTable) : (s.modTable k f).streams = s.streams := rfl
@[simp] theorem modTable_dram (s : State) (k : Nat) (f : Option ExpTable → Option ExpTable) : (s.modTable k f).dram = s.dram := rfl
@[simp] theorem modTable_models (s : State) (k : Nat) (f : Option ExpTable → Option ExpTable) : (s.modTable k f).models = s.models := rfl
@[simp] theorem modTable_svc (s : State) (k : Nat) (f : Option ExpTable → Option ExpTable) : (s.modTable k f).svc = s.svc := rfl
@[simp] theorem modTable_ctl (s : State) (k : Nat) (f : Option ExpTable → Option ExpTable) : (s.modTable k f).ctl = s.ctl := rfl
@[simp] theorem modTable_ports (s : State) (k : Nat) (f : Option ExpTable → Option ExpTable) : (s.modTable k f).ports = s.ports := rfl
@[simp] theorem modTable_dict (s : State) (k : Nat) (f : Option ExpTable → Option ExpTable) : (s.modTable k f).dict = s.dict := rfl
@[simp] theorem modTable_tenants (s : State) (k : Nat) (f : Option ExpTable → Option ExpTable) : (s.modTable k f).tenants = s.tenants := rfl
@[simp] theorem modTable_trust (s : State) (k : Nat) (f : Option ExpTable → Option ExpTable) : (s.modTable k f).trust = s.trust := rfl
@[simp] theorem modTable_power (s : State) (k : Nat) (f : Option ExpTable → Option ExpTable) : (s.modTable k f).power = s.power := rfl
@[simp] theorem modTable_faults (s : State) (k : Nat) (f : Option ExpTable → Option ExpTable) : (s.modTable k f).faults = s.faults := rfl
@[simp] theorem modTable_mirror (s : State) (k : Nat) (f : Option ExpTable → Option ExpTable) : (s.modTable k f).mirror = s.mirror := rfl
@[simp] theorem modTable_pins (s : State) (k : Nat) (f : Option ExpTable → Option ExpTable) : (s.modTable k f).pins = s.pins := rfl
@[simp] theorem modTable_clk (s : State) (k : Nat) (f : Option ExpTable → Option ExpTable) : (s.modTable k f).clk = s.clk := rfl
@[simp] theorem modTable_held (s : State) (k : Nat) (f : Option ExpTable → Option ExpTable) : (s.modTable k f).held = s.held := rfl
@[simp] theorem modTable_pending (s : State) (k : Nat) (f : Option ExpTable → Option ExpTable) : (s.modTable k f).pending = s.pending := rfl
@[simp] theorem act_modAct_ne (s : State) (k j : Nat) (f : ActTensor → ActTensor) (h : j ≠ k) : (s.modAct k f).act j = s.act j :=
  mget_mset_ne h _ _
@[simp] theorem act_modAct_self (s : State) (k : Nat) (f : ActTensor → ActTensor) : (s.modAct k f).act k = f (s.act k) :=
  mget_mset_self _ _ _
@[simp] theorem modAct_ident (s : State) (k : Nat) (f : ActTensor → ActTensor) : (s.modAct k f).ident = s.ident := rfl
@[simp] theorem modAct_vault (s : State) (k : Nat) (f : ActTensor → ActTensor) : (s.modAct k f).vault = s.vault := rfl
@[simp] theorem modAct_fabric (s : State) (k : Nat) (f : ActTensor → ActTensor) : (s.modAct k f).fabric = s.fabric := rfl
@[simp] theorem modAct_vec (s : State) (k : Nat) (f : ActTensor → ActTensor) : (s.modAct k f).vec = s.vec := rfl
@[simp] theorem modAct_mem (s : State) (k : Nat) (f : ActTensor → ActTensor) : (s.modAct k f).mem = s.mem := rfl
@[simp] theorem modAct_kv (s : State) (k : Nat) (f : ActTensor → ActTensor) : (s.modAct k f).kv = s.kv := rfl
@[simp] theorem modAct_ops (s : State) (k : Nat) (f : ActTensor → ActTensor) : (s.modAct k f).ops = s.ops := rfl
@[simp] theorem modAct_tiers (s : State) (k : Nat) (f : ActTensor → ActTensor) : (s.modAct k f).tiers = s.tiers := rfl
@[simp] theorem modAct_streams (s : State) (k : Nat) (f : ActTensor → ActTensor) : (s.modAct k f).streams = s.streams := rfl
@[simp] theorem modAct_dram (s : State) (k : Nat) (f : ActTensor → ActTensor) : (s.modAct k f).dram = s.dram := rfl
@[simp] theorem modAct_models (s : State) (k : Nat) (f : ActTensor → ActTensor) : (s.modAct k f).models = s.models := rfl
@[simp] theorem modAct_svc (s : State) (k : Nat) (f : ActTensor → ActTensor) : (s.modAct k f).svc = s.svc := rfl
@[simp] theorem modAct_ctl (s : State) (k : Nat) (f : ActTensor → ActTensor) : (s.modAct k f).ctl = s.ctl := rfl
@[simp] theorem modAct_ports (s : State) (k : Nat) (f : ActTensor → ActTensor) : (s.modAct k f).ports = s.ports := rfl
@[simp] theorem modAct_dict (s : State) (k : Nat) (f : ActTensor → ActTensor) : (s.modAct k f).dict = s.dict := rfl
@[simp] theorem modAct_tenants (s : State) (k : Nat) (f : ActTensor → ActTensor) : (s.modAct k f).tenants = s.tenants := rfl
@[simp] theorem modAct_trust (s : State) (k : Nat) (f : ActTensor → ActTensor) : (s.modAct k f).trust = s.trust := rfl
@[simp] theorem modAct_power (s : State) (k : Nat) (f : ActTensor → ActTensor) : (s.modAct k f).power = s.power := rfl
@[simp] theorem modAct_faults (s : State) (k : Nat) (f : ActTensor → ActTensor) : (s.modAct k f).faults = s.faults := rfl
@[simp] theorem modAct_mirror (s : State) (k : Nat) (f : ActTensor → ActTensor) : (s.modAct k f).mirror = s.mirror := rfl
@[simp] theorem modAct_pins (s : State) (k : Nat) (f : ActTensor → ActTensor) : (s.modAct k f).pins = s.pins := rfl
@[simp] theorem modAct_clk (s : State) (k : Nat) (f : ActTensor → ActTensor) : (s.modAct k f).clk = s.clk := rfl
@[simp] theorem modAct_held (s : State) (k : Nat) (f : ActTensor → ActTensor) : (s.modAct k f).held = s.held := rfl
@[simp] theorem modAct_pending (s : State) (k : Nat) (f : ActTensor → ActTensor) : (s.modAct k f).pending = s.pending := rfl
@[simp] theorem op_modOp_ne (s : State) (k j : Nat) (f : Option Op → Option Op) (h : j ≠ k) : (s.modOp k f).op j = s.op j :=
  mget_mset_ne h _ _
@[simp] theorem op_modOp_self (s : State) (k : Nat) (f : Option Op → Option Op) : (s.modOp k f).op k = f (s.op k) :=
  mget_mset_self _ _ _
@[simp] theorem modOp_ident (s : State) (k : Nat) (f : Option Op → Option Op) : (s.modOp k f).ident = s.ident := rfl
@[simp] theorem modOp_vault (s : State) (k : Nat) (f : Option Op → Option Op) : (s.modOp k f).vault = s.vault := rfl
@[simp] theorem modOp_fabric (s : State) (k : Nat) (f : Option Op → Option Op) : (s.modOp k f).fabric = s.fabric := rfl
@[simp] theorem modOp_vec (s : State) (k : Nat) (f : Option Op → Option Op) : (s.modOp k f).vec = s.vec := rfl
@[simp] theorem modOp_mem (s : State) (k : Nat) (f : Option Op → Option Op) : (s.modOp k f).mem = s.mem := rfl
@[simp] theorem modOp_kv (s : State) (k : Nat) (f : Option Op → Option Op) : (s.modOp k f).kv = s.kv := rfl
@[simp] theorem modOp_exp (s : State) (k : Nat) (f : Option Op → Option Op) : (s.modOp k f).exp = s.exp := rfl
@[simp] theorem modOp_tiers (s : State) (k : Nat) (f : Option Op → Option Op) : (s.modOp k f).tiers = s.tiers := rfl
@[simp] theorem modOp_streams (s : State) (k : Nat) (f : Option Op → Option Op) : (s.modOp k f).streams = s.streams := rfl
@[simp] theorem modOp_dram (s : State) (k : Nat) (f : Option Op → Option Op) : (s.modOp k f).dram = s.dram := rfl
@[simp] theorem modOp_models (s : State) (k : Nat) (f : Option Op → Option Op) : (s.modOp k f).models = s.models := rfl
@[simp] theorem modOp_svc (s : State) (k : Nat) (f : Option Op → Option Op) : (s.modOp k f).svc = s.svc := rfl
@[simp] theorem modOp_ctl (s : State) (k : Nat) (f : Option Op → Option Op) : (s.modOp k f).ctl = s.ctl := rfl
@[simp] theorem modOp_ports (s : State) (k : Nat) (f : Option Op → Option Op) : (s.modOp k f).ports = s.ports := rfl
@[simp] theorem modOp_dict (s : State) (k : Nat) (f : Option Op → Option Op) : (s.modOp k f).dict = s.dict := rfl
@[simp] theorem modOp_tenants (s : State) (k : Nat) (f : Option Op → Option Op) : (s.modOp k f).tenants = s.tenants := rfl
@[simp] theorem modOp_trust (s : State) (k : Nat) (f : Option Op → Option Op) : (s.modOp k f).trust = s.trust := rfl
@[simp] theorem modOp_power (s : State) (k : Nat) (f : Option Op → Option Op) : (s.modOp k f).power = s.power := rfl
@[simp] theorem modOp_faults (s : State) (k : Nat) (f : Option Op → Option Op) : (s.modOp k f).faults = s.faults := rfl
@[simp] theorem modOp_mirror (s : State) (k : Nat) (f : Option Op → Option Op) : (s.modOp k f).mirror = s.mirror := rfl
@[simp] theorem modOp_pins (s : State) (k : Nat) (f : Option Op → Option Op) : (s.modOp k f).pins = s.pins := rfl
@[simp] theorem modOp_clk (s : State) (k : Nat) (f : Option Op → Option Op) : (s.modOp k f).clk = s.clk := rfl
@[simp] theorem modOp_held (s : State) (k : Nat) (f : Option Op → Option Op) : (s.modOp k f).held = s.held := rfl
@[simp] theorem modOp_pending (s : State) (k : Nat) (f : Option Op → Option Op) : (s.modOp k f).pending = s.pending := rfl
@[simp] theorem obj_modObj_ne (s : State) (k j : Nat) (f : SyncObj → SyncObj) (h : j ≠ k) : (s.modObj k f).obj j = s.obj j :=
  mget_mset_ne h _ _
@[simp] theorem obj_modObj_self (s : State) (k : Nat) (f : SyncObj → SyncObj) : (s.modObj k f).obj k = f (s.obj k) :=
  mget_mset_self _ _ _
@[simp] theorem modObj_ident (s : State) (k : Nat) (f : SyncObj → SyncObj) : (s.modObj k f).ident = s.ident := rfl
@[simp] theorem modObj_vault (s : State) (k : Nat) (f : SyncObj → SyncObj) : (s.modObj k f).vault = s.vault := rfl
@[simp] theorem modObj_fabric (s : State) (k : Nat) (f : SyncObj → SyncObj) : (s.modObj k f).fabric = s.fabric := rfl
@[simp] theorem modObj_vec (s : State) (k : Nat) (f : SyncObj → SyncObj) : (s.modObj k f).vec = s.vec := rfl
@[simp] theorem modObj_mem (s : State) (k : Nat) (f : SyncObj → SyncObj) : (s.modObj k f).mem = s.mem := rfl
@[simp] theorem modObj_kv (s : State) (k : Nat) (f : SyncObj → SyncObj) : (s.modObj k f).kv = s.kv := rfl
@[simp] theorem modObj_exp (s : State) (k : Nat) (f : SyncObj → SyncObj) : (s.modObj k f).exp = s.exp := rfl
@[simp] theorem modObj_tiers (s : State) (k : Nat) (f : SyncObj → SyncObj) : (s.modObj k f).tiers = s.tiers := rfl
@[simp] theorem modObj_streams (s : State) (k : Nat) (f : SyncObj → SyncObj) : (s.modObj k f).streams = s.streams := rfl
@[simp] theorem modObj_dram (s : State) (k : Nat) (f : SyncObj → SyncObj) : (s.modObj k f).dram = s.dram := rfl
@[simp] theorem modObj_models (s : State) (k : Nat) (f : SyncObj → SyncObj) : (s.modObj k f).models = s.models := rfl
@[simp] theorem modObj_svc (s : State) (k : Nat) (f : SyncObj → SyncObj) : (s.modObj k f).svc = s.svc := rfl
@[simp] theorem modObj_ctl (s : State) (k : Nat) (f : SyncObj → SyncObj) : (s.modObj k f).ctl = s.ctl := rfl
@[simp] theorem modObj_ports (s : State) (k : Nat) (f : SyncObj → SyncObj) : (s.modObj k f).ports = s.ports := rfl
@[simp] theorem modObj_dict (s : State) (k : Nat) (f : SyncObj → SyncObj) : (s.modObj k f).dict = s.dict := rfl
@[simp] theorem modObj_tenants (s : State) (k : Nat) (f : SyncObj → SyncObj) : (s.modObj k f).tenants = s.tenants := rfl
@[simp] theorem modObj_trust (s : State) (k : Nat) (f : SyncObj → SyncObj) : (s.modObj k f).trust = s.trust := rfl
@[simp] theorem modObj_power (s : State) (k : Nat) (f : SyncObj → SyncObj) : (s.modObj k f).power = s.power := rfl
@[simp] theorem modObj_faults (s : State) (k : Nat) (f : SyncObj → SyncObj) : (s.modObj k f).faults = s.faults := rfl
@[simp] theorem modObj_mirror (s : State) (k : Nat) (f : SyncObj → SyncObj) : (s.modObj k f).mirror = s.mirror := rfl
@[simp] theorem modObj_pins (s : State) (k : Nat) (f : SyncObj → SyncObj) : (s.modObj k f).pins = s.pins := rfl
@[simp] theorem modObj_clk (s : State) (k : Nat) (f : SyncObj → SyncObj) : (s.modObj k f).clk = s.clk := rfl
@[simp] theorem modObj_held (s : State) (k : Nat) (f : SyncObj → SyncObj) : (s.modObj k f).held = s.held := rfl
@[simp] theorem modObj_pending (s : State) (k : Nat) (f : SyncObj → SyncObj) : (s.modObj k f).pending = s.pending := rfl
@[simp] theorem run_modRun_ne (s : State) (k j : Nat) (f : Option StepRun → Option StepRun) (h : j ≠ k) : (s.modRun k f).run j = s.run j :=
  mget_mset_ne h _ _
@[simp] theorem run_modRun_self (s : State) (k : Nat) (f : Option StepRun → Option StepRun) : (s.modRun k f).run k = f (s.run k) :=
  mget_mset_self _ _ _
@[simp] theorem modRun_ident (s : State) (k : Nat) (f : Option StepRun → Option StepRun) : (s.modRun k f).ident = s.ident := rfl
@[simp] theorem modRun_vault (s : State) (k : Nat) (f : Option StepRun → Option StepRun) : (s.modRun k f).vault = s.vault := rfl
@[simp] theorem modRun_fabric (s : State) (k : Nat) (f : Option StepRun → Option StepRun) : (s.modRun k f).fabric = s.fabric := rfl
@[simp] theorem modRun_vec (s : State) (k : Nat) (f : Option StepRun → Option StepRun) : (s.modRun k f).vec = s.vec := rfl
@[simp] theorem modRun_mem (s : State) (k : Nat) (f : Option StepRun → Option StepRun) : (s.modRun k f).mem = s.mem := rfl
@[simp] theorem modRun_kv (s : State) (k : Nat) (f : Option StepRun → Option StepRun) : (s.modRun k f).kv = s.kv := rfl
@[simp] theorem modRun_exp (s : State) (k : Nat) (f : Option StepRun → Option StepRun) : (s.modRun k f).exp = s.exp := rfl
@[simp] theorem modRun_tiers (s : State) (k : Nat) (f : Option StepRun → Option StepRun) : (s.modRun k f).tiers = s.tiers := rfl
@[simp] theorem modRun_streams (s : State) (k : Nat) (f : Option StepRun → Option StepRun) : (s.modRun k f).streams = s.streams := rfl
@[simp] theorem modRun_dram (s : State) (k : Nat) (f : Option StepRun → Option StepRun) : (s.modRun k f).dram = s.dram := rfl
@[simp] theorem modRun_models (s : State) (k : Nat) (f : Option StepRun → Option StepRun) : (s.modRun k f).models = s.models := rfl
@[simp] theorem modRun_svc (s : State) (k : Nat) (f : Option StepRun → Option StepRun) : (s.modRun k f).svc = s.svc := rfl
@[simp] theorem modRun_ctl (s : State) (k : Nat) (f : Option StepRun → Option StepRun) : (s.modRun k f).ctl = s.ctl := rfl
@[simp] theorem modRun_ports (s : State) (k : Nat) (f : Option StepRun → Option StepRun) : (s.modRun k f).ports = s.ports := rfl
@[simp] theorem modRun_dict (s : State) (k : Nat) (f : Option StepRun → Option StepRun) : (s.modRun k f).dict = s.dict := rfl
@[simp] theorem modRun_tenants (s : State) (k : Nat) (f : Option StepRun → Option StepRun) : (s.modRun k f).tenants = s.tenants := rfl
@[simp] theorem modRun_trust (s : State) (k : Nat) (f : Option StepRun → Option StepRun) : (s.modRun k f).trust = s.trust := rfl
@[simp] theorem modRun_power (s : State) (k : Nat) (f : Option StepRun → Option StepRun) : (s.modRun k f).power = s.power := rfl
@[simp] theorem modRun_faults (s : State) (k : Nat) (f : Option StepRun → Option StepRun) : (s.modRun k f).faults = s.faults := rfl
@[simp] theorem modRun_mirror (s : State) (k : Nat) (f : Option StepRun → Option StepRun) : (s.modRun k f).mirror = s.mirror := rfl
@[simp] theorem modRun_pins (s : State) (k : Nat) (f : Option StepRun → Option StepRun) : (s.modRun k f).pins = s.pins := rfl
@[simp] theorem modRun_clk (s : State) (k : Nat) (f : Option StepRun → Option StepRun) : (s.modRun k f).clk = s.clk := rfl
@[simp] theorem modRun_held (s : State) (k : Nat) (f : Option StepRun → Option StepRun) : (s.modRun k f).held = s.held := rfl
@[simp] theorem modRun_pending (s : State) (k : Nat) (f : Option StepRun → Option StepRun) : (s.modRun k f).pending = s.pending := rfl
@[simp] theorem credit_modCredit_ne (s : State) (k j : Nat) (f : Nat → Nat) (h : j ≠ k) : (s.modCredit k f).credit j = s.credit j :=
  mget_mset_ne h _ _
@[simp] theorem credit_modCredit_self (s : State) (k : Nat) (f : Nat → Nat) : (s.modCredit k f).credit k = f (s.credit k) :=
  mget_mset_self _ _ _
@[simp] theorem modCredit_ident (s : State) (k : Nat) (f : Nat → Nat) : (s.modCredit k f).ident = s.ident := rfl
@[simp] theorem modCredit_vault (s : State) (k : Nat) (f : Nat → Nat) : (s.modCredit k f).vault = s.vault := rfl
@[simp] theorem modCredit_fabric (s : State) (k : Nat) (f : Nat → Nat) : (s.modCredit k f).fabric = s.fabric := rfl
@[simp] theorem modCredit_vec (s : State) (k : Nat) (f : Nat → Nat) : (s.modCredit k f).vec = s.vec := rfl
@[simp] theorem modCredit_mem (s : State) (k : Nat) (f : Nat → Nat) : (s.modCredit k f).mem = s.mem := rfl
@[simp] theorem modCredit_kv (s : State) (k : Nat) (f : Nat → Nat) : (s.modCredit k f).kv = s.kv := rfl
@[simp] theorem modCredit_exp (s : State) (k : Nat) (f : Nat → Nat) : (s.modCredit k f).exp = s.exp := rfl
@[simp] theorem modCredit_tiers (s : State) (k : Nat) (f : Nat → Nat) : (s.modCredit k f).tiers = s.tiers := rfl
@[simp] theorem modCredit_streams (s : State) (k : Nat) (f : Nat → Nat) : (s.modCredit k f).streams = s.streams := rfl
@[simp] theorem modCredit_dram (s : State) (k : Nat) (f : Nat → Nat) : (s.modCredit k f).dram = s.dram := rfl
@[simp] theorem modCredit_models (s : State) (k : Nat) (f : Nat → Nat) : (s.modCredit k f).models = s.models := rfl
@[simp] theorem modCredit_svc (s : State) (k : Nat) (f : Nat → Nat) : (s.modCredit k f).svc = s.svc := rfl
@[simp] theorem modCredit_ctl (s : State) (k : Nat) (f : Nat → Nat) : (s.modCredit k f).ctl = s.ctl := rfl
@[simp] theorem modCredit_ports (s : State) (k : Nat) (f : Nat → Nat) : (s.modCredit k f).ports = s.ports := rfl
@[simp] theorem modCredit_dict (s : State) (k : Nat) (f : Nat → Nat) : (s.modCredit k f).dict = s.dict := rfl
@[simp] theorem modCredit_tenants (s : State) (k : Nat) (f : Nat → Nat) : (s.modCredit k f).tenants = s.tenants := rfl
@[simp] theorem modCredit_trust (s : State) (k : Nat) (f : Nat → Nat) : (s.modCredit k f).trust = s.trust := rfl
@[simp] theorem modCredit_power (s : State) (k : Nat) (f : Nat → Nat) : (s.modCredit k f).power = s.power := rfl
@[simp] theorem modCredit_faults (s : State) (k : Nat) (f : Nat → Nat) : (s.modCredit k f).faults = s.faults := rfl
@[simp] theorem modCredit_mirror (s : State) (k : Nat) (f : Nat → Nat) : (s.modCredit k f).mirror = s.mirror := rfl
@[simp] theorem modCredit_pins (s : State) (k : Nat) (f : Nat → Nat) : (s.modCredit k f).pins = s.pins := rfl
@[simp] theorem modCredit_clk (s : State) (k : Nat) (f : Nat → Nat) : (s.modCredit k f).clk = s.clk := rfl
@[simp] theorem modCredit_held (s : State) (k : Nat) (f : Nat → Nat) : (s.modCredit k f).held = s.held := rfl
@[simp] theorem modCredit_pending (s : State) (k : Nat) (f : Nat → Nat) : (s.modCredit k f).pending = s.pending := rfl
@[simp] theorem line_modLine_ne (s : State) (k j : Nat) (f : Line → Line) (h : j ≠ k) : (s.modLine k f).line j = s.line j :=
  mget_mset_ne h _ _
@[simp] theorem line_modLine_self (s : State) (k : Nat) (f : Line → Line) : (s.modLine k f).line k = f (s.line k) :=
  mget_mset_self _ _ _
@[simp] theorem modLine_ident (s : State) (k : Nat) (f : Line → Line) : (s.modLine k f).ident = s.ident := rfl
@[simp] theorem modLine_vault (s : State) (k : Nat) (f : Line → Line) : (s.modLine k f).vault = s.vault := rfl
@[simp] theorem modLine_fabric (s : State) (k : Nat) (f : Line → Line) : (s.modLine k f).fabric = s.fabric := rfl
@[simp] theorem modLine_vec (s : State) (k : Nat) (f : Line → Line) : (s.modLine k f).vec = s.vec := rfl
@[simp] theorem modLine_mem (s : State) (k : Nat) (f : Line → Line) : (s.modLine k f).mem = s.mem := rfl
@[simp] theorem modLine_kv (s : State) (k : Nat) (f : Line → Line) : (s.modLine k f).kv = s.kv := rfl
@[simp] theorem modLine_exp (s : State) (k : Nat) (f : Line → Line) : (s.modLine k f).exp = s.exp := rfl
@[simp] theorem modLine_ops (s : State) (k : Nat) (f : Line → Line) : (s.modLine k f).ops = s.ops := rfl
@[simp] theorem modLine_streams (s : State) (k : Nat) (f : Line → Line) : (s.modLine k f).streams = s.streams := rfl
@[simp] theorem modLine_dram (s : State) (k : Nat) (f : Line → Line) : (s.modLine k f).dram = s.dram := rfl
@[simp] theorem modLine_models (s : State) (k : Nat) (f : Line → Line) : (s.modLine k f).models = s.models := rfl
@[simp] theorem modLine_svc (s : State) (k : Nat) (f : Line → Line) : (s.modLine k f).svc = s.svc := rfl
@[simp] theorem modLine_ctl (s : State) (k : Nat) (f : Line → Line) : (s.modLine k f).ctl = s.ctl := rfl
@[simp] theorem modLine_ports (s : State) (k : Nat) (f : Line → Line) : (s.modLine k f).ports = s.ports := rfl
@[simp] theorem modLine_dict (s : State) (k : Nat) (f : Line → Line) : (s.modLine k f).dict = s.dict := rfl
@[simp] theorem modLine_tenants (s : State) (k : Nat) (f : Line → Line) : (s.modLine k f).tenants = s.tenants := rfl
@[simp] theorem modLine_trust (s : State) (k : Nat) (f : Line → Line) : (s.modLine k f).trust = s.trust := rfl
@[simp] theorem modLine_power (s : State) (k : Nat) (f : Line → Line) : (s.modLine k f).power = s.power := rfl
@[simp] theorem modLine_faults (s : State) (k : Nat) (f : Line → Line) : (s.modLine k f).faults = s.faults := rfl
@[simp] theorem modLine_mirror (s : State) (k : Nat) (f : Line → Line) : (s.modLine k f).mirror = s.mirror := rfl
@[simp] theorem modLine_pins (s : State) (k : Nat) (f : Line → Line) : (s.modLine k f).pins = s.pins := rfl
@[simp] theorem modLine_clk (s : State) (k : Nat) (f : Line → Line) : (s.modLine k f).clk = s.clk := rfl
@[simp] theorem modLine_held (s : State) (k : Nat) (f : Line → Line) : (s.modLine k f).held = s.held := rfl
@[simp] theorem modLine_pending (s : State) (k : Nat) (f : Line → Line) : (s.modLine k f).pending = s.pending := rfl
@[simp] theorem wayOwner_modWayOwner_ne (s : State) (k j : Nat) (f : Nat → Nat) (h : j ≠ k) : (s.modWayOwner k f).wayOwner j = s.wayOwner j :=
  mget_mset_ne h _ _
@[simp] theorem wayOwner_modWayOwner_self (s : State) (k : Nat) (f : Nat → Nat) : (s.modWayOwner k f).wayOwner k = f (s.wayOwner k) :=
  mget_mset_self _ _ _
@[simp] theorem modWayOwner_ident (s : State) (k : Nat) (f : Nat → Nat) : (s.modWayOwner k f).ident = s.ident := rfl
@[simp] theorem modWayOwner_vault (s : State) (k : Nat) (f : Nat → Nat) : (s.modWayOwner k f).vault = s.vault := rfl
@[simp] theorem modWayOwner_fabric (s : State) (k : Nat) (f : Nat → Nat) : (s.modWayOwner k f).fabric = s.fabric := rfl
@[simp] theorem modWayOwner_vec (s : State) (k : Nat) (f : Nat → Nat) : (s.modWayOwner k f).vec = s.vec := rfl
@[simp] theorem modWayOwner_mem (s : State) (k : Nat) (f : Nat → Nat) : (s.modWayOwner k f).mem = s.mem := rfl
@[simp] theorem modWayOwner_kv (s : State) (k : Nat) (f : Nat → Nat) : (s.modWayOwner k f).kv = s.kv := rfl
@[simp] theorem modWayOwner_exp (s : State) (k : Nat) (f : Nat → Nat) : (s.modWayOwner k f).exp = s.exp := rfl
@[simp] theorem modWayOwner_ops (s : State) (k : Nat) (f : Nat → Nat) : (s.modWayOwner k f).ops = s.ops := rfl
@[simp] theorem modWayOwner_streams (s : State) (k : Nat) (f : Nat → Nat) : (s.modWayOwner k f).streams = s.streams := rfl
@[simp] theorem modWayOwner_dram (s : State) (k : Nat) (f : Nat → Nat) : (s.modWayOwner k f).dram = s.dram := rfl
@[simp] theorem modWayOwner_models (s : State) (k : Nat) (f : Nat → Nat) : (s.modWayOwner k f).models = s.models := rfl
@[simp] theorem modWayOwner_svc (s : State) (k : Nat) (f : Nat → Nat) : (s.modWayOwner k f).svc = s.svc := rfl
@[simp] theorem modWayOwner_ctl (s : State) (k : Nat) (f : Nat → Nat) : (s.modWayOwner k f).ctl = s.ctl := rfl
@[simp] theorem modWayOwner_ports (s : State) (k : Nat) (f : Nat → Nat) : (s.modWayOwner k f).ports = s.ports := rfl
@[simp] theorem modWayOwner_dict (s : State) (k : Nat) (f : Nat → Nat) : (s.modWayOwner k f).dict = s.dict := rfl
@[simp] theorem modWayOwner_tenants (s : State) (k : Nat) (f : Nat → Nat) : (s.modWayOwner k f).tenants = s.tenants := rfl
@[simp] theorem modWayOwner_trust (s : State) (k : Nat) (f : Nat → Nat) : (s.modWayOwner k f).trust = s.trust := rfl
@[simp] theorem modWayOwner_power (s : State) (k : Nat) (f : Nat → Nat) : (s.modWayOwner k f).power = s.power := rfl
@[simp] theorem modWayOwner_faults (s : State) (k : Nat) (f : Nat → Nat) : (s.modWayOwner k f).faults = s.faults := rfl
@[simp] theorem modWayOwner_mirror (s : State) (k : Nat) (f : Nat → Nat) : (s.modWayOwner k f).mirror = s.mirror := rfl
@[simp] theorem modWayOwner_pins (s : State) (k : Nat) (f : Nat → Nat) : (s.modWayOwner k f).pins = s.pins := rfl
@[simp] theorem modWayOwner_clk (s : State) (k : Nat) (f : Nat → Nat) : (s.modWayOwner k f).clk = s.clk := rfl
@[simp] theorem modWayOwner_held (s : State) (k : Nat) (f : Nat → Nat) : (s.modWayOwner k f).held = s.held := rfl
@[simp] theorem modWayOwner_pending (s : State) (k : Nat) (f : Nat → Nat) : (s.modWayOwner k f).pending = s.pending := rfl
@[simp] theorem wayNext_modWayNext_ne (s : State) (k j : Nat) (f : Nat → Nat) (h : j ≠ k) : (s.modWayNext k f).wayNext j = s.wayNext j :=
  mget_mset_ne h _ _
@[simp] theorem wayNext_modWayNext_self (s : State) (k : Nat) (f : Nat → Nat) : (s.modWayNext k f).wayNext k = f (s.wayNext k) :=
  mget_mset_self _ _ _
@[simp] theorem modWayNext_ident (s : State) (k : Nat) (f : Nat → Nat) : (s.modWayNext k f).ident = s.ident := rfl
@[simp] theorem modWayNext_vault (s : State) (k : Nat) (f : Nat → Nat) : (s.modWayNext k f).vault = s.vault := rfl
@[simp] theorem modWayNext_fabric (s : State) (k : Nat) (f : Nat → Nat) : (s.modWayNext k f).fabric = s.fabric := rfl
@[simp] theorem modWayNext_vec (s : State) (k : Nat) (f : Nat → Nat) : (s.modWayNext k f).vec = s.vec := rfl
@[simp] theorem modWayNext_mem (s : State) (k : Nat) (f : Nat → Nat) : (s.modWayNext k f).mem = s.mem := rfl
@[simp] theorem modWayNext_kv (s : State) (k : Nat) (f : Nat → Nat) : (s.modWayNext k f).kv = s.kv := rfl
@[simp] theorem modWayNext_exp (s : State) (k : Nat) (f : Nat → Nat) : (s.modWayNext k f).exp = s.exp := rfl
@[simp] theorem modWayNext_ops (s : State) (k : Nat) (f : Nat → Nat) : (s.modWayNext k f).ops = s.ops := rfl
@[simp] theorem modWayNext_streams (s : State) (k : Nat) (f : Nat → Nat) : (s.modWayNext k f).streams = s.streams := rfl
@[simp] theorem modWayNext_dram (s : State) (k : Nat) (f : Nat → Nat) : (s.modWayNext k f).dram = s.dram := rfl
@[simp] theorem modWayNext_models (s : State) (k : Nat) (f : Nat → Nat) : (s.modWayNext k f).models = s.models := rfl
@[simp] theorem modWayNext_svc (s : State) (k : Nat) (f : Nat → Nat) : (s.modWayNext k f).svc = s.svc := rfl
@[simp] theorem modWayNext_ctl (s : State) (k : Nat) (f : Nat → Nat) : (s.modWayNext k f).ctl = s.ctl := rfl
@[simp] theorem modWayNext_ports (s : State) (k : Nat) (f : Nat → Nat) : (s.modWayNext k f).ports = s.ports := rfl
@[simp] theorem modWayNext_dict (s : State) (k : Nat) (f : Nat → Nat) : (s.modWayNext k f).dict = s.dict := rfl
@[simp] theorem modWayNext_tenants (s : State) (k : Nat) (f : Nat → Nat) : (s.modWayNext k f).tenants = s.tenants := rfl
@[simp] theorem modWayNext_trust (s : State) (k : Nat) (f : Nat → Nat) : (s.modWayNext k f).trust = s.trust := rfl
@[simp] theorem modWayNext_power (s : State) (k : Nat) (f : Nat → Nat) : (s.modWayNext k f).power = s.power := rfl
@[simp] theorem modWayNext_faults (s : State) (k : Nat) (f : Nat → Nat) : (s.modWayNext k f).faults = s.faults := rfl
@[simp] theorem modWayNext_mirror (s : State) (k : Nat) (f : Nat → Nat) : (s.modWayNext k f).mirror = s.mirror := rfl
@[simp] theorem modWayNext_pins (s : State) (k : Nat) (f : Nat → Nat) : (s.modWayNext k f).pins = s.pins := rfl
@[simp] theorem modWayNext_clk (s : State) (k : Nat) (f : Nat → Nat) : (s.modWayNext k f).clk = s.clk := rfl
@[simp] theorem modWayNext_held (s : State) (k : Nat) (f : Nat → Nat) : (s.modWayNext k f).held = s.held := rfl
@[simp] theorem modWayNext_pending (s : State) (k : Nat) (f : Nat → Nat) : (s.modWayNext k f).pending = s.pending := rfl
@[simp] theorem popular_modPopular_ne (s : State) (k j : Nat) (f : Popular → Popular) (h : j ≠ k) : (s.modPopular k f).popular j = s.popular j :=
  mget_mset_ne h _ _
@[simp] theorem popular_modPopular_self (s : State) (k : Nat) (f : Popular → Popular) : (s.modPopular k f).popular k = f (s.popular k) :=
  mget_mset_self _ _ _
@[simp] theorem modPopular_ident (s : State) (k : Nat) (f : Popular → Popular) : (s.modPopular k f).ident = s.ident := rfl
@[simp] theorem modPopular_vault (s : State) (k : Nat) (f : Popular → Popular) : (s.modPopular k f).vault = s.vault := rfl
@[simp] theorem modPopular_fabric (s : State) (k : Nat) (f : Popular → Popular) : (s.modPopular k f).fabric = s.fabric := rfl
@[simp] theorem modPopular_vec (s : State) (k : Nat) (f : Popular → Popular) : (s.modPopular k f).vec = s.vec := rfl
@[simp] theorem modPopular_mem (s : State) (k : Nat) (f : Popular → Popular) : (s.modPopular k f).mem = s.mem := rfl
@[simp] theorem modPopular_kv (s : State) (k : Nat) (f : Popular → Popular) : (s.modPopular k f).kv = s.kv := rfl
@[simp] theorem modPopular_exp (s : State) (k : Nat) (f : Popular → Popular) : (s.modPopular k f).exp = s.exp := rfl
@[simp] theorem modPopular_ops (s : State) (k : Nat) (f : Popular → Popular) : (s.modPopular k f).ops = s.ops := rfl
@[simp] theorem modPopular_streams (s : State) (k : Nat) (f : Popular → Popular) : (s.modPopular k f).streams = s.streams := rfl
@[simp] theorem modPopular_dram (s : State) (k : Nat) (f : Popular → Popular) : (s.modPopular k f).dram = s.dram := rfl
@[simp] theorem modPopular_models (s : State) (k : Nat) (f : Popular → Popular) : (s.modPopular k f).models = s.models := rfl
@[simp] theorem modPopular_svc (s : State) (k : Nat) (f : Popular → Popular) : (s.modPopular k f).svc = s.svc := rfl
@[simp] theorem modPopular_ctl (s : State) (k : Nat) (f : Popular → Popular) : (s.modPopular k f).ctl = s.ctl := rfl
@[simp] theorem modPopular_ports (s : State) (k : Nat) (f : Popular → Popular) : (s.modPopular k f).ports = s.ports := rfl
@[simp] theorem modPopular_dict (s : State) (k : Nat) (f : Popular → Popular) : (s.modPopular k f).dict = s.dict := rfl
@[simp] theorem modPopular_tenants (s : State) (k : Nat) (f : Popular → Popular) : (s.modPopular k f).tenants = s.tenants := rfl
@[simp] theorem modPopular_trust (s : State) (k : Nat) (f : Popular → Popular) : (s.modPopular k f).trust = s.trust := rfl
@[simp] theorem modPopular_power (s : State) (k : Nat) (f : Popular → Popular) : (s.modPopular k f).power = s.power := rfl
@[simp] theorem modPopular_faults (s : State) (k : Nat) (f : Popular → Popular) : (s.modPopular k f).faults = s.faults := rfl
@[simp] theorem modPopular_mirror (s : State) (k : Nat) (f : Popular → Popular) : (s.modPopular k f).mirror = s.mirror := rfl
@[simp] theorem modPopular_pins (s : State) (k : Nat) (f : Popular → Popular) : (s.modPopular k f).pins = s.pins := rfl
@[simp] theorem modPopular_clk (s : State) (k : Nat) (f : Popular → Popular) : (s.modPopular k f).clk = s.clk := rfl
@[simp] theorem modPopular_held (s : State) (k : Nat) (f : Popular → Popular) : (s.modPopular k f).held = s.held := rfl
@[simp] theorem modPopular_pending (s : State) (k : Nat) (f : Popular → Popular) : (s.modPopular k f).pending = s.pending := rfl
@[simp] theorem nextDie_modNextDie_ne (s : State) (k j : Nat) (f : Nat → Nat) (h : j ≠ k) : (s.modNextDie k f).nextDie j = s.nextDie j :=
  mget_mset_ne h _ _
@[simp] theorem nextDie_modNextDie_self (s : State) (k : Nat) (f : Nat → Nat) : (s.modNextDie k f).nextDie k = f (s.nextDie k) :=
  mget_mset_self _ _ _
@[simp] theorem modNextDie_ident (s : State) (k : Nat) (f : Nat → Nat) : (s.modNextDie k f).ident = s.ident := rfl
@[simp] theorem modNextDie_vault (s : State) (k : Nat) (f : Nat → Nat) : (s.modNextDie k f).vault = s.vault := rfl
@[simp] theorem modNextDie_fabric (s : State) (k : Nat) (f : Nat → Nat) : (s.modNextDie k f).fabric = s.fabric := rfl
@[simp] theorem modNextDie_vec (s : State) (k : Nat) (f : Nat → Nat) : (s.modNextDie k f).vec = s.vec := rfl
@[simp] theorem modNextDie_mem (s : State) (k : Nat) (f : Nat → Nat) : (s.modNextDie k f).mem = s.mem := rfl
@[simp] theorem modNextDie_kv (s : State) (k : Nat) (f : Nat → Nat) : (s.modNextDie k f).kv = s.kv := rfl
@[simp] theorem modNextDie_exp (s : State) (k : Nat) (f : Nat → Nat) : (s.modNextDie k f).exp = s.exp := rfl
@[simp] theorem modNextDie_ops (s : State) (k : Nat) (f : Nat → Nat) : (s.modNextDie k f).ops = s.ops := rfl
@[simp] theorem modNextDie_streams (s : State) (k : Nat) (f : Nat → Nat) : (s.modNextDie k f).streams = s.streams := rfl
@[simp] theorem modNextDie_dram (s : State) (k : Nat) (f : Nat → Nat) : (s.modNextDie k f).dram = s.dram := rfl
@[simp] theorem modNextDie_models (s : State) (k : Nat) (f : Nat → Nat) : (s.modNextDie k f).models = s.models := rfl
@[simp] theorem modNextDie_svc (s : State) (k : Nat) (f : Nat → Nat) : (s.modNextDie k f).svc = s.svc := rfl
@[simp] theorem modNextDie_ctl (s : State) (k : Nat) (f : Nat → Nat) : (s.modNextDie k f).ctl = s.ctl := rfl
@[simp] theorem modNextDie_ports (s : State) (k : Nat) (f : Nat → Nat) : (s.modNextDie k f).ports = s.ports := rfl
@[simp] theorem modNextDie_dict (s : State) (k : Nat) (f : Nat → Nat) : (s.modNextDie k f).dict = s.dict := rfl
@[simp] theorem modNextDie_tenants (s : State) (k : Nat) (f : Nat → Nat) : (s.modNextDie k f).tenants = s.tenants := rfl
@[simp] theorem modNextDie_trust (s : State) (k : Nat) (f : Nat → Nat) : (s.modNextDie k f).trust = s.trust := rfl
@[simp] theorem modNextDie_power (s : State) (k : Nat) (f : Nat → Nat) : (s.modNextDie k f).power = s.power := rfl
@[simp] theorem modNextDie_faults (s : State) (k : Nat) (f : Nat → Nat) : (s.modNextDie k f).faults = s.faults := rfl
@[simp] theorem modNextDie_mirror (s : State) (k : Nat) (f : Nat → Nat) : (s.modNextDie k f).mirror = s.mirror := rfl
@[simp] theorem modNextDie_pins (s : State) (k : Nat) (f : Nat → Nat) : (s.modNextDie k f).pins = s.pins := rfl
@[simp] theorem modNextDie_clk (s : State) (k : Nat) (f : Nat → Nat) : (s.modNextDie k f).clk = s.clk := rfl
@[simp] theorem modNextDie_held (s : State) (k : Nat) (f : Nat → Nat) : (s.modNextDie k f).held = s.held := rfl
@[simp] theorem modNextDie_pending (s : State) (k : Nat) (f : Nat → Nat) : (s.modNextDie k f).pending = s.pending := rfl
@[simp] theorem kvPending_modKvPending_ne (s : State) (k j : Nat) (f : Option Nat → Option Nat) (h : j ≠ k) : (s.modKvPending k f).kvPending j = s.kvPending j :=
  mget_mset_ne h _ _
@[simp] theorem kvPending_modKvPending_self (s : State) (k : Nat) (f : Option Nat → Option Nat) : (s.modKvPending k f).kvPending k = f (s.kvPending k) :=
  mget_mset_self _ _ _
@[simp] theorem modKvPending_ident (s : State) (k : Nat) (f : Option Nat → Option Nat) : (s.modKvPending k f).ident = s.ident := rfl
@[simp] theorem modKvPending_vault (s : State) (k : Nat) (f : Option Nat → Option Nat) : (s.modKvPending k f).vault = s.vault := rfl
@[simp] theorem modKvPending_fabric (s : State) (k : Nat) (f : Option Nat → Option Nat) : (s.modKvPending k f).fabric = s.fabric := rfl
@[simp] theorem modKvPending_vec (s : State) (k : Nat) (f : Option Nat → Option Nat) : (s.modKvPending k f).vec = s.vec := rfl
@[simp] theorem modKvPending_mem (s : State) (k : Nat) (f : Option Nat → Option Nat) : (s.modKvPending k f).mem = s.mem := rfl
@[simp] theorem modKvPending_kv (s : State) (k : Nat) (f : Option Nat → Option Nat) : (s.modKvPending k f).kv = s.kv := rfl
@[simp] theorem modKvPending_exp (s : State) (k : Nat) (f : Option Nat → Option Nat) : (s.modKvPending k f).exp = s.exp := rfl
@[simp] theorem modKvPending_ops (s : State) (k : Nat) (f : Option Nat → Option Nat) : (s.modKvPending k f).ops = s.ops := rfl
@[simp] theorem modKvPending_streams (s : State) (k : Nat) (f : Option Nat → Option Nat) : (s.modKvPending k f).streams = s.streams := rfl
@[simp] theorem modKvPending_dram (s : State) (k : Nat) (f : Option Nat → Option Nat) : (s.modKvPending k f).dram = s.dram := rfl
@[simp] theorem modKvPending_models (s : State) (k : Nat) (f : Option Nat → Option Nat) : (s.modKvPending k f).models = s.models := rfl
@[simp] theorem modKvPending_svc (s : State) (k : Nat) (f : Option Nat → Option Nat) : (s.modKvPending k f).svc = s.svc := rfl
@[simp] theorem modKvPending_ctl (s : State) (k : Nat) (f : Option Nat → Option Nat) : (s.modKvPending k f).ctl = s.ctl := rfl
@[simp] theorem modKvPending_ports (s : State) (k : Nat) (f : Option Nat → Option Nat) : (s.modKvPending k f).ports = s.ports := rfl
@[simp] theorem modKvPending_dict (s : State) (k : Nat) (f : Option Nat → Option Nat) : (s.modKvPending k f).dict = s.dict := rfl
@[simp] theorem modKvPending_tenants (s : State) (k : Nat) (f : Option Nat → Option Nat) : (s.modKvPending k f).tenants = s.tenants := rfl
@[simp] theorem modKvPending_trust (s : State) (k : Nat) (f : Option Nat → Option Nat) : (s.modKvPending k f).trust = s.trust := rfl
@[simp] theorem modKvPending_power (s : State) (k : Nat) (f : Option Nat → Option Nat) : (s.modKvPending k f).power = s.power := rfl
@[simp] theorem modKvPending_faults (s : State) (k : Nat) (f : Option Nat → Option Nat) : (s.modKvPending k f).faults = s.faults := rfl
@[simp] theorem modKvPending_mirror (s : State) (k : Nat) (f : Option Nat → Option Nat) : (s.modKvPending k f).mirror = s.mirror := rfl
@[simp] theorem modKvPending_pins (s : State) (k : Nat) (f : Option Nat → Option Nat) : (s.modKvPending k f).pins = s.pins := rfl
@[simp] theorem modKvPending_clk (s : State) (k : Nat) (f : Option Nat → Option Nat) : (s.modKvPending k f).clk = s.clk := rfl
@[simp] theorem modKvPending_held (s : State) (k : Nat) (f : Option Nat → Option Nat) : (s.modKvPending k f).held = s.held := rfl
@[simp] theorem modKvPending_pending (s : State) (k : Nat) (f : Option Nat → Option Nat) : (s.modKvPending k f).pending = s.pending := rfl
@[simp] theorem engine_modEngine_ne (s : State) (k j : Nat) (f : Engine → Engine) (h : j ≠ k) : (s.modEngine k f).engine j = s.engine j :=
  mget_mset_ne h _ _
@[simp] theorem engine_modEngine_self (s : State) (k : Nat) (f : Engine → Engine) : (s.modEngine k f).engine k = f (s.engine k) :=
  mget_mset_self _ _ _
@[simp] theorem modEngine_ident (s : State) (k : Nat) (f : Engine → Engine) : (s.modEngine k f).ident = s.ident := rfl
@[simp] theorem modEngine_vault (s : State) (k : Nat) (f : Engine → Engine) : (s.modEngine k f).vault = s.vault := rfl
@[simp] theorem modEngine_fabric (s : State) (k : Nat) (f : Engine → Engine) : (s.modEngine k f).fabric = s.fabric := rfl
@[simp] theorem modEngine_vec (s : State) (k : Nat) (f : Engine → Engine) : (s.modEngine k f).vec = s.vec := rfl
@[simp] theorem modEngine_mem (s : State) (k : Nat) (f : Engine → Engine) : (s.modEngine k f).mem = s.mem := rfl
@[simp] theorem modEngine_kv (s : State) (k : Nat) (f : Engine → Engine) : (s.modEngine k f).kv = s.kv := rfl
@[simp] theorem modEngine_exp (s : State) (k : Nat) (f : Engine → Engine) : (s.modEngine k f).exp = s.exp := rfl
@[simp] theorem modEngine_ops (s : State) (k : Nat) (f : Engine → Engine) : (s.modEngine k f).ops = s.ops := rfl
@[simp] theorem modEngine_tiers (s : State) (k : Nat) (f : Engine → Engine) : (s.modEngine k f).tiers = s.tiers := rfl
@[simp] theorem modEngine_dram (s : State) (k : Nat) (f : Engine → Engine) : (s.modEngine k f).dram = s.dram := rfl
@[simp] theorem modEngine_models (s : State) (k : Nat) (f : Engine → Engine) : (s.modEngine k f).models = s.models := rfl
@[simp] theorem modEngine_svc (s : State) (k : Nat) (f : Engine → Engine) : (s.modEngine k f).svc = s.svc := rfl
@[simp] theorem modEngine_ctl (s : State) (k : Nat) (f : Engine → Engine) : (s.modEngine k f).ctl = s.ctl := rfl
@[simp] theorem modEngine_ports (s : State) (k : Nat) (f : Engine → Engine) : (s.modEngine k f).ports = s.ports := rfl
@[simp] theorem modEngine_dict (s : State) (k : Nat) (f : Engine → Engine) : (s.modEngine k f).dict = s.dict := rfl
@[simp] theorem modEngine_tenants (s : State) (k : Nat) (f : Engine → Engine) : (s.modEngine k f).tenants = s.tenants := rfl
@[simp] theorem modEngine_trust (s : State) (k : Nat) (f : Engine → Engine) : (s.modEngine k f).trust = s.trust := rfl
@[simp] theorem modEngine_power (s : State) (k : Nat) (f : Engine → Engine) : (s.modEngine k f).power = s.power := rfl
@[simp] theorem modEngine_faults (s : State) (k : Nat) (f : Engine → Engine) : (s.modEngine k f).faults = s.faults := rfl
@[simp] theorem modEngine_mirror (s : State) (k : Nat) (f : Engine → Engine) : (s.modEngine k f).mirror = s.mirror := rfl
@[simp] theorem modEngine_pins (s : State) (k : Nat) (f : Engine → Engine) : (s.modEngine k f).pins = s.pins := rfl
@[simp] theorem modEngine_clk (s : State) (k : Nat) (f : Engine → Engine) : (s.modEngine k f).clk = s.clk := rfl
@[simp] theorem modEngine_held (s : State) (k : Nat) (f : Engine → Engine) : (s.modEngine k f).held = s.held := rfl
@[simp] theorem modEngine_pending (s : State) (k : Nat) (f : Engine → Engine) : (s.modEngine k f).pending = s.pending := rfl
@[simp] theorem chan_modChan_ne (s : State) (k j : Nat) (f : Channel → Channel) (h : j ≠ k) : (s.modChan k f).chan j = s.chan j :=
  mget_mset_ne h _ _
@[simp] theorem chan_modChan_self (s : State) (k : Nat) (f : Channel → Channel) : (s.modChan k f).chan k = f (s.chan k) :=
  mget_mset_self _ _ _
@[simp] theorem modChan_ident (s : State) (k : Nat) (f : Channel → Channel) : (s.modChan k f).ident = s.ident := rfl
@[simp] theorem modChan_vault (s : State) (k : Nat) (f : Channel → Channel) : (s.modChan k f).vault = s.vault := rfl
@[simp] theorem modChan_fabric (s : State) (k : Nat) (f : Channel → Channel) : (s.modChan k f).fabric = s.fabric := rfl
@[simp] theorem modChan_vec (s : State) (k : Nat) (f : Channel → Channel) : (s.modChan k f).vec = s.vec := rfl
@[simp] theorem modChan_mem (s : State) (k : Nat) (f : Channel → Channel) : (s.modChan k f).mem = s.mem := rfl
@[simp] theorem modChan_kv (s : State) (k : Nat) (f : Channel → Channel) : (s.modChan k f).kv = s.kv := rfl
@[simp] theorem modChan_exp (s : State) (k : Nat) (f : Channel → Channel) : (s.modChan k f).exp = s.exp := rfl
@[simp] theorem modChan_ops (s : State) (k : Nat) (f : Channel → Channel) : (s.modChan k f).ops = s.ops := rfl
@[simp] theorem modChan_tiers (s : State) (k : Nat) (f : Channel → Channel) : (s.modChan k f).tiers = s.tiers := rfl
@[simp] theorem modChan_streams (s : State) (k : Nat) (f : Channel → Channel) : (s.modChan k f).streams = s.streams := rfl
@[simp] theorem modChan_models (s : State) (k : Nat) (f : Channel → Channel) : (s.modChan k f).models = s.models := rfl
@[simp] theorem modChan_svc (s : State) (k : Nat) (f : Channel → Channel) : (s.modChan k f).svc = s.svc := rfl
@[simp] theorem modChan_ctl (s : State) (k : Nat) (f : Channel → Channel) : (s.modChan k f).ctl = s.ctl := rfl
@[simp] theorem modChan_ports (s : State) (k : Nat) (f : Channel → Channel) : (s.modChan k f).ports = s.ports := rfl
@[simp] theorem modChan_dict (s : State) (k : Nat) (f : Channel → Channel) : (s.modChan k f).dict = s.dict := rfl
@[simp] theorem modChan_tenants (s : State) (k : Nat) (f : Channel → Channel) : (s.modChan k f).tenants = s.tenants := rfl
@[simp] theorem modChan_trust (s : State) (k : Nat) (f : Channel → Channel) : (s.modChan k f).trust = s.trust := rfl
@[simp] theorem modChan_power (s : State) (k : Nat) (f : Channel → Channel) : (s.modChan k f).power = s.power := rfl
@[simp] theorem modChan_faults (s : State) (k : Nat) (f : Channel → Channel) : (s.modChan k f).faults = s.faults := rfl
@[simp] theorem modChan_mirror (s : State) (k : Nat) (f : Channel → Channel) : (s.modChan k f).mirror = s.mirror := rfl
@[simp] theorem modChan_pins (s : State) (k : Nat) (f : Channel → Channel) : (s.modChan k f).pins = s.pins := rfl
@[simp] theorem modChan_clk (s : State) (k : Nat) (f : Channel → Channel) : (s.modChan k f).clk = s.clk := rfl
@[simp] theorem modChan_held (s : State) (k : Nat) (f : Channel → Channel) : (s.modChan k f).held = s.held := rfl
@[simp] theorem modChan_pending (s : State) (k : Nat) (f : Channel → Channel) : (s.modChan k f).pending = s.pending := rfl
@[simp] theorem keySlot_modKeySlot_ne (s : State) (k j : Nat) (f : KeySlot → KeySlot) (h : j ≠ k) : (s.modKeySlot k f).keySlot j = s.keySlot j :=
  mget_mset_ne h _ _
@[simp] theorem keySlot_modKeySlot_self (s : State) (k : Nat) (f : KeySlot → KeySlot) : (s.modKeySlot k f).keySlot k = f (s.keySlot k) :=
  mget_mset_self _ _ _
@[simp] theorem modKeySlot_ident (s : State) (k : Nat) (f : KeySlot → KeySlot) : (s.modKeySlot k f).ident = s.ident := rfl
@[simp] theorem modKeySlot_vault (s : State) (k : Nat) (f : KeySlot → KeySlot) : (s.modKeySlot k f).vault = s.vault := rfl
@[simp] theorem modKeySlot_fabric (s : State) (k : Nat) (f : KeySlot → KeySlot) : (s.modKeySlot k f).fabric = s.fabric := rfl
@[simp] theorem modKeySlot_vec (s : State) (k : Nat) (f : KeySlot → KeySlot) : (s.modKeySlot k f).vec = s.vec := rfl
@[simp] theorem modKeySlot_mem (s : State) (k : Nat) (f : KeySlot → KeySlot) : (s.modKeySlot k f).mem = s.mem := rfl
@[simp] theorem modKeySlot_kv (s : State) (k : Nat) (f : KeySlot → KeySlot) : (s.modKeySlot k f).kv = s.kv := rfl
@[simp] theorem modKeySlot_exp (s : State) (k : Nat) (f : KeySlot → KeySlot) : (s.modKeySlot k f).exp = s.exp := rfl
@[simp] theorem modKeySlot_ops (s : State) (k : Nat) (f : KeySlot → KeySlot) : (s.modKeySlot k f).ops = s.ops := rfl
@[simp] theorem modKeySlot_tiers (s : State) (k : Nat) (f : KeySlot → KeySlot) : (s.modKeySlot k f).tiers = s.tiers := rfl
@[simp] theorem modKeySlot_streams (s : State) (k : Nat) (f : KeySlot → KeySlot) : (s.modKeySlot k f).streams = s.streams := rfl
@[simp] theorem modKeySlot_models (s : State) (k : Nat) (f : KeySlot → KeySlot) : (s.modKeySlot k f).models = s.models := rfl
@[simp] theorem modKeySlot_svc (s : State) (k : Nat) (f : KeySlot → KeySlot) : (s.modKeySlot k f).svc = s.svc := rfl
@[simp] theorem modKeySlot_ctl (s : State) (k : Nat) (f : KeySlot → KeySlot) : (s.modKeySlot k f).ctl = s.ctl := rfl
@[simp] theorem modKeySlot_ports (s : State) (k : Nat) (f : KeySlot → KeySlot) : (s.modKeySlot k f).ports = s.ports := rfl
@[simp] theorem modKeySlot_dict (s : State) (k : Nat) (f : KeySlot → KeySlot) : (s.modKeySlot k f).dict = s.dict := rfl
@[simp] theorem modKeySlot_tenants (s : State) (k : Nat) (f : KeySlot → KeySlot) : (s.modKeySlot k f).tenants = s.tenants := rfl
@[simp] theorem modKeySlot_trust (s : State) (k : Nat) (f : KeySlot → KeySlot) : (s.modKeySlot k f).trust = s.trust := rfl
@[simp] theorem modKeySlot_power (s : State) (k : Nat) (f : KeySlot → KeySlot) : (s.modKeySlot k f).power = s.power := rfl
@[simp] theorem modKeySlot_faults (s : State) (k : Nat) (f : KeySlot → KeySlot) : (s.modKeySlot k f).faults = s.faults := rfl
@[simp] theorem modKeySlot_mirror (s : State) (k : Nat) (f : KeySlot → KeySlot) : (s.modKeySlot k f).mirror = s.mirror := rfl
@[simp] theorem modKeySlot_pins (s : State) (k : Nat) (f : KeySlot → KeySlot) : (s.modKeySlot k f).pins = s.pins := rfl
@[simp] theorem modKeySlot_clk (s : State) (k : Nat) (f : KeySlot → KeySlot) : (s.modKeySlot k f).clk = s.clk := rfl
@[simp] theorem modKeySlot_held (s : State) (k : Nat) (f : KeySlot → KeySlot) : (s.modKeySlot k f).held = s.held := rfl
@[simp] theorem modKeySlot_pending (s : State) (k : Nat) (f : KeySlot → KeySlot) : (s.modKeySlot k f).pending = s.pending := rfl
@[simp] theorem slot_modSlot_ne (s : State) (k j : Nat) (f : ModelSlot → ModelSlot) (h : j ≠ k) : (s.modSlot k f).slot j = s.slot j :=
  mget_mset_ne h _ _
@[simp] theorem slot_modSlot_self (s : State) (k : Nat) (f : ModelSlot → ModelSlot) : (s.modSlot k f).slot k = f (s.slot k) :=
  mget_mset_self _ _ _
@[simp] theorem modSlot_ident (s : State) (k : Nat) (f : ModelSlot → ModelSlot) : (s.modSlot k f).ident = s.ident := rfl
@[simp] theorem modSlot_vault (s : State) (k : Nat) (f : ModelSlot → ModelSlot) : (s.modSlot k f).vault = s.vault := rfl
@[simp] theorem modSlot_fabric (s : State) (k : Nat) (f : ModelSlot → ModelSlot) : (s.modSlot k f).fabric = s.fabric := rfl
@[simp] theorem modSlot_vec (s : State) (k : Nat) (f : ModelSlot → ModelSlot) : (s.modSlot k f).vec = s.vec := rfl
@[simp] theorem modSlot_mem (s : State) (k : Nat) (f : ModelSlot → ModelSlot) : (s.modSlot k f).mem = s.mem := rfl
@[simp] theorem modSlot_kv (s : State) (k : Nat) (f : ModelSlot → ModelSlot) : (s.modSlot k f).kv = s.kv := rfl
@[simp] theorem modSlot_exp (s : State) (k : Nat) (f : ModelSlot → ModelSlot) : (s.modSlot k f).exp = s.exp := rfl
@[simp] theorem modSlot_ops (s : State) (k : Nat) (f : ModelSlot → ModelSlot) : (s.modSlot k f).ops = s.ops := rfl
@[simp] theorem modSlot_tiers (s : State) (k : Nat) (f : ModelSlot → ModelSlot) : (s.modSlot k f).tiers = s.tiers := rfl
@[simp] theorem modSlot_streams (s : State) (k : Nat) (f : ModelSlot → ModelSlot) : (s.modSlot k f).streams = s.streams := rfl
@[simp] theorem modSlot_dram (s : State) (k : Nat) (f : ModelSlot → ModelSlot) : (s.modSlot k f).dram = s.dram := rfl
@[simp] theorem modSlot_svc (s : State) (k : Nat) (f : ModelSlot → ModelSlot) : (s.modSlot k f).svc = s.svc := rfl
@[simp] theorem modSlot_ctl (s : State) (k : Nat) (f : ModelSlot → ModelSlot) : (s.modSlot k f).ctl = s.ctl := rfl
@[simp] theorem modSlot_ports (s : State) (k : Nat) (f : ModelSlot → ModelSlot) : (s.modSlot k f).ports = s.ports := rfl
@[simp] theorem modSlot_dict (s : State) (k : Nat) (f : ModelSlot → ModelSlot) : (s.modSlot k f).dict = s.dict := rfl
@[simp] theorem modSlot_tenants (s : State) (k : Nat) (f : ModelSlot → ModelSlot) : (s.modSlot k f).tenants = s.tenants := rfl
@[simp] theorem modSlot_trust (s : State) (k : Nat) (f : ModelSlot → ModelSlot) : (s.modSlot k f).trust = s.trust := rfl
@[simp] theorem modSlot_power (s : State) (k : Nat) (f : ModelSlot → ModelSlot) : (s.modSlot k f).power = s.power := rfl
@[simp] theorem modSlot_faults (s : State) (k : Nat) (f : ModelSlot → ModelSlot) : (s.modSlot k f).faults = s.faults := rfl
@[simp] theorem modSlot_mirror (s : State) (k : Nat) (f : ModelSlot → ModelSlot) : (s.modSlot k f).mirror = s.mirror := rfl
@[simp] theorem modSlot_pins (s : State) (k : Nat) (f : ModelSlot → ModelSlot) : (s.modSlot k f).pins = s.pins := rfl
@[simp] theorem modSlot_clk (s : State) (k : Nat) (f : ModelSlot → ModelSlot) : (s.modSlot k f).clk = s.clk := rfl
@[simp] theorem modSlot_held (s : State) (k : Nat) (f : ModelSlot → ModelSlot) : (s.modSlot k f).held = s.held := rfl
@[simp] theorem modSlot_pending (s : State) (k : Nat) (f : ModelSlot → ModelSlot) : (s.modSlot k f).pending = s.pending := rfl
@[simp] theorem adapter_modAdapter_ne (s : State) (k j : Nat) (f : AdSlot → AdSlot) (h : j ≠ k) : (s.modAdapter k f).adapter j = s.adapter j :=
  mget_mset_ne h _ _
@[simp] theorem adapter_modAdapter_self (s : State) (k : Nat) (f : AdSlot → AdSlot) : (s.modAdapter k f).adapter k = f (s.adapter k) :=
  mget_mset_self _ _ _
@[simp] theorem modAdapter_ident (s : State) (k : Nat) (f : AdSlot → AdSlot) : (s.modAdapter k f).ident = s.ident := rfl
@[simp] theorem modAdapter_vault (s : State) (k : Nat) (f : AdSlot → AdSlot) : (s.modAdapter k f).vault = s.vault := rfl
@[simp] theorem modAdapter_fabric (s : State) (k : Nat) (f : AdSlot → AdSlot) : (s.modAdapter k f).fabric = s.fabric := rfl
@[simp] theorem modAdapter_vec (s : State) (k : Nat) (f : AdSlot → AdSlot) : (s.modAdapter k f).vec = s.vec := rfl
@[simp] theorem modAdapter_mem (s : State) (k : Nat) (f : AdSlot → AdSlot) : (s.modAdapter k f).mem = s.mem := rfl
@[simp] theorem modAdapter_kv (s : State) (k : Nat) (f : AdSlot → AdSlot) : (s.modAdapter k f).kv = s.kv := rfl
@[simp] theorem modAdapter_exp (s : State) (k : Nat) (f : AdSlot → AdSlot) : (s.modAdapter k f).exp = s.exp := rfl
@[simp] theorem modAdapter_ops (s : State) (k : Nat) (f : AdSlot → AdSlot) : (s.modAdapter k f).ops = s.ops := rfl
@[simp] theorem modAdapter_tiers (s : State) (k : Nat) (f : AdSlot → AdSlot) : (s.modAdapter k f).tiers = s.tiers := rfl
@[simp] theorem modAdapter_streams (s : State) (k : Nat) (f : AdSlot → AdSlot) : (s.modAdapter k f).streams = s.streams := rfl
@[simp] theorem modAdapter_dram (s : State) (k : Nat) (f : AdSlot → AdSlot) : (s.modAdapter k f).dram = s.dram := rfl
@[simp] theorem modAdapter_svc (s : State) (k : Nat) (f : AdSlot → AdSlot) : (s.modAdapter k f).svc = s.svc := rfl
@[simp] theorem modAdapter_ctl (s : State) (k : Nat) (f : AdSlot → AdSlot) : (s.modAdapter k f).ctl = s.ctl := rfl
@[simp] theorem modAdapter_ports (s : State) (k : Nat) (f : AdSlot → AdSlot) : (s.modAdapter k f).ports = s.ports := rfl
@[simp] theorem modAdapter_dict (s : State) (k : Nat) (f : AdSlot → AdSlot) : (s.modAdapter k f).dict = s.dict := rfl
@[simp] theorem modAdapter_tenants (s : State) (k : Nat) (f : AdSlot → AdSlot) : (s.modAdapter k f).tenants = s.tenants := rfl
@[simp] theorem modAdapter_trust (s : State) (k : Nat) (f : AdSlot → AdSlot) : (s.modAdapter k f).trust = s.trust := rfl
@[simp] theorem modAdapter_power (s : State) (k : Nat) (f : AdSlot → AdSlot) : (s.modAdapter k f).power = s.power := rfl
@[simp] theorem modAdapter_faults (s : State) (k : Nat) (f : AdSlot → AdSlot) : (s.modAdapter k f).faults = s.faults := rfl
@[simp] theorem modAdapter_mirror (s : State) (k : Nat) (f : AdSlot → AdSlot) : (s.modAdapter k f).mirror = s.mirror := rfl
@[simp] theorem modAdapter_pins (s : State) (k : Nat) (f : AdSlot → AdSlot) : (s.modAdapter k f).pins = s.pins := rfl
@[simp] theorem modAdapter_clk (s : State) (k : Nat) (f : AdSlot → AdSlot) : (s.modAdapter k f).clk = s.clk := rfl
@[simp] theorem modAdapter_held (s : State) (k : Nat) (f : AdSlot → AdSlot) : (s.modAdapter k f).held = s.held := rfl
@[simp] theorem modAdapter_pending (s : State) (k : Nat) (f : AdSlot → AdSlot) : (s.modAdapter k f).pending = s.pending := rfl
@[simp] theorem dataset_modDataset_ne (s : State) (k j : Nat) (f : Option Image → Option Image) (h : j ≠ k) : (s.modDataset k f).dataset j = s.dataset j :=
  mget_mset_ne h _ _
@[simp] theorem dataset_modDataset_self (s : State) (k : Nat) (f : Option Image → Option Image) : (s.modDataset k f).dataset k = f (s.dataset k) :=
  mget_mset_self _ _ _
@[simp] theorem modDataset_ident (s : State) (k : Nat) (f : Option Image → Option Image) : (s.modDataset k f).ident = s.ident := rfl
@[simp] theorem modDataset_vault (s : State) (k : Nat) (f : Option Image → Option Image) : (s.modDataset k f).vault = s.vault := rfl
@[simp] theorem modDataset_fabric (s : State) (k : Nat) (f : Option Image → Option Image) : (s.modDataset k f).fabric = s.fabric := rfl
@[simp] theorem modDataset_vec (s : State) (k : Nat) (f : Option Image → Option Image) : (s.modDataset k f).vec = s.vec := rfl
@[simp] theorem modDataset_mem (s : State) (k : Nat) (f : Option Image → Option Image) : (s.modDataset k f).mem = s.mem := rfl
@[simp] theorem modDataset_kv (s : State) (k : Nat) (f : Option Image → Option Image) : (s.modDataset k f).kv = s.kv := rfl
@[simp] theorem modDataset_exp (s : State) (k : Nat) (f : Option Image → Option Image) : (s.modDataset k f).exp = s.exp := rfl
@[simp] theorem modDataset_ops (s : State) (k : Nat) (f : Option Image → Option Image) : (s.modDataset k f).ops = s.ops := rfl
@[simp] theorem modDataset_tiers (s : State) (k : Nat) (f : Option Image → Option Image) : (s.modDataset k f).tiers = s.tiers := rfl
@[simp] theorem modDataset_streams (s : State) (k : Nat) (f : Option Image → Option Image) : (s.modDataset k f).streams = s.streams := rfl
@[simp] theorem modDataset_dram (s : State) (k : Nat) (f : Option Image → Option Image) : (s.modDataset k f).dram = s.dram := rfl
@[simp] theorem modDataset_svc (s : State) (k : Nat) (f : Option Image → Option Image) : (s.modDataset k f).svc = s.svc := rfl
@[simp] theorem modDataset_ctl (s : State) (k : Nat) (f : Option Image → Option Image) : (s.modDataset k f).ctl = s.ctl := rfl
@[simp] theorem modDataset_ports (s : State) (k : Nat) (f : Option Image → Option Image) : (s.modDataset k f).ports = s.ports := rfl
@[simp] theorem modDataset_dict (s : State) (k : Nat) (f : Option Image → Option Image) : (s.modDataset k f).dict = s.dict := rfl
@[simp] theorem modDataset_tenants (s : State) (k : Nat) (f : Option Image → Option Image) : (s.modDataset k f).tenants = s.tenants := rfl
@[simp] theorem modDataset_trust (s : State) (k : Nat) (f : Option Image → Option Image) : (s.modDataset k f).trust = s.trust := rfl
@[simp] theorem modDataset_power (s : State) (k : Nat) (f : Option Image → Option Image) : (s.modDataset k f).power = s.power := rfl
@[simp] theorem modDataset_faults (s : State) (k : Nat) (f : Option Image → Option Image) : (s.modDataset k f).faults = s.faults := rfl
@[simp] theorem modDataset_mirror (s : State) (k : Nat) (f : Option Image → Option Image) : (s.modDataset k f).mirror = s.mirror := rfl
@[simp] theorem modDataset_pins (s : State) (k : Nat) (f : Option Image → Option Image) : (s.modDataset k f).pins = s.pins := rfl
@[simp] theorem modDataset_clk (s : State) (k : Nat) (f : Option Image → Option Image) : (s.modDataset k f).clk = s.clk := rfl
@[simp] theorem modDataset_held (s : State) (k : Nat) (f : Option Image → Option Image) : (s.modDataset k f).held = s.held := rfl
@[simp] theorem modDataset_pending (s : State) (k : Nat) (f : Option Image → Option Image) : (s.modDataset k f).pending = s.pending := rfl
@[simp] theorem upload_modUpload_ne (s : State) (k j : Nat) (f : Option Upload → Option Upload) (h : j ≠ k) : (s.modUpload k f).upload j = s.upload j :=
  mget_mset_ne h _ _
@[simp] theorem upload_modUpload_self (s : State) (k : Nat) (f : Option Upload → Option Upload) : (s.modUpload k f).upload k = f (s.upload k) :=
  mget_mset_self _ _ _
@[simp] theorem modUpload_ident (s : State) (k : Nat) (f : Option Upload → Option Upload) : (s.modUpload k f).ident = s.ident := rfl
@[simp] theorem modUpload_vault (s : State) (k : Nat) (f : Option Upload → Option Upload) : (s.modUpload k f).vault = s.vault := rfl
@[simp] theorem modUpload_fabric (s : State) (k : Nat) (f : Option Upload → Option Upload) : (s.modUpload k f).fabric = s.fabric := rfl
@[simp] theorem modUpload_vec (s : State) (k : Nat) (f : Option Upload → Option Upload) : (s.modUpload k f).vec = s.vec := rfl
@[simp] theorem modUpload_mem (s : State) (k : Nat) (f : Option Upload → Option Upload) : (s.modUpload k f).mem = s.mem := rfl
@[simp] theorem modUpload_kv (s : State) (k : Nat) (f : Option Upload → Option Upload) : (s.modUpload k f).kv = s.kv := rfl
@[simp] theorem modUpload_exp (s : State) (k : Nat) (f : Option Upload → Option Upload) : (s.modUpload k f).exp = s.exp := rfl
@[simp] theorem modUpload_ops (s : State) (k : Nat) (f : Option Upload → Option Upload) : (s.modUpload k f).ops = s.ops := rfl
@[simp] theorem modUpload_tiers (s : State) (k : Nat) (f : Option Upload → Option Upload) : (s.modUpload k f).tiers = s.tiers := rfl
@[simp] theorem modUpload_streams (s : State) (k : Nat) (f : Option Upload → Option Upload) : (s.modUpload k f).streams = s.streams := rfl
@[simp] theorem modUpload_dram (s : State) (k : Nat) (f : Option Upload → Option Upload) : (s.modUpload k f).dram = s.dram := rfl
@[simp] theorem modUpload_svc (s : State) (k : Nat) (f : Option Upload → Option Upload) : (s.modUpload k f).svc = s.svc := rfl
@[simp] theorem modUpload_ctl (s : State) (k : Nat) (f : Option Upload → Option Upload) : (s.modUpload k f).ctl = s.ctl := rfl
@[simp] theorem modUpload_ports (s : State) (k : Nat) (f : Option Upload → Option Upload) : (s.modUpload k f).ports = s.ports := rfl
@[simp] theorem modUpload_dict (s : State) (k : Nat) (f : Option Upload → Option Upload) : (s.modUpload k f).dict = s.dict := rfl
@[simp] theorem modUpload_tenants (s : State) (k : Nat) (f : Option Upload → Option Upload) : (s.modUpload k f).tenants = s.tenants := rfl
@[simp] theorem modUpload_trust (s : State) (k : Nat) (f : Option Upload → Option Upload) : (s.modUpload k f).trust = s.trust := rfl
@[simp] theorem modUpload_power (s : State) (k : Nat) (f : Option Upload → Option Upload) : (s.modUpload k f).power = s.power := rfl
@[simp] theorem modUpload_faults (s : State) (k : Nat) (f : Option Upload → Option Upload) : (s.modUpload k f).faults = s.faults := rfl
@[simp] theorem modUpload_mirror (s : State) (k : Nat) (f : Option Upload → Option Upload) : (s.modUpload k f).mirror = s.mirror := rfl
@[simp] theorem modUpload_pins (s : State) (k : Nat) (f : Option Upload → Option Upload) : (s.modUpload k f).pins = s.pins := rfl
@[simp] theorem modUpload_clk (s : State) (k : Nat) (f : Option Upload → Option Upload) : (s.modUpload k f).clk = s.clk := rfl
@[simp] theorem modUpload_held (s : State) (k : Nat) (f : Option Upload → Option Upload) : (s.modUpload k f).held = s.held := rfl
@[simp] theorem modUpload_pending (s : State) (k : Nat) (f : Option Upload → Option Upload) : (s.modUpload k f).pending = s.pending := rfl
@[simp] theorem job_modJob_ne (s : State) (k j : Nat) (f : Job → Job) (h : j ≠ k) : (s.modJob k f).job j = s.job j :=
  mget_mset_ne h _ _
@[simp] theorem job_modJob_self (s : State) (k : Nat) (f : Job → Job) : (s.modJob k f).job k = f (s.job k) :=
  mget_mset_self _ _ _
@[simp] theorem modJob_ident (s : State) (k : Nat) (f : Job → Job) : (s.modJob k f).ident = s.ident := rfl
@[simp] theorem modJob_vault (s : State) (k : Nat) (f : Job → Job) : (s.modJob k f).vault = s.vault := rfl
@[simp] theorem modJob_fabric (s : State) (k : Nat) (f : Job → Job) : (s.modJob k f).fabric = s.fabric := rfl
@[simp] theorem modJob_vec (s : State) (k : Nat) (f : Job → Job) : (s.modJob k f).vec = s.vec := rfl
@[simp] theorem modJob_mem (s : State) (k : Nat) (f : Job → Job) : (s.modJob k f).mem = s.mem := rfl
@[simp] theorem modJob_kv (s : State) (k : Nat) (f : Job → Job) : (s.modJob k f).kv = s.kv := rfl
@[simp] theorem modJob_exp (s : State) (k : Nat) (f : Job → Job) : (s.modJob k f).exp = s.exp := rfl
@[simp] theorem modJob_ops (s : State) (k : Nat) (f : Job → Job) : (s.modJob k f).ops = s.ops := rfl
@[simp] theorem modJob_tiers (s : State) (k : Nat) (f : Job → Job) : (s.modJob k f).tiers = s.tiers := rfl
@[simp] theorem modJob_streams (s : State) (k : Nat) (f : Job → Job) : (s.modJob k f).streams = s.streams := rfl
@[simp] theorem modJob_dram (s : State) (k : Nat) (f : Job → Job) : (s.modJob k f).dram = s.dram := rfl
@[simp] theorem modJob_svc (s : State) (k : Nat) (f : Job → Job) : (s.modJob k f).svc = s.svc := rfl
@[simp] theorem modJob_ctl (s : State) (k : Nat) (f : Job → Job) : (s.modJob k f).ctl = s.ctl := rfl
@[simp] theorem modJob_ports (s : State) (k : Nat) (f : Job → Job) : (s.modJob k f).ports = s.ports := rfl
@[simp] theorem modJob_dict (s : State) (k : Nat) (f : Job → Job) : (s.modJob k f).dict = s.dict := rfl
@[simp] theorem modJob_tenants (s : State) (k : Nat) (f : Job → Job) : (s.modJob k f).tenants = s.tenants := rfl
@[simp] theorem modJob_trust (s : State) (k : Nat) (f : Job → Job) : (s.modJob k f).trust = s.trust := rfl
@[simp] theorem modJob_power (s : State) (k : Nat) (f : Job → Job) : (s.modJob k f).power = s.power := rfl
@[simp] theorem modJob_faults (s : State) (k : Nat) (f : Job → Job) : (s.modJob k f).faults = s.faults := rfl
@[simp] theorem modJob_mirror (s : State) (k : Nat) (f : Job → Job) : (s.modJob k f).mirror = s.mirror := rfl
@[simp] theorem modJob_pins (s : State) (k : Nat) (f : Job → Job) : (s.modJob k f).pins = s.pins := rfl
@[simp] theorem modJob_clk (s : State) (k : Nat) (f : Job → Job) : (s.modJob k f).clk = s.clk := rfl
@[simp] theorem modJob_held (s : State) (k : Nat) (f : Job → Job) : (s.modJob k f).held = s.held := rfl
@[simp] theorem modJob_pending (s : State) (k : Nat) (f : Job → Job) : (s.modJob k f).pending = s.pending := rfl
@[simp] theorem pointer_modPointer_ne (s : State) (k j : Nat) (f : Nat → Nat) (h : j ≠ k) : (s.modPointer k f).pointer j = s.pointer j :=
  mget_mset_ne h _ _
@[simp] theorem pointer_modPointer_self (s : State) (k : Nat) (f : Nat → Nat) : (s.modPointer k f).pointer k = f (s.pointer k) :=
  mget_mset_self _ _ _
@[simp] theorem modPointer_ident (s : State) (k : Nat) (f : Nat → Nat) : (s.modPointer k f).ident = s.ident := rfl
@[simp] theorem modPointer_vault (s : State) (k : Nat) (f : Nat → Nat) : (s.modPointer k f).vault = s.vault := rfl
@[simp] theorem modPointer_fabric (s : State) (k : Nat) (f : Nat → Nat) : (s.modPointer k f).fabric = s.fabric := rfl
@[simp] theorem modPointer_vec (s : State) (k : Nat) (f : Nat → Nat) : (s.modPointer k f).vec = s.vec := rfl
@[simp] theorem modPointer_mem (s : State) (k : Nat) (f : Nat → Nat) : (s.modPointer k f).mem = s.mem := rfl
@[simp] theorem modPointer_kv (s : State) (k : Nat) (f : Nat → Nat) : (s.modPointer k f).kv = s.kv := rfl
@[simp] theorem modPointer_exp (s : State) (k : Nat) (f : Nat → Nat) : (s.modPointer k f).exp = s.exp := rfl
@[simp] theorem modPointer_ops (s : State) (k : Nat) (f : Nat → Nat) : (s.modPointer k f).ops = s.ops := rfl
@[simp] theorem modPointer_tiers (s : State) (k : Nat) (f : Nat → Nat) : (s.modPointer k f).tiers = s.tiers := rfl
@[simp] theorem modPointer_streams (s : State) (k : Nat) (f : Nat → Nat) : (s.modPointer k f).streams = s.streams := rfl
@[simp] theorem modPointer_dram (s : State) (k : Nat) (f : Nat → Nat) : (s.modPointer k f).dram = s.dram := rfl
@[simp] theorem modPointer_svc (s : State) (k : Nat) (f : Nat → Nat) : (s.modPointer k f).svc = s.svc := rfl
@[simp] theorem modPointer_ctl (s : State) (k : Nat) (f : Nat → Nat) : (s.modPointer k f).ctl = s.ctl := rfl
@[simp] theorem modPointer_ports (s : State) (k : Nat) (f : Nat → Nat) : (s.modPointer k f).ports = s.ports := rfl
@[simp] theorem modPointer_dict (s : State) (k : Nat) (f : Nat → Nat) : (s.modPointer k f).dict = s.dict := rfl
@[simp] theorem modPointer_tenants (s : State) (k : Nat) (f : Nat → Nat) : (s.modPointer k f).tenants = s.tenants := rfl
@[simp] theorem modPointer_trust (s : State) (k : Nat) (f : Nat → Nat) : (s.modPointer k f).trust = s.trust := rfl
@[simp] theorem modPointer_power (s : State) (k : Nat) (f : Nat → Nat) : (s.modPointer k f).power = s.power := rfl
@[simp] theorem modPointer_faults (s : State) (k : Nat) (f : Nat → Nat) : (s.modPointer k f).faults = s.faults := rfl
@[simp] theorem modPointer_mirror (s : State) (k : Nat) (f : Nat → Nat) : (s.modPointer k f).mirror = s.mirror := rfl
@[simp] theorem modPointer_pins (s : State) (k : Nat) (f : Nat → Nat) : (s.modPointer k f).pins = s.pins := rfl
@[simp] theorem modPointer_clk (s : State) (k : Nat) (f : Nat → Nat) : (s.modPointer k f).clk = s.clk := rfl
@[simp] theorem modPointer_held (s : State) (k : Nat) (f : Nat → Nat) : (s.modPointer k f).held = s.held := rfl
@[simp] theorem modPointer_pending (s : State) (k : Nat) (f : Nat → Nat) : (s.modPointer k f).pending = s.pending := rfl
@[simp] theorem conn_modConn_ne (s : State) (k j : Nat) (f : Option Conn → Option Conn) (h : j ≠ k) : (s.modConn k f).conn j = s.conn j :=
  mget_mset_ne h _ _
@[simp] theorem conn_modConn_self (s : State) (k : Nat) (f : Option Conn → Option Conn) : (s.modConn k f).conn k = f (s.conn k) :=
  mget_mset_self _ _ _
@[simp] theorem modConn_ident (s : State) (k : Nat) (f : Option Conn → Option Conn) : (s.modConn k f).ident = s.ident := rfl
@[simp] theorem modConn_vault (s : State) (k : Nat) (f : Option Conn → Option Conn) : (s.modConn k f).vault = s.vault := rfl
@[simp] theorem modConn_fabric (s : State) (k : Nat) (f : Option Conn → Option Conn) : (s.modConn k f).fabric = s.fabric := rfl
@[simp] theorem modConn_vec (s : State) (k : Nat) (f : Option Conn → Option Conn) : (s.modConn k f).vec = s.vec := rfl
@[simp] theorem modConn_mem (s : State) (k : Nat) (f : Option Conn → Option Conn) : (s.modConn k f).mem = s.mem := rfl
@[simp] theorem modConn_kv (s : State) (k : Nat) (f : Option Conn → Option Conn) : (s.modConn k f).kv = s.kv := rfl
@[simp] theorem modConn_exp (s : State) (k : Nat) (f : Option Conn → Option Conn) : (s.modConn k f).exp = s.exp := rfl
@[simp] theorem modConn_ops (s : State) (k : Nat) (f : Option Conn → Option Conn) : (s.modConn k f).ops = s.ops := rfl
@[simp] theorem modConn_tiers (s : State) (k : Nat) (f : Option Conn → Option Conn) : (s.modConn k f).tiers = s.tiers := rfl
@[simp] theorem modConn_streams (s : State) (k : Nat) (f : Option Conn → Option Conn) : (s.modConn k f).streams = s.streams := rfl
@[simp] theorem modConn_dram (s : State) (k : Nat) (f : Option Conn → Option Conn) : (s.modConn k f).dram = s.dram := rfl
@[simp] theorem modConn_models (s : State) (k : Nat) (f : Option Conn → Option Conn) : (s.modConn k f).models = s.models := rfl
@[simp] theorem modConn_ctl (s : State) (k : Nat) (f : Option Conn → Option Conn) : (s.modConn k f).ctl = s.ctl := rfl
@[simp] theorem modConn_ports (s : State) (k : Nat) (f : Option Conn → Option Conn) : (s.modConn k f).ports = s.ports := rfl
@[simp] theorem modConn_dict (s : State) (k : Nat) (f : Option Conn → Option Conn) : (s.modConn k f).dict = s.dict := rfl
@[simp] theorem modConn_tenants (s : State) (k : Nat) (f : Option Conn → Option Conn) : (s.modConn k f).tenants = s.tenants := rfl
@[simp] theorem modConn_trust (s : State) (k : Nat) (f : Option Conn → Option Conn) : (s.modConn k f).trust = s.trust := rfl
@[simp] theorem modConn_power (s : State) (k : Nat) (f : Option Conn → Option Conn) : (s.modConn k f).power = s.power := rfl
@[simp] theorem modConn_faults (s : State) (k : Nat) (f : Option Conn → Option Conn) : (s.modConn k f).faults = s.faults := rfl
@[simp] theorem modConn_mirror (s : State) (k : Nat) (f : Option Conn → Option Conn) : (s.modConn k f).mirror = s.mirror := rfl
@[simp] theorem modConn_pins (s : State) (k : Nat) (f : Option Conn → Option Conn) : (s.modConn k f).pins = s.pins := rfl
@[simp] theorem modConn_clk (s : State) (k : Nat) (f : Option Conn → Option Conn) : (s.modConn k f).clk = s.clk := rfl
@[simp] theorem modConn_held (s : State) (k : Nat) (f : Option Conn → Option Conn) : (s.modConn k f).held = s.held := rfl
@[simp] theorem modConn_pending (s : State) (k : Nat) (f : Option Conn → Option Conn) : (s.modConn k f).pending = s.pending := rfl
@[simp] theorem session_modSession_ne (s : State) (k j : Nat) (f : Session → Session) (h : j ≠ k) : (s.modSession k f).session j = s.session j :=
  mget_mset_ne h _ _
@[simp] theorem session_modSession_self (s : State) (k : Nat) (f : Session → Session) : (s.modSession k f).session k = f (s.session k) :=
  mget_mset_self _ _ _
@[simp] theorem modSession_ident (s : State) (k : Nat) (f : Session → Session) : (s.modSession k f).ident = s.ident := rfl
@[simp] theorem modSession_vault (s : State) (k : Nat) (f : Session → Session) : (s.modSession k f).vault = s.vault := rfl
@[simp] theorem modSession_fabric (s : State) (k : Nat) (f : Session → Session) : (s.modSession k f).fabric = s.fabric := rfl
@[simp] theorem modSession_vec (s : State) (k : Nat) (f : Session → Session) : (s.modSession k f).vec = s.vec := rfl
@[simp] theorem modSession_mem (s : State) (k : Nat) (f : Session → Session) : (s.modSession k f).mem = s.mem := rfl
@[simp] theorem modSession_kv (s : State) (k : Nat) (f : Session → Session) : (s.modSession k f).kv = s.kv := rfl
@[simp] theorem modSession_exp (s : State) (k : Nat) (f : Session → Session) : (s.modSession k f).exp = s.exp := rfl
@[simp] theorem modSession_ops (s : State) (k : Nat) (f : Session → Session) : (s.modSession k f).ops = s.ops := rfl
@[simp] theorem modSession_tiers (s : State) (k : Nat) (f : Session → Session) : (s.modSession k f).tiers = s.tiers := rfl
@[simp] theorem modSession_streams (s : State) (k : Nat) (f : Session → Session) : (s.modSession k f).streams = s.streams := rfl
@[simp] theorem modSession_dram (s : State) (k : Nat) (f : Session → Session) : (s.modSession k f).dram = s.dram := rfl
@[simp] theorem modSession_models (s : State) (k : Nat) (f : Session → Session) : (s.modSession k f).models = s.models := rfl
@[simp] theorem modSession_ctl (s : State) (k : Nat) (f : Session → Session) : (s.modSession k f).ctl = s.ctl := rfl
@[simp] theorem modSession_ports (s : State) (k : Nat) (f : Session → Session) : (s.modSession k f).ports = s.ports := rfl
@[simp] theorem modSession_dict (s : State) (k : Nat) (f : Session → Session) : (s.modSession k f).dict = s.dict := rfl
@[simp] theorem modSession_tenants (s : State) (k : Nat) (f : Session → Session) : (s.modSession k f).tenants = s.tenants := rfl
@[simp] theorem modSession_trust (s : State) (k : Nat) (f : Session → Session) : (s.modSession k f).trust = s.trust := rfl
@[simp] theorem modSession_power (s : State) (k : Nat) (f : Session → Session) : (s.modSession k f).power = s.power := rfl
@[simp] theorem modSession_faults (s : State) (k : Nat) (f : Session → Session) : (s.modSession k f).faults = s.faults := rfl
@[simp] theorem modSession_mirror (s : State) (k : Nat) (f : Session → Session) : (s.modSession k f).mirror = s.mirror := rfl
@[simp] theorem modSession_pins (s : State) (k : Nat) (f : Session → Session) : (s.modSession k f).pins = s.pins := rfl
@[simp] theorem modSession_clk (s : State) (k : Nat) (f : Session → Session) : (s.modSession k f).clk = s.clk := rfl
@[simp] theorem modSession_held (s : State) (k : Nat) (f : Session → Session) : (s.modSession k f).held = s.held := rfl
@[simp] theorem modSession_pending (s : State) (k : Nat) (f : Session → Session) : (s.modSession k f).pending = s.pending := rfl
@[simp] theorem queue_modQueue_ne (s : State) (k j : Nat) (f : List QEntry → List QEntry) (h : j ≠ k) : (s.modQueue k f).queue j = s.queue j :=
  mget_mset_ne h _ _
@[simp] theorem queue_modQueue_self (s : State) (k : Nat) (f : List QEntry → List QEntry) : (s.modQueue k f).queue k = f (s.queue k) :=
  mget_mset_self _ _ _
@[simp] theorem modQueue_ident (s : State) (k : Nat) (f : List QEntry → List QEntry) : (s.modQueue k f).ident = s.ident := rfl
@[simp] theorem modQueue_vault (s : State) (k : Nat) (f : List QEntry → List QEntry) : (s.modQueue k f).vault = s.vault := rfl
@[simp] theorem modQueue_fabric (s : State) (k : Nat) (f : List QEntry → List QEntry) : (s.modQueue k f).fabric = s.fabric := rfl
@[simp] theorem modQueue_vec (s : State) (k : Nat) (f : List QEntry → List QEntry) : (s.modQueue k f).vec = s.vec := rfl
@[simp] theorem modQueue_mem (s : State) (k : Nat) (f : List QEntry → List QEntry) : (s.modQueue k f).mem = s.mem := rfl
@[simp] theorem modQueue_kv (s : State) (k : Nat) (f : List QEntry → List QEntry) : (s.modQueue k f).kv = s.kv := rfl
@[simp] theorem modQueue_exp (s : State) (k : Nat) (f : List QEntry → List QEntry) : (s.modQueue k f).exp = s.exp := rfl
@[simp] theorem modQueue_ops (s : State) (k : Nat) (f : List QEntry → List QEntry) : (s.modQueue k f).ops = s.ops := rfl
@[simp] theorem modQueue_tiers (s : State) (k : Nat) (f : List QEntry → List QEntry) : (s.modQueue k f).tiers = s.tiers := rfl
@[simp] theorem modQueue_streams (s : State) (k : Nat) (f : List QEntry → List QEntry) : (s.modQueue k f).streams = s.streams := rfl
@[simp] theorem modQueue_dram (s : State) (k : Nat) (f : List QEntry → List QEntry) : (s.modQueue k f).dram = s.dram := rfl
@[simp] theorem modQueue_models (s : State) (k : Nat) (f : List QEntry → List QEntry) : (s.modQueue k f).models = s.models := rfl
@[simp] theorem modQueue_ctl (s : State) (k : Nat) (f : List QEntry → List QEntry) : (s.modQueue k f).ctl = s.ctl := rfl
@[simp] theorem modQueue_ports (s : State) (k : Nat) (f : List QEntry → List QEntry) : (s.modQueue k f).ports = s.ports := rfl
@[simp] theorem modQueue_dict (s : State) (k : Nat) (f : List QEntry → List QEntry) : (s.modQueue k f).dict = s.dict := rfl
@[simp] theorem modQueue_tenants (s : State) (k : Nat) (f : List QEntry → List QEntry) : (s.modQueue k f).tenants = s.tenants := rfl
@[simp] theorem modQueue_trust (s : State) (k : Nat) (f : List QEntry → List QEntry) : (s.modQueue k f).trust = s.trust := rfl
@[simp] theorem modQueue_power (s : State) (k : Nat) (f : List QEntry → List QEntry) : (s.modQueue k f).power = s.power := rfl
@[simp] theorem modQueue_faults (s : State) (k : Nat) (f : List QEntry → List QEntry) : (s.modQueue k f).faults = s.faults := rfl
@[simp] theorem modQueue_mirror (s : State) (k : Nat) (f : List QEntry → List QEntry) : (s.modQueue k f).mirror = s.mirror := rfl
@[simp] theorem modQueue_pins (s : State) (k : Nat) (f : List QEntry → List QEntry) : (s.modQueue k f).pins = s.pins := rfl
@[simp] theorem modQueue_clk (s : State) (k : Nat) (f : List QEntry → List QEntry) : (s.modQueue k f).clk = s.clk := rfl
@[simp] theorem modQueue_held (s : State) (k : Nat) (f : List QEntry → List QEntry) : (s.modQueue k f).held = s.held := rfl
@[simp] theorem modQueue_pending (s : State) (k : Nat) (f : List QEntry → List QEntry) : (s.modQueue k f).pending = s.pending := rfl
@[simp] theorem served_modServed_ne (s : State) (k j : Nat) (f : Nat → Nat) (h : j ≠ k) : (s.modServed k f).served j = s.served j :=
  mget_mset_ne h _ _
@[simp] theorem served_modServed_self (s : State) (k : Nat) (f : Nat → Nat) : (s.modServed k f).served k = f (s.served k) :=
  mget_mset_self _ _ _
@[simp] theorem modServed_ident (s : State) (k : Nat) (f : Nat → Nat) : (s.modServed k f).ident = s.ident := rfl
@[simp] theorem modServed_vault (s : State) (k : Nat) (f : Nat → Nat) : (s.modServed k f).vault = s.vault := rfl
@[simp] theorem modServed_fabric (s : State) (k : Nat) (f : Nat → Nat) : (s.modServed k f).fabric = s.fabric := rfl
@[simp] theorem modServed_vec (s : State) (k : Nat) (f : Nat → Nat) : (s.modServed k f).vec = s.vec := rfl
@[simp] theorem modServed_mem (s : State) (k : Nat) (f : Nat → Nat) : (s.modServed k f).mem = s.mem := rfl
@[simp] theorem modServed_kv (s : State) (k : Nat) (f : Nat → Nat) : (s.modServed k f).kv = s.kv := rfl
@[simp] theorem modServed_exp (s : State) (k : Nat) (f : Nat → Nat) : (s.modServed k f).exp = s.exp := rfl
@[simp] theorem modServed_ops (s : State) (k : Nat) (f : Nat → Nat) : (s.modServed k f).ops = s.ops := rfl
@[simp] theorem modServed_tiers (s : State) (k : Nat) (f : Nat → Nat) : (s.modServed k f).tiers = s.tiers := rfl
@[simp] theorem modServed_streams (s : State) (k : Nat) (f : Nat → Nat) : (s.modServed k f).streams = s.streams := rfl
@[simp] theorem modServed_dram (s : State) (k : Nat) (f : Nat → Nat) : (s.modServed k f).dram = s.dram := rfl
@[simp] theorem modServed_models (s : State) (k : Nat) (f : Nat → Nat) : (s.modServed k f).models = s.models := rfl
@[simp] theorem modServed_ctl (s : State) (k : Nat) (f : Nat → Nat) : (s.modServed k f).ctl = s.ctl := rfl
@[simp] theorem modServed_ports (s : State) (k : Nat) (f : Nat → Nat) : (s.modServed k f).ports = s.ports := rfl
@[simp] theorem modServed_dict (s : State) (k : Nat) (f : Nat → Nat) : (s.modServed k f).dict = s.dict := rfl
@[simp] theorem modServed_tenants (s : State) (k : Nat) (f : Nat → Nat) : (s.modServed k f).tenants = s.tenants := rfl
@[simp] theorem modServed_trust (s : State) (k : Nat) (f : Nat → Nat) : (s.modServed k f).trust = s.trust := rfl
@[simp] theorem modServed_power (s : State) (k : Nat) (f : Nat → Nat) : (s.modServed k f).power = s.power := rfl
@[simp] theorem modServed_faults (s : State) (k : Nat) (f : Nat → Nat) : (s.modServed k f).faults = s.faults := rfl
@[simp] theorem modServed_mirror (s : State) (k : Nat) (f : Nat → Nat) : (s.modServed k f).mirror = s.mirror := rfl
@[simp] theorem modServed_pins (s : State) (k : Nat) (f : Nat → Nat) : (s.modServed k f).pins = s.pins := rfl
@[simp] theorem modServed_clk (s : State) (k : Nat) (f : Nat → Nat) : (s.modServed k f).clk = s.clk := rfl
@[simp] theorem modServed_held (s : State) (k : Nat) (f : Nat → Nat) : (s.modServed k f).held = s.held := rfl
@[simp] theorem modServed_pending (s : State) (k : Nat) (f : Nat → Nat) : (s.modServed k f).pending = s.pending := rfl
@[simp] theorem completions_modCompletions_ne (s : State) (k j : Nat) (f : List Nat → List Nat) (h : j ≠ k) : (s.modCompletions k f).completions j = s.completions j :=
  mget_mset_ne h _ _
@[simp] theorem completions_modCompletions_self (s : State) (k : Nat) (f : List Nat → List Nat) : (s.modCompletions k f).completions k = f (s.completions k) :=
  mget_mset_self _ _ _
@[simp] theorem modCompletions_ident (s : State) (k : Nat) (f : List Nat → List Nat) : (s.modCompletions k f).ident = s.ident := rfl
@[simp] theorem modCompletions_vault (s : State) (k : Nat) (f : List Nat → List Nat) : (s.modCompletions k f).vault = s.vault := rfl
@[simp] theorem modCompletions_fabric (s : State) (k : Nat) (f : List Nat → List Nat) : (s.modCompletions k f).fabric = s.fabric := rfl
@[simp] theorem modCompletions_vec (s : State) (k : Nat) (f : List Nat → List Nat) : (s.modCompletions k f).vec = s.vec := rfl
@[simp] theorem modCompletions_mem (s : State) (k : Nat) (f : List Nat → List Nat) : (s.modCompletions k f).mem = s.mem := rfl
@[simp] theorem modCompletions_kv (s : State) (k : Nat) (f : List Nat → List Nat) : (s.modCompletions k f).kv = s.kv := rfl
@[simp] theorem modCompletions_exp (s : State) (k : Nat) (f : List Nat → List Nat) : (s.modCompletions k f).exp = s.exp := rfl
@[simp] theorem modCompletions_ops (s : State) (k : Nat) (f : List Nat → List Nat) : (s.modCompletions k f).ops = s.ops := rfl
@[simp] theorem modCompletions_tiers (s : State) (k : Nat) (f : List Nat → List Nat) : (s.modCompletions k f).tiers = s.tiers := rfl
@[simp] theorem modCompletions_streams (s : State) (k : Nat) (f : List Nat → List Nat) : (s.modCompletions k f).streams = s.streams := rfl
@[simp] theorem modCompletions_dram (s : State) (k : Nat) (f : List Nat → List Nat) : (s.modCompletions k f).dram = s.dram := rfl
@[simp] theorem modCompletions_models (s : State) (k : Nat) (f : List Nat → List Nat) : (s.modCompletions k f).models = s.models := rfl
@[simp] theorem modCompletions_ctl (s : State) (k : Nat) (f : List Nat → List Nat) : (s.modCompletions k f).ctl = s.ctl := rfl
@[simp] theorem modCompletions_ports (s : State) (k : Nat) (f : List Nat → List Nat) : (s.modCompletions k f).ports = s.ports := rfl
@[simp] theorem modCompletions_dict (s : State) (k : Nat) (f : List Nat → List Nat) : (s.modCompletions k f).dict = s.dict := rfl
@[simp] theorem modCompletions_tenants (s : State) (k : Nat) (f : List Nat → List Nat) : (s.modCompletions k f).tenants = s.tenants := rfl
@[simp] theorem modCompletions_trust (s : State) (k : Nat) (f : List Nat → List Nat) : (s.modCompletions k f).trust = s.trust := rfl
@[simp] theorem modCompletions_power (s : State) (k : Nat) (f : List Nat → List Nat) : (s.modCompletions k f).power = s.power := rfl
@[simp] theorem modCompletions_faults (s : State) (k : Nat) (f : List Nat → List Nat) : (s.modCompletions k f).faults = s.faults := rfl
@[simp] theorem modCompletions_mirror (s : State) (k : Nat) (f : List Nat → List Nat) : (s.modCompletions k f).mirror = s.mirror := rfl
@[simp] theorem modCompletions_pins (s : State) (k : Nat) (f : List Nat → List Nat) : (s.modCompletions k f).pins = s.pins := rfl
@[simp] theorem modCompletions_clk (s : State) (k : Nat) (f : List Nat → List Nat) : (s.modCompletions k f).clk = s.clk := rfl
@[simp] theorem modCompletions_held (s : State) (k : Nat) (f : List Nat → List Nat) : (s.modCompletions k f).held = s.held := rfl
@[simp] theorem modCompletions_pending (s : State) (k : Nat) (f : List Nat → List Nat) : (s.modCompletions k f).pending = s.pending := rfl
@[simp] theorem core_modCore_ne (s : State) (k j : Nat) (f : Core → Core) (h : j ≠ k) : (s.modCore k f).core j = s.core j :=
  mget_mset_ne h _ _
@[simp] theorem core_modCore_self (s : State) (k : Nat) (f : Core → Core) : (s.modCore k f).core k = f (s.core k) :=
  mget_mset_self _ _ _
@[simp] theorem modCore_ident (s : State) (k : Nat) (f : Core → Core) : (s.modCore k f).ident = s.ident := rfl
@[simp] theorem modCore_vault (s : State) (k : Nat) (f : Core → Core) : (s.modCore k f).vault = s.vault := rfl
@[simp] theorem modCore_fabric (s : State) (k : Nat) (f : Core → Core) : (s.modCore k f).fabric = s.fabric := rfl
@[simp] theorem modCore_vec (s : State) (k : Nat) (f : Core → Core) : (s.modCore k f).vec = s.vec := rfl
@[simp] theorem modCore_mem (s : State) (k : Nat) (f : Core → Core) : (s.modCore k f).mem = s.mem := rfl
@[simp] theorem modCore_kv (s : State) (k : Nat) (f : Core → Core) : (s.modCore k f).kv = s.kv := rfl
@[simp] theorem modCore_exp (s : State) (k : Nat) (f : Core → Core) : (s.modCore k f).exp = s.exp := rfl
@[simp] theorem modCore_ops (s : State) (k : Nat) (f : Core → Core) : (s.modCore k f).ops = s.ops := rfl
@[simp] theorem modCore_tiers (s : State) (k : Nat) (f : Core → Core) : (s.modCore k f).tiers = s.tiers := rfl
@[simp] theorem modCore_streams (s : State) (k : Nat) (f : Core → Core) : (s.modCore k f).streams = s.streams := rfl
@[simp] theorem modCore_dram (s : State) (k : Nat) (f : Core → Core) : (s.modCore k f).dram = s.dram := rfl
@[simp] theorem modCore_models (s : State) (k : Nat) (f : Core → Core) : (s.modCore k f).models = s.models := rfl
@[simp] theorem modCore_svc (s : State) (k : Nat) (f : Core → Core) : (s.modCore k f).svc = s.svc := rfl
@[simp] theorem modCore_ports (s : State) (k : Nat) (f : Core → Core) : (s.modCore k f).ports = s.ports := rfl
@[simp] theorem modCore_dict (s : State) (k : Nat) (f : Core → Core) : (s.modCore k f).dict = s.dict := rfl
@[simp] theorem modCore_tenants (s : State) (k : Nat) (f : Core → Core) : (s.modCore k f).tenants = s.tenants := rfl
@[simp] theorem modCore_trust (s : State) (k : Nat) (f : Core → Core) : (s.modCore k f).trust = s.trust := rfl
@[simp] theorem modCore_power (s : State) (k : Nat) (f : Core → Core) : (s.modCore k f).power = s.power := rfl
@[simp] theorem modCore_faults (s : State) (k : Nat) (f : Core → Core) : (s.modCore k f).faults = s.faults := rfl
@[simp] theorem modCore_mirror (s : State) (k : Nat) (f : Core → Core) : (s.modCore k f).mirror = s.mirror := rfl
@[simp] theorem modCore_pins (s : State) (k : Nat) (f : Core → Core) : (s.modCore k f).pins = s.pins := rfl
@[simp] theorem modCore_clk (s : State) (k : Nat) (f : Core → Core) : (s.modCore k f).clk = s.clk := rfl
@[simp] theorem modCore_held (s : State) (k : Nat) (f : Core → Core) : (s.modCore k f).held = s.held := rfl
@[simp] theorem modCore_pending (s : State) (k : Nat) (f : Core → Core) : (s.modCore k f).pending = s.pending := rfl
@[simp] theorem fwSlot_modFwSlot_ne (s : State) (k j : Nat) (f : FwImage → FwImage) (h : j ≠ k) : (s.modFwSlot k f).fwSlot j = s.fwSlot j :=
  mget_mset_ne h _ _
@[simp] theorem fwSlot_modFwSlot_self (s : State) (k : Nat) (f : FwImage → FwImage) : (s.modFwSlot k f).fwSlot k = f (s.fwSlot k) :=
  mget_mset_self _ _ _
@[simp] theorem modFwSlot_ident (s : State) (k : Nat) (f : FwImage → FwImage) : (s.modFwSlot k f).ident = s.ident := rfl
@[simp] theorem modFwSlot_vault (s : State) (k : Nat) (f : FwImage → FwImage) : (s.modFwSlot k f).vault = s.vault := rfl
@[simp] theorem modFwSlot_fabric (s : State) (k : Nat) (f : FwImage → FwImage) : (s.modFwSlot k f).fabric = s.fabric := rfl
@[simp] theorem modFwSlot_vec (s : State) (k : Nat) (f : FwImage → FwImage) : (s.modFwSlot k f).vec = s.vec := rfl
@[simp] theorem modFwSlot_mem (s : State) (k : Nat) (f : FwImage → FwImage) : (s.modFwSlot k f).mem = s.mem := rfl
@[simp] theorem modFwSlot_kv (s : State) (k : Nat) (f : FwImage → FwImage) : (s.modFwSlot k f).kv = s.kv := rfl
@[simp] theorem modFwSlot_exp (s : State) (k : Nat) (f : FwImage → FwImage) : (s.modFwSlot k f).exp = s.exp := rfl
@[simp] theorem modFwSlot_ops (s : State) (k : Nat) (f : FwImage → FwImage) : (s.modFwSlot k f).ops = s.ops := rfl
@[simp] theorem modFwSlot_tiers (s : State) (k : Nat) (f : FwImage → FwImage) : (s.modFwSlot k f).tiers = s.tiers := rfl
@[simp] theorem modFwSlot_streams (s : State) (k : Nat) (f : FwImage → FwImage) : (s.modFwSlot k f).streams = s.streams := rfl
@[simp] theorem modFwSlot_dram (s : State) (k : Nat) (f : FwImage → FwImage) : (s.modFwSlot k f).dram = s.dram := rfl
@[simp] theorem modFwSlot_models (s : State) (k : Nat) (f : FwImage → FwImage) : (s.modFwSlot k f).models = s.models := rfl
@[simp] theorem modFwSlot_svc (s : State) (k : Nat) (f : FwImage → FwImage) : (s.modFwSlot k f).svc = s.svc := rfl
@[simp] theorem modFwSlot_ports (s : State) (k : Nat) (f : FwImage → FwImage) : (s.modFwSlot k f).ports = s.ports := rfl
@[simp] theorem modFwSlot_dict (s : State) (k : Nat) (f : FwImage → FwImage) : (s.modFwSlot k f).dict = s.dict := rfl
@[simp] theorem modFwSlot_tenants (s : State) (k : Nat) (f : FwImage → FwImage) : (s.modFwSlot k f).tenants = s.tenants := rfl
@[simp] theorem modFwSlot_trust (s : State) (k : Nat) (f : FwImage → FwImage) : (s.modFwSlot k f).trust = s.trust := rfl
@[simp] theorem modFwSlot_power (s : State) (k : Nat) (f : FwImage → FwImage) : (s.modFwSlot k f).power = s.power := rfl
@[simp] theorem modFwSlot_faults (s : State) (k : Nat) (f : FwImage → FwImage) : (s.modFwSlot k f).faults = s.faults := rfl
@[simp] theorem modFwSlot_mirror (s : State) (k : Nat) (f : FwImage → FwImage) : (s.modFwSlot k f).mirror = s.mirror := rfl
@[simp] theorem modFwSlot_pins (s : State) (k : Nat) (f : FwImage → FwImage) : (s.modFwSlot k f).pins = s.pins := rfl
@[simp] theorem modFwSlot_clk (s : State) (k : Nat) (f : FwImage → FwImage) : (s.modFwSlot k f).clk = s.clk := rfl
@[simp] theorem modFwSlot_held (s : State) (k : Nat) (f : FwImage → FwImage) : (s.modFwSlot k f).held = s.held := rfl
@[simp] theorem modFwSlot_pending (s : State) (k : Nat) (f : FwImage → FwImage) : (s.modFwSlot k f).pending = s.pending := rfl
@[simp] theorem policy_modPolicy_ne (s : State) (k j : Nat) (f : Nat → Nat) (h : j ≠ k) : (s.modPolicy k f).policy j = s.policy j :=
  mget_mset_ne h _ _
@[simp] theorem policy_modPolicy_self (s : State) (k : Nat) (f : Nat → Nat) : (s.modPolicy k f).policy k = f (s.policy k) :=
  mget_mset_self _ _ _
@[simp] theorem modPolicy_ident (s : State) (k : Nat) (f : Nat → Nat) : (s.modPolicy k f).ident = s.ident := rfl
@[simp] theorem modPolicy_vault (s : State) (k : Nat) (f : Nat → Nat) : (s.modPolicy k f).vault = s.vault := rfl
@[simp] theorem modPolicy_fabric (s : State) (k : Nat) (f : Nat → Nat) : (s.modPolicy k f).fabric = s.fabric := rfl
@[simp] theorem modPolicy_vec (s : State) (k : Nat) (f : Nat → Nat) : (s.modPolicy k f).vec = s.vec := rfl
@[simp] theorem modPolicy_mem (s : State) (k : Nat) (f : Nat → Nat) : (s.modPolicy k f).mem = s.mem := rfl
@[simp] theorem modPolicy_kv (s : State) (k : Nat) (f : Nat → Nat) : (s.modPolicy k f).kv = s.kv := rfl
@[simp] theorem modPolicy_exp (s : State) (k : Nat) (f : Nat → Nat) : (s.modPolicy k f).exp = s.exp := rfl
@[simp] theorem modPolicy_ops (s : State) (k : Nat) (f : Nat → Nat) : (s.modPolicy k f).ops = s.ops := rfl
@[simp] theorem modPolicy_tiers (s : State) (k : Nat) (f : Nat → Nat) : (s.modPolicy k f).tiers = s.tiers := rfl
@[simp] theorem modPolicy_streams (s : State) (k : Nat) (f : Nat → Nat) : (s.modPolicy k f).streams = s.streams := rfl
@[simp] theorem modPolicy_dram (s : State) (k : Nat) (f : Nat → Nat) : (s.modPolicy k f).dram = s.dram := rfl
@[simp] theorem modPolicy_models (s : State) (k : Nat) (f : Nat → Nat) : (s.modPolicy k f).models = s.models := rfl
@[simp] theorem modPolicy_svc (s : State) (k : Nat) (f : Nat → Nat) : (s.modPolicy k f).svc = s.svc := rfl
@[simp] theorem modPolicy_ports (s : State) (k : Nat) (f : Nat → Nat) : (s.modPolicy k f).ports = s.ports := rfl
@[simp] theorem modPolicy_dict (s : State) (k : Nat) (f : Nat → Nat) : (s.modPolicy k f).dict = s.dict := rfl
@[simp] theorem modPolicy_tenants (s : State) (k : Nat) (f : Nat → Nat) : (s.modPolicy k f).tenants = s.tenants := rfl
@[simp] theorem modPolicy_trust (s : State) (k : Nat) (f : Nat → Nat) : (s.modPolicy k f).trust = s.trust := rfl
@[simp] theorem modPolicy_power (s : State) (k : Nat) (f : Nat → Nat) : (s.modPolicy k f).power = s.power := rfl
@[simp] theorem modPolicy_faults (s : State) (k : Nat) (f : Nat → Nat) : (s.modPolicy k f).faults = s.faults := rfl
@[simp] theorem modPolicy_mirror (s : State) (k : Nat) (f : Nat → Nat) : (s.modPolicy k f).mirror = s.mirror := rfl
@[simp] theorem modPolicy_pins (s : State) (k : Nat) (f : Nat → Nat) : (s.modPolicy k f).pins = s.pins := rfl
@[simp] theorem modPolicy_clk (s : State) (k : Nat) (f : Nat → Nat) : (s.modPolicy k f).clk = s.clk := rfl
@[simp] theorem modPolicy_held (s : State) (k : Nat) (f : Nat → Nat) : (s.modPolicy k f).held = s.held := rfl
@[simp] theorem modPolicy_pending (s : State) (k : Nat) (f : Nat → Nat) : (s.modPolicy k f).pending = s.pending := rfl
@[simp] theorem port_modPort_ne (s : State) (k j : Nat) (f : Port → Port) (h : j ≠ k) : (s.modPort k f).port j = s.port j :=
  mget_mset_ne h _ _
@[simp] theorem port_modPort_self (s : State) (k : Nat) (f : Port → Port) : (s.modPort k f).port k = f (s.port k) :=
  mget_mset_self _ _ _
@[simp] theorem modPort_ident (s : State) (k : Nat) (f : Port → Port) : (s.modPort k f).ident = s.ident := rfl
@[simp] theorem modPort_vault (s : State) (k : Nat) (f : Port → Port) : (s.modPort k f).vault = s.vault := rfl
@[simp] theorem modPort_fabric (s : State) (k : Nat) (f : Port → Port) : (s.modPort k f).fabric = s.fabric := rfl
@[simp] theorem modPort_vec (s : State) (k : Nat) (f : Port → Port) : (s.modPort k f).vec = s.vec := rfl
@[simp] theorem modPort_mem (s : State) (k : Nat) (f : Port → Port) : (s.modPort k f).mem = s.mem := rfl
@[simp] theorem modPort_kv (s : State) (k : Nat) (f : Port → Port) : (s.modPort k f).kv = s.kv := rfl
@[simp] theorem modPort_exp (s : State) (k : Nat) (f : Port → Port) : (s.modPort k f).exp = s.exp := rfl
@[simp] theorem modPort_ops (s : State) (k : Nat) (f : Port → Port) : (s.modPort k f).ops = s.ops := rfl
@[simp] theorem modPort_tiers (s : State) (k : Nat) (f : Port → Port) : (s.modPort k f).tiers = s.tiers := rfl
@[simp] theorem modPort_streams (s : State) (k : Nat) (f : Port → Port) : (s.modPort k f).streams = s.streams := rfl
@[simp] theorem modPort_dram (s : State) (k : Nat) (f : Port → Port) : (s.modPort k f).dram = s.dram := rfl
@[simp] theorem modPort_models (s : State) (k : Nat) (f : Port → Port) : (s.modPort k f).models = s.models := rfl
@[simp] theorem modPort_svc (s : State) (k : Nat) (f : Port → Port) : (s.modPort k f).svc = s.svc := rfl
@[simp] theorem modPort_ctl (s : State) (k : Nat) (f : Port → Port) : (s.modPort k f).ctl = s.ctl := rfl
@[simp] theorem modPort_dict (s : State) (k : Nat) (f : Port → Port) : (s.modPort k f).dict = s.dict := rfl
@[simp] theorem modPort_tenants (s : State) (k : Nat) (f : Port → Port) : (s.modPort k f).tenants = s.tenants := rfl
@[simp] theorem modPort_trust (s : State) (k : Nat) (f : Port → Port) : (s.modPort k f).trust = s.trust := rfl
@[simp] theorem modPort_power (s : State) (k : Nat) (f : Port → Port) : (s.modPort k f).power = s.power := rfl
@[simp] theorem modPort_faults (s : State) (k : Nat) (f : Port → Port) : (s.modPort k f).faults = s.faults := rfl
@[simp] theorem modPort_mirror (s : State) (k : Nat) (f : Port → Port) : (s.modPort k f).mirror = s.mirror := rfl
@[simp] theorem modPort_pins (s : State) (k : Nat) (f : Port → Port) : (s.modPort k f).pins = s.pins := rfl
@[simp] theorem modPort_clk (s : State) (k : Nat) (f : Port → Port) : (s.modPort k f).clk = s.clk := rfl
@[simp] theorem modPort_held (s : State) (k : Nat) (f : Port → Port) : (s.modPort k f).held = s.held := rfl
@[simp] theorem modPort_pending (s : State) (k : Nat) (f : Port → Port) : (s.modPort k f).pending = s.pending := rfl
@[simp] theorem result_modResult_ne (s : State) (k j : Nat) (f : CmdRes → CmdRes) (h : j ≠ k) : (s.modResult k f).result j = s.result j :=
  mget_mset_ne h _ _
@[simp] theorem result_modResult_self (s : State) (k : Nat) (f : CmdRes → CmdRes) : (s.modResult k f).result k = f (s.result k) :=
  mget_mset_self _ _ _
@[simp] theorem modResult_ident (s : State) (k : Nat) (f : CmdRes → CmdRes) : (s.modResult k f).ident = s.ident := rfl
@[simp] theorem modResult_vault (s : State) (k : Nat) (f : CmdRes → CmdRes) : (s.modResult k f).vault = s.vault := rfl
@[simp] theorem modResult_fabric (s : State) (k : Nat) (f : CmdRes → CmdRes) : (s.modResult k f).fabric = s.fabric := rfl
@[simp] theorem modResult_vec (s : State) (k : Nat) (f : CmdRes → CmdRes) : (s.modResult k f).vec = s.vec := rfl
@[simp] theorem modResult_mem (s : State) (k : Nat) (f : CmdRes → CmdRes) : (s.modResult k f).mem = s.mem := rfl
@[simp] theorem modResult_kv (s : State) (k : Nat) (f : CmdRes → CmdRes) : (s.modResult k f).kv = s.kv := rfl
@[simp] theorem modResult_exp (s : State) (k : Nat) (f : CmdRes → CmdRes) : (s.modResult k f).exp = s.exp := rfl
@[simp] theorem modResult_ops (s : State) (k : Nat) (f : CmdRes → CmdRes) : (s.modResult k f).ops = s.ops := rfl
@[simp] theorem modResult_tiers (s : State) (k : Nat) (f : CmdRes → CmdRes) : (s.modResult k f).tiers = s.tiers := rfl
@[simp] theorem modResult_streams (s : State) (k : Nat) (f : CmdRes → CmdRes) : (s.modResult k f).streams = s.streams := rfl
@[simp] theorem modResult_dram (s : State) (k : Nat) (f : CmdRes → CmdRes) : (s.modResult k f).dram = s.dram := rfl
@[simp] theorem modResult_models (s : State) (k : Nat) (f : CmdRes → CmdRes) : (s.modResult k f).models = s.models := rfl
@[simp] theorem modResult_svc (s : State) (k : Nat) (f : CmdRes → CmdRes) : (s.modResult k f).svc = s.svc := rfl
@[simp] theorem modResult_ctl (s : State) (k : Nat) (f : CmdRes → CmdRes) : (s.modResult k f).ctl = s.ctl := rfl
@[simp] theorem modResult_ports (s : State) (k : Nat) (f : CmdRes → CmdRes) : (s.modResult k f).ports = s.ports := rfl
@[simp] theorem modResult_tenants (s : State) (k : Nat) (f : CmdRes → CmdRes) : (s.modResult k f).tenants = s.tenants := rfl
@[simp] theorem modResult_trust (s : State) (k : Nat) (f : CmdRes → CmdRes) : (s.modResult k f).trust = s.trust := rfl
@[simp] theorem modResult_power (s : State) (k : Nat) (f : CmdRes → CmdRes) : (s.modResult k f).power = s.power := rfl
@[simp] theorem modResult_faults (s : State) (k : Nat) (f : CmdRes → CmdRes) : (s.modResult k f).faults = s.faults := rfl
@[simp] theorem modResult_mirror (s : State) (k : Nat) (f : CmdRes → CmdRes) : (s.modResult k f).mirror = s.mirror := rfl
@[simp] theorem modResult_pins (s : State) (k : Nat) (f : CmdRes → CmdRes) : (s.modResult k f).pins = s.pins := rfl
@[simp] theorem modResult_clk (s : State) (k : Nat) (f : CmdRes → CmdRes) : (s.modResult k f).clk = s.clk := rfl
@[simp] theorem modResult_held (s : State) (k : Nat) (f : CmdRes → CmdRes) : (s.modResult k f).held = s.held := rfl
@[simp] theorem modResult_pending (s : State) (k : Nat) (f : CmdRes → CmdRes) : (s.modResult k f).pending = s.pending := rfl
@[simp] theorem tenState_modTenState_ne (s : State) (k j : Nat) (f : TenState → TenState) (h : j ≠ k) : (s.modTenState k f).tenState j = s.tenState j :=
  mget_mset_ne h _ _
@[simp] theorem tenState_modTenState_self (s : State) (k : Nat) (f : TenState → TenState) : (s.modTenState k f).tenState k = f (s.tenState k) :=
  mget_mset_self _ _ _
@[simp] theorem modTenState_ident (s : State) (k : Nat) (f : TenState → TenState) : (s.modTenState k f).ident = s.ident := rfl
@[simp] theorem modTenState_vault (s : State) (k : Nat) (f : TenState → TenState) : (s.modTenState k f).vault = s.vault := rfl
@[simp] theorem modTenState_fabric (s : State) (k : Nat) (f : TenState → TenState) : (s.modTenState k f).fabric = s.fabric := rfl
@[simp] theorem modTenState_vec (s : State) (k : Nat) (f : TenState → TenState) : (s.modTenState k f).vec = s.vec := rfl
@[simp] theorem modTenState_mem (s : State) (k : Nat) (f : TenState → TenState) : (s.modTenState k f).mem = s.mem := rfl
@[simp] theorem modTenState_kv (s : State) (k : Nat) (f : TenState → TenState) : (s.modTenState k f).kv = s.kv := rfl
@[simp] theorem modTenState_exp (s : State) (k : Nat) (f : TenState → TenState) : (s.modTenState k f).exp = s.exp := rfl
@[simp] theorem modTenState_ops (s : State) (k : Nat) (f : TenState → TenState) : (s.modTenState k f).ops = s.ops := rfl
@[simp] theorem modTenState_tiers (s : State) (k : Nat) (f : TenState → TenState) : (s.modTenState k f).tiers = s.tiers := rfl
@[simp] theorem modTenState_streams (s : State) (k : Nat) (f : TenState → TenState) : (s.modTenState k f).streams = s.streams := rfl
@[simp] theorem modTenState_dram (s : State) (k : Nat) (f : TenState → TenState) : (s.modTenState k f).dram = s.dram := rfl
@[simp] theorem modTenState_models (s : State) (k : Nat) (f : TenState → TenState) : (s.modTenState k f).models = s.models := rfl
@[simp] theorem modTenState_svc (s : State) (k : Nat) (f : TenState → TenState) : (s.modTenState k f).svc = s.svc := rfl
@[simp] theorem modTenState_ctl (s : State) (k : Nat) (f : TenState → TenState) : (s.modTenState k f).ctl = s.ctl := rfl
@[simp] theorem modTenState_ports (s : State) (k : Nat) (f : TenState → TenState) : (s.modTenState k f).ports = s.ports := rfl
@[simp] theorem modTenState_dict (s : State) (k : Nat) (f : TenState → TenState) : (s.modTenState k f).dict = s.dict := rfl
@[simp] theorem modTenState_trust (s : State) (k : Nat) (f : TenState → TenState) : (s.modTenState k f).trust = s.trust := rfl
@[simp] theorem modTenState_power (s : State) (k : Nat) (f : TenState → TenState) : (s.modTenState k f).power = s.power := rfl
@[simp] theorem modTenState_faults (s : State) (k : Nat) (f : TenState → TenState) : (s.modTenState k f).faults = s.faults := rfl
@[simp] theorem modTenState_mirror (s : State) (k : Nat) (f : TenState → TenState) : (s.modTenState k f).mirror = s.mirror := rfl
@[simp] theorem modTenState_pins (s : State) (k : Nat) (f : TenState → TenState) : (s.modTenState k f).pins = s.pins := rfl
@[simp] theorem modTenState_clk (s : State) (k : Nat) (f : TenState → TenState) : (s.modTenState k f).clk = s.clk := rfl
@[simp] theorem modTenState_held (s : State) (k : Nat) (f : TenState → TenState) : (s.modTenState k f).held = s.held := rfl
@[simp] theorem modTenState_pending (s : State) (k : Nat) (f : TenState → TenState) : (s.modTenState k f).pending = s.pending := rfl
@[simp] theorem removal_modRemoval_ne (s : State) (k j : Nat) (f : Option Removal → Option Removal) (h : j ≠ k) : (s.modRemoval k f).removal j = s.removal j :=
  mget_mset_ne h _ _
@[simp] theorem removal_modRemoval_self (s : State) (k : Nat) (f : Option Removal → Option Removal) : (s.modRemoval k f).removal k = f (s.removal k) :=
  mget_mset_self _ _ _
@[simp] theorem modRemoval_ident (s : State) (k : Nat) (f : Option Removal → Option Removal) : (s.modRemoval k f).ident = s.ident := rfl
@[simp] theorem modRemoval_vault (s : State) (k : Nat) (f : Option Removal → Option Removal) : (s.modRemoval k f).vault = s.vault := rfl
@[simp] theorem modRemoval_fabric (s : State) (k : Nat) (f : Option Removal → Option Removal) : (s.modRemoval k f).fabric = s.fabric := rfl
@[simp] theorem modRemoval_vec (s : State) (k : Nat) (f : Option Removal → Option Removal) : (s.modRemoval k f).vec = s.vec := rfl
@[simp] theorem modRemoval_mem (s : State) (k : Nat) (f : Option Removal → Option Removal) : (s.modRemoval k f).mem = s.mem := rfl
@[simp] theorem modRemoval_kv (s : State) (k : Nat) (f : Option Removal → Option Removal) : (s.modRemoval k f).kv = s.kv := rfl
@[simp] theorem modRemoval_exp (s : State) (k : Nat) (f : Option Removal → Option Removal) : (s.modRemoval k f).exp = s.exp := rfl
@[simp] theorem modRemoval_ops (s : State) (k : Nat) (f : Option Removal → Option Removal) : (s.modRemoval k f).ops = s.ops := rfl
@[simp] theorem modRemoval_tiers (s : State) (k : Nat) (f : Option Removal → Option Removal) : (s.modRemoval k f).tiers = s.tiers := rfl
@[simp] theorem modRemoval_streams (s : State) (k : Nat) (f : Option Removal → Option Removal) : (s.modRemoval k f).streams = s.streams := rfl
@[simp] theorem modRemoval_dram (s : State) (k : Nat) (f : Option Removal → Option Removal) : (s.modRemoval k f).dram = s.dram := rfl
@[simp] theorem modRemoval_models (s : State) (k : Nat) (f : Option Removal → Option Removal) : (s.modRemoval k f).models = s.models := rfl
@[simp] theorem modRemoval_svc (s : State) (k : Nat) (f : Option Removal → Option Removal) : (s.modRemoval k f).svc = s.svc := rfl
@[simp] theorem modRemoval_ctl (s : State) (k : Nat) (f : Option Removal → Option Removal) : (s.modRemoval k f).ctl = s.ctl := rfl
@[simp] theorem modRemoval_ports (s : State) (k : Nat) (f : Option Removal → Option Removal) : (s.modRemoval k f).ports = s.ports := rfl
@[simp] theorem modRemoval_dict (s : State) (k : Nat) (f : Option Removal → Option Removal) : (s.modRemoval k f).dict = s.dict := rfl
@[simp] theorem modRemoval_trust (s : State) (k : Nat) (f : Option Removal → Option Removal) : (s.modRemoval k f).trust = s.trust := rfl
@[simp] theorem modRemoval_power (s : State) (k : Nat) (f : Option Removal → Option Removal) : (s.modRemoval k f).power = s.power := rfl
@[simp] theorem modRemoval_faults (s : State) (k : Nat) (f : Option Removal → Option Removal) : (s.modRemoval k f).faults = s.faults := rfl
@[simp] theorem modRemoval_mirror (s : State) (k : Nat) (f : Option Removal → Option Removal) : (s.modRemoval k f).mirror = s.mirror := rfl
@[simp] theorem modRemoval_pins (s : State) (k : Nat) (f : Option Removal → Option Removal) : (s.modRemoval k f).pins = s.pins := rfl
@[simp] theorem modRemoval_clk (s : State) (k : Nat) (f : Option Removal → Option Removal) : (s.modRemoval k f).clk = s.clk := rfl
@[simp] theorem modRemoval_held (s : State) (k : Nat) (f : Option Removal → Option Removal) : (s.modRemoval k f).held = s.held := rfl
@[simp] theorem modRemoval_pending (s : State) (k : Nat) (f : Option Removal → Option Removal) : (s.modRemoval k f).pending = s.pending := rfl
@[simp] theorem receipt_modReceipt_ne (s : State) (k j : Nat) (f : Receipt → Receipt) (h : j ≠ k) : (s.modReceipt k f).receipt j = s.receipt j :=
  mget_mset_ne h _ _
@[simp] theorem receipt_modReceipt_self (s : State) (k : Nat) (f : Receipt → Receipt) : (s.modReceipt k f).receipt k = f (s.receipt k) :=
  mget_mset_self _ _ _
@[simp] theorem modReceipt_ident (s : State) (k : Nat) (f : Receipt → Receipt) : (s.modReceipt k f).ident = s.ident := rfl
@[simp] theorem modReceipt_vault (s : State) (k : Nat) (f : Receipt → Receipt) : (s.modReceipt k f).vault = s.vault := rfl
@[simp] theorem modReceipt_fabric (s : State) (k : Nat) (f : Receipt → Receipt) : (s.modReceipt k f).fabric = s.fabric := rfl
@[simp] theorem modReceipt_vec (s : State) (k : Nat) (f : Receipt → Receipt) : (s.modReceipt k f).vec = s.vec := rfl
@[simp] theorem modReceipt_mem (s : State) (k : Nat) (f : Receipt → Receipt) : (s.modReceipt k f).mem = s.mem := rfl
@[simp] theorem modReceipt_kv (s : State) (k : Nat) (f : Receipt → Receipt) : (s.modReceipt k f).kv = s.kv := rfl
@[simp] theorem modReceipt_exp (s : State) (k : Nat) (f : Receipt → Receipt) : (s.modReceipt k f).exp = s.exp := rfl
@[simp] theorem modReceipt_ops (s : State) (k : Nat) (f : Receipt → Receipt) : (s.modReceipt k f).ops = s.ops := rfl
@[simp] theorem modReceipt_tiers (s : State) (k : Nat) (f : Receipt → Receipt) : (s.modReceipt k f).tiers = s.tiers := rfl
@[simp] theorem modReceipt_streams (s : State) (k : Nat) (f : Receipt → Receipt) : (s.modReceipt k f).streams = s.streams := rfl
@[simp] theorem modReceipt_dram (s : State) (k : Nat) (f : Receipt → Receipt) : (s.modReceipt k f).dram = s.dram := rfl
@[simp] theorem modReceipt_models (s : State) (k : Nat) (f : Receipt → Receipt) : (s.modReceipt k f).models = s.models := rfl
@[simp] theorem modReceipt_svc (s : State) (k : Nat) (f : Receipt → Receipt) : (s.modReceipt k f).svc = s.svc := rfl
@[simp] theorem modReceipt_ctl (s : State) (k : Nat) (f : Receipt → Receipt) : (s.modReceipt k f).ctl = s.ctl := rfl
@[simp] theorem modReceipt_ports (s : State) (k : Nat) (f : Receipt → Receipt) : (s.modReceipt k f).ports = s.ports := rfl
@[simp] theorem modReceipt_dict (s : State) (k : Nat) (f : Receipt → Receipt) : (s.modReceipt k f).dict = s.dict := rfl
@[simp] theorem modReceipt_trust (s : State) (k : Nat) (f : Receipt → Receipt) : (s.modReceipt k f).trust = s.trust := rfl
@[simp] theorem modReceipt_power (s : State) (k : Nat) (f : Receipt → Receipt) : (s.modReceipt k f).power = s.power := rfl
@[simp] theorem modReceipt_faults (s : State) (k : Nat) (f : Receipt → Receipt) : (s.modReceipt k f).faults = s.faults := rfl
@[simp] theorem modReceipt_mirror (s : State) (k : Nat) (f : Receipt → Receipt) : (s.modReceipt k f).mirror = s.mirror := rfl
@[simp] theorem modReceipt_pins (s : State) (k : Nat) (f : Receipt → Receipt) : (s.modReceipt k f).pins = s.pins := rfl
@[simp] theorem modReceipt_clk (s : State) (k : Nat) (f : Receipt → Receipt) : (s.modReceipt k f).clk = s.clk := rfl
@[simp] theorem modReceipt_held (s : State) (k : Nat) (f : Receipt → Receipt) : (s.modReceipt k f).held = s.held := rfl
@[simp] theorem modReceipt_pending (s : State) (k : Nat) (f : Receipt → Receipt) : (s.modReceipt k f).pending = s.pending := rfl
@[simp] theorem mten_modMten_ne (s : State) (k j : Nat) (f : MTen → MTen) (h : j ≠ k) : (s.modMten k f).mten j = s.mten j :=
  mget_mset_ne h _ _
@[simp] theorem mten_modMten_self (s : State) (k : Nat) (f : MTen → MTen) : (s.modMten k f).mten k = f (s.mten k) :=
  mget_mset_self _ _ _
@[simp] theorem modMten_ident (s : State) (k : Nat) (f : MTen → MTen) : (s.modMten k f).ident = s.ident := rfl
@[simp] theorem modMten_vault (s : State) (k : Nat) (f : MTen → MTen) : (s.modMten k f).vault = s.vault := rfl
@[simp] theorem modMten_fabric (s : State) (k : Nat) (f : MTen → MTen) : (s.modMten k f).fabric = s.fabric := rfl
@[simp] theorem modMten_vec (s : State) (k : Nat) (f : MTen → MTen) : (s.modMten k f).vec = s.vec := rfl
@[simp] theorem modMten_mem (s : State) (k : Nat) (f : MTen → MTen) : (s.modMten k f).mem = s.mem := rfl
@[simp] theorem modMten_kv (s : State) (k : Nat) (f : MTen → MTen) : (s.modMten k f).kv = s.kv := rfl
@[simp] theorem modMten_exp (s : State) (k : Nat) (f : MTen → MTen) : (s.modMten k f).exp = s.exp := rfl
@[simp] theorem modMten_ops (s : State) (k : Nat) (f : MTen → MTen) : (s.modMten k f).ops = s.ops := rfl
@[simp] theorem modMten_tiers (s : State) (k : Nat) (f : MTen → MTen) : (s.modMten k f).tiers = s.tiers := rfl
@[simp] theorem modMten_streams (s : State) (k : Nat) (f : MTen → MTen) : (s.modMten k f).streams = s.streams := rfl
@[simp] theorem modMten_dram (s : State) (k : Nat) (f : MTen → MTen) : (s.modMten k f).dram = s.dram := rfl
@[simp] theorem modMten_models (s : State) (k : Nat) (f : MTen → MTen) : (s.modMten k f).models = s.models := rfl
@[simp] theorem modMten_svc (s : State) (k : Nat) (f : MTen → MTen) : (s.modMten k f).svc = s.svc := rfl
@[simp] theorem modMten_ctl (s : State) (k : Nat) (f : MTen → MTen) : (s.modMten k f).ctl = s.ctl := rfl
@[simp] theorem modMten_ports (s : State) (k : Nat) (f : MTen → MTen) : (s.modMten k f).ports = s.ports := rfl
@[simp] theorem modMten_dict (s : State) (k : Nat) (f : MTen → MTen) : (s.modMten k f).dict = s.dict := rfl
@[simp] theorem modMten_tenants (s : State) (k : Nat) (f : MTen → MTen) : (s.modMten k f).tenants = s.tenants := rfl
@[simp] theorem modMten_trust (s : State) (k : Nat) (f : MTen → MTen) : (s.modMten k f).trust = s.trust := rfl
@[simp] theorem modMten_power (s : State) (k : Nat) (f : MTen → MTen) : (s.modMten k f).power = s.power := rfl
@[simp] theorem modMten_faults (s : State) (k : Nat) (f : MTen → MTen) : (s.modMten k f).faults = s.faults := rfl
@[simp] theorem modMten_pins (s : State) (k : Nat) (f : MTen → MTen) : (s.modMten k f).pins = s.pins := rfl
@[simp] theorem modMten_clk (s : State) (k : Nat) (f : MTen → MTen) : (s.modMten k f).clk = s.clk := rfl
@[simp] theorem modMten_held (s : State) (k : Nat) (f : MTen → MTen) : (s.modMten k f).held = s.held := rfl
@[simp] theorem modMten_pending (s : State) (k : Nat) (f : MTen → MTen) : (s.modMten k f).pending = s.pending := rfl

end Sys2Proof.Machine
end

