-- ==== Sys2Proof/Laws/Ops.lean ====
section
/-! SUPPORT. What the shared operations answer, and what they leave. -/

namespace Sys2Proof.Machine

/-! ### Operands and transactions -/

/-- Operands whose octets have places let the effect through. -/
theorem withPlaces_of_placed {s : State} {o : Op} {hs : List (Handle × Nat)} (r : Res)
    (h : ∀ x ∈ hs, ∀ d, s.tensor o x.1 = some d → s.tensorFault o x.1 d x.2 = none) : s.withPlaces o hs r = r := by
  unfold State.withPlaces
  split
  · rename_i f e
    obtain ⟨x, hx, hf⟩ := List.exists_of_findSome?_eq_some e
    split at hf
    · rename_i d ht
      rw [h x hx d ht] at hf; cases hf
    · cases hf
  · rfl

/-- A transaction on an established channel, with no wait and no refusal as a whole, is carried out. -/
theorem txn_runs {i : Instr} {rq : Rq} {pre : Conn → State → Nat} {s : State} {c : Conn} (run : Conn → State → Res)
    (hc : s.conn rq.conn = some c) (hk : c.kind = .bdp) (hp : c.phase = .up) (ho : s.powered = true) (hh : s.mustHold i = false)
    (hr : pre c s = Bdp.ok) : txn i rq pre run s = run c s := by
  simp [txn, hc, hk, hp, ho, hh, hr]

/-- A write of one entry whose checks 1 to 3 pass answers what the entry's own rule gives. -/
theorem bdpCmd_runs {i : Instr} {rq : Rq} {code value : Nat} {body : State → Nat × State} {s : State} {c : Conn}
    (hc : s.conn rq.conn = some c) (hk : c.kind = .bdp) (hp : c.phase = .up) (ho : s.powered = true) (hh : s.mustHold i = false)
    (hl : leasePre rq code c s = Bdp.ok) (hs : c.itemStatus code true = Bdp.ok) :
    bdpCmd i rq code value body s = .next (answerWrite rq c.principalCode code value (body s)) := by
  rw [bdpCmd, txn_runs _ hc hk hp ho hh hl, hs]; simp

/-- A command that the state lists answers its effect; one that it does not list is counted (R14). -/
theorem listed_true {s : State} {g : Bool} {r : State} (h : g = true) : s.listed g r = .next r := by simp [State.listed, h]
theorem listed_false {s : State} {g : Bool} {r : State} (h : g = false) : s.listed g r = .next s.unlisted := by simp [State.listed, h]

/-- A command of the control cores runs at once when the device is on and nothing that it must follow waits. -/
theorem whenUp_runs {s : State} {i : Instr} {r : Res} (h : s.powered = true) (hh : s.mustHold i = false) : s.whenUp i r = r := by
  simp [State.whenUp, h, hh]

/-! ### Mirror records and events: all that they can change -/

theorem capture_changes (s : State) (t : Nat) (b : MBody) : ∃ m f, s.capture t b = { s with mirror := m, faults := f } := by
  unfold State.capture State.tcount State.count State.modMten
  by_cases h : t = 0 <;> simp only [h, if_true, if_false] <;> (repeat' split) <;> exact ⟨_, _, rfl⟩

theorem captureFold_changes (f : State → Nat → State) (hf : ∀ s i, ∃ m g, f s i = { s with mirror := m, faults := g }) :
    ∀ (l : List Nat) (s : State), ∃ m g, l.foldl f s = { s with mirror := m, faults := g }
  | [], s => ⟨s.mirror, s.faults, rfl⟩
  | i :: l, s => by
    obtain ⟨m, g, h⟩ := hf s i
    obtain ⟨m', g', h'⟩ := captureFold_changes f hf l (f s i)
    exact ⟨m', g', by rw [List.foldl_cons, h', h]⟩

theorem captureAll_changes (s : State) (b : MBody) : ∃ m f, s.captureAll b = { s with mirror := m, faults := f } :=
  captureFold_changes _ (fun s i => capture_changes s (i + 1) b) _ s

theorem deliverOne_changes (s : State) (e : Event) : ∃ m f c, s.deliverOne e = { s with mirror := m, faults := f, svc := { s.svc with conns := c } } := by
  unfold State.deliverOne
  split
  · obtain ⟨m, f, h⟩ := captureAll_changes _ (.event e.bytes)
    exact ⟨m, f, _, h⟩
  · obtain ⟨m, f, h⟩ := capture_changes _ e.tenant (.event e.bytes)
    exact ⟨m, f, _, h⟩

theorem deliverFold_changes : ∀ (l : List Event) (s : State), ∃ m f c, l.foldl State.deliverOne s = { s with mirror := m, faults := f, svc := { s.svc with conns := c } }
  | [], s => ⟨s.mirror, s.faults, s.svc.conns, rfl⟩
  | e :: l, s => by
    obtain ⟨m, f, c, h⟩ := deliverOne_changes s e
    obtain ⟨m', f', c', h'⟩ := deliverFold_changes l (s.deliverOne e)
    exact ⟨m', f', c', by rw [List.foldl_cons, h', h]⟩

theorem deliver_changes (s : State) : ∃ m f c, s.deliver = { s with mirror := m, faults := f, svc := { s.svc with conns := c } } := by
  unfold State.deliver
  split
  · obtain ⟨m, f, c, h⟩ := deliverFold_changes s.faults.queue { s with faults := { s.faults with queue := [] } }
    exact ⟨m, f, c, h⟩
  · exact ⟨_, _, _, rfl⟩

theorem raise_changes (s : State) (k : EvKind) (tenant kind locus detail : Nat) :
    ∃ m f c, s.raise k tenant kind locus detail = { s with mirror := m, faults := f, svc := { s.svc with conns := c } } :=
  deliver_changes _

theorem tcount_changes (s : State) (t base sub n : Nat) : ∃ f, s.tcount t base sub n = { s with faults := f } := by
  unfold State.tcount; split <;> exact ⟨_, rfl⟩

/-! ### Output: all that it can change -/

theorem fillConn_changes (s : State) (c : Nat) : ∃ p k, s.fillConn c = { s with ports := p, svc := { s.svc with conns := k } } := by
  unfold State.fillConn; split <;> exact ⟨_, _, rfl⟩

theorem post_changes (s : State) (c : Nat) (msg : OutMsg) (pcp : Nat) (d : Bool) :
    ∃ p k, s.post c msg pcp d = { s with ports := p, svc := { s.svc with conns := k } } := by
  unfold State.post
  obtain ⟨p, k, h⟩ := fillConn_changes (s.modConn c _) c
  exact ⟨p, k, by rw [h]; rfl⟩

theorem inbound_changes (s : State) (t conn msg : Nat) (body : Bytes) : ∃ m f, s.inbound t conn msg body = { s with mirror := m, faults := f } := by
  unfold State.inbound; split
  · exact ⟨_, _, rfl⟩
  · exact capture_changes s t _

/-! ### The parts that each leaves -/

@[simp] theorem capture_ident (s : State) (t : Nat) (b : MBody) : (s.capture t b).ident = s.ident := by
  obtain ⟨x0, x1, h⟩ := capture_changes s t b; exact (congrArg State.ident h).trans rfl
@[simp] theorem capture_vault (s : State) (t : Nat) (b : MBody) : (s.capture t b).vault = s.vault := by
  obtain ⟨x0, x1, h⟩ := capture_changes s t b; exact (congrArg State.vault h).trans rfl
@[simp] theorem capture_fabric (s : State) (t : Nat) (b : MBody) : (s.capture t b).fabric = s.fabric := by
  obtain ⟨x0, x1, h⟩ := capture_changes s t b; exact (congrArg State.fabric h).trans rfl
@[simp] theorem capture_vec (s : State) (t : Nat) (b : MBody) : (s.capture t b).vec = s.vec := by
  obtain ⟨x0, x1, h⟩ := capture_changes s t b; exact (congrArg State.vec h).trans rfl
@[simp] theorem capture_mem (s : State) (t : Nat) (b : MBody) : (s.capture t b).mem = s.mem := by
  obtain ⟨x0, x1, h⟩ := capture_changes s t b; exact (congrArg State.mem h).trans rfl
@[simp] theorem capture_kv (s : State) (t : Nat) (b : MBody) : (s.capture t b).kv = s.kv := by
  obtain ⟨x0, x1, h⟩ := capture_changes s t b; exact (congrArg State.kv h).trans rfl
@[simp] theorem capture_exp (s : State) (t : Nat) (b : MBody) : (s.capture t b).exp = s.exp := by
  obtain ⟨x0, x1, h⟩ := capture_changes s t b; exact (congrArg State.exp h).trans rfl
@[simp] theorem capture_ops (s : State) (t : Nat) (b : MBody) : (s.capture t b).ops = s.ops := by
  obtain ⟨x0, x1, h⟩ := capture_changes s t b; exact (congrArg State.ops h).trans rfl
@[simp] theorem capture_tiers (s : State) (t : Nat) (b : MBody) : (s.capture t b).tiers = s.tiers := by
  obtain ⟨x0, x1, h⟩ := capture_changes s t b; exact (congrArg State.tiers h).trans rfl
@[simp] theorem capture_streams (s : State) (t : Nat) (b : MBody) : (s.capture t b).streams = s.streams := by
  obtain ⟨x0, x1, h⟩ := capture_changes s t b; exact (congrArg State.streams h).trans rfl
@[simp] theorem capture_dram (s : State) (t : Nat) (b : MBody) : (s.capture t b).dram = s.dram := by
  obtain ⟨x0, x1, h⟩ := capture_changes s t b; exact (congrArg State.dram h).trans rfl
@[simp] theorem capture_models (s : State) (t : Nat) (b : MBody) : (s.capture t b).models = s.models := by
  obtain ⟨x0, x1, h⟩ := capture_changes s t b; exact (congrArg State.models h).trans rfl
@[simp] theorem capture_svc (s : State) (t : Nat) (b : MBody) : (s.capture t b).svc = s.svc := by
  obtain ⟨x0, x1, h⟩ := capture_changes s t b; exact (congrArg State.svc h).trans rfl
@[simp] theorem capture_ctl (s : State) (t : Nat) (b : MBody) : (s.capture t b).ctl = s.ctl := by
  obtain ⟨x0, x1, h⟩ := capture_changes s t b; exact (congrArg State.ctl h).trans rfl
@[simp] theorem capture_ports (s : State) (t : Nat) (b : MBody) : (s.capture t b).ports = s.ports := by
  obtain ⟨x0, x1, h⟩ := capture_changes s t b; exact (congrArg State.ports h).trans rfl
@[simp] theorem capture_dict (s : State) (t : Nat) (b : MBody) : (s.capture t b).dict = s.dict := by
  obtain ⟨x0, x1, h⟩ := capture_changes s t b; exact (congrArg State.dict h).trans rfl
@[simp] theorem capture_tenants (s : State) (t : Nat) (b : MBody) : (s.capture t b).tenants = s.tenants := by
  obtain ⟨x0, x1, h⟩ := capture_changes s t b; exact (congrArg State.tenants h).trans rfl
@[simp] theorem capture_trust (s : State) (t : Nat) (b : MBody) : (s.capture t b).trust = s.trust := by
  obtain ⟨x0, x1, h⟩ := capture_changes s t b; exact (congrArg State.trust h).trans rfl
@[simp] theorem capture_power (s : State) (t : Nat) (b : MBody) : (s.capture t b).power = s.power := by
  obtain ⟨x0, x1, h⟩ := capture_changes s t b; exact (congrArg State.power h).trans rfl
@[simp] theorem capture_pins (s : State) (t : Nat) (b : MBody) : (s.capture t b).pins = s.pins := by
  obtain ⟨x0, x1, h⟩ := capture_changes s t b; exact (congrArg State.pins h).trans rfl
@[simp] theorem capture_clk (s : State) (t : Nat) (b : MBody) : (s.capture t b).clk = s.clk := by
  obtain ⟨x0, x1, h⟩ := capture_changes s t b; exact (congrArg State.clk h).trans rfl
@[simp] theorem capture_held (s : State) (t : Nat) (b : MBody) : (s.capture t b).held = s.held := by
  obtain ⟨x0, x1, h⟩ := capture_changes s t b; exact (congrArg State.held h).trans rfl
@[simp] theorem capture_pending (s : State) (t : Nat) (b : MBody) : (s.capture t b).pending = s.pending := by
  obtain ⟨x0, x1, h⟩ := capture_changes s t b; exact (congrArg State.pending h).trans rfl
@[simp] theorem captureAll_ident (s : State) (b : MBody) : (s.captureAll b).ident = s.ident := by
  obtain ⟨x0, x1, h⟩ := captureAll_changes s b; exact (congrArg State.ident h).trans rfl
@[simp] theorem captureAll_vault (s : State) (b : MBody) : (s.captureAll b).vault = s.vault := by
  obtain ⟨x0, x1, h⟩ := captureAll_changes s b; exact (congrArg State.vault h).trans rfl
@[simp] theorem captureAll_fabric (s : State) (b : MBody) : (s.captureAll b).fabric = s.fabric := by
  obtain ⟨x0, x1, h⟩ := captureAll_changes s b; exact (congrArg State.fabric h).trans rfl
@[simp] theorem captureAll_vec (s : State) (b : MBody) : (s.captureAll b).vec = s.vec := by
  obtain ⟨x0, x1, h⟩ := captureAll_changes s b; exact (congrArg State.vec h).trans rfl
@[simp] theorem captureAll_mem (s : State) (b : MBody) : (s.captureAll b).mem = s.mem := by
  obtain ⟨x0, x1, h⟩ := captureAll_changes s b; exact (congrArg State.mem h).trans rfl
@[simp] theorem captureAll_kv (s : State) (b : MBody) : (s.captureAll b).kv = s.kv := by
  obtain ⟨x0, x1, h⟩ := captureAll_changes s b; exact (congrArg State.kv h).trans rfl
@[simp] theorem captureAll_exp (s : State) (b : MBody) : (s.captureAll b).exp = s.exp := by
  obtain ⟨x0, x1, h⟩ := captureAll_changes s b; exact (congrArg State.exp h).trans rfl
@[simp] theorem captureAll_ops (s : State) (b : MBody) : (s.captureAll b).ops = s.ops := by
  obtain ⟨x0, x1, h⟩ := captureAll_changes s b; exact (congrArg State.ops h).trans rfl
@[simp] theorem captureAll_tiers (s : State) (b : MBody) : (s.captureAll b).tiers = s.tiers := by
  obtain ⟨x0, x1, h⟩ := captureAll_changes s b; exact (congrArg State.tiers h).trans rfl
@[simp] theorem captureAll_streams (s : State) (b : MBody) : (s.captureAll b).streams = s.streams := by
  obtain ⟨x0, x1, h⟩ := captureAll_changes s b; exact (congrArg State.streams h).trans rfl
@[simp] theorem captureAll_dram (s : State) (b : MBody) : (s.captureAll b).dram = s.dram := by
  obtain ⟨x0, x1, h⟩ := captureAll_changes s b; exact (congrArg State.dram h).trans rfl
@[simp] theorem captureAll_models (s : State) (b : MBody) : (s.captureAll b).models = s.models := by
  obtain ⟨x0, x1, h⟩ := captureAll_changes s b; exact (congrArg State.models h).trans rfl
@[simp] theorem captureAll_svc (s : State) (b : MBody) : (s.captureAll b).svc = s.svc := by
  obtain ⟨x0, x1, h⟩ := captureAll_changes s b; exact (congrArg State.svc h).trans rfl
@[simp] theorem captureAll_ctl (s : State) (b : MBody) : (s.captureAll b).ctl = s.ctl := by
  obtain ⟨x0, x1, h⟩ := captureAll_changes s b; exact (congrArg State.ctl h).trans rfl
@[simp] theorem captureAll_ports (s : State) (b : MBody) : (s.captureAll b).ports = s.ports := by
  obtain ⟨x0, x1, h⟩ := captureAll_changes s b; exact (congrArg State.ports h).trans rfl
@[simp] theorem captureAll_dict (s : State) (b : MBody) : (s.captureAll b).dict = s.dict := by
  obtain ⟨x0, x1, h⟩ := captureAll_changes s b; exact (congrArg State.dict h).trans rfl
@[simp] theorem captureAll_tenants (s : State) (b : MBody) : (s.captureAll b).tenants = s.tenants := by
  obtain ⟨x0, x1, h⟩ := captureAll_changes s b; exact (congrArg State.tenants h).trans rfl
@[simp] theorem captureAll_trust (s : State) (b : MBody) : (s.captureAll b).trust = s.trust := by
  obtain ⟨x0, x1, h⟩ := captureAll_changes s b; exact (congrArg State.trust h).trans rfl
@[simp] theorem captureAll_power (s : State) (b : MBody) : (s.captureAll b).power = s.power := by
  obtain ⟨x0, x1, h⟩ := captureAll_changes s b; exact (congrArg State.power h).trans rfl
@[simp] theorem captureAll_pins (s : State) (b : MBody) : (s.captureAll b).pins = s.pins := by
  obtain ⟨x0, x1, h⟩ := captureAll_changes s b; exact (congrArg State.pins h).trans rfl
@[simp] theorem captureAll_clk (s : State) (b : MBody) : (s.captureAll b).clk = s.clk := by
  obtain ⟨x0, x1, h⟩ := captureAll_changes s b; exact (congrArg State.clk h).trans rfl
@[simp] theorem captureAll_held (s : State) (b : MBody) : (s.captureAll b).held = s.held := by
  obtain ⟨x0, x1, h⟩ := captureAll_changes s b; exact (congrArg State.held h).trans rfl
@[simp] theorem captureAll_pending (s : State) (b : MBody) : (s.captureAll b).pending = s.pending := by
  obtain ⟨x0, x1, h⟩ := captureAll_changes s b; exact (congrArg State.pending h).trans rfl
@[simp] theorem deliver_ident (s : State) : (s.deliver).ident = s.ident := by
  obtain ⟨x0, x1, x2, h⟩ := deliver_changes s; exact (congrArg State.ident h).trans rfl
@[simp] theorem deliver_vault (s : State) : (s.deliver).vault = s.vault := by
  obtain ⟨x0, x1, x2, h⟩ := deliver_changes s; exact (congrArg State.vault h).trans rfl
@[simp] theorem deliver_fabric (s : State) : (s.deliver).fabric = s.fabric := by
  obtain ⟨x0, x1, x2, h⟩ := deliver_changes s; exact (congrArg State.fabric h).trans rfl
@[simp] theorem deliver_vec (s : State) : (s.deliver).vec = s.vec := by
  obtain ⟨x0, x1, x2, h⟩ := deliver_changes s; exact (congrArg State.vec h).trans rfl
@[simp] theorem deliver_mem (s : State) : (s.deliver).mem = s.mem := by
  obtain ⟨x0, x1, x2, h⟩ := deliver_changes s; exact (congrArg State.mem h).trans rfl
@[simp] theorem deliver_kv (s : State) : (s.deliver).kv = s.kv := by
  obtain ⟨x0, x1, x2, h⟩ := deliver_changes s; exact (congrArg State.kv h).trans rfl
@[simp] theorem deliver_exp (s : State) : (s.deliver).exp = s.exp := by
  obtain ⟨x0, x1, x2, h⟩ := deliver_changes s; exact (congrArg State.exp h).trans rfl
@[simp] theorem deliver_ops (s : State) : (s.deliver).ops = s.ops := by
  obtain ⟨x0, x1, x2, h⟩ := deliver_changes s; exact (congrArg State.ops h).trans rfl
@[simp] theorem deliver_tiers (s : State) : (s.deliver).tiers = s.tiers := by
  obtain ⟨x0, x1, x2, h⟩ := deliver_changes s; exact (congrArg State.tiers h).trans rfl
@[simp] theorem deliver_streams (s : State) : (s.deliver).streams = s.streams := by
  obtain ⟨x0, x1, x2, h⟩ := deliver_changes s; exact (congrArg State.streams h).trans rfl
@[simp] theorem deliver_dram (s : State) : (s.deliver).dram = s.dram := by
  obtain ⟨x0, x1, x2, h⟩ := deliver_changes s; exact (congrArg State.dram h).trans rfl
@[simp] theorem deliver_models (s : State) : (s.deliver).models = s.models := by
  obtain ⟨x0, x1, x2, h⟩ := deliver_changes s; exact (congrArg State.models h).trans rfl
@[simp] theorem deliver_ctl (s : State) : (s.deliver).ctl = s.ctl := by
  obtain ⟨x0, x1, x2, h⟩ := deliver_changes s; exact (congrArg State.ctl h).trans rfl
@[simp] theorem deliver_ports (s : State) : (s.deliver).ports = s.ports := by
  obtain ⟨x0, x1, x2, h⟩ := deliver_changes s; exact (congrArg State.ports h).trans rfl
@[simp] theorem deliver_dict (s : State) : (s.deliver).dict = s.dict := by
  obtain ⟨x0, x1, x2, h⟩ := deliver_changes s; exact (congrArg State.dict h).trans rfl
@[simp] theorem deliver_tenants (s : State) : (s.deliver).tenants = s.tenants := by
  obtain ⟨x0, x1, x2, h⟩ := deliver_changes s; exact (congrArg State.tenants h).trans rfl
@[simp] theorem deliver_trust (s : State) : (s.deliver).trust = s.trust := by
  obtain ⟨x0, x1, x2, h⟩ := deliver_changes s; exact (congrArg State.trust h).trans rfl
@[simp] theorem deliver_power (s : State) : (s.deliver).power = s.power := by
  obtain ⟨x0, x1, x2, h⟩ := deliver_changes s; exact (congrArg State.power h).trans rfl
@[simp] theorem deliver_pins (s : State) : (s.deliver).pins = s.pins := by
  obtain ⟨x0, x1, x2, h⟩ := deliver_changes s; exact (congrArg State.pins h).trans rfl
@[simp] theorem deliver_clk (s : State) : (s.deliver).clk = s.clk := by
  obtain ⟨x0, x1, x2, h⟩ := deliver_changes s; exact (congrArg State.clk h).trans rfl
@[simp] theorem deliver_held (s : State) : (s.deliver).held = s.held := by
  obtain ⟨x0, x1, x2, h⟩ := deliver_changes s; exact (congrArg State.held h).trans rfl
@[simp] theorem deliver_pending (s : State) : (s.deliver).pending = s.pending := by
  obtain ⟨x0, x1, x2, h⟩ := deliver_changes s; exact (congrArg State.pending h).trans rfl
@[simp] theorem raise_ident (s : State) (k : EvKind) (a b c d : Nat) : (s.raise k a b c d).ident = s.ident := by
  obtain ⟨x0, x1, x2, h⟩ := raise_changes s k a b c d; exact (congrArg State.ident h).trans rfl
@[simp] theorem raise_vault (s : State) (k : EvKind) (a b c d : Nat) : (s.raise k a b c d).vault = s.vault := by
  obtain ⟨x0, x1, x2, h⟩ := raise_changes s k a b c d; exact (congrArg State.vault h).trans rfl
@[simp] theorem raise_fabric (s : State) (k : EvKind) (a b c d : Nat) : (s.raise k a b c d).fabric = s.fabric := by
  obtain ⟨x0, x1, x2, h⟩ := raise_changes s k a b c d; exact (congrArg State.fabric h).trans rfl
@[simp] theorem raise_vec (s : State) (k : EvKind) (a b c d : Nat) : (s.raise k a b c d).vec = s.vec := by
  obtain ⟨x0, x1, x2, h⟩ := raise_changes s k a b c d; exact (congrArg State.vec h).trans rfl
@[simp] theorem raise_mem (s : State) (k : EvKind) (a b c d : Nat) : (s.raise k a b c d).mem = s.mem := by
  obtain ⟨x0, x1, x2, h⟩ := raise_changes s k a b c d; exact (congrArg State.mem h).trans rfl
@[simp] theorem raise_kv (s : State) (k : EvKind) (a b c d : Nat) : (s.raise k a b c d).kv = s.kv := by
  obtain ⟨x0, x1, x2, h⟩ := raise_changes s k a b c d; exact (congrArg State.kv h).trans rfl
@[simp] theorem raise_exp (s : State) (k : EvKind) (a b c d : Nat) : (s.raise k a b c d).exp = s.exp := by
  obtain ⟨x0, x1, x2, h⟩ := raise_changes s k a b c d; exact (congrArg State.exp h).trans rfl
@[simp] theorem raise_ops (s : State) (k : EvKind) (a b c d : Nat) : (s.raise k a b c d).ops = s.ops := by
  obtain ⟨x0, x1, x2, h⟩ := raise_changes s k a b c d; exact (congrArg State.ops h).trans rfl
@[simp] theorem raise_tiers (s : State) (k : EvKind) (a b c d : Nat) : (s.raise k a b c d).tiers = s.tiers := by
  obtain ⟨x0, x1, x2, h⟩ := raise_changes s k a b c d; exact (congrArg State.tiers h).trans rfl
@[simp] theorem raise_streams (s : State) (k : EvKind) (a b c d : Nat) : (s.raise k a b c d).streams = s.streams := by
  obtain ⟨x0, x1, x2, h⟩ := raise_changes s k a b c d; exact (congrArg State.streams h).trans rfl
@[simp] theorem raise_dram (s : State) (k : EvKind) (a b c d : Nat) : (s.raise k a b c d).dram = s.dram := by
  obtain ⟨x0, x1, x2, h⟩ := raise_changes s k a b c d; exact (congrArg State.dram h).trans rfl
@[simp] theorem raise_models (s : State) (k : EvKind) (a b c d : Nat) : (s.raise k a b c d).models = s.models := by
  obtain ⟨x0, x1, x2, h⟩ := raise_changes s k a b c d; exact (congrArg State.models h).trans rfl
@[simp] theorem raise_ctl (s : State) (k : EvKind) (a b c d : Nat) : (s.raise k a b c d).ctl = s.ctl := by
  obtain ⟨x0, x1, x2, h⟩ := raise_changes s k a b c d; exact (congrArg State.ctl h).trans rfl
@[simp] theorem raise_ports (s : State) (k : EvKind) (a b c d : Nat) : (s.raise k a b c d).ports = s.ports := by
  obtain ⟨x0, x1, x2, h⟩ := raise_changes s k a b c d; exact (congrArg State.ports h).trans rfl
@[simp] theorem raise_dict (s : State) (k : EvKind) (a b c d : Nat) : (s.raise k a b c d).dict = s.dict := by
  obtain ⟨x0, x1, x2, h⟩ := raise_changes s k a b c d; exact (congrArg State.dict h).trans rfl
@[simp] theorem raise_tenants (s : State) (k : EvKind) (a b c d : Nat) : (s.raise k a b c d).tenants = s.tenants := by
  obtain ⟨x0, x1, x2, h⟩ := raise_changes s k a b c d; exact (congrArg State.tenants h).trans rfl
@[simp] theorem raise_trust (s : State) (k : EvKind) (a b c d : Nat) : (s.raise k a b c d).trust = s.trust := by
  obtain ⟨x0, x1, x2, h⟩ := raise_changes s k a b c d; exact (congrArg State.trust h).trans rfl
@[simp] theorem raise_power (s : State) (k : EvKind) (a b c d : Nat) : (s.raise k a b c d).power = s.power := by
  obtain ⟨x0, x1, x2, h⟩ := raise_changes s k a b c d; exact (congrArg State.power h).trans rfl
@[simp] theorem raise_pins (s : State) (k : EvKind) (a b c d : Nat) : (s.raise k a b c d).pins = s.pins := by
  obtain ⟨x0, x1, x2, h⟩ := raise_changes s k a b c d; exact (congrArg State.pins h).trans rfl
@[simp] theorem raise_clk (s : State) (k : EvKind) (a b c d : Nat) : (s.raise k a b c d).clk = s.clk := by
  obtain ⟨x0, x1, x2, h⟩ := raise_changes s k a b c d; exact (congrArg State.clk h).trans rfl
@[simp] theorem raise_held (s : State) (k : EvKind) (a b c d : Nat) : (s.raise k a b c d).held = s.held := by
  obtain ⟨x0, x1, x2, h⟩ := raise_changes s k a b c d; exact (congrArg State.held h).trans rfl
@[simp] theorem raise_pending (s : State) (k : EvKind) (a b c d : Nat) : (s.raise k a b c d).pending = s.pending := by
  obtain ⟨x0, x1, x2, h⟩ := raise_changes s k a b c d; exact (congrArg State.pending h).trans rfl
@[simp] theorem count_ident (s : State) (i j n : Nat) : (s.count i j n).ident = s.ident := rfl
@[simp] theorem count_vault (s : State) (i j n : Nat) : (s.count i j n).vault = s.vault := rfl
@[simp] theorem count_fabric (s : State) (i j n : Nat) : (s.count i j n).fabric = s.fabric := rfl
@[simp] theorem count_vec (s : State) (i j n : Nat) : (s.count i j n).vec = s.vec := rfl
@[simp] theorem count_mem (s : State) (i j n : Nat) : (s.count i j n).mem = s.mem := rfl
@[simp] theorem count_kv (s : State) (i j n : Nat) : (s.count i j n).kv = s.kv := rfl
@[simp] theorem count_exp (s : State) (i j n : Nat) : (s.count i j n).exp = s.exp := rfl
@[simp] theorem count_ops (s : State) (i j n : Nat) : (s.count i j n).ops = s.ops := rfl
@[simp] theorem count_tiers (s : State) (i j n : Nat) : (s.count i j n).tiers = s.tiers := rfl
@[simp] theorem count_streams (s : State) (i j n : Nat) : (s.count i j n).streams = s.streams := rfl
@[simp] theorem count_dram (s : State) (i j n : Nat) : (s.count i j n).dram = s.dram := rfl
@[simp] theorem count_models (s : State) (i j n : Nat) : (s.count i j n).models = s.models := rfl
@[simp] theorem count_svc (s : State) (i j n : Nat) : (s.count i j n).svc = s.svc := rfl
@[simp] theorem count_ctl (s : State) (i j n : Nat) : (s.count i j n).ctl = s.ctl := rfl
@[simp] theorem count_ports (s : State) (i j n : Nat) : (s.count i j n).ports = s.ports := rfl
@[simp] theorem count_dict (s : State) (i j n : Nat) : (s.count i j n).dict = s.dict := rfl
@[simp] theorem count_tenants (s : State) (i j n : Nat) : (s.count i j n).tenants = s.tenants := rfl
@[simp] theorem count_trust (s : State) (i j n : Nat) : (s.count i j n).trust = s.trust := rfl
@[simp] theorem count_power (s : State) (i j n : Nat) : (s.count i j n).power = s.power := rfl
@[simp] theorem count_mirror (s : State) (i j n : Nat) : (s.count i j n).mirror = s.mirror := rfl
@[simp] theorem count_pins (s : State) (i j n : Nat) : (s.count i j n).pins = s.pins := rfl
@[simp] theorem count_clk (s : State) (i j n : Nat) : (s.count i j n).clk = s.clk := rfl
@[simp] theorem count_held (s : State) (i j n : Nat) : (s.count i j n).held = s.held := rfl
@[simp] theorem count_pending (s : State) (i j n : Nat) : (s.count i j n).pending = s.pending := rfl
@[simp] theorem tcount_ident (s : State) (t i j n : Nat) : (s.tcount t i j n).ident = s.ident := by
  obtain ⟨x0, h⟩ := tcount_changes s t i j n; exact (congrArg State.ident h).trans rfl
@[simp] theorem tcount_vault (s : State) (t i j n : Nat) : (s.tcount t i j n).vault = s.vault := by
  obtain ⟨x0, h⟩ := tcount_changes s t i j n; exact (congrArg State.vault h).trans rfl
@[simp] theorem tcount_fabric (s : State) (t i j n : Nat) : (s.tcount t i j n).fabric = s.fabric := by
  obtain ⟨x0, h⟩ := tcount_changes s t i j n; exact (congrArg State.fabric h).trans rfl
@[simp] theorem tcount_vec (s : State) (t i j n : Nat) : (s.tcount t i j n).vec = s.vec := by
  obtain ⟨x0, h⟩ := tcount_changes s t i j n; exact (congrArg State.vec h).trans rfl
@[simp] theorem tcount_mem (s : State) (t i j n : Nat) : (s.tcount t i j n).mem = s.mem := by
  obtain ⟨x0, h⟩ := tcount_changes s t i j n; exact (congrArg State.mem h).trans rfl
@[simp] theorem tcount_kv (s : State) (t i j n : Nat) : (s.tcount t i j n).kv = s.kv := by
  obtain ⟨x0, h⟩ := tcount_changes s t i j n; exact (congrArg State.kv h).trans rfl
@[simp] theorem tcount_exp (s : State) (t i j n : Nat) : (s.tcount t i j n).exp = s.exp := by
  obtain ⟨x0, h⟩ := tcount_changes s t i j n; exact (congrArg State.exp h).trans rfl
@[simp] theorem tcount_ops (s : State) (t i j n : Nat) : (s.tcount t i j n).ops = s.ops := by
  obtain ⟨x0, h⟩ := tcount_changes s t i j n; exact (congrArg State.ops h).trans rfl
@[simp] theorem tcount_tiers (s : State) (t i j n : Nat) : (s.tcount t i j n).tiers = s.tiers := by
  obtain ⟨x0, h⟩ := tcount_changes s t i j n; exact (congrArg State.tiers h).trans rfl
@[simp] theorem tcount_streams (s : State) (t i j n : Nat) : (s.tcount t i j n).streams = s.streams := by
  obtain ⟨x0, h⟩ := tcount_changes s t i j n; exact (congrArg State.streams h).trans rfl
@[simp] theorem tcount_dram (s : State) (t i j n : Nat) : (s.tcount t i j n).dram = s.dram := by
  obtain ⟨x0, h⟩ := tcount_changes s t i j n; exact (congrArg State.dram h).trans rfl
@[simp] theorem tcount_models (s : State) (t i j n : Nat) : (s.tcount t i j n).models = s.models := by
  obtain ⟨x0, h⟩ := tcount_changes s t i j n; exact (congrArg State.models h).trans rfl
@[simp] theorem tcount_svc (s : State) (t i j n : Nat) : (s.tcount t i j n).svc = s.svc := by
  obtain ⟨x0, h⟩ := tcount_changes s t i j n; exact (congrArg State.svc h).trans rfl
@[simp] theorem tcount_ctl (s : State) (t i j n : Nat) : (s.tcount t i j n).ctl = s.ctl := by
  obtain ⟨x0, h⟩ := tcount_changes s t i j n; exact (congrArg State.ctl h).trans rfl
@[simp] theorem tcount_ports (s : State) (t i j n : Nat) : (s.tcount t i j n).ports = s.ports := by
  obtain ⟨x0, h⟩ := tcount_changes s t i j n; exact (congrArg State.ports h).trans rfl
@[simp] theorem tcount_dict (s : State) (t i j n : Nat) : (s.tcount t i j n).dict = s.dict := by
  obtain ⟨x0, h⟩ := tcount_changes s t i j n; exact (congrArg State.dict h).trans rfl
@[simp] theorem tcount_tenants (s : State) (t i j n : Nat) : (s.tcount t i j n).tenants = s.tenants := by
  obtain ⟨x0, h⟩ := tcount_changes s t i j n; exact (congrArg State.tenants h).trans rfl
@[simp] theorem tcount_trust (s : State) (t i j n : Nat) : (s.tcount t i j n).trust = s.trust := by
  obtain ⟨x0, h⟩ := tcount_changes s t i j n; exact (congrArg State.trust h).trans rfl
@[simp] theorem tcount_power (s : State) (t i j n : Nat) : (s.tcount t i j n).power = s.power := by
  obtain ⟨x0, h⟩ := tcount_changes s t i j n; exact (congrArg State.power h).trans rfl
@[simp] theorem tcount_mirror (s : State) (t i j n : Nat) : (s.tcount t i j n).mirror = s.mirror := by
  obtain ⟨x0, h⟩ := tcount_changes s t i j n; exact (congrArg State.mirror h).trans rfl
@[simp] theorem tcount_pins (s : State) (t i j n : Nat) : (s.tcount t i j n).pins = s.pins := by
  obtain ⟨x0, h⟩ := tcount_changes s t i j n; exact (congrArg State.pins h).trans rfl
@[simp] theorem tcount_clk (s : State) (t i j n : Nat) : (s.tcount t i j n).clk = s.clk := by
  obtain ⟨x0, h⟩ := tcount_changes s t i j n; exact (congrArg State.clk h).trans rfl
@[simp] theorem tcount_held (s : State) (t i j n : Nat) : (s.tcount t i j n).held = s.held := by
  obtain ⟨x0, h⟩ := tcount_changes s t i j n; exact (congrArg State.held h).trans rfl
@[simp] theorem tcount_pending (s : State) (t i j n : Nat) : (s.tcount t i j n).pending = s.pending := by
  obtain ⟨x0, h⟩ := tcount_changes s t i j n; exact (congrArg State.pending h).trans rfl
@[simp] theorem drawn_ident (s : State) : (s.drawn).ident = s.ident := rfl
@[simp] theorem drawn_vault (s : State) : (s.drawn).vault = s.vault := rfl
@[simp] theorem drawn_fabric (s : State) : (s.drawn).fabric = s.fabric := rfl
@[simp] theorem drawn_vec (s : State) : (s.drawn).vec = s.vec := rfl
@[simp] theorem drawn_mem (s : State) : (s.drawn).mem = s.mem := rfl
@[simp] theorem drawn_kv (s : State) : (s.drawn).kv = s.kv := rfl
@[simp] theorem drawn_exp (s : State) : (s.drawn).exp = s.exp := rfl
@[simp] theorem drawn_ops (s : State) : (s.drawn).ops = s.ops := rfl
@[simp] theorem drawn_tiers (s : State) : (s.drawn).tiers = s.tiers := rfl
@[simp] theorem drawn_streams (s : State) : (s.drawn).streams = s.streams := rfl
@[simp] theorem drawn_dram (s : State) : (s.drawn).dram = s.dram := rfl
@[simp] theorem drawn_models (s : State) : (s.drawn).models = s.models := rfl
@[simp] theorem drawn_svc (s : State) : (s.drawn).svc = s.svc := rfl
@[simp] theorem drawn_ctl (s : State) : (s.drawn).ctl = s.ctl := rfl
@[simp] theorem drawn_ports (s : State) : (s.drawn).ports = s.ports := rfl
@[simp] theorem drawn_dict (s : State) : (s.drawn).dict = s.dict := rfl
@[simp] theorem drawn_tenants (s : State) : (s.drawn).tenants = s.tenants := rfl
@[simp] theorem drawn_power (s : State) : (s.drawn).power = s.power := rfl
@[simp] theorem drawn_faults (s : State) : (s.drawn).faults = s.faults := rfl
@[simp] theorem drawn_mirror (s : State) : (s.drawn).mirror = s.mirror := rfl
@[simp] theorem drawn_pins (s : State) : (s.drawn).pins = s.pins := rfl
@[simp] theorem drawn_clk (s : State) : (s.drawn).clk = s.clk := rfl
@[simp] theorem drawn_held (s : State) : (s.drawn).held = s.held := rfl
@[simp] theorem drawn_pending (s : State) : (s.drawn).pending = s.pending := rfl
@[simp] theorem post_ident (s : State) (c : Nat) (m : OutMsg) (p : Nat) (d : Bool) : (s.post c m p d).ident = s.ident := by
  obtain ⟨x0, x1, h⟩ := post_changes s c m p d; exact (congrArg State.ident h).trans rfl
@[simp] theorem post_vault (s : State) (c : Nat) (m : OutMsg) (p : Nat) (d : Bool) : (s.post c m p d).vault = s.vault := by
  obtain ⟨x0, x1, h⟩ := post_changes s c m p d; exact (congrArg State.vault h).trans rfl
@[simp] theorem post_fabric (s : State) (c : Nat) (m : OutMsg) (p : Nat) (d : Bool) : (s.post c m p d).fabric = s.fabric := by
  obtain ⟨x0, x1, h⟩ := post_changes s c m p d; exact (congrArg State.fabric h).trans rfl
@[simp] theorem post_vec (s : State) (c : Nat) (m : OutMsg) (p : Nat) (d : Bool) : (s.post c m p d).vec = s.vec := by
  obtain ⟨x0, x1, h⟩ := post_changes s c m p d; exact (congrArg State.vec h).trans rfl
@[simp] theorem post_mem (s : State) (c : Nat) (m : OutMsg) (p : Nat) (d : Bool) : (s.post c m p d).mem = s.mem := by
  obtain ⟨x0, x1, h⟩ := post_changes s c m p d; exact (congrArg State.mem h).trans rfl
@[simp] theorem post_kv (s : State) (c : Nat) (m : OutMsg) (p : Nat) (d : Bool) : (s.post c m p d).kv = s.kv := by
  obtain ⟨x0, x1, h⟩ := post_changes s c m p d; exact (congrArg State.kv h).trans rfl
@[simp] theorem post_exp (s : State) (c : Nat) (m : OutMsg) (p : Nat) (d : Bool) : (s.post c m p d).exp = s.exp := by
  obtain ⟨x0, x1, h⟩ := post_changes s c m p d; exact (congrArg State.exp h).trans rfl
@[simp] theorem post_ops (s : State) (c : Nat) (m : OutMsg) (p : Nat) (d : Bool) : (s.post c m p d).ops = s.ops := by
  obtain ⟨x0, x1, h⟩ := post_changes s c m p d; exact (congrArg State.ops h).trans rfl
@[simp] theorem post_tiers (s : State) (c : Nat) (m : OutMsg) (p : Nat) (d : Bool) : (s.post c m p d).tiers = s.tiers := by
  obtain ⟨x0, x1, h⟩ := post_changes s c m p d; exact (congrArg State.tiers h).trans rfl
@[simp] theorem post_streams (s : State) (c : Nat) (m : OutMsg) (p : Nat) (d : Bool) : (s.post c m p d).streams = s.streams := by
  obtain ⟨x0, x1, h⟩ := post_changes s c m p d; exact (congrArg State.streams h).trans rfl
@[simp] theorem post_dram (s : State) (c : Nat) (m : OutMsg) (p : Nat) (d : Bool) : (s.post c m p d).dram = s.dram := by
  obtain ⟨x0, x1, h⟩ := post_changes s c m p d; exact (congrArg State.dram h).trans rfl
@[simp] theorem post_models (s : State) (c : Nat) (m : OutMsg) (p : Nat) (d : Bool) : (s.post c m p d).models = s.models := by
  obtain ⟨x0, x1, h⟩ := post_changes s c m p d; exact (congrArg State.models h).trans rfl
@[simp] theorem post_ctl (s : State) (c : Nat) (m : OutMsg) (p : Nat) (d : Bool) : (s.post c m p d).ctl = s.ctl := by
  obtain ⟨x0, x1, h⟩ := post_changes s c m p d; exact (congrArg State.ctl h).trans rfl
@[simp] theorem post_dict (s : State) (c : Nat) (m : OutMsg) (p : Nat) (d : Bool) : (s.post c m p d).dict = s.dict := by
  obtain ⟨x0, x1, h⟩ := post_changes s c m p d; exact (congrArg State.dict h).trans rfl
@[simp] theorem post_tenants (s : State) (c : Nat) (m : OutMsg) (p : Nat) (d : Bool) : (s.post c m p d).tenants = s.tenants := by
  obtain ⟨x0, x1, h⟩ := post_changes s c m p d; exact (congrArg State.tenants h).trans rfl
@[simp] theorem post_trust (s : State) (c : Nat) (m : OutMsg) (p : Nat) (d : Bool) : (s.post c m p d).trust = s.trust := by
  obtain ⟨x0, x1, h⟩ := post_changes s c m p d; exact (congrArg State.trust h).trans rfl
@[simp] theorem post_power (s : State) (c : Nat) (m : OutMsg) (p : Nat) (d : Bool) : (s.post c m p d).power = s.power := by
  obtain ⟨x0, x1, h⟩ := post_changes s c m p d; exact (congrArg State.power h).trans rfl
@[simp] theorem post_faults (s : State) (c : Nat) (m : OutMsg) (p : Nat) (d : Bool) : (s.post c m p d).faults = s.faults := by
  obtain ⟨x0, x1, h⟩ := post_changes s c m p d; exact (congrArg State.faults h).trans rfl
@[simp] theorem post_mirror (s : State) (c : Nat) (m : OutMsg) (p : Nat) (d : Bool) : (s.post c m p d).mirror = s.mirror := by
  obtain ⟨x0, x1, h⟩ := post_changes s c m p d; exact (congrArg State.mirror h).trans rfl
@[simp] theorem post_pins (s : State) (c : Nat) (m : OutMsg) (p : Nat) (d : Bool) : (s.post c m p d).pins = s.pins := by
  obtain ⟨x0, x1, h⟩ := post_changes s c m p d; exact (congrArg State.pins h).trans rfl
@[simp] theorem post_clk (s : State) (c : Nat) (m : OutMsg) (p : Nat) (d : Bool) : (s.post c m p d).clk = s.clk := by
  obtain ⟨x0, x1, h⟩ := post_changes s c m p d; exact (congrArg State.clk h).trans rfl
@[simp] theorem post_held (s : State) (c : Nat) (m : OutMsg) (p : Nat) (d : Bool) : (s.post c m p d).held = s.held := by
  obtain ⟨x0, x1, h⟩ := post_changes s c m p d; exact (congrArg State.held h).trans rfl
@[simp] theorem post_pending (s : State) (c : Nat) (m : OutMsg) (p : Nat) (d : Bool) : (s.post c m p d).pending = s.pending := by
  obtain ⟨x0, x1, h⟩ := post_changes s c m p d; exact (congrArg State.pending h).trans rfl
@[simp] theorem send_ident (s : State) (c : Nat) (m : OutMsg) : (s.send c m).ident = s.ident := by
  obtain ⟨x0, x1, h⟩ := post_changes s c m _ false; exact (congrArg State.ident h).trans rfl
@[simp] theorem send_vault (s : State) (c : Nat) (m : OutMsg) : (s.send c m).vault = s.vault := by
  obtain ⟨x0, x1, h⟩ := post_changes s c m _ false; exact (congrArg State.vault h).trans rfl
@[simp] theorem send_fabric (s : State) (c : Nat) (m : OutMsg) : (s.send c m).fabric = s.fabric := by
  obtain ⟨x0, x1, h⟩ := post_changes s c m _ false; exact (congrArg State.fabric h).trans rfl
@[simp] theorem send_vec (s : State) (c : Nat) (m : OutMsg) : (s.send c m).vec = s.vec := by
  obtain ⟨x0, x1, h⟩ := post_changes s c m _ false; exact (congrArg State.vec h).trans rfl
@[simp] theorem send_mem (s : State) (c : Nat) (m : OutMsg) : (s.send c m).mem = s.mem := by
  obtain ⟨x0, x1, h⟩ := post_changes s c m _ false; exact (congrArg State.mem h).trans rfl
@[simp] theorem send_kv (s : State) (c : Nat) (m : OutMsg) : (s.send c m).kv = s.kv := by
  obtain ⟨x0, x1, h⟩ := post_changes s c m _ false; exact (congrArg State.kv h).trans rfl
@[simp] theorem send_exp (s : State) (c : Nat) (m : OutMsg) : (s.send c m).exp = s.exp := by
  obtain ⟨x0, x1, h⟩ := post_changes s c m _ false; exact (congrArg State.exp h).trans rfl
@[simp] theorem send_ops (s : State) (c : Nat) (m : OutMsg) : (s.send c m).ops = s.ops := by
  obtain ⟨x0, x1, h⟩ := post_changes s c m _ false; exact (congrArg State.ops h).trans rfl
@[simp] theorem send_tiers (s : State) (c : Nat) (m : OutMsg) : (s.send c m).tiers = s.tiers := by
  obtain ⟨x0, x1, h⟩ := post_changes s c m _ false; exact (congrArg State.tiers h).trans rfl
@[simp] theorem send_streams (s : State) (c : Nat) (m : OutMsg) : (s.send c m).streams = s.streams := by
  obtain ⟨x0, x1, h⟩ := post_changes s c m _ false; exact (congrArg State.streams h).trans rfl
@[simp] theorem send_dram (s : State) (c : Nat) (m : OutMsg) : (s.send c m).dram = s.dram := by
  obtain ⟨x0, x1, h⟩ := post_changes s c m _ false; exact (congrArg State.dram h).trans rfl
@[simp] theorem send_models (s : State) (c : Nat) (m : OutMsg) : (s.send c m).models = s.models := by
  obtain ⟨x0, x1, h⟩ := post_changes s c m _ false; exact (congrArg State.models h).trans rfl
@[simp] theorem send_ctl (s : State) (c : Nat) (m : OutMsg) : (s.send c m).ctl = s.ctl := by
  obtain ⟨x0, x1, h⟩ := post_changes s c m _ false; exact (congrArg State.ctl h).trans rfl
@[simp] theorem send_dict (s : State) (c : Nat) (m : OutMsg) : (s.send c m).dict = s.dict := by
  obtain ⟨x0, x1, h⟩ := post_changes s c m _ false; exact (congrArg State.dict h).trans rfl
@[simp] theorem send_tenants (s : State) (c : Nat) (m : OutMsg) : (s.send c m).tenants = s.tenants := by
  obtain ⟨x0, x1, h⟩ := post_changes s c m _ false; exact (congrArg State.tenants h).trans rfl
@[simp] theorem send_trust (s : State) (c : Nat) (m : OutMsg) : (s.send c m).trust = s.trust := by
  obtain ⟨x0, x1, h⟩ := post_changes s c m _ false; exact (congrArg State.trust h).trans rfl
@[simp] theorem send_power (s : State) (c : Nat) (m : OutMsg) : (s.send c m).power = s.power := by
  obtain ⟨x0, x1, h⟩ := post_changes s c m _ false; exact (congrArg State.power h).trans rfl
@[simp] theorem send_faults (s : State) (c : Nat) (m : OutMsg) : (s.send c m).faults = s.faults := by
  obtain ⟨x0, x1, h⟩ := post_changes s c m _ false; exact (congrArg State.faults h).trans rfl
@[simp] theorem send_mirror (s : State) (c : Nat) (m : OutMsg) : (s.send c m).mirror = s.mirror := by
  obtain ⟨x0, x1, h⟩ := post_changes s c m _ false; exact (congrArg State.mirror h).trans rfl
@[simp] theorem send_pins (s : State) (c : Nat) (m : OutMsg) : (s.send c m).pins = s.pins := by
  obtain ⟨x0, x1, h⟩ := post_changes s c m _ false; exact (congrArg State.pins h).trans rfl
@[simp] theorem send_clk (s : State) (c : Nat) (m : OutMsg) : (s.send c m).clk = s.clk := by
  obtain ⟨x0, x1, h⟩ := post_changes s c m _ false; exact (congrArg State.clk h).trans rfl
@[simp] theorem send_held (s : State) (c : Nat) (m : OutMsg) : (s.send c m).held = s.held := by
  obtain ⟨x0, x1, h⟩ := post_changes s c m _ false; exact (congrArg State.held h).trans rfl
@[simp] theorem send_pending (s : State) (c : Nat) (m : OutMsg) : (s.send c m).pending = s.pending := by
  obtain ⟨x0, x1, h⟩ := post_changes s c m _ false; exact (congrArg State.pending h).trans rfl
@[simp] theorem reply_ident (s : State) (c : Nat) (d : Bool) (m : OutMsg) : (s.reply c d m).ident = s.ident := by
  obtain ⟨x0, x1, h⟩ := post_changes s c m _ d; exact (congrArg State.ident h).trans rfl
@[simp] theorem reply_vault (s : State) (c : Nat) (d : Bool) (m : OutMsg) : (s.reply c d m).vault = s.vault := by
  obtain ⟨x0, x1, h⟩ := post_changes s c m _ d; exact (congrArg State.vault h).trans rfl
@[simp] theorem reply_fabric (s : State) (c : Nat) (d : Bool) (m : OutMsg) : (s.reply c d m).fabric = s.fabric := by
  obtain ⟨x0, x1, h⟩ := post_changes s c m _ d; exact (congrArg State.fabric h).trans rfl
@[simp] theorem reply_vec (s : State) (c : Nat) (d : Bool) (m : OutMsg) : (s.reply c d m).vec = s.vec := by
  obtain ⟨x0, x1, h⟩ := post_changes s c m _ d; exact (congrArg State.vec h).trans rfl
@[simp] theorem reply_mem (s : State) (c : Nat) (d : Bool) (m : OutMsg) : (s.reply c d m).mem = s.mem := by
  obtain ⟨x0, x1, h⟩ := post_changes s c m _ d; exact (congrArg State.mem h).trans rfl
@[simp] theorem reply_kv (s : State) (c : Nat) (d : Bool) (m : OutMsg) : (s.reply c d m).kv = s.kv := by
  obtain ⟨x0, x1, h⟩ := post_changes s c m _ d; exact (congrArg State.kv h).trans rfl
@[simp] theorem reply_exp (s : State) (c : Nat) (d : Bool) (m : OutMsg) : (s.reply c d m).exp = s.exp := by
  obtain ⟨x0, x1, h⟩ := post_changes s c m _ d; exact (congrArg State.exp h).trans rfl
@[simp] theorem reply_ops (s : State) (c : Nat) (d : Bool) (m : OutMsg) : (s.reply c d m).ops = s.ops := by
  obtain ⟨x0, x1, h⟩ := post_changes s c m _ d; exact (congrArg State.ops h).trans rfl
@[simp] theorem reply_tiers (s : State) (c : Nat) (d : Bool) (m : OutMsg) : (s.reply c d m).tiers = s.tiers := by
  obtain ⟨x0, x1, h⟩ := post_changes s c m _ d; exact (congrArg State.tiers h).trans rfl
@[simp] theorem reply_streams (s : State) (c : Nat) (d : Bool) (m : OutMsg) : (s.reply c d m).streams = s.streams := by
  obtain ⟨x0, x1, h⟩ := post_changes s c m _ d; exact (congrArg State.streams h).trans rfl
@[simp] theorem reply_dram (s : State) (c : Nat) (d : Bool) (m : OutMsg) : (s.reply c d m).dram = s.dram := by
  obtain ⟨x0, x1, h⟩ := post_changes s c m _ d; exact (congrArg State.dram h).trans rfl
@[simp] theorem reply_models (s : State) (c : Nat) (d : Bool) (m : OutMsg) : (s.reply c d m).models = s.models := by
  obtain ⟨x0, x1, h⟩ := post_changes s c m _ d; exact (congrArg State.models h).trans rfl
@[simp] theorem reply_ctl (s : State) (c : Nat) (d : Bool) (m : OutMsg) : (s.reply c d m).ctl = s.ctl := by
  obtain ⟨x0, x1, h⟩ := post_changes s c m _ d; exact (congrArg State.ctl h).trans rfl
@[simp] theorem reply_dict (s : State) (c : Nat) (d : Bool) (m : OutMsg) : (s.reply c d m).dict = s.dict := by
  obtain ⟨x0, x1, h⟩ := post_changes s c m _ d; exact (congrArg State.dict h).trans rfl
@[simp] theorem reply_tenants (s : State) (c : Nat) (d : Bool) (m : OutMsg) : (s.reply c d m).tenants = s.tenants := by
  obtain ⟨x0, x1, h⟩ := post_changes s c m _ d; exact (congrArg State.tenants h).trans rfl
@[simp] theorem reply_trust (s : State) (c : Nat) (d : Bool) (m : OutMsg) : (s.reply c d m).trust = s.trust := by
  obtain ⟨x0, x1, h⟩ := post_changes s c m _ d; exact (congrArg State.trust h).trans rfl
@[simp] theorem reply_power (s : State) (c : Nat) (d : Bool) (m : OutMsg) : (s.reply c d m).power = s.power := by
  obtain ⟨x0, x1, h⟩ := post_changes s c m _ d; exact (congrArg State.power h).trans rfl
@[simp] theorem reply_faults (s : State) (c : Nat) (d : Bool) (m : OutMsg) : (s.reply c d m).faults = s.faults := by
  obtain ⟨x0, x1, h⟩ := post_changes s c m _ d; exact (congrArg State.faults h).trans rfl
@[simp] theorem reply_mirror (s : State) (c : Nat) (d : Bool) (m : OutMsg) : (s.reply c d m).mirror = s.mirror := by
  obtain ⟨x0, x1, h⟩ := post_changes s c m _ d; exact (congrArg State.mirror h).trans rfl
@[simp] theorem reply_pins (s : State) (c : Nat) (d : Bool) (m : OutMsg) : (s.reply c d m).pins = s.pins := by
  obtain ⟨x0, x1, h⟩ := post_changes s c m _ d; exact (congrArg State.pins h).trans rfl
@[simp] theorem reply_clk (s : State) (c : Nat) (d : Bool) (m : OutMsg) : (s.reply c d m).clk = s.clk := by
  obtain ⟨x0, x1, h⟩ := post_changes s c m _ d; exact (congrArg State.clk h).trans rfl
@[simp] theorem reply_held (s : State) (c : Nat) (d : Bool) (m : OutMsg) : (s.reply c d m).held = s.held := by
  obtain ⟨x0, x1, h⟩ := post_changes s c m _ d; exact (congrArg State.held h).trans rfl
@[simp] theorem reply_pending (s : State) (c : Nat) (d : Bool) (m : OutMsg) : (s.reply c d m).pending = s.pending := by
  obtain ⟨x0, x1, h⟩ := post_changes s c m _ d; exact (congrArg State.pending h).trans rfl
@[simp] theorem replyStatus_ident (s : State) (c : Nat) (d : Bool) (r h st w : Nat) : (s.replyStatus c d r h st w).ident = s.ident := by
  obtain ⟨x0, x1, h⟩ := post_changes s c _ _ d; exact (congrArg State.ident h).trans rfl
@[simp] theorem replyStatus_vault (s : State) (c : Nat) (d : Bool) (r h st w : Nat) : (s.replyStatus c d r h st w).vault = s.vault := by
  obtain ⟨x0, x1, h⟩ := post_changes s c _ _ d; exact (congrArg State.vault h).trans rfl
@[simp] theorem replyStatus_fabric (s : State) (c : Nat) (d : Bool) (r h st w : Nat) : (s.replyStatus c d r h st w).fabric = s.fabric := by
  obtain ⟨x0, x1, h⟩ := post_changes s c _ _ d; exact (congrArg State.fabric h).trans rfl
@[simp] theorem replyStatus_vec (s : State) (c : Nat) (d : Bool) (r h st w : Nat) : (s.replyStatus c d r h st w).vec = s.vec := by
  obtain ⟨x0, x1, h⟩ := post_changes s c _ _ d; exact (congrArg State.vec h).trans rfl
@[simp] theorem replyStatus_mem (s : State) (c : Nat) (d : Bool) (r h st w : Nat) : (s.replyStatus c d r h st w).mem = s.mem := by
  obtain ⟨x0, x1, h⟩ := post_changes s c _ _ d; exact (congrArg State.mem h).trans rfl
@[simp] theorem replyStatus_kv (s : State) (c : Nat) (d : Bool) (r h st w : Nat) : (s.replyStatus c d r h st w).kv = s.kv := by
  obtain ⟨x0, x1, h⟩ := post_changes s c _ _ d; exact (congrArg State.kv h).trans rfl
@[simp] theorem replyStatus_exp (s : State) (c : Nat) (d : Bool) (r h st w : Nat) : (s.replyStatus c d r h st w).exp = s.exp := by
  obtain ⟨x0, x1, h⟩ := post_changes s c _ _ d; exact (congrArg State.exp h).trans rfl
@[simp] theorem replyStatus_ops (s : State) (c : Nat) (d : Bool) (r h st w : Nat) : (s.replyStatus c d r h st w).ops = s.ops := by
  obtain ⟨x0, x1, h⟩ := post_changes s c _ _ d; exact (congrArg State.ops h).trans rfl
@[simp] theorem replyStatus_tiers (s : State) (c : Nat) (d : Bool) (r h st w : Nat) : (s.replyStatus c d r h st w).tiers = s.tiers := by
  obtain ⟨x0, x1, h⟩ := post_changes s c _ _ d; exact (congrArg State.tiers h).trans rfl
@[simp] theorem replyStatus_streams (s : State) (c : Nat) (d : Bool) (r h st w : Nat) : (s.replyStatus c d r h st w).streams = s.streams := by
  obtain ⟨x0, x1, h⟩ := post_changes s c _ _ d; exact (congrArg State.streams h).trans rfl
@[simp] theorem replyStatus_dram (s : State) (c : Nat) (d : Bool) (r h st w : Nat) : (s.replyStatus c d r h st w).dram = s.dram := by
  obtain ⟨x0, x1, h⟩ := post_changes s c _ _ d; exact (congrArg State.dram h).trans rfl
@[simp] theorem replyStatus_models (s : State) (c : Nat) (d : Bool) (r h st w : Nat) : (s.replyStatus c d r h st w).models = s.models := by
  obtain ⟨x0, x1, h⟩ := post_changes s c _ _ d; exact (congrArg State.models h).trans rfl
@[simp] theorem replyStatus_ctl (s : State) (c : Nat) (d : Bool) (r h st w : Nat) : (s.replyStatus c d r h st w).ctl = s.ctl := by
  obtain ⟨x0, x1, h⟩ := post_changes s c _ _ d; exact (congrArg State.ctl h).trans rfl
@[simp] theorem replyStatus_dict (s : State) (c : Nat) (d : Bool) (r h st w : Nat) : (s.replyStatus c d r h st w).dict = s.dict := by
  obtain ⟨x0, x1, h⟩ := post_changes s c _ _ d; exact (congrArg State.dict h).trans rfl
@[simp] theorem replyStatus_tenants (s : State) (c : Nat) (d : Bool) (r h st w : Nat) : (s.replyStatus c d r h st w).tenants = s.tenants := by
  obtain ⟨x0, x1, h⟩ := post_changes s c _ _ d; exact (congrArg State.tenants h).trans rfl
@[simp] theorem replyStatus_trust (s : State) (c : Nat) (d : Bool) (r h st w : Nat) : (s.replyStatus c d r h st w).trust = s.trust := by
  obtain ⟨x0, x1, h⟩ := post_changes s c _ _ d; exact (congrArg State.trust h).trans rfl
@[simp] theorem replyStatus_power (s : State) (c : Nat) (d : Bool) (r h st w : Nat) : (s.replyStatus c d r h st w).power = s.power := by
  obtain ⟨x0, x1, h⟩ := post_changes s c _ _ d; exact (congrArg State.power h).trans rfl
@[simp] theorem replyStatus_faults (s : State) (c : Nat) (d : Bool) (r h st w : Nat) : (s.replyStatus c d r h st w).faults = s.faults := by
  obtain ⟨x0, x1, h⟩ := post_changes s c _ _ d; exact (congrArg State.faults h).trans rfl
@[simp] theorem replyStatus_mirror (s : State) (c : Nat) (d : Bool) (r h st w : Nat) : (s.replyStatus c d r h st w).mirror = s.mirror := by
  obtain ⟨x0, x1, h⟩ := post_changes s c _ _ d; exact (congrArg State.mirror h).trans rfl
@[simp] theorem replyStatus_pins (s : State) (c : Nat) (d : Bool) (r h st w : Nat) : (s.replyStatus c d r h st w).pins = s.pins := by
  obtain ⟨x0, x1, h⟩ := post_changes s c _ _ d; exact (congrArg State.pins h).trans rfl
@[simp] theorem replyStatus_clk (s : State) (c : Nat) (d : Bool) (r h st w : Nat) : (s.replyStatus c d r h st w).clk = s.clk := by
  obtain ⟨x0, x1, h⟩ := post_changes s c _ _ d; exact (congrArg State.clk h).trans rfl
@[simp] theorem replyStatus_held (s : State) (c : Nat) (d : Bool) (r h st w : Nat) : (s.replyStatus c d r h st w).held = s.held := by
  obtain ⟨x0, x1, h⟩ := post_changes s c _ _ d; exact (congrArg State.held h).trans rfl
@[simp] theorem replyStatus_pending (s : State) (c : Nat) (d : Bool) (r h st w : Nat) : (s.replyStatus c d r h st w).pending = s.pending := by
  obtain ⟨x0, x1, h⟩ := post_changes s c _ _ d; exact (congrArg State.pending h).trans rfl
@[simp] theorem inbound_ident (s : State) (t c m : Nat) (b : Bytes) : (s.inbound t c m b).ident = s.ident := by
  obtain ⟨x0, x1, h⟩ := inbound_changes s t c m b; exact (congrArg State.ident h).trans rfl
@[simp] theorem inbound_vault (s : State) (t c m : Nat) (b : Bytes) : (s.inbound t c m b).vault = s.vault := by
  obtain ⟨x0, x1, h⟩ := inbound_changes s t c m b; exact (congrArg State.vault h).trans rfl
@[simp] theorem inbound_fabric (s : State) (t c m : Nat) (b : Bytes) : (s.inbound t c m b).fabric = s.fabric := by
  obtain ⟨x0, x1, h⟩ := inbound_changes s t c m b; exact (congrArg State.fabric h).trans rfl
@[simp] theorem inbound_vec (s : State) (t c m : Nat) (b : Bytes) : (s.inbound t c m b).vec = s.vec := by
  obtain ⟨x0, x1, h⟩ := inbound_changes s t c m b; exact (congrArg State.vec h).trans rfl
@[simp] theorem inbound_mem (s : State) (t c m : Nat) (b : Bytes) : (s.inbound t c m b).mem = s.mem := by
  obtain ⟨x0, x1, h⟩ := inbound_changes s t c m b; exact (congrArg State.mem h).trans rfl
@[simp] theorem inbound_kv (s : State) (t c m : Nat) (b : Bytes) : (s.inbound t c m b).kv = s.kv := by
  obtain ⟨x0, x1, h⟩ := inbound_changes s t c m b; exact (congrArg State.kv h).trans rfl
@[simp] theorem inbound_exp (s : State) (t c m : Nat) (b : Bytes) : (s.inbound t c m b).exp = s.exp := by
  obtain ⟨x0, x1, h⟩ := inbound_changes s t c m b; exact (congrArg State.exp h).trans rfl
@[simp] theorem inbound_ops (s : State) (t c m : Nat) (b : Bytes) : (s.inbound t c m b).ops = s.ops := by
  obtain ⟨x0, x1, h⟩ := inbound_changes s t c m b; exact (congrArg State.ops h).trans rfl
@[simp] theorem inbound_tiers (s : State) (t c m : Nat) (b : Bytes) : (s.inbound t c m b).tiers = s.tiers := by
  obtain ⟨x0, x1, h⟩ := inbound_changes s t c m b; exact (congrArg State.tiers h).trans rfl
@[simp] theorem inbound_streams (s : State) (t c m : Nat) (b : Bytes) : (s.inbound t c m b).streams = s.streams := by
  obtain ⟨x0, x1, h⟩ := inbound_changes s t c m b; exact (congrArg State.streams h).trans rfl
@[simp] theorem inbound_dram (s : State) (t c m : Nat) (b : Bytes) : (s.inbound t c m b).dram = s.dram := by
  obtain ⟨x0, x1, h⟩ := inbound_changes s t c m b; exact (congrArg State.dram h).trans rfl
@[simp] theorem inbound_models (s : State) (t c m : Nat) (b : Bytes) : (s.inbound t c m b).models = s.models := by
  obtain ⟨x0, x1, h⟩ := inbound_changes s t c m b; exact (congrArg State.models h).trans rfl
@[simp] theorem inbound_svc (s : State) (t c m : Nat) (b : Bytes) : (s.inbound t c m b).svc = s.svc := by
  obtain ⟨x0, x1, h⟩ := inbound_changes s t c m b; exact (congrArg State.svc h).trans rfl
@[simp] theorem inbound_ctl (s : State) (t c m : Nat) (b : Bytes) : (s.inbound t c m b).ctl = s.ctl := by
  obtain ⟨x0, x1, h⟩ := inbound_changes s t c m b; exact (congrArg State.ctl h).trans rfl
@[simp] theorem inbound_ports (s : State) (t c m : Nat) (b : Bytes) : (s.inbound t c m b).ports = s.ports := by
  obtain ⟨x0, x1, h⟩ := inbound_changes s t c m b; exact (congrArg State.ports h).trans rfl
@[simp] theorem inbound_dict (s : State) (t c m : Nat) (b : Bytes) : (s.inbound t c m b).dict = s.dict := by
  obtain ⟨x0, x1, h⟩ := inbound_changes s t c m b; exact (congrArg State.dict h).trans rfl
@[simp] theorem inbound_tenants (s : State) (t c m : Nat) (b : Bytes) : (s.inbound t c m b).tenants = s.tenants := by
  obtain ⟨x0, x1, h⟩ := inbound_changes s t c m b; exact (congrArg State.tenants h).trans rfl
@[simp] theorem inbound_trust (s : State) (t c m : Nat) (b : Bytes) : (s.inbound t c m b).trust = s.trust := by
  obtain ⟨x0, x1, h⟩ := inbound_changes s t c m b; exact (congrArg State.trust h).trans rfl
@[simp] theorem inbound_power (s : State) (t c m : Nat) (b : Bytes) : (s.inbound t c m b).power = s.power := by
  obtain ⟨x0, x1, h⟩ := inbound_changes s t c m b; exact (congrArg State.power h).trans rfl
@[simp] theorem inbound_pins (s : State) (t c m : Nat) (b : Bytes) : (s.inbound t c m b).pins = s.pins := by
  obtain ⟨x0, x1, h⟩ := inbound_changes s t c m b; exact (congrArg State.pins h).trans rfl
@[simp] theorem inbound_clk (s : State) (t c m : Nat) (b : Bytes) : (s.inbound t c m b).clk = s.clk := by
  obtain ⟨x0, x1, h⟩ := inbound_changes s t c m b; exact (congrArg State.clk h).trans rfl
@[simp] theorem inbound_held (s : State) (t c m : Nat) (b : Bytes) : (s.inbound t c m b).held = s.held := by
  obtain ⟨x0, x1, h⟩ := inbound_changes s t c m b; exact (congrArg State.held h).trans rfl
@[simp] theorem inbound_pending (s : State) (t c m : Nat) (b : Bytes) : (s.inbound t c m b).pending = s.pending := by
  obtain ⟨x0, x1, h⟩ := inbound_changes s t c m b; exact (congrArg State.pending h).trans rfl
@[simp] theorem unlisted_ident (s : State) : (s.unlisted).ident = s.ident := rfl
@[simp] theorem unlisted_vault (s : State) : (s.unlisted).vault = s.vault := rfl
@[simp] theorem unlisted_fabric (s : State) : (s.unlisted).fabric = s.fabric := rfl
@[simp] theorem unlisted_vec (s : State) : (s.unlisted).vec = s.vec := rfl
@[simp] theorem unlisted_mem (s : State) : (s.unlisted).mem = s.mem := rfl
@[simp] theorem unlisted_kv (s : State) : (s.unlisted).kv = s.kv := rfl
@[simp] theorem unlisted_exp (s : State) : (s.unlisted).exp = s.exp := rfl
@[simp] theorem unlisted_ops (s : State) : (s.unlisted).ops = s.ops := rfl
@[simp] theorem unlisted_tiers (s : State) : (s.unlisted).tiers = s.tiers := rfl
@[simp] theorem unlisted_streams (s : State) : (s.unlisted).streams = s.streams := rfl
@[simp] theorem unlisted_dram (s : State) : (s.unlisted).dram = s.dram := rfl
@[simp] theorem unlisted_models (s : State) : (s.unlisted).models = s.models := rfl
@[simp] theorem unlisted_svc (s : State) : (s.unlisted).svc = s.svc := rfl
@[simp] theorem unlisted_ctl (s : State) : (s.unlisted).ctl = s.ctl := rfl
@[simp] theorem unlisted_ports (s : State) : (s.unlisted).ports = s.ports := rfl
@[simp] theorem unlisted_dict (s : State) : (s.unlisted).dict = s.dict := rfl
@[simp] theorem unlisted_tenants (s : State) : (s.unlisted).tenants = s.tenants := rfl
@[simp] theorem unlisted_trust (s : State) : (s.unlisted).trust = s.trust := rfl
@[simp] theorem unlisted_power (s : State) : (s.unlisted).power = s.power := rfl
@[simp] theorem unlisted_mirror (s : State) : (s.unlisted).mirror = s.mirror := rfl
@[simp] theorem unlisted_pins (s : State) : (s.unlisted).pins = s.pins := rfl
@[simp] theorem unlisted_clk (s : State) : (s.unlisted).clk = s.clk := rfl
@[simp] theorem unlisted_held (s : State) : (s.unlisted).held = s.held := rfl
@[simp] theorem unlisted_pending (s : State) : (s.unlisted).pending = s.pending := rfl
@[simp] theorem hold_ident (s : State) (i : Instr) : (s.hold i).ident = s.ident := rfl
@[simp] theorem hold_vault (s : State) (i : Instr) : (s.hold i).vault = s.vault := rfl
@[simp] theorem hold_fabric (s : State) (i : Instr) : (s.hold i).fabric = s.fabric := rfl
@[simp] theorem hold_vec (s : State) (i : Instr) : (s.hold i).vec = s.vec := rfl
@[simp] theorem hold_mem (s : State) (i : Instr) : (s.hold i).mem = s.mem := rfl
@[simp] theorem hold_kv (s : State) (i : Instr) : (s.hold i).kv = s.kv := rfl
@[simp] theorem hold_exp (s : State) (i : Instr) : (s.hold i).exp = s.exp := rfl
@[simp] theorem hold_ops (s : State) (i : Instr) : (s.hold i).ops = s.ops := rfl
@[simp] theorem hold_tiers (s : State) (i : Instr) : (s.hold i).tiers = s.tiers := rfl
@[simp] theorem hold_streams (s : State) (i : Instr) : (s.hold i).streams = s.streams := rfl
@[simp] theorem hold_dram (s : State) (i : Instr) : (s.hold i).dram = s.dram := rfl
@[simp] theorem hold_models (s : State) (i : Instr) : (s.hold i).models = s.models := rfl
@[simp] theorem hold_svc (s : State) (i : Instr) : (s.hold i).svc = s.svc := rfl
@[simp] theorem hold_ctl (s : State) (i : Instr) : (s.hold i).ctl = s.ctl := rfl
@[simp] theorem hold_ports (s : State) (i : Instr) : (s.hold i).ports = s.ports := rfl
@[simp] theorem hold_dict (s : State) (i : Instr) : (s.hold i).dict = s.dict := rfl
@[simp] theorem hold_tenants (s : State) (i : Instr) : (s.hold i).tenants = s.tenants := rfl
@[simp] theorem hold_trust (s : State) (i : Instr) : (s.hold i).trust = s.trust := rfl
@[simp] theorem hold_power (s : State) (i : Instr) : (s.hold i).power = s.power := rfl
@[simp] theorem hold_faults (s : State) (i : Instr) : (s.hold i).faults = s.faults := rfl
@[simp] theorem hold_mirror (s : State) (i : Instr) : (s.hold i).mirror = s.mirror := rfl
@[simp] theorem hold_pins (s : State) (i : Instr) : (s.hold i).pins = s.pins := rfl
@[simp] theorem hold_clk (s : State) (i : Instr) : (s.hold i).clk = s.clk := rfl
@[simp] theorem hold_pending (s : State) (i : Instr) : (s.hold i).pending = s.pending := rfl

/-! ### Memory: what each operation writes, and that it keeps the canonical form (R195, R199, R101, R231) -/

theorem writeBytes_wf : ∀ (bs : Bytes) (a : Nat) (m : List Host.Cell), Memory.wf m = true → Memory.wf (writeBytes m a bs) = true
  | [], _, _, h => h
  | _ :: t, a, _, h => writeBytes_wf t (a + 1) _ (mset_wf h)

theorem setByte_wf {s : State} (h : Memory.wf s.mem = true) (a v : Nat) : Memory.wf (s.setByte a v).mem = true := mset_wf h

theorem setBytes_wf {s : State} (h : Memory.wf s.mem = true) (a : Nat) (bs : Bytes) : Memory.wf (s.setBytes a bs).mem = true := writeBytes_wf bs a _ h

theorem zero_wf {s : State} (h : Memory.wf s.mem = true) (lo hi : Nat) : Memory.wf (s.zero lo hi).mem = true := mfilter_wf _ h

@[simp] theorem byte_setByte_self (s : State) (a v : Nat) : (s.setByte a v).byte a = v % 256 := by
  simp [State.byte, State.setByte]

@[simp] theorem byte_setByte_ne {a b : Nat} (h : b ≠ a) (s : State) (v : Nat) : (s.setByte a v).byte b = s.byte b := by
  simp [State.byte, State.setByte, h]

theorem mget_writeBytes_out : ∀ (bs : Bytes) (a x : Nat) (m : List Host.Cell), (x < a ∨ a + bs.length ≤ x) → mget memDefault (writeBytes m a bs) x = mget memDefault m x
  | [], _, _, _, _ => rfl
  | b :: t, a, x, m, h => by
    rw [writeBytes, mget_writeBytes_out t (a + 1) x _ (by simp only [List.length_cons] at h; omega), mget_mset_ne (by simp only [List.length_cons] at h; omega)]

theorem mget_writeBytes_in : ∀ (bs : Bytes) (a i : Nat) (m : List Host.Cell) (h : i < bs.length), mget memDefault (writeBytes m a bs) (a + i) = BitVec.ofNat 8 bs[i]
  | b :: t, a, 0, m, _ => by
    rw [writeBytes, show a + 0 = a from rfl, mget_writeBytes_out t (a + 1) a _ (by omega), mget_mset_self]; rfl
  | b :: t, a, i + 1, m, h => by
    rw [writeBytes, show a + (i + 1) = a + 1 + i by omega, mget_writeBytes_in t (a + 1) i _ (by simpa using h)]; rfl

/-- A byte that is written reads as written; every other byte reads as before. -/
theorem byte_setBytes_in (s : State) (a i : Nat) (bs : Bytes) (h : i < bs.length) : (s.setBytes a bs).byte (a + i) = bs[i] % 256 := by
  simp [State.byte, State.setBytes, mget_writeBytes_in bs a i s.mem h]
theorem byte_setBytes_out (s : State) (a x : Nat) (bs : Bytes) (h : x < a ∨ a + bs.length ≤ x) : (s.setBytes a bs).byte x = s.byte x := by
  simp [State.byte, State.setBytes, mget_writeBytes_out bs a x s.mem h]

end Sys2Proof.Machine
end

