-- ==== Sys2Proof/Laws/Memory.lean ====
section
/-! SUPPORT. Every operation that changes memory keeps its canonical form: together with `setByte_wf`, `setBytes_wf` and `zero_wf` of Laws/Ops.lean these are all of them. -/

namespace Sys2Proof.Machine

/-- A fold of operations that each keep the form keeps the form. -/
theorem foldl_memory_wf {β : Type} (f : List Host.Cell → β → List Host.Cell) (hf : ∀ m b, Memory.wf m = true → Memory.wf (f m b) = true) :
    ∀ (l : List β) (m : List Host.Cell), Memory.wf m = true → Memory.wf (l.foldl f m) = true
  | [], _, h => h
  | b :: l, m, h => foldl_memory_wf f hf l (f m b) (hf m b h)

theorem copyRange_wf {m : List Host.Cell} (src dst len : Nat) (h : Memory.wf m = true) : Memory.wf (copyRange m src dst len) = true :=
  foldl_memory_wf _ (fun _ _ h => mset_wf h) _ _ (mfilter_wf _ h)

/-- The moves of a compaction log, or of its replay, keep the form. -/
theorem copyRanges_wf (place : Move → Nat × Nat × Nat) (l : List Move) {m : List Host.Cell} (h : Memory.wf m = true) :
    Memory.wf (l.foldl (fun m x => copyRange m (place x).1 (place x).2.1 (place x).2.2) m) = true :=
  foldl_memory_wf _ (fun _ _ h => copyRange_wf _ _ _ h) l m h

theorem compactChannel_wf {s : State} (h : Memory.wf s.mem = true) (t i ch : Nat) : Memory.wf (s.compactChannel t i ch).mem = true :=
  copyRanges_wf (fun x => (ch * 2 ^ 33 + x.src, ch * 2 ^ 33 + x.dst, x.len)) _ h

theorem restoreChannel_wf {s : State} (h : Memory.wf s.mem = true) (ch : Nat) : Memory.wf (s.restoreChannel ch).mem = true :=
  copyRanges_wf (fun x => (ch * 2 ^ 33 + x.dst, ch * 2 ^ 33 + x.src, x.len)) _ h

theorem dieMemoryZero_wf {s : State} (h : Memory.wf s.mem = true) : Memory.wf s.dieMemoryZero.mem = true := mfilter_wf _ h

theorem unpowered_wf (s : State) : Memory.wf s.unpowered.mem = true := rfl

theorem writeExtent_wf (e : Extent) : ∀ (bs : Bytes) (off : Nat) (s : State), Memory.wf s.mem = true → Memory.wf (State.writeExtent e off bs s).mem = true
  | [], _, _, h => h
  | b :: bs, off, s, h => by
    unfold State.writeExtent
    split
    · exact writeExtent_wf e bs (off + 1) s h
    · exact writeExtent_wf e bs (off + 1) _ (setByte_wf h _ b)

theorem fillExtent_wf {s : State} (h : Memory.wf s.mem = true) (t : Nat) (k : Alloc) (owner : Nat) (bs : Bytes) :
    Memory.wf (s.fillExtent t k owner bs).mem = true := by
  unfold State.fillExtent
  split
  · exact writeExtent_wf _ bs 0 s h
  · exact h

theorem reset_memory_wf : Memory.wf State.reset.mem = true := rfl

end Sys2Proof.Machine
end

