-- ==== Sys2Proof/Laws/Keeps.lean ====
section
/-! SUPPORT. What every function of the model keeps: the queue of waiting commands, and the canonical form of memory. -/

namespace Sys2Proof.Machine

set_option Elab.async false

/-- A state that has the queue of another, and memory in canonical form if the other has. -/
structure Keeps (s t : State) : Prop where
  pending : t.pending = s.pending
  mem : Memory.wf s.mem = true → Memory.wf t.mem = true

/-- Every next state of an answer keeps them. -/
def KeepsR (s : State) (r : Res) : Prop := ∀ t, r = .next t → Keeps s t

theorem Keeps.refl (s : State) : Keeps s s := ⟨rfl, id⟩
theorem Keeps.ite {s a b : State} {c : Prop} [Decidable c] (ha : Keeps s a) (hb : Keeps s b) : Keeps s (if c then a else b) := by split <;> assumption
theorem Keeps.iteSnd {α : Type} {s : State} {a b : α × State} {c : Prop} [Decidable c] (ha : Keeps s a.2) (hb : Keeps s b.2) : Keeps s (if c then a else b).2 := by split <;> assumption
theorem Keeps.iteFst {α : Type} {s : State} {a b : State × α} {c : Prop} [Decidable c] (ha : Keeps s a.1) (hb : Keeps s b.1) : Keeps s (if c then a else b).1 := by split <;> assumption
theorem KeepsR.ite {s : State} {a b : Res} {c : Prop} [Decidable c] (ha : KeepsR s a) (hb : KeepsR s b) : KeepsR s (if c then a else b) := by split <;> assumption
theorem KeepsR.next {s t : State} (h : Keeps s t) : KeepsR s (.next t) := by intro u e; cases e; exact h
theorem KeepsR.fault {s : State} (f : Fault) : KeepsR s (.fault f) := by intro u e; cases e
theorem KeepsR.refused {s : State} (f : Refusal) : KeepsR s (.refused f) := by intro u e; cases e
theorem Keeps.foldl {β : Type} {s t : State} {f : State → β → State} (hf : ∀ u b, Keeps s u → Keeps s (f u b)) (l : List β) (h : Keeps s t) :
    Keeps s (l.foldl f t) := by
  induction l generalizing t with
  | nil => exact h
  | cons b l ih => exact ih (hf t b h)
theorem Keeps.foldlSnd {β γ : Type} {s : State} {t : γ × State} {f : γ × State → β → γ × State} (hf : ∀ u b, Keeps s u.2 → Keeps s (f u b).2) (l : List β) (h : Keeps s t.2) :
    Keeps s (l.foldl f t).2 := by
  induction l generalizing t with
  | nil => exact h
  | cons b l ih => exact ih (hf t b h)
theorem Keeps.foldlFst {β γ : Type} {s : State} {t : State × γ} {f : State × γ → β → State × γ} (hf : ∀ u b, Keeps s u.1 → Keeps s (f u b).1) (l : List β) (h : Keeps s t.1) :
    Keeps s (l.foldl f t).1 := by
  induction l generalizing t with
  | nil => exact h
  | cons b l ih => exact ih (hf t b h)

theorem State.modPower_keeps {s₀ s : State} (h : Keeps s₀ s) (a1) : Keeps s₀ (State.modPower s a1) := by
  unfold State.modPower
  refine ⟨?_, ?_⟩
  · dsimp only
    apply Sys2Proof.Machine.Keeps.pending
    assumption
  · dsimp only
    apply Sys2Proof.Machine.Keeps.mem
    assumption

theorem State.modMten_keeps {s₀ s : State} (h : Keeps s₀ s) (a1 a2) : Keeps s₀ (State.modMten s a1 a2) := by
  unfold State.modMten
  refine ⟨?_, ?_⟩
  · dsimp only
    apply Sys2Proof.Machine.Keeps.pending
    assumption
  · dsimp only
    apply Sys2Proof.Machine.Keeps.mem
    assumption

theorem State.count_keeps {s₀ s : State} (h : Keeps s₀ s) (a1 a2 a3) : Keeps s₀ (State.count s a1 a2 a3) := by
  unfold State.count
  refine ⟨?_, ?_⟩
  · dsimp only
    apply Sys2Proof.Machine.Keeps.pending
    assumption
  · dsimp only
    apply Sys2Proof.Machine.Keeps.mem
    assumption

theorem State.tcount_keeps {s₀ s : State} (h : Keeps s₀ s) (a1 a2 a3 a4) : Keeps s₀ (State.tcount s a1 a2 a3 a4) := by
  unfold State.tcount
  apply Keeps.ite
  · assumption
  · apply State.count_keeps
    assumption

theorem State.capture_keeps {s₀ s : State} (h : Keeps s₀ s) (a1 a2) : Keeps s₀ (State.capture s a1 a2) := by
  unfold State.capture
  apply Keeps.ite
  · apply Keeps.ite
    · extract_lets +onlyGivenNames y0
      clear_value y0
      extract_lets +onlyGivenNames y1
      have h2 : Keeps s₀ y1 := by
        unfold y1
        apply State.modMten_keeps
        assumption
      clear_value y1
      extract_lets +onlyGivenNames y3
      have h4 : Keeps s₀ y3 := by
        unfold y3
        apply State.tcount_keeps
        assumption
      clear_value y3
      apply Keeps.ite
      · assumption
      · extract_lets +onlyGivenNames y5
        have h6 : Keeps s₀ y5 := by
          unfold y5
          apply State.tcount_keeps
          assumption
        clear_value y5
        refine ⟨?_, ?_⟩
        · dsimp only
          apply Sys2Proof.Machine.Keeps.pending
          assumption
        · dsimp only
          apply Sys2Proof.Machine.Keeps.mem
          assumption
    · apply State.tcount_keeps
      apply State.modMten_keeps
      assumption
  · assumption

theorem State.captureAll_keeps {s₀ s : State} (h : Keeps s₀ s) (a1) : Keeps s₀ (State.captureAll s a1) := by
  unfold State.captureAll
  apply Keeps.foldl
  · intro x0 x1 x2
    apply State.capture_keeps
    assumption
  · assumption

theorem State.notePower_keeps {s₀ s : State} (h : Keeps s₀ s) : Keeps s₀ (State.notePower s) := by
  unfold State.notePower
  apply State.captureAll_keeps
  assumption

theorem State.beginReturn_keeps {s₀ s : State} (h : Keeps s₀ s) (a1) : Keeps s₀ (State.beginReturn s a1) := by
  unfold State.beginReturn
  apply State.notePower_keeps
  apply State.modPower_keeps
  assumption

theorem State.modChan_keeps {s₀ s : State} (h : Keeps s₀ s) (a1 a2) : Keeps s₀ (State.modChan s a1 a2) := by
  unfold State.modChan
  refine ⟨?_, ?_⟩
  · dsimp only
    apply Sys2Proof.Machine.Keeps.pending
    assumption
  · dsimp only
    apply Sys2Proof.Machine.Keeps.mem
    assumption

theorem State.restoreChannel_keeps {s₀ s : State} (h : Keeps s₀ s) (ch : Nat) : Keeps s₀ (s.restoreChannel ch) := ⟨h.pending, fun w => restoreChannel_wf (h.mem w) ch⟩

theorem State.modObj_keeps {s₀ s : State} (h : Keeps s₀ s) (a1 a2) : Keeps s₀ (State.modObj s a1 a2) := by
  unfold State.modObj
  refine ⟨?_, ?_⟩
  · dsimp only
    apply Sys2Proof.Machine.Keeps.pending
    assumption
  · dsimp only
    apply Sys2Proof.Machine.Keeps.mem
    assumption

theorem State.armPersist_keeps {s₀ : State} (t : Nat) (l : List Nat) {s : State} (h : Keeps s₀ s) : Keeps s₀ (State.armPersist t l s).2 := by
  induction l generalizing s with
  | nil =>
    rw [State.armPersist]
    exact h
  | cons th l ih =>
    rw [State.armPersist]
    refine Keeps.iteSnd h ?_
    generalize s.freeObj = o
    cases o with
    | none => exact h
    | some k => exact ih (State.modObj_keeps h _ _)

theorem State.modJob_keeps {s₀ s : State} (h : Keeps s₀ s) (a1 a2) : Keeps s₀ (State.modJob s a1 a2) := by
  unfold State.modJob
  refine ⟨?_, ?_⟩
  · dsimp only
    apply Sys2Proof.Machine.Keeps.pending
    assumption
  · dsimp only
    apply Sys2Proof.Machine.Keeps.mem
    assumption

theorem State.armJob_keeps {s₀ s : State} (h : Keeps s₀ s) (a1) : Keeps s₀ (State.armJob s a1) := by
  unfold State.armJob
  apply Keeps.ite
  · extract_lets +onlyGivenNames y0
    have h1 : Keeps s₀ y0.2 := by
      unfold y0
      apply State.armPersist_keeps
      assumption
    clear_value y0
    apply State.modJob_keeps
    assumption
  · assumption

theorem State.resetActs_keeps {s₀ s : State} (h : Keeps s₀ s) (a1 a2) : Keeps s₀ (State.resetActs s a1 a2) := by
  unfold State.resetActs
  extract_lets +onlyGivenNames y0
  clear_value y0
  extract_lets +onlyGivenNames y1
  clear_value y1
  refine ⟨?_, ?_⟩
  · dsimp only
    apply Sys2Proof.Machine.Keeps.pending
    assumption
  · dsimp only
    apply Sys2Proof.Machine.Keeps.mem
    assumption

theorem State.runJob_keeps {s₀ s : State} (h : Keeps s₀ s) (a1) : Keeps s₀ (State.runJob s a1) := by
  unfold State.runJob
  extract_lets +onlyGivenNames y0
  clear_value y0
  extract_lets +onlyGivenNames y1
  have h2 : Keeps s₀ y1 := by
    unfold y1
    split
    · apply State.resetActs_keeps
      assumption
    · assumption
  clear_value y1
  apply State.modJob_keeps
  assumption

theorem State.resumeJob_keeps {s₀ s : State} (h : Keeps s₀ s) (a1) : Keeps s₀ (State.resumeJob s a1) := by
  unfold State.resumeJob
  apply Keeps.ite
  · apply State.runJob_keeps
    apply State.armJob_keeps
    assumption
  · assumption

theorem State.restoreDeep_keeps {s₀ s : State} (h : Keeps s₀ s) : Keeps s₀ (State.restoreDeep s) := by
  unfold State.restoreDeep
  apply Keeps.ite
  · extract_lets +onlyGivenNames y0
    have h1 : Keeps s₀ y0 := by
      unfold y0
      apply Keeps.foldl
      · intro x2 x3 x4
        apply State.restoreChannel_keeps
        assumption
      · assumption
    clear_value y0
    apply Keeps.foldl
    · intro x5 x6 x7
      apply State.resumeJob_keeps
      assumption
    · refine ⟨?_, ?_⟩
      · dsimp only
        apply Sys2Proof.Machine.Keeps.pending
        assumption
      · dsimp only
        apply Sys2Proof.Machine.Keeps.mem
        assumption
  · assumption

theorem State.resumeCounts_keeps {s₀ s : State} (h : Keeps s₀ s) : Keeps s₀ (State.resumeCounts s) := by
  unfold State.resumeCounts
  split
  · assumption
  · extract_lets +onlyGivenNames y0
    clear_value y0
    refine ⟨?_, ?_⟩
    · dsimp only
      apply Sys2Proof.Machine.Keeps.pending
      assumption
    · dsimp only
      apply Sys2Proof.Machine.Keeps.mem
      assumption

theorem State.modPort_keeps {s₀ s : State} (h : Keeps s₀ s) (a1 a2) : Keeps s₀ (State.modPort s a1 a2) := by
  unfold State.modPort
  refine ⟨?_, ?_⟩
  · dsimp only
    apply Sys2Proof.Machine.Keeps.pending
    assumption
  · dsimp only
    apply Sys2Proof.Machine.Keeps.mem
    assumption

theorem State.wakePorts_keeps {s₀ s : State} (h : Keeps s₀ s) : Keeps s₀ (State.wakePorts s) := by
  unfold State.wakePorts
  apply Keeps.foldl
  · intro x0 x1 x2
    apply State.modPort_keeps
    assumption
  · assumption

theorem State.enterRunState_keeps {s₀ s : State} (h : Keeps s₀ s) : Keeps s₀ (State.enterRunState s) := by
  unfold State.enterRunState
  apply State.notePower_keeps
  apply State.modPower_keeps
  apply State.resumeCounts_keeps
  apply State.wakePorts_keeps
  apply State.restoreDeep_keeps
  assumption

theorem State.modResult_keeps {s₀ s : State} (h : Keeps s₀ s) (a1 a2) : Keeps s₀ (State.modResult s a1 a2) := by
  unfold State.modResult
  refine ⟨?_, ?_⟩
  · dsimp only
    apply Sys2Proof.Machine.Keeps.pending
    assumption
  · dsimp only
    apply Sys2Proof.Machine.Keeps.mem
    assumption

theorem State.finish_keeps {s₀ s : State} (h : Keeps s₀ s) (a1 a2) : Keeps s₀ (State.finish s a1 a2) := by
  unfold State.finish
  apply State.modResult_keeps
  assumption

theorem State.noteRefusal_keeps {s₀ s : State} (h : Keeps s₀ s) (a1 a2 a3 a4) : Keeps s₀ (State.noteRefusal s a1 a2 a3 a4) := by
  unfold State.noteRefusal
  apply State.modPower_keeps
  assumption

theorem State.abortEntry_keeps {s₀ s : State} (h : Keeps s₀ s) (a1 a2 a3) : Keeps s₀ (State.abortEntry s a1 a2 a3) := by
  unfold State.abortEntry
  split
  · assumption
  · extract_lets +onlyGivenNames y0
    have h1 : Keeps s₀ y0 := by
      unfold y0
      apply State.noteRefusal_keeps
      apply State.count_keeps
      assumption
    clear_value y0
    extract_lets +onlyGivenNames y2
    have h3 : Keeps s₀ y2 := by
      unfold y2
      apply Keeps.ite
      · assumption
      · apply State.finish_keeps
        assumption
    clear_value y2
    extract_lets +onlyGivenNames y4
    have h5 : Keeps s₀ y4 := by
      unfold y4
      apply State.modPower_keeps
      assumption
    clear_value y4
    apply Keeps.ite
    · apply State.enterRunState_keeps
      assumption
    · apply State.beginReturn_keeps
      apply State.modPower_keeps
      assumption

theorem State.mirrorWrite_keeps {s₀ s : State} (h : Keeps s₀ s) (a1 a2 a3) : Keeps s₀ (State.mirrorWrite s a1 a2 a3) := by
  unfold State.mirrorWrite
  apply Keeps.foldl
  · intro x0 x1 x2
    extract_lets +onlyGivenNames y3
    clear_value y3
    apply Keeps.ite
    · extract_lets +onlyGivenNames y4
      clear_value y4
      apply Keeps.ite
      · assumption
      · apply State.capture_keeps
        assumption
    · assumption
  · assumption

theorem State.modConn_keeps {s₀ s : State} (h : Keeps s₀ s) (a1 a2) : Keeps s₀ (State.modConn s a1 a2) := by
  unfold State.modConn
  refine ⟨?_, ?_⟩
  · dsimp only
    apply Sys2Proof.Machine.Keeps.pending
    assumption
  · dsimp only
    apply Sys2Proof.Machine.Keeps.mem
    assumption

theorem State.fillConn_keeps {s₀ s : State} (h : Keeps s₀ s) (a1) : Keeps s₀ (State.fillConn s a1) := by
  unfold State.fillConn
  split
  · assumption
  · extract_lets +onlyGivenNames y0
    clear_value y0
    apply State.modConn_keeps
    apply State.modPort_keeps
    assumption

theorem State.post_keeps {s₀ s : State} (h : Keeps s₀ s) (a1 a2 a3 a4) : Keeps s₀ (State.post s a1 a2 a3 a4) := by
  unfold State.post
  extract_lets +onlyGivenNames y0
  clear_value y0
  apply State.fillConn_keeps
  apply State.modConn_keeps
  assumption

theorem State.send_keeps {s₀ s : State} (h : Keeps s₀ s) (a1 a2) : Keeps s₀ (State.send s a1 a2) := by
  unfold State.send
  apply State.post_keeps
  assumption

theorem State.respond_keeps {s₀ s : State} (h : Keeps s₀ s) (a1 a2 a3 a4) : Keeps s₀ (State.respond s a1 a2 a3 a4) := by
  unfold State.respond
  apply State.count_keeps
  apply Keeps.ite
  · apply State.send_keeps
    assumption
  · assumption

theorem State.accept_keeps {s₀ s : State} (h : Keeps s₀ s) (a1 a2 a3 a4 a5) : Keeps s₀ (State.accept s a1 a2 a3 a4 a5) := by
  unfold State.accept
  extract_lets +onlyGivenNames y0
  have h1 : Keeps s₀ y0 := by
    unfold y0
    split
    · apply Keeps.ite
      · apply State.finish_keeps
        assumption
      · assumption
    · assumption
  clear_value y0
  extract_lets +onlyGivenNames y2
  have h3 : Keeps s₀ y2 := by
    unfold y2
    apply State.mirrorWrite_keeps
    assumption
  clear_value y2
  extract_lets +onlyGivenNames y4
  clear_value y4
  apply State.respond_keeps
  assumption

theorem State.modLine_keeps {s₀ s : State} (h : Keeps s₀ s) (a1 a2) : Keeps s₀ (State.modLine s a1 a2) := by
  unfold State.modLine
  refine ⟨?_, ?_⟩
  · dsimp only
    apply Sys2Proof.Machine.Keeps.pending
    assumption
  · dsimp only
    apply Sys2Proof.Machine.Keeps.mem
    assumption

theorem State.cacheAccess_keeps {s₀ s : State} (h : Keeps s₀ s) (a1 a2 a3 a4 a5) : Keeps s₀ (State.cacheAccess s a1 a2 a3 a4 a5).1 := by
  unfold State.cacheAccess
  split
  · dsimp only
    apply State.tcount_keeps
    apply State.modLine_keeps
    assumption
  · extract_lets +onlyGivenNames y0
    have h1 : Keeps s₀ y0 := by
      unfold y0
      apply State.tcount_keeps
      assumption
    clear_value y0
    apply Keeps.iteFst
    · split
      · dsimp only
        assumption
      · dsimp only
        apply State.modLine_keeps
        assumption
    · dsimp only
      assumption

theorem State.setBytes_keeps {s₀ s : State} (h : Keeps s₀ s) (a : Nat) (bs : Bytes) : Keeps s₀ (s.setBytes a bs) := ⟨h.pending, fun w => setBytes_wf (h.mem w) a bs⟩

theorem State.wakeChan_keeps {s₀ s : State} (h : Keeps s₀ s) (a1) : Keeps s₀ (State.wakeChan s a1) := by
  unfold State.wakeChan
  apply State.modChan_keeps
  assumption

theorem State.acceptWrite_keeps {s₀ s : State} (h : Keeps s₀ s) (a1 a2 a3 a4) : Keeps s₀ (State.acceptWrite s a1 a2 a3 a4) := by
  unfold State.acceptWrite
  extract_lets +onlyGivenNames y0
  clear_value y0
  extract_lets +onlyGivenNames y1
  clear_value y1
  extract_lets +onlyGivenNames y2
  have h3 : Keeps s₀ y2 := by
    unfold y2
    apply Keeps.ite
    · assumption
    · apply State.cacheAccess_keeps
      assumption
  clear_value y2
  apply State.setBytes_keeps
  apply State.modChan_keeps
  apply State.wakeChan_keeps
  assumption

theorem State.modStratum_keeps {s₀ s : State} (h : Keeps s₀ s) (a1 a2) : Keeps s₀ (State.modStratum s a1 a2) := by
  unfold State.modStratum
  refine ⟨?_, ?_⟩
  · dsimp only
    apply Sys2Proof.Machine.Keeps.pending
    assumption
  · dsimp only
    apply Sys2Proof.Machine.Keeps.mem
    assumption

theorem State.startCopy_keeps {s₀ s : State} (h : Keeps s₀ s) (a1) : Keeps s₀ (State.startCopy s a1) := by
  unfold State.startCopy
  extract_lets +onlyGivenNames y0
  clear_value y0
  extract_lets +onlyGivenNames y1
  clear_value y1
  extract_lets +onlyGivenNames y2
  clear_value y2
  apply State.modStratum_keeps
  assumption

theorem State.loadCopyBut_keeps {s₀ s : State} (h : Keeps s₀ s) (a1 a2) : Keeps s₀ (State.loadCopyBut s a1 a2) := by
  unfold State.loadCopyBut
  extract_lets +onlyGivenNames y0
  clear_value y0
  apply Keeps.ite
  · assumption
  · extract_lets +onlyGivenNames y1
    clear_value y1
    apply Keeps.ite
    · apply State.startCopy_keeps
      assumption
    · split
      · apply State.startCopy_keeps
        apply State.modStratum_keeps
        assumption
      · assumption

theorem State.loadCopy_keeps {s₀ s : State} (h : Keeps s₀ s) (a1) : Keeps s₀ (State.loadCopy s a1) := by
  unfold State.loadCopy
  apply State.loadCopyBut_keeps
  assumption

theorem State.modEngine_keeps {s₀ s : State} (h : Keeps s₀ s) (a1 a2) : Keeps s₀ (State.modEngine s a1 a2) := by
  unfold State.modEngine
  refine ⟨?_, ?_⟩
  · dsimp only
    apply Sys2Proof.Machine.Keeps.pending
    assumption
  · dsimp only
    apply Sys2Proof.Machine.Keeps.mem
    assumption

theorem State.openCopy_keeps {s₀ s : State} (h : Keeps s₀ s) (a1 a2 a3 a4 a5) : Keeps s₀ (State.openCopy s a1 a2 a3 a4 a5) := by
  unfold State.openCopy
  split
  · assumption
  · apply Keeps.ite
    · assumption
    · apply State.modEngine_keeps
      assumption

theorem State.placeShadow_keeps {s₀ s : State} (h : Keeps s₀ s) (a1) : Keeps s₀ (State.placeShadow s a1) := by
  unfold State.placeShadow
  apply Keeps.ite
  · assumption
  · split
    · assumption
    · apply State.openCopy_keeps
      refine ⟨?_, ?_⟩
      · dsimp only
        apply Sys2Proof.Machine.Keeps.pending
        assumption
      · dsimp only
        apply Sys2Proof.Machine.Keeps.mem
        assumption

theorem State.repin_keeps {s₀ s : State} (h : Keeps s₀ s) (a1) : Keeps s₀ (State.repin s a1) := by
  unfold State.repin
  extract_lets +onlyGivenNames y0
  clear_value y0
  apply State.modStratum_keeps
  assumption

theorem State.modOp_keeps {s₀ s : State} (h : Keeps s₀ s) (a1 a2) : Keeps s₀ (State.modOp s a1 a2) := by
  unfold State.modOp
  refine ⟨?_, ?_⟩
  · dsimp only
    apply Sys2Proof.Machine.Keeps.pending
    assumption
  · dsimp only
    apply Sys2Proof.Machine.Keeps.mem
    assumption

theorem State.setOp_keeps {s₀ s : State} (h : Keeps s₀ s) (a1 a2) : Keeps s₀ (State.setOp s a1 a2) := by
  unfold State.setOp
  apply State.modOp_keeps
  assumption

theorem State.addShadow_keeps {s₀ s : State} (h : Keeps s₀ s) (a1 a2 a3 a4 a5) : Keeps s₀ (State.addShadow s a1 a2 a3 a4 a5) := by
  unfold State.addShadow
  extract_lets +onlyGivenNames y0
  have h1 : Keeps s₀ y0 := by
    unfold y0
    apply State.loadCopy_keeps
    assumption
  clear_value y0
  extract_lets +onlyGivenNames y2
  clear_value y2
  extract_lets +onlyGivenNames y3
  clear_value y3
  extract_lets +onlyGivenNames y4
  clear_value y4
  extract_lets +onlyGivenNames y5
  clear_value y5
  extract_lets +onlyGivenNames y6
  have h7 : Keeps s₀ y6 := by
    unfold y6
    apply Keeps.ite
    · refine ⟨?_, ?_⟩
      · dsimp only
        apply Sys2Proof.Machine.Keeps.pending
        assumption
      · dsimp only
        apply Sys2Proof.Machine.Keeps.mem
        assumption
    · apply State.placeShadow_keeps
      refine ⟨?_, ?_⟩
      · dsimp only
        apply Sys2Proof.Machine.Keeps.pending
        assumption
      · dsimp only
        apply Sys2Proof.Machine.Keeps.mem
        assumption
  clear_value y6
  apply State.setOp_keeps
  apply State.repin_keeps
  assumption

theorem State.modTable_keeps {s₀ s : State} (h : Keeps s₀ s) (a1 a2) : Keeps s₀ (State.modTable s a1 a2) := by
  unfold State.modTable
  refine ⟨?_, ?_⟩
  · dsimp only
    apply Sys2Proof.Machine.Keeps.pending
    assumption
  · dsimp only
    apply Sys2Proof.Machine.Keeps.mem
    assumption

theorem State.addTable_keeps {s₀ s : State} (h : Keeps s₀ s) (a1 a2 a3 a4 a5 a6 a7) : Keeps s₀ (State.addTable s a1 a2 a3 a4 a5 a6 a7) := by
  unfold State.addTable
  apply State.modTable_keeps
  assumption

theorem State.modSession_keeps {s₀ s : State} (h : Keeps s₀ s) (a1 a2) : Keeps s₀ (State.modSession s a1 a2) := by
  unfold State.modSession
  refine ⟨?_, ?_⟩
  · dsimp only
    apply Sys2Proof.Machine.Keeps.pending
    assumption
  · dsimp only
    apply Sys2Proof.Machine.Keeps.mem
    assumption

theorem State.keepReq_keeps {s₀ s : State} (h : Keeps s₀ s) (a1 a2) : Keeps s₀ (State.keepReq s a1 a2) := by
  unfold State.keepReq
  apply State.modSession_keeps
  assumption

theorem State.modQueue_keeps {s₀ s : State} (h : Keeps s₀ s) (a1 a2) : Keeps s₀ (State.modQueue s a1 a2) := by
  unfold State.modQueue
  refine ⟨?_, ?_⟩
  · dsimp only
    apply Sys2Proof.Machine.Keeps.pending
    assumption
  · dsimp only
    apply Sys2Proof.Machine.Keeps.mem
    assumption

theorem State.reply_keeps {s₀ s : State} (h : Keeps s₀ s) (a1 a2 a3) : Keeps s₀ (State.reply s a1 a2 a3) := by
  unfold State.reply
  apply State.post_keeps
  assumption

theorem State.replyStatus_keeps {s₀ s : State} (h : Keeps s₀ s) (a1 a2 a3 a4 a5 a6) : Keeps s₀ (State.replyStatus s a1 a2 a3 a4 a5 a6) := by
  unfold State.replyStatus
  apply State.reply_keeps
  assumption

theorem State.admitReq_keeps {s₀ s : State} (h : Keeps s₀ s) (a1 a2 a3 a4 a5) : Keeps s₀ (State.admitReq s a1 a2 a3 a4 a5) := by
  unfold State.admitReq
  extract_lets +onlyGivenNames y0
  clear_value y0
  extract_lets +onlyGivenNames y1
  clear_value y1
  extract_lets +onlyGivenNames y2
  clear_value y2
  extract_lets +onlyGivenNames y3
  clear_value y3
  apply Keeps.ite
  · extract_lets +onlyGivenNames y4
    have h5 : Keeps s₀ y4 := by
      unfold y4
      apply State.modQueue_keeps
      apply State.keepReq_keeps
      assumption
    clear_value y4
    apply State.replyStatus_keeps
    apply State.tcount_keeps
    assumption
  · extract_lets +onlyGivenNames y6
    clear_value y6
    extract_lets +onlyGivenNames y7
    have h8 : Keeps s₀ y7 := by
      unfold y7
      apply State.keepReq_keeps
      assumption
    clear_value y7
    extract_lets +onlyGivenNames y9
    have h10 : Keeps s₀ y9 := by
      unfold y9
      apply Keeps.ite
      · apply State.tcount_keeps
        assumption
      · assumption
    clear_value y9
    apply State.replyStatus_keeps
    assumption

theorem State.modPointer_keeps {s₀ s : State} (h : Keeps s₀ s) (a1 a2) : Keeps s₀ (State.modPointer s a1 a2) := by
  unfold State.modPointer
  refine ⟨?_, ?_⟩
  · dsimp only
    apply Sys2Proof.Machine.Keeps.pending
    assumption
  · dsimp only
    apply Sys2Proof.Machine.Keeps.mem
    assumption

theorem State.advance_keeps {s₀ s : State} (h : Keeps s₀ s) (a1) : Keeps s₀ (State.advance s a1) := by
  unfold State.advance
  apply State.modPointer_keeps
  assumption

theorem State.toStep_keeps {s₀ s : State} (h : Keeps s₀ s) (a1) : Keeps s₀ (State.toStep s a1) := by
  unfold State.toStep
  apply State.modPower_keeps
  assumption

theorem State.wakeSource_keeps {s₀ s : State} (h : Keeps s₀ s) (a1) : Keeps s₀ (State.wakeSource s a1) := by
  unfold State.wakeSource
  apply State.modPower_keeps
  assumption

theorem State.beginStep6_keeps {s₀ s : State} (h : Keeps s₀ s) (a1) : Keeps s₀ (State.beginStep6 s a1) := by
  unfold State.beginStep6
  apply Keeps.ite
  · apply State.abortEntry_keeps
    apply State.wakeSource_keeps
    apply State.toStep_keeps
    assumption
  · extract_lets +onlyGivenNames y0
    clear_value y0
    apply State.modPower_keeps
    apply Keeps.foldl
    · intro x1 x2 x3
      apply State.modPort_keeps
      assumption
    · assumption

theorem State.channelsOff_keeps {s₀ s : State} (h : Keeps s₀ s) (a1) : Keeps s₀ (State.channelsOff s a1) := by
  unfold State.channelsOff
  refine ⟨?_, ?_⟩
  · dsimp only
    apply Sys2Proof.Machine.Keeps.pending
    assumption
  · dsimp only
    apply Sys2Proof.Machine.Keeps.mem
    assumption

theorem State.dropPorts_keeps {s₀ s : State} (h : Keeps s₀ s) : Keeps s₀ (State.dropPorts s) := by
  unfold State.dropPorts
  apply Keeps.foldl
  · intro x0 x1 x2
    apply State.modPort_keeps
    assumption
  · assumption

theorem State.unpowered_keeps {s₀ s : State} (h : Keeps s₀ s) : Keeps s₀ s.unpowered := ⟨h.pending, fun _ => unpowered_wf s⟩

theorem State.toOff_keeps {s₀ s : State} (h : Keeps s₀ s) (a1) : Keeps s₀ (State.toOff s a1) := by
  unfold State.toOff
  extract_lets +onlyGivenNames y0
  have h1 : Keeps s₀ y0 := by
    unfold y0
    apply State.unpowered_keeps
    assumption
  clear_value y0
  refine ⟨?_, ?_⟩
  · dsimp only
    apply Sys2Proof.Machine.Keeps.pending
    assumption
  · dsimp only
    apply Sys2Proof.Machine.Keeps.mem
    assumption

theorem State.enterTarget_keeps {s₀ s : State} (h : Keeps s₀ s) (a1) : Keeps s₀ (State.enterTarget s a1) := by
  unfold State.enterTarget
  extract_lets +onlyGivenNames y0
  have h1 : Keeps s₀ y0 := by
    unfold y0
    apply Keeps.ite
    · assumption
    · apply State.finish_keeps
      assumption
  clear_value y0
  split
  · apply State.toOff_keeps
    apply State.count_keeps
    assumption
  · apply State.modPower_keeps
    apply State.dropPorts_keeps
    apply State.count_keeps
    assumption
  · apply State.modPower_keeps
    apply State.count_keeps
    assumption

theorem State.dropPages_keeps {s₀ s : State} (h : Keeps s₀ s) (a1) : Keeps s₀ (State.dropPages s a1) := by
  unfold State.dropPages
  refine ⟨?_, ?_⟩
  · dsimp only
    apply Sys2Proof.Machine.Keeps.pending
    assumption
  · dsimp only
    apply Sys2Proof.Machine.Keeps.mem
    assumption

theorem State.modCompletions_keeps {s₀ s : State} (h : Keeps s₀ s) (a1 a2) : Keeps s₀ (State.modCompletions s a1 a2) := by
  unfold State.modCompletions
  refine ⟨?_, ?_⟩
  · dsimp only
    apply Sys2Proof.Machine.Keeps.pending
    assumption
  · dsimp only
    apply Sys2Proof.Machine.Keeps.mem
    assumption

theorem State.modReq_keeps {s₀ s : State} (h : Keeps s₀ s) (a1 a2 a3) : Keeps s₀ (State.modReq s a1 a2 a3) := by
  unfold State.modReq
  apply State.modSession_keeps
  assumption

theorem State.noteOutput_keeps {s₀ s : State} (h : Keeps s₀ s) (a1 a2) : Keeps s₀ (State.noteOutput s a1 a2) := by
  unfold State.noteOutput
  apply Keeps.ite
  · apply State.modMten_keeps
    assumption
  · assumption

theorem State.emit_keeps {s₀ s : State} (h : Keeps s₀ s) (a1 a2 a3 a4) : Keeps s₀ (State.emit s a1 a2 a3 a4) := by
  unfold State.emit
  apply Keeps.foldl
  · intro x0 x1 x2
    apply State.noteOutput_keeps
    apply State.capture_keeps
    apply State.post_keeps
    assumption
  · assumption

theorem State.sendOutput_keeps {s₀ s : State} (h : Keeps s₀ s) (a1 a2 a3) : Keeps s₀ (State.sendOutput s a1 a2 a3) := by
  unfold State.sendOutput
  extract_lets +onlyGivenNames y0
  clear_value y0
  split
  · assumption
  · extract_lets +onlyGivenNames y1
    clear_value y1
    extract_lets +onlyGivenNames y2
    have h3 : Keeps s₀ y2 := by
      unfold y2
      apply State.emit_keeps
      assumption
    clear_value y2
    apply State.modReq_keeps
    assumption

theorem State.endReq_keeps {s₀ s : State} (h : Keeps s₀ s) (a1 a2 a3 a4) : Keeps s₀ (State.endReq s a1 a2 a3 a4) := by
  unfold State.endReq
  split
  · assumption
  · extract_lets +onlyGivenNames y0
    clear_value y0
    extract_lets +onlyGivenNames y1
    have h2 : Keeps s₀ y1 := by
      unfold y1
      apply State.modReq_keeps
      assumption
    clear_value y1
    extract_lets +onlyGivenNames y3
    have h4 : Keeps s₀ y3 := by
      unfold y3
      apply State.modQueue_keeps
      assumption
    clear_value y3
    extract_lets +onlyGivenNames y5
    have h6 : Keeps s₀ y5 := by
      unfold y5
      apply State.sendOutput_keeps
      assumption
    clear_value y5
    extract_lets +onlyGivenNames y7
    have h8 : Keeps s₀ y7 := by
      unfold y7
      apply State.modSession_keeps
      assumption
    clear_value y7
    extract_lets +onlyGivenNames y9
    have h10 : Keeps s₀ y9 := by
      unfold y9
      apply State.modCompletions_keeps
      assumption
    clear_value y9
    apply Keeps.ite
    · apply State.tcount_keeps
      assumption
    · assumption

theorem State.freeExtents_keeps {s₀ s : State} (h : Keeps s₀ s) (a1 a2 a3) : Keeps s₀ (State.freeExtents s a1 a2 a3) := by
  unfold State.freeExtents
  refine ⟨?_, ?_⟩
  · dsimp only
    apply Sys2Proof.Machine.Keeps.pending
    assumption
  · dsimp only
    apply Sys2Proof.Machine.Keeps.mem
    assumption

theorem State.sweepObjs_keeps {s₀ s : State} (h : Keeps s₀ s) : Keeps s₀ (State.sweepObjs s) := by
  unfold State.sweepObjs
  refine ⟨?_, ?_⟩
  · dsimp only
    apply Sys2Proof.Machine.Keeps.pending
    assumption
  · dsimp only
    apply Sys2Proof.Machine.Keeps.mem
    assumption

theorem State.freeObjs_keeps {s₀ s : State} (h : Keeps s₀ s) (a1) : Keeps s₀ (State.freeObjs s a1) := by
  unfold State.freeObjs
  apply State.sweepObjs_keeps
  refine ⟨?_, ?_⟩
  · dsimp only
    apply Sys2Proof.Machine.Keeps.pending
    assumption
  · dsimp only
    apply Sys2Proof.Machine.Keeps.mem
    assumption

theorem State.mapEngines_keeps {s₀ s : State} (h : Keeps s₀ s) (a1) : Keeps s₀ (State.mapEngines s a1) := by
  unfold State.mapEngines
  refine ⟨?_, ?_⟩
  · dsimp only
    apply Sys2Proof.Machine.Keeps.pending
    assumption
  · dsimp only
    apply Sys2Proof.Machine.Keeps.mem
    assumption

theorem State.endStreams_keeps {s₀ s : State} (h : Keeps s₀ s) (a1) : Keeps s₀ (State.endStreams s a1) := by
  unfold State.endStreams
  extract_lets +onlyGivenNames y0
  clear_value y0
  extract_lets +onlyGivenNames y1
  clear_value y1
  extract_lets +onlyGivenNames y2
  have h3 : Keeps s₀ y2 := by
    unfold y2
    apply State.mapEngines_keeps
    assumption
  clear_value y2
  extract_lets +onlyGivenNames y4
  clear_value y4
  extract_lets +onlyGivenNames y5
  have h6 : Keeps s₀ y5 := by
    unfold y5
    refine ⟨?_, ?_⟩
    · dsimp only
      apply Sys2Proof.Machine.Keeps.pending
      assumption
    · dsimp only
      apply Sys2Proof.Machine.Keeps.mem
      assumption
  clear_value y5
  apply Keeps.ite
  · assumption
  · apply State.tcount_keeps
    assumption

theorem State.modRemoval_keeps {s₀ s : State} (h : Keeps s₀ s) (a1 a2) : Keeps s₀ (State.modRemoval s a1 a2) := by
  unfold State.modRemoval
  refine ⟨?_, ?_⟩
  · dsimp only
    apply Sys2Proof.Machine.Keeps.pending
    assumption
  · dsimp only
    apply Sys2Proof.Machine.Keeps.mem
    assumption

theorem State.modRun_keeps {s₀ s : State} (h : Keeps s₀ s) (a1 a2) : Keeps s₀ (State.modRun s a1 a2) := by
  unfold State.modRun
  refine ⟨?_, ?_⟩
  · dsimp only
    apply Sys2Proof.Machine.Keeps.pending
    assumption
  · dsimp only
    apply Sys2Proof.Machine.Keeps.mem
    assumption

theorem State.noteEnd_keeps {s₀ s : State} (h : Keeps s₀ s) (a1 a2) : Keeps s₀ (State.noteEnd s a1 a2) := by
  unfold State.noteEnd
  extract_lets +onlyGivenNames y0
  have h1 : Keeps s₀ y0 := by
    unfold y0
    apply Keeps.ite
    · assumption
    · apply State.modRun_keeps
      assumption
  clear_value y0
  apply Keeps.ite
  · apply State.modRemoval_keeps
    assumption
  · assumption

theorem State.noteRange_keeps {s₀ s : State} (h : Keeps s₀ s) (a1 a2) : Keeps s₀ (State.noteRange s a1 a2) := by
  unfold State.noteRange
  apply Keeps.ite
  · apply State.modRun_keeps
    assumption
  · assumption

theorem State.ocount_keeps {s₀ s : State} (h : Keeps s₀ s) (a1 a2 a3 a4) : Keeps s₀ (State.ocount s a1 a2 a3 a4) := by
  unfold State.ocount
  apply Keeps.ite
  · assumption
  · apply State.tcount_keeps
    assumption

theorem State.placeShadows_keeps {s₀ s : State} (h : Keeps s₀ s) : Keeps s₀ (State.placeShadows s) := by
  unfold State.placeShadows
  apply Keeps.foldl
  · intro x0 x1 x2
    apply State.placeShadow_keeps
    assumption
  · assumption

theorem State.modArray_keeps {s₀ s : State} (h : Keeps s₀ s) (a1 a2) : Keeps s₀ (State.modArray s a1 a2) := by
  unfold State.modArray
  refine ⟨?_, ?_⟩
  · dsimp only
    apply Sys2Proof.Machine.Keeps.pending
    assumption
  · dsimp only
    apply Sys2Proof.Machine.Keeps.mem
    assumption

theorem State.dropVmvm_keeps {s₀ s : State} (h : Keeps s₀ s) (a1) : Keeps s₀ (State.dropVmvm s a1) := by
  unfold State.dropVmvm
  extract_lets +onlyGivenNames y0
  clear_value y0
  extract_lets +onlyGivenNames y1
  have h2 : Keeps s₀ y1 := by
    unfold y1
    refine ⟨?_, ?_⟩
    · dsimp only
      apply Sys2Proof.Machine.Keeps.pending
      assumption
    · dsimp only
      apply Sys2Proof.Machine.Keeps.mem
      assumption
  clear_value y1
  extract_lets +onlyGivenNames y3
  clear_value y3
  apply Keeps.foldl
  · intro x4 x5 x6
    extract_lets +onlyGivenNames y7
    clear_value y7
    extract_lets +onlyGivenNames y8
    clear_value y8
    apply State.modArray_keeps
    assumption
  · assumption

theorem State.modStagingOf_keeps {s₀ s : State} (h : Keeps s₀ s) (a1 a2) : Keeps s₀ (State.modStagingOf s a1 a2) := by
  unfold State.modStagingOf
  refine ⟨?_, ?_⟩
  · dsimp only
    apply Sys2Proof.Machine.Keeps.pending
    assumption
  · dsimp only
    apply Sys2Proof.Machine.Keeps.mem
    assumption

theorem State.modPage_keeps {s₀ s : State} (h : Keeps s₀ s) (a1 a2) : Keeps s₀ (State.modPage s a1 a2) := by
  unfold State.modPage
  refine ⟨?_, ?_⟩
  · dsimp only
    apply Sys2Proof.Machine.Keeps.pending
    assumption
  · dsimp only
    apply Sys2Proof.Machine.Keeps.mem
    assumption

theorem State.setPage_keeps {s₀ s : State} (h : Keeps s₀ s) (a1 a2) : Keeps s₀ (State.setPage s a1 a2) := by
  unfold State.setPage
  apply State.modPage_keeps
  assumption

theorem State.endReads_keeps {s₀ s : State} (h : Keeps s₀ s) (a1) : Keeps s₀ (State.endReads s a1) := by
  unfold State.endReads
  extract_lets +onlyGivenNames y0
  have h1 : Keeps s₀ y0 := by
    unfold y0
    apply Keeps.foldl
    · intro x2 x3 x4
      apply State.setPage_keeps
      assumption
    · assumption
  clear_value y0
  extract_lets +onlyGivenNames y5
  have h6 : Keeps s₀ y5 := by
    unfold y5
    apply Keeps.foldl
    · intro x7 x8 x9
      apply State.setPage_keeps
      assumption
    · assumption
  clear_value y5
  apply Keeps.ite
  · assumption
  · apply State.modStagingOf_keeps
    assumption

theorem State.modPod_keeps {s₀ s : State} (h : Keeps s₀ s) (a1 a2) : Keeps s₀ (State.modPod s a1 a2) := by
  unfold State.modPod
  refine ⟨?_, ?_⟩
  · dsimp only
    apply Sys2Proof.Machine.Keeps.pending
    assumption
  · dsimp only
    apply Sys2Proof.Machine.Keeps.mem
    assumption

theorem State.deliverOne_keeps {s₀ s : State} (h : Keeps s₀ s) (a1) : Keeps s₀ (State.deliverOne s a1) := by
  unfold State.deliverOne
  extract_lets +onlyGivenNames y0
  clear_value y0
  extract_lets +onlyGivenNames y1
  clear_value y1
  extract_lets +onlyGivenNames y2
  have h3 : Keeps s₀ y2 := by
    unfold y2
    refine ⟨?_, ?_⟩
    · dsimp only
      apply Sys2Proof.Machine.Keeps.pending
      assumption
    · dsimp only
      apply Sys2Proof.Machine.Keeps.mem
      assumption
  clear_value y2
  apply Keeps.ite
  · apply State.captureAll_keeps
    assumption
  · apply State.capture_keeps
    assumption

theorem State.deliver_keeps {s₀ s : State} (h : Keeps s₀ s) : Keeps s₀ (State.deliver s) := by
  unfold State.deliver
  apply Keeps.ite
  · apply Keeps.foldl
    · intro x0 x1 x2
      apply State.deliverOne_keeps
      assumption
    · refine ⟨?_, ?_⟩
      · dsimp only
        apply Sys2Proof.Machine.Keeps.pending
        assumption
      · dsimp only
        apply Sys2Proof.Machine.Keeps.mem
        assumption
  · assumption

theorem State.raise_keeps {s₀ s : State} (h : Keeps s₀ s) (a1 a2 a3 a4 a5) : Keeps s₀ (State.raise s a1 a2 a3 a4 a5) := by
  unfold State.raise
  apply State.deliver_keeps
  refine ⟨?_, ?_⟩
  · dsimp only
    apply Sys2Proof.Machine.Keeps.pending
    assumption
  · dsimp only
    apply Sys2Proof.Machine.Keeps.mem
    assumption

theorem State.discardXfer_keeps {s₀ s : State} (h : Keeps s₀ s) (a1 a2) : Keeps s₀ (State.discardXfer s a1 a2) := by
  unfold State.discardXfer
  apply State.raise_keeps
  refine ⟨?_, ?_⟩
  · dsimp only
    apply Sys2Proof.Machine.Keeps.pending
    assumption
  · dsimp only
    apply Sys2Proof.Machine.Keeps.mem
    assumption

theorem State.setByte_keeps {s₀ s : State} (h : Keeps s₀ s) (a v : Nat) : Keeps s₀ (s.setByte a v) := ⟨h.pending, fun w => setByte_wf (h.mem w) a v⟩

theorem State.writeTensor_keeps {s₀ : State} (o : Op) (hd : Handle) (d : TDesc) : ∀ (bs : Bytes) (off : Nat) {s : State}, Keeps s₀ s → Keeps s₀ (State.writeTensor s o hd d off bs)
  | [], _, _, h => h
  | b :: bs, off, s, h => by
    unfold State.writeTensor
    split
    · exact State.writeTensor_keeps o hd d bs (off + 1) h
    · exact State.writeTensor_keeps o hd d bs (off + 1) (State.setByte_keeps h _ _)

theorem State.putTensor_keeps {s₀ s : State} (h : Keeps s₀ s) (a1 a2 a3 a4 a5) : Keeps s₀ (State.putTensor s a1 a2 a3 a4 a5) := by
  unfold State.putTensor
  split
  · apply State.writeTensor_keeps
    assumption
  · apply State.discardXfer_keeps
    assumption

theorem State.writePlace_keeps {s₀ s : State} (h : Keeps s₀ s) (a1 a2 a3 a4 a5 a6) : Keeps s₀ (State.writePlace s a1 a2 a3 a4 a5 a6).1 := by
  unfold State.writePlace
  extract_lets +onlyGivenNames y0
  clear_value y0
  split
  · dsimp only
    apply State.putTensor_keeps
    apply State.putTensor_keeps
    assumption
  · dsimp only
    apply State.putTensor_keeps
    apply State.putTensor_keeps
    assumption

theorem State.encodePlace_keeps {s₀ s : State} (h : Keeps s₀ s) (a1 a2 a3 a4 a5) : Keeps s₀ (State.encodePlace s a1 a2 a3 a4 a5) := by
  unfold State.encodePlace
  extract_lets +onlyGivenNames y0
  clear_value y0
  extract_lets +onlyGivenNames y1
  have h2 : Keeps s₀ y1.1 := by
    unfold y1
    apply State.writePlace_keeps
    assumption
  clear_value y1
  split
  · assumption
  · apply State.modTable_keeps
    assumption

theorem State.modAct_keeps {s₀ s : State} (h : Keeps s₀ s) (a1 a2) : Keeps s₀ (State.modAct s a1 a2) := by
  unfold State.modAct
  refine ⟨?_, ?_⟩
  · dsimp only
    apply Sys2Proof.Machine.Keeps.pending
    assumption
  · dsimp only
    apply Sys2Proof.Machine.Keeps.mem
    assumption

theorem State.encodeTensor_keeps {s₀ s : State} (h : Keeps s₀ s) (a1 a2 a3) : Keeps s₀ (State.encodeTensor s a1 a2 a3) := by
  unfold State.encodeTensor
  extract_lets +onlyGivenNames y0
  clear_value y0
  extract_lets +onlyGivenNames y1
  clear_value y1
  extract_lets +onlyGivenNames y2
  have h3 : Keeps s₀ y2 := by
    unfold y2
    apply Keeps.foldl
    · intro x4 x5 x6
      apply State.encodePlace_keeps
      assumption
    · assumption
  clear_value y2
  apply State.modAct_keeps
  assumption

theorem State.encodeOutputs_keeps {s₀ s : State} (h : Keeps s₀ s) (a1) : Keeps s₀ (State.encodeOutputs s a1) := by
  unfold State.encodeOutputs
  apply Keeps.foldl
  · intro x0 x1 x2
    apply State.encodeTensor_keeps
    assumption
  · assumption

theorem State.workDone_keeps {s₀ s : State} (h : Keeps s₀ s) (a1) : Keeps s₀ (State.workDone s a1) := by
  unfold State.workDone
  apply State.setOp_keeps
  assumption

theorem State.fabCheck_keeps {s₀ s : State} (h : Keeps s₀ s) (a1 a2) : Keeps s₀ (State.fabCheck s a1 a2) := by
  unfold State.fabCheck
  split
  · assumption
  · apply Keeps.ite
    · apply State.workDone_keeps
      apply State.setOp_keeps
      apply State.encodeOutputs_keeps
      assumption
    · assumption

theorem State.countAtt_keeps {s₀ s : State} (h : Keeps s₀ s) (a1 a2 a3 a4 a5 a6) : Keeps s₀ (State.countAtt s a1 a2 a3 a4 a5 a6) := by
  unfold State.countAtt
  extract_lets +onlyGivenNames y0
  clear_value y0
  extract_lets +onlyGivenNames y1
  clear_value y1
  extract_lets +onlyGivenNames y2
  clear_value y2
  extract_lets +onlyGivenNames y3
  clear_value y3
  extract_lets +onlyGivenNames y4
  have h5 : Keeps s₀ y4 := by
    unfold y4
    apply State.ocount_keeps
    apply State.ocount_keeps
    assumption
  clear_value y4
  apply State.ocount_keeps
  apply State.ocount_keeps
  assumption

theorem State.putWords_keeps {s₀ s : State} (h : Keeps s₀ s) (a1 a2 a3 a4 a5) : Keeps s₀ (State.putWords s a1 a2 a3 a4 a5) := by
  unfold State.putWords
  apply State.putTensor_keeps
  assumption

theorem State.wakePod_keeps {s₀ s : State} (h : Keeps s₀ s) (a1 a2) : Keeps s₀ (State.wakePod s a1 a2) := by
  unfold State.wakePod
  extract_lets +onlyGivenNames y0
  have h1 : Keeps s₀ y0 := by
    unfold y0
    apply Keeps.ite
    · apply State.tcount_keeps
      apply State.tcount_keeps
      assumption
    · assumption
  clear_value y0
  apply State.modPod_keeps
  assumption

theorem State.runTiles_keeps {s₀ s : State} (h : Keeps s₀ s) (a1 a2 a3 a4 a5 a6) : Keeps s₀ (State.runTiles s a1 a2 a3 a4 a5 a6) := by
  unfold State.runTiles
  extract_lets +onlyGivenNames y0
  clear_value y0
  extract_lets +onlyGivenNames y1
  clear_value y1
  extract_lets +onlyGivenNames y2
  clear_value y2
  extract_lets +onlyGivenNames y3
  clear_value y3
  extract_lets +onlyGivenNames y4
  clear_value y4
  extract_lets +onlyGivenNames y5
  have h6 : Keeps s₀ y5 := by
    unfold y5
    apply State.countAtt_keeps
    apply State.wakePod_keeps
    assumption
  clear_value y5
  extract_lets +onlyGivenNames y7
  have h8 : Keeps s₀ y7 := by
    unfold y7
    split
    · assumption
    · apply State.putWords_keeps
      assumption
  clear_value y7
  apply State.modPod_keeps
  assumption

theorem State.runAtt_keeps {s₀ s : State} (h : Keeps s₀ s) (a1 a2) : Keeps s₀ (State.runAtt s a1 a2) := by
  unfold State.runAtt
  extract_lets +onlyGivenNames y0
  clear_value y0
  split
  · apply Keeps.ite
    · apply State.fabCheck_keeps
      apply State.runTiles_keeps
      assumption
    · assumption
  · assumption

theorem State.onePass_keeps {s₀ s : State} (h : Keeps s₀ s) (a1 a2 a3 a4 a5 a6 a7 a8 a9) : Keeps s₀ (State.onePass s a1 a2 a3 a4 a5 a6 a7 a8 a9) := by
  unfold State.onePass
  extract_lets +onlyGivenNames y0
  clear_value y0
  extract_lets +onlyGivenNames y1
  clear_value y1
  extract_lets +onlyGivenNames y2
  clear_value y2
  extract_lets +onlyGivenNames y3
  clear_value y3
  extract_lets +onlyGivenNames y4
  clear_value y4
  extract_lets +onlyGivenNames y5
  have h6 : Keeps s₀ y5 := by
    unfold y5
    apply State.wakePod_keeps
    assumption
  clear_value y5
  extract_lets +onlyGivenNames y7
  have h8 : Keeps s₀ y7 := by
    unfold y7
    apply Keeps.foldl
    · intro x9 x10 x11
      extract_lets +onlyGivenNames y12
      clear_value y12
      extract_lets +onlyGivenNames y13
      clear_value y13
      apply State.modPod_keeps
      assumption
    · assumption
  clear_value y7
  extract_lets +onlyGivenNames y14
  have h15 : Keeps s₀ y14 := by
    unfold y14
    apply State.modPod_keeps
    assumption
  clear_value y14
  extract_lets +onlyGivenNames y16
  clear_value y16
  apply State.ocount_keeps
  apply State.ocount_keeps
  assumption

theorem State.runPasses_keeps {s₀ : State} (slot : Nat) (o : Op) : ∀ (n : Nat) {s : State}, Keeps s₀ s → Keeps s₀ (State.runPasses s slot o n)
  | 0, _, h => h
  | n + 1, s, h => by
    unfold State.runPasses
    extract_lets p
    clear_value p
    split
    · exact Keeps.ite (State.runPasses_keeps slot o n (State.onePass_keeps h _ _ _ _ _ _ _ _ _)) h
    · exact h

theorem State.runOne_keeps {s₀ s : State} (h : Keeps s₀ s) (a1) : Keeps s₀ (State.runOne s a1) := by
  unfold State.runOne
  split
  · assumption
  · apply Keeps.ite
    · apply State.runAtt_keeps
      assumption
    · apply State.runPasses_keeps
      assumption

theorem State.runPod_keeps {s₀ s : State} (h : Keeps s₀ s) (a1) : Keeps s₀ (State.runPod s a1) := by
  unfold State.runPod
  apply Keeps.foldl
  · intro x0 x1 x2
    apply State.runOne_keeps
    assumption
  · assumption

theorem State.leavePod_keeps {s₀ s : State} (h : Keeps s₀ s) (a1 a2) : Keeps s₀ (State.leavePod s a1 a2) := by
  unfold State.leavePod
  extract_lets +onlyGivenNames y0
  clear_value y0
  extract_lets +onlyGivenNames y1
  clear_value y1
  apply State.runPod_keeps
  apply State.modPod_keeps
  assumption

theorem State.modUnit_keeps {s₀ s : State} (h : Keeps s₀ s) (a1 a2) : Keeps s₀ (State.modUnit s a1 a2) := by
  unfold State.modUnit
  refine ⟨?_, ?_⟩
  · dsimp only
    apply Sys2Proof.Machine.Keeps.pending
    assumption
  · dsimp only
    apply Sys2Proof.Machine.Keeps.mem
    assumption

theorem State.scatRetire_keeps {s₀ s : State} (h : Keeps s₀ s) (a1) : Keeps s₀ (State.scatRetire s a1) := by
  unfold State.scatRetire
  apply Keeps.foldl
  · intro x0 x1 x2
    apply State.setPage_keeps
    assumption
  · assumption

theorem State.releaseUnit_keeps {s₀ s : State} (h : Keeps s₀ s) (a1 a2) : Keeps s₀ (State.releaseUnit s a1 a2) := by
  unfold State.releaseUnit
  split
  · apply State.ocount_keeps
    apply State.leavePod_keeps
    assumption
  · apply State.ocount_keeps
    apply State.leavePod_keeps
    apply State.endReads_keeps
    assumption
  · apply State.ocount_keeps
    apply State.modUnit_keeps
    assumption
  · apply State.modUnit_keeps
    assumption
  · apply Keeps.ite
    · assumption
    · apply State.dropVmvm_keeps
      assumption
  · apply Keeps.ite
    · assumption
    · apply State.scatRetire_keeps
      assumption
  · assumption

theorem State.signal_keeps {s₀ s : State} (h : Keeps s₀ s) (a1 a2 a3 a4) : Keeps s₀ (State.signal s a1 a2 a3 a4) := by
  unfold State.signal
  split
  · assumption
  · extract_lets +onlyGivenNames y0
    clear_value y0
    extract_lets +onlyGivenNames y1
    have h2 : Keeps s₀ y1 := by
      unfold y1
      apply State.modObj_keeps
      assumption
    clear_value y1
    apply Keeps.ite
    · assumption
    · apply State.raise_keeps
      apply State.tcount_keeps
      apply State.setOp_keeps
      assumption

theorem State.signalFail_keeps {s₀ s : State} (h : Keeps s₀ s) (a1 a2) : Keeps s₀ (State.signalFail s a1 a2) := by
  unfold State.signalFail
  split
  · assumption
  · apply State.modObj_keeps
    assumption

theorem State.signals_keeps {s₀ s : State} (h : Keeps s₀ s) (a1 a2 a3) : Keeps s₀ (State.signals s a1 a2 a3) := by
  unfold State.signals
  apply Keeps.ite
  · apply State.signal_keeps
    apply State.signal_keeps
    assumption
  · apply State.signalFail_keeps
    apply State.signalFail_keeps
    assumption

theorem State.complete1_keeps {s₀ s : State} (h : Keeps s₀ s) (a1 a2 a3 a4) : Keeps s₀ (State.complete1 s a1 a2 a3 a4) := by
  unfold State.complete1
  extract_lets +onlyGivenNames y0
  have h1 : Keeps s₀ y0 := by
    unfold y0
    apply State.endStreams_keeps
    assumption
  clear_value y0
  extract_lets +onlyGivenNames y2
  have h3 : Keeps s₀ y2 := by
    unfold y2
    apply Keeps.ite
    · apply State.releaseUnit_keeps
      assumption
    · apply Keeps.ite
      · apply State.scatRetire_keeps
        assumption
      · assumption
  clear_value y2
  extract_lets +onlyGivenNames y4
  have h5 : Keeps s₀ y4 := by
    unfold y4
    apply State.setOp_keeps
    assumption
  clear_value y4
  extract_lets +onlyGivenNames y6
  have h7 : Keeps s₀ y6 := by
    unfold y6
    apply State.placeShadows_keeps
    apply State.noteEnd_keeps
    apply State.signals_keeps
    apply State.noteRange_keeps
    assumption
  clear_value y6
  extract_lets +onlyGivenNames y8
  clear_value y8
  extract_lets +onlyGivenNames y9
  have h10 : Keeps s₀ y9 := by
    unfold y9
    refine ⟨?_, ?_⟩
    · dsimp only
      apply Sys2Proof.Machine.Keeps.pending
      assumption
    · dsimp only
      apply Sys2Proof.Machine.Keeps.mem
      assumption
  clear_value y9
  extract_lets +onlyGivenNames y11
  have h12 : Keeps s₀ y11 := by
    unfold y11
    apply Keeps.ite
    · apply State.ocount_keeps
      assumption
    · assumption
  clear_value y11
  apply State.ocount_keeps
  assumption

theorem State.propagate_keeps {s₀ : State} : ∀ (n : Nat) {s : State}, Keeps s₀ s → Keeps s₀ (State.propagate n s)
  | 0, _, h => h
  | n + 1, s, h => by
    unfold State.propagate
    split
    · exact h
    · exact State.propagate_keeps n (State.complete1_keeps h _ _ _ _)

theorem State.complete_keeps {s₀ s : State} (h : Keeps s₀ s) (a1 a2 a3 a4) : Keeps s₀ (State.complete s a1 a2 a3 a4) := by
  unfold State.complete
  extract_lets +onlyGivenNames y0
  have h1 : Keeps s₀ y0 := by
    unfold y0
    apply State.complete1_keeps
    assumption
  clear_value y0
  apply Keeps.ite
  · assumption
  · apply State.propagate_keeps
    assumption

theorem State.stopOp_keeps {s₀ s : State} (h : Keeps s₀ s) (a1 a2) : Keeps s₀ (State.stopOp s a1 a2) := by
  unfold State.stopOp
  apply State.setOp_keeps
  assumption

theorem State.cancelOne_keeps {s₀ s : State} (h : Keeps s₀ s) (a1) : Keeps s₀ (State.cancelOne s a1) := by
  unfold State.cancelOne
  split
  · assumption
  · apply Keeps.ite
    · apply State.complete_keeps
      assumption
    · apply Keeps.ite
      · assumption
      · apply State.stopOp_keeps
        assumption

theorem State.cancelOps_keeps {s₀ s : State} (h : Keeps s₀ s) (a1) : Keeps s₀ (State.cancelOps s a1) := by
  unfold State.cancelOps
  apply Keeps.foldl
  · intro x0 x1 x2
    apply State.cancelOne_keeps
    assumption
  · assumption

theorem State.dropCoded_keeps {s₀ s : State} (h : Keeps s₀ s) (a1) : Keeps s₀ (State.dropCoded s a1) := by
  unfold State.dropCoded
  refine ⟨?_, ?_⟩
  · dsimp only
    apply Sys2Proof.Machine.Keeps.pending
    assumption
  · dsimp only
    apply Sys2Proof.Machine.Keeps.mem
    assumption

theorem State.dropRun_keeps {s₀ s : State} (h : Keeps s₀ s) (a1) : Keeps s₀ (State.dropRun s a1) := by
  unfold State.dropRun
  extract_lets +onlyGivenNames y0
  clear_value y0
  extract_lets +onlyGivenNames y1
  have h2 : Keeps s₀ y1 := by
    unfold y1
    apply State.modRun_keeps
    assumption
  clear_value y1
  refine ⟨?_, ?_⟩
  · dsimp only
    apply Sys2Proof.Machine.Keeps.pending
    assumption
  · dsimp only
    apply Sys2Proof.Machine.Keeps.mem
    assumption

theorem State.slidePages_keeps {s₀ s : State} (h : Keeps s₀ s) (a1 a2 a3) : Keeps s₀ (State.slidePages s a1 a2 a3) := by
  unfold State.slidePages
  apply Keeps.ite
  · extract_lets +onlyGivenNames y0
    clear_value y0
    refine ⟨?_, ?_⟩
    · dsimp only
      apply Sys2Proof.Machine.Keeps.pending
      assumption
    · dsimp only
      apply Sys2Proof.Machine.Keeps.mem
      assumption
  · assumption

theorem State.slideAll_keeps {s₀ s : State} (h : Keeps s₀ s) (a1 a2) : Keeps s₀ (State.slideAll s a1 a2) := by
  unfold State.slideAll
  apply Keeps.foldl
  · intro x0 x1 x2
    apply State.slidePages_keeps
    assumption
  · assumption

theorem State.endRun_keeps {s₀ s : State} (h : Keeps s₀ s) (a1 a2) : Keeps s₀ (State.endRun s a1 a2) := by
  unfold State.endRun
  extract_lets +onlyGivenNames y0
  have h1 : Keeps s₀ y0 := by
    unfold y0
    apply State.dropCoded_keeps
    apply State.freeExtents_keeps
    assumption
  clear_value y0
  extract_lets +onlyGivenNames y2
  clear_value y2
  extract_lets +onlyGivenNames y3
  have h4 : Keeps s₀ y3 := by
    unfold y3
    apply Keeps.foldl
    · intro x5 x6 x7
      apply State.slideAll_keeps
      apply State.modSession_keeps
      assumption
    · assumption
  clear_value y3
  extract_lets +onlyGivenNames y8
  clear_value y8
  apply Keeps.ite
  · apply State.dropRun_keeps
    apply Keeps.foldl
    · intro x9 x10 x11
      apply State.modSession_keeps
      assumption
    · assumption
  · assumption

theorem State.settleRun_keeps {s₀ s : State} (h : Keeps s₀ s) (a1) : Keeps s₀ (State.settleRun s a1) := by
  unfold State.settleRun
  split
  · apply Keeps.ite
    · apply State.endRun_keeps
      assumption
    · assumption
  · assumption

theorem State.stopRun_keeps {s₀ s : State} (h : Keeps s₀ s) (a1) : Keeps s₀ (State.stopRun s a1) := by
  unfold State.stopRun
  apply State.modRun_keeps
  assumption

theorem State.leaveRun_keeps {s₀ s : State} (h : Keeps s₀ s) (a1) : Keeps s₀ (State.leaveRun s a1) := by
  unfold State.leaveRun
  split
  · assumption
  · extract_lets +onlyGivenNames y0
    have h1 : Keeps s₀ y0 := by
      unfold y0
      apply State.modSession_keeps
      assumption
    clear_value y0
    split
    · assumption
    · apply Keeps.ite
      · assumption
      · apply State.settleRun_keeps
        apply State.cancelOps_keeps
        apply State.stopRun_keeps
        assumption

theorem State.notice_keeps {s₀ s : State} (h : Keeps s₀ s) (a1 a2) : Keeps s₀ (State.notice s a1 a2) := by
  unfold State.notice
  extract_lets +onlyGivenNames y0
  clear_value y0
  apply Keeps.foldl
  · intro x1 x2 x3
    apply State.send_keeps
    assumption
  · assumption

theorem State.closeSess_keeps {s₀ s : State} (h : Keeps s₀ s) (a1 a2) : Keeps s₀ (State.closeSess s a1 a2) := by
  unfold State.closeSess
  extract_lets +onlyGivenNames y0
  clear_value y0
  apply Keeps.ite
  · extract_lets +onlyGivenNames y1
    have h2 : Keeps s₀ y1 := by
      unfold y1
      split
      · apply State.endReq_keeps
        assumption
      · assumption
    clear_value y1
    extract_lets +onlyGivenNames y3
    have h4 : Keeps s₀ y3 := by
      unfold y3
      apply State.freeExtents_keeps
      apply State.notice_keeps
      apply State.leaveRun_keeps
      assumption
    clear_value y3
    extract_lets +onlyGivenNames y5
    have h6 : Keeps s₀ y5 := by
      unfold y5
      apply State.freeObjs_keeps
      apply State.dropPages_keeps
      assumption
    clear_value y5
    apply State.modSession_keeps
    assumption
  · assumption

theorem State.compactChannel_keeps {s₀ s : State} (h : Keeps s₀ s) (t i ch : Nat) : Keeps s₀ (s.compactChannel t i ch) := ⟨h.pending, fun w => compactChannel_wf (h.mem w) t i ch⟩

theorem State.evictWhole_keeps {s₀ s : State} (h : Keeps s₀ s) (a1) : Keeps s₀ (State.evictWhole s a1) := by
  unfold State.evictWhole
  split
  · assumption
  · extract_lets +onlyGivenNames y0
    clear_value y0
    extract_lets +onlyGivenNames y1
    clear_value y1
    extract_lets +onlyGivenNames y2
    have h3 : Keeps s₀ y2 := by
      unfold y2
      apply State.modStagingOf_keeps
      apply State.setPage_keeps
      assumption
    clear_value y2
    apply Keeps.ite
    · apply State.setPage_keeps
      assumption
    · assumption

theorem State.suspendJob_keeps {s₀ s : State} (h : Keeps s₀ s) (a1) : Keeps s₀ (State.suspendJob s a1) := by
  unfold State.suspendJob
  apply Keeps.ite
  · apply State.modJob_keeps
    assumption
  · assumption

theorem State.prepareDeep_keeps {s₀ s : State} (h : Keeps s₀ s) : Keeps s₀ (State.prepareDeep s) := by
  unfold State.prepareDeep
  extract_lets +onlyGivenNames y0
  have h1 : Keeps s₀ y0 := by
    unfold y0
    apply Keeps.foldl
    · intro x2 x3 x4
      apply State.closeSess_keeps
      assumption
    · assumption
  clear_value y0
  extract_lets +onlyGivenNames y5
  have h6 : Keeps s₀ y5 := by
    unfold y5
    apply Keeps.foldl
    · intro x7 x8 x9
      apply State.suspendJob_keeps
      assumption
    · assumption
  clear_value y5
  extract_lets +onlyGivenNames y10
  have h11 : Keeps s₀ y10 := by
    unfold y10
    apply Keeps.foldl
    · intro x12 x13 x14
      apply State.evictWhole_keeps
      assumption
    · assumption
  clear_value y10
  extract_lets +onlyGivenNames y15
  clear_value y15
  extract_lets +onlyGivenNames y16
  have h17 : Keeps s₀ y16 := by
    unfold y16
    apply Keeps.foldl
    · intro x18 x19 x20
      apply Keeps.foldl
      · intro x21 x22 x23
        apply State.compactChannel_keeps
        assumption
      · assumption
    · refine ⟨?_, ?_⟩
      · dsimp only
        apply Sys2Proof.Machine.Keeps.pending
        assumption
      · dsimp only
        apply Sys2Proof.Machine.Keeps.mem
        assumption
  clear_value y16
  refine ⟨?_, ?_⟩
  · dsimp only
    apply Sys2Proof.Machine.Keeps.pending
    assumption
  · dsimp only
    apply Sys2Proof.Machine.Keeps.mem
    assumption

theorem State.advanceEntry_keeps {s₀ s : State} (h : Keeps s₀ s) (a1) : Keeps s₀ (State.advanceEntry s a1) := by
  unfold State.advanceEntry
  split
  · apply State.toStep_keeps
    apply Keeps.ite
    · apply State.prepareDeep_keeps
      assumption
    · assumption
  · apply State.beginStep6_keeps
    assumption
  · apply State.toStep_keeps
    apply Keeps.ite
    · assumption
    · apply State.channelsOff_keeps
      assumption
  · apply State.enterTarget_keeps
    assumption
  · apply State.toStep_keeps
    assumption

theorem State.modSlot_keeps {s₀ s : State} (h : Keeps s₀ s) (a1 a2) : Keeps s₀ (State.modSlot s a1 a2) := by
  unfold State.modSlot
  refine ⟨?_, ?_⟩
  · dsimp only
    apply Sys2Proof.Machine.Keeps.pending
    assumption
  · dsimp only
    apply Sys2Proof.Machine.Keeps.mem
    assumption

theorem State.dropBarrier_keeps {s₀ s : State} (h : Keeps s₀ s) (a1 a2) : Keeps s₀ (State.dropBarrier s a1 a2) := by
  unfold State.dropBarrier
  extract_lets +onlyGivenNames y0
  clear_value y0
  apply Keeps.ite
  · extract_lets +onlyGivenNames y1
    clear_value y1
    extract_lets +onlyGivenNames y2
    have h3 : Keeps s₀ y2 := by
      unfold y2
      apply Keeps.ite
      · apply Keeps.foldl
        · intro x4 x5 x6
          apply State.modReq_keeps
          assumption
        · assumption
      · assumption
    clear_value y2
    apply State.modSlot_keeps
    apply State.tcount_keeps
    assumption
  · assumption

theorem State.noteSlots_keeps {s₀ s : State} (h : Keeps s₀ s) (a1) : Keeps s₀ (State.noteSlots s a1) := by
  unfold State.noteSlots
  apply State.capture_keeps
  assumption

theorem State.afterFlip_keeps {s₀ s : State} (h : Keeps s₀ s) (a1 a2) : Keeps s₀ (State.afterFlip s a1 a2) := by
  unfold State.afterFlip
  extract_lets +onlyGivenNames y0
  have h1 : Keeps s₀ y0 := by
    unfold y0
    apply Keeps.ite
    · assumption
    · apply State.dropBarrier_keeps
      assumption
  clear_value y0
  apply State.noteSlots_keeps
  apply Keeps.ite
  · apply State.resumeJob_keeps
    assumption
  · assumption

theorem State.modAdapter_keeps {s₀ s : State} (h : Keeps s₀ s) (a1 a2) : Keeps s₀ (State.modAdapter s a1 a2) := by
  unfold State.modAdapter
  refine ⟨?_, ?_⟩
  · dsimp only
    apply Sys2Proof.Machine.Keeps.pending
    assumption
  · dsimp only
    apply Sys2Proof.Machine.Keeps.mem
    assumption

theorem State.endJob_keeps {s₀ s : State} (h : Keeps s₀ s) (a1 a2) : Keeps s₀ (State.endJob s a1 a2) := by
  unfold State.endJob
  extract_lets +onlyGivenNames y0
  clear_value y0
  extract_lets +onlyGivenNames y1
  have h2 : Keeps s₀ y1 := by
    unfold y1
    apply State.freeObjs_keeps
    apply State.freeExtents_keeps
    assumption
  clear_value y1
  extract_lets +onlyGivenNames y3
  have h4 : Keeps s₀ y3 := by
    unfold y3
    apply State.modAdapter_keeps
    assumption
  clear_value y3
  extract_lets +onlyGivenNames y5
  have h6 : Keeps s₀ y5 := by
    unfold y5
    apply State.modJob_keeps
    assumption
  clear_value y5
  apply Keeps.ite
  · apply State.finish_keeps
    assumption
  · assumption

theorem State.enterStop_keeps {s₀ s : State} (h : Keeps s₀ s) (a1) : Keeps s₀ (State.enterStop s a1) := by
  unfold State.enterStop
  extract_lets +onlyGivenNames y0
  clear_value y0
  split
  · assumption
  · apply State.modJob_keeps
    assumption
  · apply State.noteSlots_keeps
    apply State.endJob_keeps
    apply State.modAdapter_keeps
    assumption
  · apply State.endJob_keeps
    assumption

theorem State.beginCheckpoint_keeps {s₀ s : State} (h : Keeps s₀ s) (a1) : Keeps s₀ (State.beginCheckpoint s a1) := by
  unfold State.beginCheckpoint
  extract_lets +onlyGivenNames y0
  have h1 : Keeps s₀ y0 := by
    unfold y0
    apply State.modJob_keeps
    assumption
  clear_value y0
  extract_lets +onlyGivenNames y2
  clear_value y2
  extract_lets +onlyGivenNames y3
  clear_value y3
  extract_lets +onlyGivenNames y4
  clear_value y4
  extract_lets +onlyGivenNames y5
  clear_value y5
  apply Keeps.ite
  · apply State.modJob_keeps
    assumption
  · extract_lets +onlyGivenNames y6
    have h7 : Keeps s₀ y6 := by
      unfold y6
      apply State.modJob_keeps
      assumption
    clear_value y6
    apply State.enterStop_keeps
    apply State.raise_keeps
    apply State.tcount_keeps
    assumption

theorem State.afterStep_keeps {s₀ s : State} (h : Keeps s₀ s) (a1) : Keeps s₀ (State.afterStep s a1) := by
  unfold State.afterStep
  extract_lets +onlyGivenNames y0
  have h1 : Keeps s₀ y0 := by
    unfold y0
    apply State.modJob_keeps
    assumption
  clear_value y0
  apply Keeps.ite
  · apply State.beginCheckpoint_keeps
    assumption
  · assumption

theorem State.allocExtent_keeps {s₀ s t : State} {a : Nat} {b : Alloc} {c : Nat} {d : Option Nat} {e : Nat} (h : Keeps s₀ s) (eq : State.allocExtent s a b c d e = some t) : Keeps s₀ t := by
  unfold State.allocExtent at eq
  split at eq
  · cases eq; exact ⟨h.pending, h.mem⟩
  · cases eq

theorem State.evict_keeps {s₀ s : State} (h : Keeps s₀ s) (a1) : Keeps s₀ (State.evict s a1) := by
  unfold State.evict
  apply State.setPage_keeps
  assumption

theorem State.makeCold_keeps {s₀ s : State} (h : Keeps s₀ s) (a1 a2) : Keeps s₀ (State.makeCold s a1 a2) := by
  unfold State.makeCold
  extract_lets +onlyGivenNames y0
  clear_value y0
  extract_lets +onlyGivenNames y1
  have h2 : Keeps s₀ y1 := by
    unfold y1
    apply State.modSession_keeps
    apply State.dropPages_keeps
    assumption
  clear_value y1
  apply State.notice_keeps
  apply State.capture_keeps
  apply State.tcount_keeps
  assumption

theorem State.pageRoom_keeps {s₀ : State} (t sess k : Nat) : ∀ (n : Nat) {s : State}, Keeps s₀ s → Keeps s₀ (State.pageRoom s t sess k n).1
  | 0, _, h => h
  | n + 1, s, h => by
    unfold State.pageRoom
    split
    · exact h
    · refine Keeps.iteFst h (Keeps.iteFst ?_ ?_)
      · split
        · exact State.evict_keeps h _
        · exact h
      · split
        · exact State.pageRoom_keeps t sess k n (State.makeCold_keeps h _ _)
        · exact h

theorem State.allocPage_keeps {s₀ s : State} (h : Keeps s₀ s) (a1 a2 a3 a4) : Keeps s₀ (State.allocPage s a1 a2 a3 a4).1 := by
  unfold State.allocPage
  extract_lets +onlyGivenNames y0
  clear_value y0
  extract_lets +onlyGivenNames y1
  clear_value y1
  extract_lets +onlyGivenNames y2
  clear_value y2
  extract_lets +onlyGivenNames y3
  have h4 : Keeps s₀ y3.1 := by
    unfold y3
    apply State.pageRoom_keeps
    assumption
  clear_value y3
  split
  · dsimp only
    assumption
  · extract_lets +onlyGivenNames y5
    clear_value y5
    extract_lets +onlyGivenNames y6
    clear_value y6
    dsimp only
    refine ⟨?_, ?_⟩
    · dsimp only
      apply Sys2Proof.Machine.Keeps.pending
      assumption
    · dsimp only
      apply Sys2Proof.Machine.Keeps.mem
      assumption

theorem State.answerRead_keeps {s₀ s : State} (h : Keeps s₀ s) (a1 a2 a3) : Keeps s₀ (State.answerRead s a1 a2 a3) := by
  unfold State.answerRead
  extract_lets +onlyGivenNames y0
  clear_value y0
  apply Keeps.ite
  · apply State.respond_keeps
    assumption
  · apply State.respond_keeps
    assumption

theorem State.answerResv_keeps {s₀ s : State} (h : Keeps s₀ s) (a1 a2) : Keeps s₀ (State.answerResv s a1 a2) := by
  unfold State.answerResv
  apply Keeps.ite
  · apply State.replyStatus_keeps
    assumption
  · extract_lets +onlyGivenNames y0
    have h1 : Keeps s₀ y0 := by
      unfold y0
      apply State.send_keeps
      assumption
    clear_value y0
    apply Keeps.ite
    · apply State.count_keeps
      assumption
    · assumption

theorem State.appendMax_keeps {s₀ s : State} (h : Keeps s₀ s) (a1 a2 a3) : Keeps s₀ (State.appendMax s a1 a2 a3) := by
  unfold State.appendMax
  split
  · assumption
  · apply Keeps.ite
    · extract_lets +onlyGivenNames y0
      clear_value y0
      apply State.modSession_keeps
      assumption
    · assumption

theorem State.applyContext_keeps {s₀ s : State} (h : Keeps s₀ s) (a1 a2 a3) : Keeps s₀ (State.applyContext s a1 a2 a3) := by
  unfold State.applyContext
  apply Keeps.foldl
  · intro x0 x1 x2
    extract_lets +onlyGivenNames y3
    have h4 : Keeps s₀ y3 := by
      unfold y3
      apply State.modSession_keeps
      assumption
    clear_value y3
    apply Keeps.ite
    · apply State.makeCold_keeps
      assumption
    · assumption
  · assumption

theorem State.cancelWork_keeps {s₀ s : State} (h : Keeps s₀ s) (a1) : Keeps s₀ (State.cancelWork s a1) := by
  unfold State.cancelWork
  split
  · assumption
  · split
    · assumption
    · apply Keeps.ite
      · assumption
      · apply State.cancelOps_keeps
        apply State.stopRun_keeps
        assumption

theorem State.cancelReq_keeps {s₀ s : State} (h : Keeps s₀ s) (a1 a2 a3) : Keeps s₀ (State.cancelReq s a1 a2 a3) := by
  unfold State.cancelReq
  split
  · assumption
  · apply Keeps.ite
    · apply State.endReq_keeps
      assumption
    · apply State.cancelWork_keeps
      apply State.modReq_keeps
      assumption

theorem State.channelNotice_keeps {s₀ s : State} (h : Keeps s₀ s) (a1 a2) : Keeps s₀ (State.channelNotice s a1 a2) := by
  unfold State.channelNotice
  apply Keeps.foldl
  · intro x0 x1 x2
    apply State.send_keeps
    assumption
  · assumption

theorem State.modPolicy_keeps {s₀ s : State} (h : Keeps s₀ s) (a1 a2) : Keeps s₀ (State.modPolicy s a1 a2) := by
  unfold State.modPolicy
  refine ⟨?_, ?_⟩
  · dsimp only
    apply Sys2Proof.Machine.Keeps.pending
    assumption
  · dsimp only
    apply Sys2Proof.Machine.Keeps.mem
    assumption

theorem State.stopJob_keeps {s₀ s : State} (h : Keeps s₀ s) (a1) : Keeps s₀ (State.stopJob s a1) := by
  unfold State.stopJob
  apply Keeps.ite
  · apply State.modJob_keeps
    assumption
  · assumption

theorem State.applyPolicy_keeps {s₀ s : State} (h : Keeps s₀ s) (a1) : Keeps s₀ (State.applyPolicy s a1) := by
  unfold State.applyPolicy
  apply Keeps.ite
  · assumption
  · extract_lets +onlyGivenNames y0
    clear_value y0
    extract_lets +onlyGivenNames y1
    have h2 : Keeps s₀ y1 := by
      unfold y1
      apply State.modPolicy_keeps
      assumption
    clear_value y1
    apply Keeps.ite
    · apply State.modJob_keeps
      apply State.channelNotice_keeps
      assumption
    · apply Keeps.ite
      · apply State.stopJob_keeps
        apply Keeps.foldl
        · intro x3 x4 x5
          apply State.cancelReq_keeps
          assumption
        · assumption
      · assumption

theorem State.loadProfile_keeps {s₀ s : State} (h : Keeps s₀ s) (a1) : Keeps s₀ (State.loadProfile s a1) := by
  unfold State.loadProfile
  refine ⟨?_, ?_⟩
  · dsimp only
    apply Sys2Proof.Machine.Keeps.pending
    assumption
  · dsimp only
    apply Sys2Proof.Machine.Keeps.mem
    assumption

theorem State.regrant_keeps {s₀ s : State} (h : Keeps s₀ s) : Keeps s₀ (State.regrant s) := by
  unfold State.regrant
  refine ⟨?_, ?_⟩
  · dsimp only
    apply Sys2Proof.Machine.Keeps.pending
    assumption
  · dsimp only
    apply Sys2Proof.Machine.Keeps.mem
    assumption

theorem State.profileLevers_keeps {s₀ s : State} (h : Keeps s₀ s) : Keeps s₀ (State.profileLevers s) := by
  unfold State.profileLevers
  apply State.regrant_keeps
  apply State.modPower_keeps
  assumption

theorem State.applyProfile_keeps {s₀ s : State} (h : Keeps s₀ s) (a1) : Keeps s₀ (State.applyProfile s a1) := by
  unfold State.applyProfile
  apply State.notePower_keeps
  apply State.profileLevers_keeps
  apply State.loadProfile_keeps
  assumption

theorem State.armObj_keeps {s₀ s : State} (h : Keeps s₀ s) (a1 a2 a3 a4 a5) : Keeps s₀ (State.armObj s a1 a2 a3 a4 a5) := by
  unfold State.armObj
  split
  · assumption
  · apply State.modObj_keeps
    assumption

theorem State.armPersistent_keeps {s₀ s : State} (h : Keeps s₀ s) (a1 a2) : Keeps s₀ (State.armPersistent s a1 a2) := by
  unfold State.armPersistent
  split
  · assumption
  · apply State.modSession_keeps
    apply State.modObj_keeps
    assumption

theorem State.armAll_keeps {s₀ s : State} (h : Keeps s₀ s) (a1 a2 a3 a4) : Keeps s₀ (State.armAll s a1 a2 a3 a4) := by
  unfold State.armAll
  apply Keeps.foldl
  · intro x0 x1 x2
    apply Keeps.ite
    · apply State.armObj_keeps
      assumption
    · apply State.armPersistent_keeps
      assumption
  · assumption

theorem State.repinArray_keeps {s₀ s : State} (h : Keeps s₀ s) (a1) : Keeps s₀ (State.repinArray s a1) := by
  unfold State.repinArray
  apply Keeps.foldl
  · intro x0 x1 x2
    apply State.repin_keeps
    assumption
  · assumption

theorem State.loadArray_keeps {s₀ s : State} (h : Keeps s₀ s) (a1) : Keeps s₀ (State.loadArray s a1) := by
  unfold State.loadArray
  apply State.repinArray_keeps
  apply Keeps.foldl
  · intro x0 x1 x2
    apply State.loadCopy_keeps
    assumption
  · assumption

theorem State.modDie_keeps {s₀ s : State} (h : Keeps s₀ s) (a1 a2) : Keeps s₀ (State.modDie s a1 a2) := by
  unfold State.modDie
  refine ⟨?_, ?_⟩
  · dsimp only
    apply Sys2Proof.Machine.Keeps.pending
    assumption
  · dsimp only
    apply Sys2Proof.Machine.Keeps.mem
    assumption

theorem State.queueWrite_keeps {s₀ s : State} (h : Keeps s₀ s) (a1) : Keeps s₀ (State.queueWrite s a1) := by
  unfold State.queueWrite
  apply State.loadArray_keeps
  apply State.modDie_keeps
  assumption

theorem State.assign_keeps {s₀ s : State} (h : Keeps s₀ s) (a1 a2 a3) : Keeps s₀ (State.assign s a1 a2 a3) := by
  unfold State.assign
  apply State.queueWrite_keeps
  apply State.modStratum_keeps
  assumption

theorem State.modWayNext_keeps {s₀ s : State} (h : Keeps s₀ s) (a1 a2) : Keeps s₀ (State.modWayNext s a1 a2) := by
  unfold State.modWayNext
  refine ⟨?_, ?_⟩
  · dsimp only
    apply Sys2Proof.Machine.Keeps.pending
    assumption
  · dsimp only
    apply Sys2Proof.Machine.Keeps.mem
    assumption

theorem State.retargetWay_keeps {s₀ s : State} (h : Keeps s₀ s) (a1 a2) : Keeps s₀ (State.retargetWay s a1 a2) := by
  unfold State.retargetWay
  extract_lets +onlyGivenNames y0
  clear_value y0
  extract_lets +onlyGivenNames y1
  clear_value y1
  apply Keeps.ite
  · apply State.modWayNext_keeps
    assumption
  · apply State.modWayNext_keeps
    assumption

theorem State.assignWays_keeps {s₀ s : State} (h : Keeps s₀ s) : Keeps s₀ (State.assignWays s) := by
  unfold State.assignWays
  apply Keeps.foldl
  · intro x0 x1 x2
    apply Keeps.foldl
    · intro x3 x4 x5
      apply State.retargetWay_keeps
      assumption
    · assumption
  · assumption

theorem State.bankAdd_keeps {s₀ s : State} (h : Keeps s₀ s) (a1) : Keeps s₀ (State.bankAdd s a1) := by
  unfold State.bankAdd
  refine ⟨?_, ?_⟩
  · dsimp only
    apply Sys2Proof.Machine.Keeps.pending
    assumption
  · dsimp only
    apply Sys2Proof.Machine.Keeps.mem
    assumption

theorem State.batchTaken_keeps {s₀ s : State} (h : Keeps s₀ s) (a1) : Keeps s₀ (State.batchTaken s a1) := by
  unfold State.batchTaken
  apply Keeps.ite
  · apply State.modMten_keeps
    assumption
  · assumption

theorem State.beginDieErase_keeps {s₀ s : State} (h : Keeps s₀ s) (a1) : Keeps s₀ (State.beginDieErase s a1) := by
  unfold State.beginDieErase
  extract_lets +onlyGivenNames y0
  have h1 : Keeps s₀ y0 := by
    unfold y0
    apply State.modDie_keeps
    assumption
  clear_value y0
  refine ⟨?_, ?_⟩
  · dsimp only
    apply Sys2Proof.Machine.Keeps.pending
    assumption
  · dsimp only
    apply Sys2Proof.Machine.Keeps.mem
    assumption

theorem State.stopCounts_keeps {s₀ s : State} (h : Keeps s₀ s) : Keeps s₀ (State.stopCounts s) := by
  unfold State.stopCounts
  apply State.modPower_keeps
  assumption

theorem State.beginEntry_keeps {s₀ s : State} (h : Keeps s₀ s) (a1 a2) : Keeps s₀ (State.beginEntry s a1 a2) := by
  unfold State.beginEntry
  apply State.notePower_keeps
  apply State.modPower_keeps
  apply State.stopCounts_keeps
  assumption

theorem State.unwait_keeps {s₀ s : State} (h : Keeps s₀ s) (a1) : Keeps s₀ (State.unwait s a1) := by
  unfold State.unwait
  apply State.modConn_keeps
  assumption

theorem State.beginHeld_keeps {s₀ s : State} (h : Keeps s₀ s) (a1 a2) : Keeps s₀ (State.beginHeld s a1 a2) := by
  unfold State.beginHeld
  extract_lets +onlyGivenNames y0
  have h1 : Keeps s₀ y0 := by
    unfold y0
    refine ⟨?_, ?_⟩
    · dsimp only
      apply Sys2Proof.Machine.Keeps.pending
      assumption
    · dsimp only
      apply Sys2Proof.Machine.Keeps.mem
      assumption
  clear_value y0
  split
  · assumption
  · extract_lets +onlyGivenNames y2
    have h3 : Keeps s₀ y2 := by
      unfold y2
      apply State.unwait_keeps
      assumption
    clear_value y2
    refine ⟨?_, ?_⟩
    · dsimp only
      apply Sys2Proof.Machine.Keeps.pending
      assumption
    · dsimp only
      apply Sys2Proof.Machine.Keeps.mem
      assumption

theorem State.writeExtent_keeps {s₀ : State} (e : Extent) : ∀ (bs : Bytes) (off : Nat) {s : State}, Keeps s₀ s → Keeps s₀ (State.writeExtent e off bs s)
  | [], _, _, h => h
  | b :: bs, off, s, h => by
    unfold State.writeExtent
    split
    · exact State.writeExtent_keeps e bs (off + 1) h
    · exact State.writeExtent_keeps e bs (off + 1) (State.setByte_keeps h _ b)

theorem State.fillExtent_keeps {s₀ s : State} (h : Keeps s₀ s) (a1 a2 a3 a4) : Keeps s₀ (State.fillExtent s a1 a2 a3 a4) := by
  unfold State.fillExtent
  split
  · apply State.writeExtent_keeps
    assumption
  · assumption

theorem State.loadModel_keeps {s₀ s : State} (h : Keeps s₀ s) (a1 a2 a3) : Keeps s₀ (State.loadModel s a1 a2 a3) := by
  unfold State.loadModel
  extract_lets +onlyGivenNames y0
  have h1 : Keeps s₀ y0 := by
    unfold y0
    split
    · rename_i e2
      refine State.allocExtent_keeps ?_ e2
      assumption
    · assumption
  clear_value y0
  apply State.fillExtent_keeps
  assumption

theorem State.queuePromised_keeps {s₀ s : State} (h : Keeps s₀ s) (a1 a2) : Keeps s₀ (State.queuePromised s a1 a2) := by
  unfold State.queuePromised
  apply State.queueWrite_keeps
  assumption

theorem State.beginInstall_keeps {s₀ s : State} (h : Keeps s₀ s) (a1 a2 a3 a4) : Keeps s₀ (State.beginInstall s a1 a2 a3 a4) := by
  unfold State.beginInstall
  extract_lets +onlyGivenNames y0
  have h1 : Keeps s₀ y0 := by
    unfold y0
    apply State.loadModel_keeps
    apply State.advance_keeps
    assumption
  clear_value y0
  extract_lets +onlyGivenNames y2
  clear_value y2
  extract_lets +onlyGivenNames y3
  have h4 : Keeps s₀ y3 := by
    unfold y3
    apply State.modSlot_keeps
    assumption
  clear_value y3
  apply State.noteSlots_keeps
  apply Keeps.foldl
  · intro x5 x6 x7
    apply State.queuePromised_keeps
    assumption
  · assumption

theorem State.modTenState_keeps {s₀ s : State} (h : Keeps s₀ s) (a1 a2) : Keeps s₀ (State.modTenState s a1 a2) := by
  unfold State.modTenState
  refine ⟨?_, ?_⟩
  · dsimp only
    apply Sys2Proof.Machine.Keeps.pending
    assumption
  · dsimp only
    apply Sys2Proof.Machine.Keeps.mem
    assumption

theorem State.quitTenantRun_keeps {s₀ s : State} (h : Keeps s₀ s) (a1) : Keeps s₀ (State.quitTenantRun s a1) := by
  unfold State.quitTenantRun
  apply State.settleRun_keeps
  apply State.cancelOps_keeps
  apply State.stopRun_keeps
  assumption

theorem State.beginRemoval_keeps {s₀ s : State} (h : Keeps s₀ s) (a1 a2 a3) : Keeps s₀ (State.beginRemoval s a1 a2 a3) := by
  unfold State.beginRemoval
  extract_lets +onlyGivenNames y0
  clear_value y0
  extract_lets +onlyGivenNames y1
  have h2 : Keeps s₀ y1 := by
    unfold y1
    apply State.modRemoval_keeps
    apply State.modTenState_keeps
    assumption
  clear_value y1
  extract_lets +onlyGivenNames y3
  have h4 : Keeps s₀ y3 := by
    unfold y3
    apply State.channelNotice_keeps
    assumption
  clear_value y3
  extract_lets +onlyGivenNames y5
  have h6 : Keeps s₀ y5 := by
    unfold y5
    apply Keeps.foldl
    · intro x7 x8 x9
      apply State.closeSess_keeps
      assumption
    · assumption
  clear_value y5
  extract_lets +onlyGivenNames y10
  have h11 : Keeps s₀ y10 := by
    unfold y10
    apply State.cancelOps_keeps
    apply Keeps.foldl
    · intro x12 x13 x14
      apply State.quitTenantRun_keeps
      assumption
    · assumption
  clear_value y10
  extract_lets +onlyGivenNames y15
  have h16 : Keeps s₀ y15 := by
    unfold y15
    apply Keeps.foldl
    · intro x17 x18 x19
      apply State.modDie_keeps
      assumption
    · assumption
  clear_value y15
  extract_lets +onlyGivenNames y20
  have h21 : Keeps s₀ y20 := by
    unfold y20
    apply Keeps.ite
    · apply State.endJob_keeps
      assumption
    · assumption
  clear_value y20
  apply State.modPolicy_keeps
  assumption

theorem State.raiseBarrier_keeps {s₀ s : State} (h : Keeps s₀ s) (a1 a2) : Keeps s₀ (State.raiseBarrier s a1 a2) := by
  unfold State.raiseBarrier
  apply State.modSlot_keeps
  assumption

theorem State.releaseOne_keeps {s₀ s : State} (h : Keeps s₀ s) (a1) : Keeps s₀ (State.releaseOne s a1) := by
  unfold State.releaseOne
  extract_lets +onlyGivenNames y0
  have h1 : Keeps s₀ y0 := by
    unfold y0
    apply State.modDie_keeps
    assumption
  clear_value y0
  split
  · apply State.queueWrite_keeps
    apply State.modStratum_keeps
    assumption
  · apply State.queueWrite_keeps
    apply State.modStratum_keeps
    assumption
  · apply State.modStratum_keeps
    assumption
  · apply State.modStratum_keeps
    assumption
  · apply State.modStratum_keeps
    assumption
  · apply State.modStratum_keeps
    assumption
  · apply State.modStratum_keeps
    assumption

theorem State.unloadAdapter_keeps {s₀ s : State} (h : Keeps s₀ s) (a1 a2) : Keeps s₀ (State.unloadAdapter s a1 a2) := by
  unfold State.unloadAdapter
  apply State.modAdapter_keeps
  apply State.freeExtents_keeps
  assumption

theorem State.unloadBound_keeps {s₀ s : State} (h : Keeps s₀ s) (a1 a2) : Keeps s₀ (State.unloadBound s a1 a2) := by
  unfold State.unloadBound
  apply Keeps.foldl
  · intro x0 x1 x2
    extract_lets +onlyGivenNames y3
    clear_value y3
    apply Keeps.ite
    · apply State.finish_keeps
      apply State.unloadAdapter_keeps
      assumption
    · apply Keeps.ite
      · apply State.unloadAdapter_keeps
        assumption
      · assumption
  · assumption

theorem State.beginRemove_keeps {s₀ s : State} (h : Keeps s₀ s) (a1 a2) : Keeps s₀ (State.beginRemove s a1 a2) := by
  unfold State.beginRemove
  extract_lets +onlyGivenNames y0
  have h1 : Keeps s₀ y0 := by
    unfold y0
    apply Keeps.foldl
    · intro x2 x3 x4
      apply State.closeSess_keeps
      assumption
    · assumption
  clear_value y0
  extract_lets +onlyGivenNames y5
  have h6 : Keeps s₀ y5 := by
    unfold y5
    apply State.raiseBarrier_keeps
    apply State.modSlot_keeps
    assumption
  clear_value y5
  extract_lets +onlyGivenNames y7
  have h8 : Keeps s₀ y7 := by
    unfold y7
    apply Keeps.foldl
    · intro x9 x10 x11
      apply State.releaseOne_keeps
      assumption
    · assumption
  clear_value y7
  extract_lets +onlyGivenNames y12
  have h13 : Keeps s₀ y12 := by
    unfold y12
    apply State.unloadBound_keeps
    assumption
  clear_value y12
  extract_lets +onlyGivenNames y14
  clear_value y14
  apply Keeps.ite
  · apply State.endJob_keeps
    assumption
  · assumption

theorem State.beginScrub_keeps {s₀ s : State} (h : Keeps s₀ s) (a1) : Keeps s₀ (State.beginScrub s a1) := by
  unfold State.beginScrub
  extract_lets +onlyGivenNames y0
  clear_value y0
  extract_lets +onlyGivenNames y1
  have h2 : Keeps s₀ y1 := by
    unfold y1
    apply State.modRemoval_keeps
    apply State.modTenState_keeps
    assumption
  clear_value y1
  apply Keeps.foldl
  · intro x3 x4 x5
    apply State.beginDieErase_keeps
    assumption
  · assumption

theorem State.enterRun_keeps {s₀ s : State} (h : Keeps s₀ s) (a1 a2) : Keeps s₀ (State.enterRun s a1 a2) := by
  unfold State.enterRun
  extract_lets +onlyGivenNames y0
  clear_value y0
  extract_lets +onlyGivenNames y1
  have h2 : Keeps s₀ y1 := by
    unfold y1
    apply Keeps.ite
    · apply State.tcount_keeps
      assumption
    · assumption
  clear_value y1
  apply State.modSession_keeps
  assumption

theorem State.beginStep_keeps {s₀ s : State} (h : Keeps s₀ s) (a1) : Keeps s₀ (State.beginStep s a1) := by
  unfold State.beginStep
  extract_lets +onlyGivenNames y0
  have h1 : Keeps s₀ y0 := by
    unfold y0
    apply State.batchTaken_keeps
    assumption
  clear_value y0
  extract_lets +onlyGivenNames y2
  clear_value y2
  extract_lets +onlyGivenNames y3
  clear_value y3
  extract_lets +onlyGivenNames y4
  have h5 : Keeps s₀ y4 := by
    unfold y4
    apply State.capture_keeps
    assumption
  clear_value y4
  extract_lets +onlyGivenNames y6
  clear_value y6
  extract_lets +onlyGivenNames y7
  have h8 : Keeps s₀ y7 := by
    unfold y7
    refine ⟨?_, ?_⟩
    · dsimp only
      apply Sys2Proof.Machine.Keeps.pending
      assumption
    · dsimp only
      apply Sys2Proof.Machine.Keeps.mem
      assumption
  clear_value y7
  apply Keeps.foldl
  · intro x9 x10 x11
    apply State.enterRun_keeps
    assumption
  · assumption

theorem State.takeCopy_keeps {s₀ s : State} (h : Keeps s₀ s) (a1 a2 a3) : Keeps s₀ (State.takeCopy a1 a2 s a3) := by
  unfold State.takeCopy
  apply Keeps.ite
  · extract_lets +onlyGivenNames y0
    have h1 : Keeps s₀ y0 := by
      unfold y0
      apply State.loadCopyBut_keeps
      assumption
    clear_value y0
    apply State.repin_keeps
    apply State.modStratum_keeps
    assumption
  · assumption

theorem State.beginSwap_keeps {s₀ s : State} (h : Keeps s₀ s) (a1 a2 a3 a4) : Keeps s₀ (State.beginSwap s a1 a2 a3 a4) := by
  unfold State.beginSwap
  extract_lets +onlyGivenNames y0
  have h1 : Keeps s₀ y0 := by
    unfold y0
    apply State.loadModel_keeps
    assumption
  clear_value y0
  extract_lets +onlyGivenNames y2
  have h3 : Keeps s₀ y2 := by
    unfold y2
    apply State.modSlot_keeps
    assumption
  clear_value y2
  extract_lets +onlyGivenNames y4
  have h5 : Keeps s₀ y4 := by
    unfold y4
    apply State.raiseBarrier_keeps
    apply Keeps.foldl
    · intro x6 x7 x8
      apply State.takeCopy_keeps
      assumption
    · assumption
  clear_value y4
  apply Keeps.ite
  · apply State.modJob_keeps
    assumption
  · assumption

theorem State.releaseOld_keeps {s₀ s : State} (h : Keeps s₀ s) (a1 a2 a3) : Keeps s₀ (State.releaseOld s a1 a2 a3) := by
  unfold State.releaseOld
  apply Keeps.foldl
  · intro x0 x1 x2
    apply State.releaseOne_keeps
    assumption
  · assumption

theorem State.relocate_keeps {s₀ s : State} (h : Keeps s₀ s) (a1 a2) : Keeps s₀ (State.relocate s a1 a2) := by
  unfold State.relocate
  split
  · apply State.assign_keeps
    assumption
  · extract_lets +onlyGivenNames y0
    clear_value y0
    split
    · apply State.releaseOld_keeps
      apply Keeps.foldl
      · intro x1 x2 x3
        apply State.assign_keeps
        assumption
      · assumption
    · apply State.raise_keeps
      apply State.tcount_keeps
      apply State.modStratum_keeps
      assumption

theorem State.relocateOf_keeps {s₀ s : State} (h : Keeps s₀ s) (a1) : Keeps s₀ (State.relocateOf s a1) := by
  unfold State.relocateOf
  extract_lets +onlyGivenNames y0
  clear_value y0
  extract_lets +onlyGivenNames y1
  clear_value y1
  apply Keeps.foldl
  · intro x2 x3 x4
    apply State.relocate_keeps
    assumption
  · assumption

theorem State.shiftSum_keeps {s₀ s : State} (h : Keeps s₀ s) (a1 a2 a3) : Keeps s₀ (State.shiftSum s a1 a2 a3) := by
  unfold State.shiftSum
  refine ⟨?_, ?_⟩
  · dsimp only
    apply Sys2Proof.Machine.Keeps.pending
    assumption
  · dsimp only
    apply Sys2Proof.Machine.Keeps.mem
    assumption

theorem State.shadowMvm_keeps {s₀ s : State} (h : Keeps s₀ s) (a1) : Keeps s₀ (State.shadowMvm s a1) := by
  unfold State.shadowMvm
  apply State.shiftSum_keeps
  apply State.addShadow_keeps
  assumption

theorem State.shadowQueue_keeps {s₀ s : State} (h : Keeps s₀ s) (a1 a2) : Keeps s₀ (State.shadowQueue s a1 a2) := by
  unfold State.shadowQueue
  extract_lets +onlyGivenNames y0
  clear_value y0
  extract_lets +onlyGivenNames y1
  have h2 : Keeps s₀ y1 := by
    unfold y1
    apply State.modArray_keeps
    assumption
  clear_value y1
  apply Keeps.foldl
  · intro x3 x4 x5
    apply State.shadowMvm_keeps
    assumption
  · assumption

theorem State.beginWrite_keeps {s₀ s : State} (h : Keeps s₀ s) (a1) : Keeps s₀ (State.beginWrite s a1) := by
  unfold State.beginWrite
  extract_lets +onlyGivenNames y0
  clear_value y0
  extract_lets +onlyGivenNames y1
  clear_value y1
  extract_lets +onlyGivenNames y2
  clear_value y2
  extract_lets +onlyGivenNames y3
  have h4 : Keeps s₀ y3 := by
    unfold y3
    apply State.modDie_keeps
    assumption
  clear_value y3
  extract_lets +onlyGivenNames y5
  have h6 : Keeps s₀ y5 := by
    unfold y5
    apply State.modArray_keeps
    assumption
  clear_value y5
  extract_lets +onlyGivenNames y7
  have h8 : Keeps s₀ y7 := by
    unfold y7
    apply State.shadowQueue_keeps
    assumption
  clear_value y7
  extract_lets +onlyGivenNames y9
  have h10 : Keeps s₀ y9 := by
    unfold y9
    apply State.repinArray_keeps
    apply State.modStratum_keeps
    assumption
  clear_value y9
  apply Keeps.ite
  · apply State.relocateOf_keeps
    assumption
  · assumption

theorem State.setStored_keeps {s₀ s : State} (h : Keeps s₀ s) (a1 a2 a3 a4) : Keeps s₀ (State.setStored s a1 a2 a3 a4) := by
  unfold State.setStored
  refine ⟨?_, ?_⟩
  · dsimp only
    apply Sys2Proof.Machine.Keeps.pending
    assumption
  · dsimp only
    apply Sys2Proof.Machine.Keeps.mem
    assumption

theorem State.bootClock_keeps {s₀ s : State} (h : Keeps s₀ s) (a1) : Keeps s₀ (State.bootClock s a1) := by
  unfold State.bootClock
  extract_lets +onlyGivenNames y0
  clear_value y0
  extract_lets +onlyGivenNames y1
  clear_value y1
  extract_lets +onlyGivenNames y2
  have h3 : Keeps s₀ y2 := by
    unfold y2
    apply Keeps.ite
    · apply State.setStored_keeps
      refine ⟨?_, ?_⟩
      · dsimp only
        apply Sys2Proof.Machine.Keeps.pending
        assumption
      · dsimp only
        apply Sys2Proof.Machine.Keeps.mem
        assumption
    · assumption
  clear_value y2
  refine ⟨?_, ?_⟩
  · dsimp only
    apply Sys2Proof.Machine.Keeps.pending
    assumption
  · dsimp only
    apply Sys2Proof.Machine.Keeps.mem
    assumption

theorem State.bootCounters_keeps {s₀ s : State} (h : Keeps s₀ s) : Keeps s₀ (State.bootCounters s) := by
  unfold State.bootCounters
  extract_lets +onlyGivenNames y0
  clear_value y0
  refine ⟨?_, ?_⟩
  · dsimp only
    apply Sys2Proof.Machine.Keeps.pending
    assumption
  · dsimp only
    apply Sys2Proof.Machine.Keeps.mem
    assumption

theorem State.drawn_keeps {s₀ s : State} (h : Keeps s₀ s) : Keeps s₀ (State.drawn s) := by
  unfold State.drawn
  refine ⟨?_, ?_⟩
  · dsimp only
    apply Sys2Proof.Machine.Keeps.pending
    assumption
  · dsimp only
    apply Sys2Proof.Machine.Keeps.mem
    assumption

theorem State.modKeySlot_keeps {s₀ s : State} (h : Keeps s₀ s) (a1 a2) : Keeps s₀ (State.modKeySlot s a1 a2) := by
  unfold State.modKeySlot
  refine ⟨?_, ?_⟩
  · dsimp only
    apply Sys2Proof.Machine.Keeps.pending
    assumption
  · dsimp only
    apply Sys2Proof.Machine.Keeps.mem
    assumption

theorem State.newKey_keeps {s₀ s : State} (h : Keeps s₀ s) (a1) : Keeps s₀ (State.newKey s a1) := by
  unfold State.newKey
  apply State.drawn_keeps
  apply State.modKeySlot_keeps
  assumption

theorem State.bootDram_keeps {s₀ s : State} (h : Keeps s₀ s) (a1) : Keeps s₀ (State.bootDram s a1) := by
  unfold State.bootDram
  extract_lets +onlyGivenNames y0
  clear_value y0
  apply State.newKey_keeps
  refine ⟨?_, ?_⟩
  · dsimp only
    apply Sys2Proof.Machine.Keeps.pending
    assumption
  · dsimp only
    apply Sys2Proof.Machine.Keeps.mem
    assumption

theorem State.bootCores_keeps {s₀ s : State} (h : Keeps s₀ s) : Keeps s₀ (State.bootCores s) := by
  unfold State.bootCores
  extract_lets +onlyGivenNames y0
  clear_value y0
  refine ⟨?_, ?_⟩
  · dsimp only
    apply Sys2Proof.Machine.Keeps.pending
    assumption
  · dsimp only
    apply Sys2Proof.Machine.Keeps.mem
    assumption

theorem State.modCtl_keeps {s₀ s : State} (h : Keeps s₀ s) (a1) : Keeps s₀ (State.modCtl s a1) := by
  unfold State.modCtl
  refine ⟨?_, ?_⟩
  · dsimp only
    apply Sys2Proof.Machine.Keeps.pending
    assumption
  · dsimp only
    apply Sys2Proof.Machine.Keeps.mem
    assumption

theorem State.bootFirmware_keeps {s₀ s : State} (h : Keeps s₀ s) (a1) : Keeps s₀ (State.bootFirmware s a1) := by
  unfold State.bootFirmware
  apply Keeps.ite
  · apply State.bootCores_keeps
    assumption
  · apply State.count_keeps
    apply State.bootCores_keeps
    apply State.modCtl_keeps
    assumption

theorem State.bootKey_keeps {s₀ s : State} (h : Keeps s₀ s) : Keeps s₀ (State.bootKey s) := by
  unfold State.bootKey
  split
  · assumption
  · extract_lets +onlyGivenNames y0
    have h1 : Keeps s₀ y0 := by
      unfold y0
      apply State.setStored_keeps
      assumption
    clear_value y0
    refine ⟨?_, ?_⟩
    · dsimp only
      apply Sys2Proof.Machine.Keeps.pending
      assumption
    · dsimp only
      apply Sys2Proof.Machine.Keeps.mem
      assumption

theorem State.enablePort_keeps {s₀ s : State} (h : Keeps s₀ s) (a1) : Keeps s₀ (State.enablePort s a1) := by
  unfold State.enablePort
  extract_lets +onlyGivenNames y0
  clear_value y0
  apply State.modPort_keeps
  assumption

theorem State.bootPorts_keeps {s₀ s : State} (h : Keeps s₀ s) (a1) : Keeps s₀ (State.bootPorts s a1) := by
  unfold State.bootPorts
  apply Keeps.foldl
  · intro x0 x1 x2
    extract_lets +onlyGivenNames y3
    have h4 : Keeps s₀ y3 := by
      unfold y3
      apply State.modPort_keeps
      assumption
    clear_value y3
    apply Keeps.ite
    · apply State.enablePort_keeps
      assumption
    · assumption
  · assumption

theorem State.bootProfile_keeps {s₀ s : State} (h : Keeps s₀ s) : Keeps s₀ (State.bootProfile s) := by
  unfold State.bootProfile
  extract_lets +onlyGivenNames y0
  clear_value y0
  extract_lets +onlyGivenNames y1
  clear_value y1
  extract_lets +onlyGivenNames y2
  have h3 : Keeps s₀ y2 := by
    unfold y2
    refine ⟨?_, ?_⟩
    · dsimp only
      apply Sys2Proof.Machine.Keeps.pending
      assumption
    · dsimp only
      apply Sys2Proof.Machine.Keeps.mem
      assumption
  clear_value y2
  apply State.profileLevers_keeps
  apply State.loadProfile_keeps
  assumption

theorem State.setRemoval_keeps {s₀ s : State} (h : Keeps s₀ s) (a1 a2) : Keeps s₀ (State.setRemoval s a1 a2) := by
  unfold State.setRemoval
  apply State.modRemoval_keeps
  assumption

theorem State.bootTenant_keeps {s₀ s : State} (h : Keeps s₀ s) (a1) : Keeps s₀ (State.bootTenant s a1) := by
  unfold State.bootTenant
  split
  · assumption
  · apply State.newKey_keeps
    assumption
  · apply State.newKey_keeps
    assumption
  · apply State.beginScrub_keeps
    apply State.setRemoval_keeps
    assumption
  · apply State.beginScrub_keeps
    apply State.setRemoval_keeps
    assumption

theorem State.requeueWrite_keeps {s₀ s : State} (h : Keeps s₀ s) (a1) : Keeps s₀ (State.requeueWrite s a1) := by
  unfold State.requeueWrite
  extract_lets +onlyGivenNames y0
  clear_value y0
  extract_lets +onlyGivenNames y1
  clear_value y1
  apply State.loadArray_keeps
  apply State.modDie_keeps
  apply State.modStratum_keeps
  assumption

theorem State.leaveLit_keeps {s₀ s : State} (h : Keeps s₀ s) (a1) : Keeps s₀ (State.leaveLit s a1) := by
  unfold State.leaveLit
  extract_lets +onlyGivenNames y0
  clear_value y0
  extract_lets +onlyGivenNames y1
  have h2 : Keeps s₀ y1 := by
    unfold y1
    apply State.modArray_keeps
    assumption
  clear_value y1
  extract_lets +onlyGivenNames y3
  have h4 : Keeps s₀ y3 := by
    unfold y3
    apply State.shadowQueue_keeps
    assumption
  clear_value y3
  apply State.modArray_keeps
  apply State.repin_keeps
  apply State.loadCopy_keeps
  assumption

theorem State.dim_keeps {s₀ s : State} (h : Keeps s₀ s) (a1 a2 a3) : Keeps s₀ (State.dim s a1 a2 a3) := by
  unfold State.dim
  extract_lets +onlyGivenNames y0
  have h1 : Keeps s₀ y0 := by
    unfold y0
    apply State.leaveLit_keeps
    apply State.modStratum_keeps
    assumption
  clear_value y0
  extract_lets +onlyGivenNames y2
  have h3 : Keeps s₀ y2 := by
    unfold y2
    apply State.queueWrite_keeps
    assumption
  clear_value y2
  apply State.raise_keeps
  apply State.tcount_keeps
  assumption

theorem State.tested_keeps {s₀ s : State} (h : Keeps s₀ s) (a1 a2 a3) : Keeps s₀ (State.tested s a1 a2 a3) := by
  unfold State.tested
  extract_lets +onlyGivenNames y0
  have h1 : Keeps s₀ y0 := by
    unfold y0
    apply State.modStratum_keeps
    assumption
  clear_value y0
  extract_lets +onlyGivenNames y2
  have h3 : Keeps s₀ y2 := by
    unfold y2
    apply State.tcount_keeps
    assumption
  clear_value y2
  apply Keeps.ite
  · apply State.dim_keeps
    assumption
  · assumption

theorem State.sweep_keeps {s₀ s : State} (h : Keeps s₀ s) (a1) : Keeps s₀ (State.sweep s a1) := by
  unfold State.sweep
  extract_lets +onlyGivenNames y0
  clear_value y0
  apply State.drawn_keeps
  apply State.tested_keeps
  assumption

theorem State.bootVault_keeps {s₀ s : State} (h : Keeps s₀ s) : Keeps s₀ (State.bootVault s) := by
  unfold State.bootVault
  extract_lets +onlyGivenNames y0
  extract_lets +onlyGivenNames y1
  have h2 : Keeps s₀ y1 := by
    unfold y1
    apply Keeps.foldl
    · intro x3 x4 x5
      apply State.requeueWrite_keeps
      assumption
    · assumption
  clear_value y1
  extract_lets +onlyGivenNames y6
  have h7 : Keeps s₀ y6 := by
    unfold y6
    apply Keeps.foldl
    · intro x8 x9 x10
      apply State.repin_keeps
      apply State.loadCopy_keeps
      assumption
    · assumption
  clear_value y6
  extract_lets +onlyGivenNames y11
  have h12 : Keeps s₀ y11 := by
    unfold y11
    apply Keeps.foldl
    · intro x13 x14 x15
      apply State.loadArray_keeps
      assumption
    · assumption
  clear_value y11
  apply Keeps.foldl
  · intro x16 x17 x18
    apply State.sweep_keeps
    assumption
  · assumption

theorem State.bootWays_keeps {s₀ s : State} (h : Keeps s₀ s) : Keeps s₀ (State.bootWays s) := by
  unfold State.bootWays
  refine ⟨?_, ?_⟩
  · dsimp only
    apply Sys2Proof.Machine.Keeps.pending
    assumption
  · dsimp only
    apply Sys2Proof.Machine.Keeps.mem
    assumption

theorem State.channelLost_keeps {s₀ s : State} (h : Keeps s₀ s) (a1) : Keeps s₀ (State.channelLost s a1) := by
  unfold State.channelLost
  extract_lets +onlyGivenNames y0
  clear_value y0
  apply Keeps.ite
  · apply State.raise_keeps
    assumption
  · extract_lets +onlyGivenNames y1
    have h2 : Keeps s₀ y1 := by
      unfold y1
      apply State.raise_keeps
      assumption
    clear_value y1
    apply Keeps.ite
    · apply State.beginRemoval_keeps
      assumption
    · assumption

theorem State.redeliver_keeps {s₀ s : State} (h : Keeps s₀ s) : Keeps s₀ (State.redeliver s) := by
  unfold State.redeliver
  extract_lets +onlyGivenNames y0
  clear_value y0
  refine ⟨?_, ?_⟩
  · dsimp only
    apply Sys2Proof.Machine.Keeps.pending
    assumption
  · dsimp only
    apply Sys2Proof.Machine.Keeps.mem
    assumption

theorem State.boot_keeps {s₀ s : State} (h : Keeps s₀ s) (a1) : Keeps s₀ (State.boot s a1) := by
  unfold State.boot
  extract_lets +onlyGivenNames y0
  have h1 : Keeps s₀ y0 := by
    unfold y0
    apply State.bootFirmware_keeps
    apply State.redeliver_keeps
    apply State.bootCounters_keeps
    apply State.bootClock_keeps
    assumption
  clear_value y0
  extract_lets +onlyGivenNames y2
  have h3 : Keeps s₀ y2 := by
    unfold y2
    apply State.bootWays_keeps
    apply State.bootDram_keeps
    apply State.bootProfile_keeps
    apply State.bootKey_keeps
    assumption
  clear_value y2
  extract_lets +onlyGivenNames y4
  have h5 : Keeps s₀ y4 := by
    unfold y4
    apply State.bootPorts_keeps
    apply Keeps.foldl
    · intro x6 x7 x8
      apply State.bootTenant_keeps
      assumption
    · assumption
  clear_value y4
  apply State.bootVault_keeps
  apply Keeps.foldl
  · intro x9 x10 x11
    apply State.channelLost_keeps
    assumption
  · assumption

theorem State.budgetsWritten_keeps {s₀ s : State} (h : Keeps s₀ s) : Keeps s₀ (State.budgetsWritten s) := by
  unfold State.budgetsWritten
  apply State.regrant_keeps
  apply State.modPower_keeps
  assumption

theorem State.recordArrived_keeps {s₀ s : State} (h : Keeps s₀ s) : Keeps s₀ (State.recordArrived s) := by
  unfold State.recordArrived
  extract_lets +onlyGivenNames y0
  have h1 : Keeps s₀ y0 := by
    unfold y0
    apply State.modPower_keeps
    assumption
  clear_value y0
  split
  · apply Keeps.ite
    · apply State.abortEntry_keeps
      assumption
    · assumption
  · assumption

theorem State.leaveTrust_keeps {s₀ s : State} (h : Keeps s₀ s) (a1) : Keeps s₀ (State.leaveTrust s a1) := by
  unfold State.leaveTrust
  refine ⟨?_, ?_⟩
  · dsimp only
    apply Sys2Proof.Machine.Keeps.pending
    assumption
  · dsimp only
    apply Sys2Proof.Machine.Keeps.mem
    assumption

theorem State.closeConn_keeps {s₀ s : State} (h : Keeps s₀ s) (a1) : Keeps s₀ (State.closeConn s a1) := by
  unfold State.closeConn
  apply State.modConn_keeps
  apply State.leaveTrust_keeps
  assumption

theorem State.takeRecord_keeps {s₀ s : State} (h : Keeps s₀ s) (a1 a2 a3) : Keeps s₀ (State.takeRecord s a1 a2 a3) := by
  unfold State.takeRecord
  extract_lets +onlyGivenNames y0
  have h1 : Keeps s₀ y0 := by
    unfold y0
    apply Keeps.ite
    · assumption
    · apply State.tcount_keeps
      assumption
  clear_value y0
  apply Keeps.ite
  · apply Keeps.ite
    · assumption
    · apply Keeps.ite
      · apply State.closeConn_keeps
        assumption
      · apply State.modConn_keeps
        assumption
  · apply Keeps.ite
    · apply State.closeConn_keeps
      assumption
    · apply State.modConn_keeps
      assumption

theorem State.wakeTenant_keeps {s₀ s : State} (h : Keeps s₀ s) (a1) : Keeps s₀ (State.wakeTenant s a1) := by
  unfold State.wakeTenant
  apply Keeps.ite
  · assumption
  · apply Keeps.foldl
    · intro x0 x1 x2
      apply Keeps.ite
      · apply State.wakeChan_keeps
        assumption
      · assumption
    · assumption

theorem State.takeFrame_keeps {s₀ s : State} (h : Keeps s₀ s) (a1 a2) : Keeps s₀ (State.takeFrame s a1 a2) := by
  unfold State.takeFrame
  apply Keeps.ite
  · apply State.count_keeps
    assumption
  · split
    · split
      · assumption
      · apply Keeps.ite
        · apply State.takeRecord_keeps
          apply State.recordArrived_keeps
          apply State.wakeTenant_keeps
          assumption
        · assumption
    · assumption

theorem State.drainIngress_keeps {s₀ s : State} (h : Keeps s₀ s) (a1) : Keeps s₀ (State.drainIngress s a1) := by
  unfold State.drainIngress
  extract_lets +onlyGivenNames y0
  clear_value y0
  extract_lets +onlyGivenNames y1
  have h2 : Keeps s₀ y1 := by
    unfold y1
    apply State.modPort_keeps
    assumption
  clear_value y1
  apply Keeps.foldl
  · intro x3 x4 x5
    apply State.takeFrame_keeps
    assumption
  · assumption

theorem State.bufferFrame_keeps {s₀ s : State} (h : Keeps s₀ s) (a1 a2) : Keeps s₀ (State.bufferFrame s a1 a2) := by
  unfold State.bufferFrame
  extract_lets +onlyGivenNames y0
  clear_value y0
  apply Keeps.ite
  · apply State.count_keeps
    assumption
  · extract_lets +onlyGivenNames y1
    have h2 : Keeps s₀ y1 := by
      unfold y1
      apply State.modPort_keeps
      apply State.count_keeps
      assumption
    clear_value y1
    apply Keeps.ite
    · apply State.drainIngress_keeps
      assumption
    · assumption

theorem State.encodeWeight_keeps {s₀ s : State} (h : Keeps s₀ s) (a1 a2 a3 a4 a5 a6) : Keeps s₀ (State.encodeWeight s a1 a2 a3 a4 a5 a6) := by
  unfold State.encodeWeight
  apply State.writePlace_keeps
  assumption

theorem State.writeTable_keeps {s₀ s : State} (h : Keeps s₀ s) (a1 a2 a3 a4 a5) : Keeps s₀ (State.writeTable s a1 a2 a3 a4 a5) := by
  unfold State.writeTable
  split
  · apply State.writeExtent_keeps
    assumption
  · assumption

theorem State.buildTable_keeps {s₀ s : State} (h : Keeps s₀ s) (a1 a2 a3 a4 a5 a6) : Keeps s₀ (State.buildTable s a1 a2 a3 a4 a5 a6) := by
  unfold State.buildTable
  extract_lets +onlyGivenNames y0
  clear_value y0
  extract_lets +onlyGivenNames y1
  have h2 : Keeps s₀ y1 := by
    unfold y1
    split
    · apply State.modAct_keeps
      apply State.writeTable_keeps
      apply State.addTable_keeps
      assumption
    · apply State.tcount_keeps
      assumption
  clear_value y1
  apply Keeps.foldl
  · intro x3 x4 x5
    apply State.encodeWeight_keeps
    assumption
  · assumption

theorem State.dropTables_keeps {s₀ s : State} (h : Keeps s₀ s) (a1 a2) : Keeps s₀ (State.dropTables s a1 a2) := by
  unfold State.dropTables
  refine ⟨?_, ?_⟩
  · dsimp only
    apply Sys2Proof.Machine.Keeps.pending
    assumption
  · dsimp only
    apply Sys2Proof.Machine.Keeps.mem
    assumption

theorem State.buildTables_keeps {s₀ s : State} (h : Keeps s₀ s) (a1 a2) : Keeps s₀ (State.buildTables s a1 a2) := by
  unfold State.buildTables
  extract_lets +onlyGivenNames y0
  have h1 : Keeps s₀ y0 := by
    unfold y0
    apply State.dropTables_keeps
    assumption
  clear_value y0
  split
  · apply Keeps.foldl
    · intro x2 x3 x4
      apply State.buildTable_keeps
      assumption
    · assumption
  · assumption

theorem State.cacheBlock_keeps {s₀ s : State} (h : Keeps s₀ s) (a1 a2 a3) : Keeps s₀ (State.cacheBlock s a1 a2 a3) := by
  unfold State.cacheBlock
  apply Keeps.ite
  · assumption
  · apply Keeps.foldl
    · intro x0 x1 x2
      extract_lets +onlyGivenNames y3
      clear_value y3
      apply State.cacheAccess_keeps
      assumption
    · assumption

theorem State.channelsOn_keeps {s₀ s : State} (h : Keeps s₀ s) : Keeps s₀ (State.channelsOn s) := by
  unfold State.channelsOn
  refine ⟨?_, ?_⟩
  · dsimp only
    apply Sys2Proof.Machine.Keeps.pending
    assumption
  · dsimp only
    apply Sys2Proof.Machine.Keeps.mem
    assumption

theorem State.quotaRefused_keeps {s₀ s : State} (h : Keeps s₀ s) (a1) : Keeps s₀ (State.quotaRefused s a1) := by
  unfold State.quotaRefused
  apply State.tcount_keeps
  assumption

theorem State.checkFailed_keeps {s₀ s : State} (h : Keeps s₀ s) (a1 a2 a3) : Keeps s₀ (State.checkFailed s a1 a2 a3) := by
  unfold State.checkFailed
  extract_lets +onlyGivenNames y0
  clear_value y0
  extract_lets +onlyGivenNames y1
  have h2 : Keeps s₀ y1 := by
    unfold y1
    apply State.modSlot_keeps
    assumption
  clear_value y1
  extract_lets +onlyGivenNames y3
  have h4 : Keeps s₀ y3 := by
    unfold y3
    apply Keeps.ite
    · apply State.quotaRefused_keeps
      assumption
    · assumption
  clear_value y3
  apply State.finish_keeps
  apply State.tcount_keeps
  assumption

theorem State.clamped_keeps {s₀ s : State} (h : Keeps s₀ s) (a1) : Keeps s₀ (State.clamped s a1) := by
  unfold State.clamped
  extract_lets +onlyGivenNames y0
  clear_value y0
  extract_lets +onlyGivenNames y1
  dsimp only [y1]
  apply State.setStored_keeps
  apply State.setStored_keeps
  apply State.setStored_keeps
  assumption

theorem State.coolTo_keeps {s₀ : State} (t cap : Nat) : ∀ (n : Nat) {s : State}, Keeps s₀ s → Keeps s₀ (State.coolTo t cap n s)
  | 0, _, h => h
  | n + 1, s, h => by
    unfold State.coolTo
    apply Keeps.ite h
    split
    · exact h
    · exact State.coolTo_keeps t cap n (State.makeCold_keeps h _ _)

theorem State.copyOctets_keeps {s₀ s : State} (h : Keeps s₀ s) (a1 a2 a3 a4 a5) : Keeps s₀ (State.copyOctets s a1 a2 a3 a4 a5) := by
  unfold State.copyOctets
  apply State.putTensor_keeps
  assumption

theorem State.modCore_keeps {s₀ s : State} (h : Keeps s₀ s) (a1 a2) : Keeps s₀ (State.modCore s a1 a2) := by
  unfold State.modCore
  refine ⟨?_, ?_⟩
  · dsimp only
    apply Sys2Proof.Machine.Keeps.pending
    assumption
  · dsimp only
    apply Sys2Proof.Machine.Keeps.mem
    assumption

theorem State.rollingDone_keeps {s₀ s : State} (h : Keeps s₀ s) : Keeps s₀ (State.rollingDone s) := by
  unfold State.rollingDone
  apply Keeps.ite
  · assumption
  · split
    · extract_lets +onlyGivenNames y0
      clear_value y0
      extract_lets +onlyGivenNames y1
      have h2 : Keeps s₀ y1 := by
        unfold y1
        apply State.modCtl_keeps
        assumption
      clear_value y1
      apply State.finish_keeps
      refine ⟨?_, ?_⟩
      · dsimp only
        apply Sys2Proof.Machine.Keeps.pending
        assumption
      · dsimp only
        apply Sys2Proof.Machine.Keeps.mem
        assumption
    · extract_lets +onlyGivenNames y3
      clear_value y3
      extract_lets +onlyGivenNames y4
      have h5 : Keeps s₀ y4 := by
        unfold y4
        apply State.modCtl_keeps
        assumption
      clear_value y4
      extract_lets +onlyGivenNames y6
      clear_value y6
      extract_lets +onlyGivenNames y7
      have h8 : Keeps s₀ y7 := by
        unfold y7
        refine ⟨?_, ?_⟩
        · dsimp only
          apply Sys2Proof.Machine.Keeps.pending
          assumption
        · dsimp only
          apply Sys2Proof.Machine.Keeps.mem
          assumption
      clear_value y7
      apply Keeps.ite
      · apply State.finish_keeps
        assumption
      · assumption
    · assumption

theorem State.coreRuns_keeps {s₀ s : State} (h : Keeps s₀ s) (a1) : Keeps s₀ (State.coreRuns s a1) := by
  unfold State.coreRuns
  extract_lets +onlyGivenNames y0
  clear_value y0
  extract_lets +onlyGivenNames y1
  clear_value y1
  extract_lets +onlyGivenNames y2
  clear_value y2
  extract_lets +onlyGivenNames y3
  have h4 : Keeps s₀ y3 := by
    unfold y3
    apply State.modCore_keeps
    assumption
  clear_value y3
  extract_lets +onlyGivenNames y5
  have h6 : Keeps s₀ y5 := by
    unfold y5
    apply Keeps.ite
    · apply State.rollingDone_keeps
      apply State.modCtl_keeps
      assumption
    · assumption
  clear_value y5
  apply Keeps.ite
  · apply State.finish_keeps
    assumption
  · assumption

theorem State.corrPut_keeps {s₀ s : State} (h : Keeps s₀ s) (a1 a2 a3) : Keeps s₀ (State.corrPut s a1 a2 a3) := by
  unfold State.corrPut
  extract_lets +onlyGivenNames y0
  clear_value y0
  extract_lets +onlyGivenNames y1
  clear_value y1
  extract_lets +onlyGivenNames y2
  clear_value y2
  apply State.ocount_keeps
  apply State.putWords_keeps
  assumption

theorem State.countBlock_keeps {s₀ s : State} (h : Keeps s₀ s) (a1 a2 a3 a4) : Keeps s₀ (State.countBlock s a1 a2 a3 a4) := by
  unfold State.countBlock
  split
  · apply State.ocount_keeps
    assumption
  · apply State.ocount_keeps
    apply State.ocount_keeps
    apply State.ocount_keeps
    assumption
  · assumption

theorem State.countClamps_keeps {s₀ s : State} (h : Keeps s₀ s) (a1 a2) : Keeps s₀ (State.countClamps s a1 a2) := by
  unfold State.countClamps
  apply Keeps.ite
  · assumption
  · apply State.tcount_keeps
    assumption

theorem State.countConv_keeps {s₀ s : State} (h : Keeps s₀ s) (a1 a2 a3) : Keeps s₀ (State.countConv s a1 a2 a3) := by
  unfold State.countConv
  extract_lets +onlyGivenNames y0
  have h1 : Keeps s₀ y0 := by
    unfold y0
    apply Keeps.ite
    · assumption
    · apply State.tcount_keeps
      assumption
  clear_value y0
  apply Keeps.ite
  · assumption
  · apply State.tcount_keeps
    assumption

theorem State.countMove_keeps {s₀ s : State} (h : Keeps s₀ s) (a1 a2 a3) : Keeps s₀ (State.countMove s a1 a2 a3) := by
  unfold State.countMove
  split
  · apply State.tcount_keeps
    assumption
  · apply State.tcount_keeps
    assumption
  · assumption

theorem State.countMvm_keeps {s₀ s : State} (h : Keeps s₀ s) (a1) : Keeps s₀ (State.countMvm s a1) := by
  unfold State.countMvm
  apply State.tcount_keeps
  apply State.tcount_keeps
  apply State.tcount_keeps
  apply State.tcount_keeps
  assumption

theorem State.countNarrow_keeps {s₀ s : State} (h : Keeps s₀ s) (a1 a2) : Keeps s₀ (State.countNarrow s a1 a2) := by
  unfold State.countNarrow
  extract_lets +onlyGivenNames y0
  clear_value y0
  extract_lets +onlyGivenNames y1
  clear_value y1
  extract_lets +onlyGivenNames y2
  have h3 : Keeps s₀ y2 := by
    unfold y2
    apply Keeps.ite
    · assumption
    · apply State.tcount_keeps
      assumption
  clear_value y2
  apply Keeps.ite
  · assumption
  · apply State.tcount_keeps
    assumption

theorem State.countOor_keeps {s₀ s : State} (h : Keeps s₀ s) (a1 a2) : Keeps s₀ (State.countOor s a1 a2) := by
  unfold State.countOor
  apply Keeps.ite
  · assumption
  · apply State.tcount_keeps
    assumption

theorem State.countRecord_keeps {s₀ s : State} (h : Keeps s₀ s) (a1 a2) : Keeps s₀ (State.countRecord s a1 a2) := by
  unfold State.countRecord
  extract_lets +onlyGivenNames y0
  have h1 : Keeps s₀ y0 := by
    unfold y0
    apply Keeps.ite
    · assumption
    · apply State.tcount_keeps
      assumption
  clear_value y0
  apply Keeps.ite
  · assumption
  · apply State.tcount_keeps
    assumption

theorem State.countTest_keeps {s₀ s : State} (h : Keeps s₀ s) (a1) : Keeps s₀ (State.countTest s a1) := by
  unfold State.countTest
  extract_lets +onlyGivenNames y0
  clear_value y0
  apply Keeps.ite
  · apply State.modArray_keeps
    assumption
  · assumption

theorem State.dataPathOn_keeps {s₀ s : State} (h : Keeps s₀ s) : Keeps s₀ (State.dataPathOn s) := by
  unfold State.dataPathOn
  apply State.modPower_keeps
  apply State.channelsOn_keeps
  assumption

theorem State.deliverRead_keeps {s₀ s : State} (h : Keeps s₀ s) (a1 a2) : Keeps s₀ (State.deliverRead s a1 a2) := by
  unfold State.deliverRead
  extract_lets +onlyGivenNames y0
  clear_value y0
  extract_lets +onlyGivenNames y1
  clear_value y1
  extract_lets +onlyGivenNames y2
  have h3 : Keeps s₀ y2 := by
    unfold y2
    apply State.modChan_keeps
    assumption
  clear_value y2
  split
  · assumption
  · apply State.count_keeps
    assumption
  · apply State.count_keeps
    assumption

theorem State.notePod_keeps {s₀ s : State} (h : Keeps s₀ s) (a1) : Keeps s₀ (State.notePod s a1) := by
  unfold State.notePod
  apply Keeps.ite
  · apply State.modRun_keeps
    assumption
  · assumption

theorem State.openWeights_keeps {s₀ s : State} (h : Keeps s₀ s) (a1 a2 a3) : Keeps s₀ (State.openWeights s a1 a2 a3) := by
  unfold State.openWeights
  extract_lets +onlyGivenNames y0
  clear_value y0
  apply State.modEngine_keeps
  assumption

theorem State.openStreams_keeps {s₀ s : State} (h : Keeps s₀ s) (a1 a2) : Keeps s₀ (State.openStreams s a1 a2) := by
  unfold State.openStreams
  split
  · apply State.openWeights_keeps
    assumption
  · extract_lets +onlyGivenNames y0
    clear_value y0
    extract_lets +onlyGivenNames y1
    clear_value y1
    apply State.modEngine_keeps
    assumption
  · assumption

theorem State.descWrite_keeps {s₀ s : State} (h : Keeps s₀ s) (a1) : Keeps s₀ (State.descWrite s a1) := by
  unfold State.descWrite
  extract_lets +onlyGivenNames y0
  clear_value y0
  extract_lets +onlyGivenNames y1
  clear_value y1
  extract_lets +onlyGivenNames y2
  clear_value y2
  extract_lets +onlyGivenNames y3
  clear_value y3
  extract_lets +onlyGivenNames y4
  have h5 : Keeps s₀ y4 := by
    unfold y4
    refine ⟨?_, ?_⟩
    · dsimp only
      apply Sys2Proof.Machine.Keeps.pending
      assumption
    · dsimp only
      apply Sys2Proof.Machine.Keeps.mem
      assumption
  clear_value y4
  apply Keeps.ite
  · split
    · assumption
    · extract_lets +onlyGivenNames y6
      clear_value y6
      extract_lets +onlyGivenNames y7
      clear_value y7
      extract_lets +onlyGivenNames y8
      have h9 : Keeps s₀ y8 := by
        unfold y8
        apply State.notePod_keeps
        apply State.openStreams_keeps
        apply State.modOp_keeps
        assumption
      clear_value y8
      apply State.propagate_keeps
      assumption
  · apply State.raise_keeps
    assumption

theorem State.setValue_keeps {s₀ s : State} (h : Keeps s₀ s) (a1 a2) : Keeps s₀ (State.setValue s a1 a2) := by
  unfold State.setValue
  split
  · assumption
  · apply Keeps.ite
    · refine ⟨?_, ?_⟩
      · dsimp only
        apply Sys2Proof.Machine.Keeps.pending
        assumption
      · dsimp only
        apply Sys2Proof.Machine.Keeps.mem
        assumption
    · refine ⟨?_, ?_⟩
      · dsimp only
        apply Sys2Proof.Machine.Keeps.pending
        assumption
      · dsimp only
        apply Sys2Proof.Machine.Keeps.mem
        assumption

theorem writeAll_keeps {s₀ : State} {one : Item → State → Nat × State} (ho : ∀ it u, Keeps s₀ u → Keeps s₀ (one it u).2) :
    ∀ (k : Nat) (l : List Item) (w : Bool) {s : State}, Keeps s₀ s → Keeps s₀ (writeAll one k l w s).state
  | _, [], _, _, h => h
  | k, it :: l, w, s, h => by
    unfold writeAll
    extract_lets r
    have hr : Keeps s₀ r.2 := ho it s h
    clear_value r
    split
    · exact writeAll_keeps ho (k + 1) l w hr
    · split
      · exact writeAll_keeps ho (k + 1) l true (State.setValue_keeps hr _ _)
      · exact hr

theorem calAlarmBody_keeps {s₀ s : State} (h : Keeps s₀ s) (a1) : Keeps s₀ (calAlarmBody a1 s).2 := by
  unfold calAlarmBody
  apply Keeps.iteSnd
  · dsimp only
    assumption
  · dsimp only
    apply State.setStored_keeps
    assumption

theorem State.exportRefused_keeps {s₀ s : State} (h : Keeps s₀ s) (a1 a2) : Keeps s₀ (State.exportRefused s a1 a2) := by
  unfold State.exportRefused
  apply State.raise_keeps
  assumption

theorem State.putFile_keeps {s₀ s : State} (h : Keeps s₀ s) (a1 a2 a3 a4) : Keeps s₀ (State.putFile s a1 a2 a3 a4) := by
  unfold State.putFile
  extract_lets +onlyGivenNames y0
  clear_value y0
  apply State.tcount_keeps
  apply State.modMten_keeps
  apply State.drawn_keeps
  assumption

theorem State.exportFull_keeps {s₀ s : State} (h : Keeps s₀ s) (a1) : Keeps s₀ (State.exportFull s a1) := by
  unfold State.exportFull
  extract_lets +onlyGivenNames y0
  clear_value y0
  apply Keeps.ite
  · assumption
  · apply Keeps.ite
    · apply State.modMten_keeps
      apply State.putFile_keeps
      assumption
    · apply State.exportRefused_keeps
      assumption

theorem State.exportOpen_keeps {s₀ s : State} (h : Keeps s₀ s) (a1) : Keeps s₀ (State.exportOpen s a1) := by
  unfold State.exportOpen
  extract_lets +onlyGivenNames y0
  have h1 : Keeps s₀ y0 := by
    unfold y0
    apply State.exportFull_keeps
    assumption
  clear_value y0
  extract_lets +onlyGivenNames y2
  clear_value y2
  apply Keeps.ite
  · assumption
  · apply Keeps.ite
    · apply State.modMten_keeps
      apply State.putFile_keeps
      assumption
    · extract_lets +onlyGivenNames y3
      have h4 : Keeps s₀ y3 := by
        unfold y3
        apply State.exportRefused_keeps
        assumption
      clear_value y3
      apply Keeps.ite
      · apply State.modMten_keeps
        assumption
      · assumption

theorem State.noteTime_keeps {s₀ s : State} (h : Keeps s₀ s) (a1) : Keeps s₀ (State.noteTime s a1) := by
  unfold State.noteTime
  apply State.capture_keeps
  assumption

theorem State.syncMirror_keeps {s₀ s : State} (h : Keeps s₀ s) (a1) : Keeps s₀ (State.syncMirror s a1) := by
  unfold State.syncMirror
  apply Keeps.ite
  · apply Keeps.ite
    · assumption
    · apply State.noteSlots_keeps
      apply State.noteTime_keeps
      apply State.modMten_keeps
      assumption
  · apply Keeps.ite
    · apply State.exportOpen_keeps
      apply State.modMten_keeps
      assumption
    · assumption

theorem envelopeBody_keeps {s₀ s : State} (h : Keeps s₀ s) (a1 a2) : Keeps s₀ (envelopeBody a1 a2 s).2 := by
  unfold envelopeBody
  apply Keeps.iteSnd
  · dsimp only
    assumption
  · apply Keeps.iteSnd
    · dsimp only
      assumption
    · apply Keeps.iteSnd
      · dsimp only
        assumption
      · dsimp only
        apply State.syncMirror_keeps
        apply State.setStored_keeps
        assumption

theorem keyBody_keeps {s₀ s : State} (h : Keeps s₀ s) (a1 a2) : Keeps s₀ (keyBody a1 a2 s).2 := by
  unfold keyBody
  extract_lets +onlyGivenNames y0
  clear_value y0
  extract_lets +onlyGivenNames y1
  clear_value y1
  apply Keeps.iteSnd
  · dsimp only
    assumption
  · apply Keeps.iteSnd
    · dsimp only
      assumption
    · dsimp only
      apply Keeps.foldl
      · intro x2 x3 x4
        apply State.closeConn_keeps
        assumption
      · apply State.setStored_keeps
        assumption

theorem State.dropDatagrams_keeps {s₀ s : State} (h : Keeps s₀ s) (a1) : Keeps s₀ (State.dropDatagrams s a1) := by
  unfold State.dropDatagrams
  apply Keeps.foldl
  · intro x0 x1 x2
    split
    · apply Keeps.ite
      · apply State.modConn_keeps
        assumption
      · assumption
    · assumption
  · assumption

theorem State.linkLoss_keeps {s₀ s : State} (h : Keeps s₀ s) (a1 a2) : Keeps s₀ (State.linkLoss s a1 a2) := by
  unfold State.linkLoss
  extract_lets +onlyGivenNames y0
  clear_value y0
  extract_lets +onlyGivenNames y1
  have h2 : Keeps s₀ y1 := by
    unfold y1
    apply State.count_keeps
    assumption
  clear_value y1
  extract_lets +onlyGivenNames y3
  have h4 : Keeps s₀ y3 := by
    unfold y3
    apply Keeps.ite
    · assumption
    · apply State.raise_keeps
      assumption
  clear_value y3
  extract_lets +onlyGivenNames y5
  have h6 : Keeps s₀ y5 := by
    unfold y5
    apply Keeps.ite
    · assumption
    · apply State.count_keeps
      assumption
  clear_value y5
  apply State.modPort_keeps
  apply State.dropDatagrams_keeps
  assumption

theorem portEnableBody_keeps {s₀ s : State} (h : Keeps s₀ s) (a1 a2) : Keeps s₀ (portEnableBody a1 a2 s).2 := by
  unfold portEnableBody
  extract_lets +onlyGivenNames y0
  have h1 : Keeps s₀ y0 := by
    unfold y0
    apply State.setStored_keeps
    assumption
  clear_value y0
  apply Keeps.iteSnd
  · dsimp only
    apply Keeps.ite
    · assumption
    · apply State.enablePort_keeps
      assumption
  · extract_lets +onlyGivenNames y2
    have h3 : Keeps s₀ y2 := by
      unfold y2
      apply Keeps.ite
      · apply State.linkLoss_keeps
        assumption
      · assumption
    clear_value y2
    dsimp only
    apply State.modPort_keeps
    assumption

theorem stratumSelectBody_keeps {s₀ s : State} (h : Keeps s₀ s) (a1 a2 a3) : Keeps s₀ (stratumSelectBody a1 a2 a3 s).2 := by
  unfold stratumSelectBody
  apply Keeps.iteSnd
  · dsimp only
    assumption
  · dsimp only
    apply State.modConn_keeps
    assumption

theorem State.deviceEntry_keeps {s₀ s : State} (h : Keeps s₀ s) (a1 a2 a3 a4) : Keeps s₀ (State.deviceEntry s a1 a2 a3 a4).2 := by
  unfold State.deviceEntry
  split
  · apply stratumSelectBody_keeps
    assumption
  · apply portEnableBody_keeps
    assumption
  · apply keyBody_keeps
    assumption
  · apply keyBody_keeps
    assumption
  · apply envelopeBody_keeps
    assumption
  · dsimp only
    apply State.budgetsWritten_keeps
    apply State.setValue_keeps
    assumption
  · dsimp only
    apply State.budgetsWritten_keeps
    apply State.setValue_keeps
    assumption
  · dsimp only
    apply State.setValue_keeps
    assumption
  · apply calAlarmBody_keeps
    assumption
  · dsimp only
    apply State.setValue_keeps
    assumption

theorem State.dieMemoryZero_keeps {s₀ s : State} (h : Keeps s₀ s) : Keeps s₀ s.dieMemoryZero := ⟨h.pending, fun w => dieMemoryZero_wf (h.mem w)⟩

theorem State.discardBlock_keeps {s₀ s : State} (h : Keeps s₀ s) (a1 a2 a3) : Keeps s₀ (State.discardBlock s a1 a2 a3) := by
  unfold State.discardBlock
  apply State.tcount_keeps
  apply State.modEngine_keeps
  assumption

theorem State.discipline_keeps {s₀ s : State} (h : Keeps s₀ s) (a1 a2) : Keeps s₀ (State.discipline s a1 a2) := by
  unfold State.discipline
  extract_lets +onlyGivenNames y0
  clear_value y0
  extract_lets +onlyGivenNames y1
  clear_value y1
  apply Keeps.ite
  · extract_lets +onlyGivenNames y2
    have h3 : Keeps s₀ y2 := by
      unfold y2
      refine ⟨?_, ?_⟩
      · dsimp only
        apply Sys2Proof.Machine.Keeps.pending
        assumption
      · dsimp only
        apply Sys2Proof.Machine.Keeps.mem
        assumption
    clear_value y2
    apply State.captureAll_keeps
    apply State.count_keeps
    assumption
  · refine ⟨?_, ?_⟩
    · dsimp only
      apply Sys2Proof.Machine.Keeps.pending
      assumption
    · dsimp only
      apply Sys2Proof.Machine.Keeps.mem
      assumption

theorem State.issueWrites_keeps {s₀ s : State} (h : Keeps s₀ s) (a1 a2) : Keeps s₀ (State.issueWrites s a1 a2) := by
  unfold State.issueWrites
  extract_lets +onlyGivenNames y0
  clear_value y0
  extract_lets +onlyGivenNames y1
  clear_value y1
  extract_lets +onlyGivenNames y2
  have h3 : Keeps s₀ y2 := by
    unfold y2
    apply State.modChan_keeps
    assumption
  clear_value y2
  apply Keeps.foldl
  · intro x4 x5 x6
    apply Keeps.ite
    · assumption
    · split
      · apply State.modLine_keeps
        assumption
      · assumption
  · assumption

theorem State.drainFor_keeps {s₀ s : State} (h : Keeps s₀ s) (a1 a2 a3) : Keeps s₀ (State.drainFor s a1 a2 a3) := by
  unfold State.drainFor
  extract_lets +onlyGivenNames y0
  clear_value y0
  apply Keeps.ite
  · assumption
  · apply State.tcount_keeps
    apply State.issueWrites_keeps
    assumption

theorem State.driveThermN_keeps {s₀ s : State} (h : Keeps s₀ s) (a1) : Keeps s₀ (State.driveThermN s a1) := by
  unfold State.driveThermN
  refine ⟨?_, ?_⟩
  · dsimp only
    apply Sys2Proof.Machine.Keeps.pending
    assumption
  · dsimp only
    apply Sys2Proof.Machine.Keeps.mem
    assumption

theorem State.dropEnded_keeps {s₀ s : State} (h : Keeps s₀ s) (a1) : Keeps s₀ (State.dropEnded s a1) := by
  unfold State.dropEnded
  apply State.modConn_keeps
  assumption

theorem State.dropHot_keeps {s₀ s : State} (h : Keeps s₀ s) (a1) : Keeps s₀ (State.dropHot s a1) := by
  unfold State.dropHot
  refine ⟨?_, ?_⟩
  · dsimp only
    apply Sys2Proof.Machine.Keeps.pending
    assumption
  · dsimp only
    apply Sys2Proof.Machine.Keeps.mem
    assumption

theorem State.modKvPending_keeps {s₀ s : State} (h : Keeps s₀ s) (a1 a2) : Keeps s₀ (State.modKvPending s a1 a2) := by
  unfold State.modKvPending
  refine ⟨?_, ?_⟩
  · dsimp only
    apply Sys2Proof.Machine.Keeps.pending
    assumption
  · dsimp only
    apply Sys2Proof.Machine.Keeps.mem
    assumption

theorem State.dropPending_keeps {s₀ s : State} (h : Keeps s₀ s) (a1) : Keeps s₀ (State.dropPending s a1) := by
  unfold State.dropPending
  apply Keeps.foldl
  · intro x0 x1 x2
    apply Keeps.ite
    · apply State.modKvPending_keeps
      assumption
    · assumption
  · assumption

theorem State.dropShadow_keeps {s₀ s : State} (h : Keeps s₀ s) (a1 a2) : Keeps s₀ (State.dropShadow s a1 a2) := by
  unfold State.dropShadow
  extract_lets +onlyGivenNames y0
  clear_value y0
  extract_lets +onlyGivenNames y1
  have h2 : Keeps s₀ y1 := by
    unfold y1
    refine ⟨?_, ?_⟩
    · dsimp only
      apply Sys2Proof.Machine.Keeps.pending
      assumption
    · dsimp only
      apply Sys2Proof.Machine.Keeps.mem
      assumption
  clear_value y1
  extract_lets +onlyGivenNames y3
  have h4 : Keeps s₀ y3 := by
    unfold y3
    apply Keeps.ite
    · apply State.repin_keeps
      apply State.modStratum_keeps
      assumption
    · assumption
  clear_value y3
  apply State.tcount_keeps
  apply State.tcount_keeps
  apply State.tcount_keeps
  assumption

theorem State.dropSlot_keeps {s₀ s : State} (h : Keeps s₀ s) (a1) : Keeps s₀ (State.dropSlot s a1) := by
  unfold State.dropSlot
  apply State.modDie_keeps
  apply State.modArray_keeps
  assumption

theorem State.dropXfers_keeps {s₀ s : State} (h : Keeps s₀ s) (a1) : Keeps s₀ (State.dropXfers s a1) := by
  unfold State.dropXfers
  extract_lets +onlyGivenNames y0
  clear_value y0
  refine ⟨?_, ?_⟩
  · dsimp only
    apply Sys2Proof.Machine.Keeps.pending
    assumption
  · dsimp only
    apply Sys2Proof.Machine.Keeps.mem
    assumption

theorem State.resend_keeps {s₀ s : State} (h : Keeps s₀ s) (a1 a2 a3) : Keeps s₀ (State.resend s a1 a2 a3) := by
  unfold State.resend
  extract_lets +onlyGivenNames y0
  clear_value y0
  extract_lets +onlyGivenNames y1
  clear_value y1
  extract_lets +onlyGivenNames y2
  clear_value y2
  extract_lets +onlyGivenNames y3
  clear_value y3
  extract_lets +onlyGivenNames y4
  clear_value y4
  extract_lets +onlyGivenNames y5
  clear_value y5
  extract_lets +onlyGivenNames y6
  have h7 : Keeps s₀ y6 := by
    unfold y6
    apply State.emit_keeps
    assumption
  clear_value y6
  apply State.modReq_keeps
  assumption

theorem State.duplicate_keeps {s₀ s : State} (h : Keeps s₀ s) (a1 a2 a3 a4 a5) : Keeps s₀ (State.duplicate s a1 a2 a3 a4 a5) := by
  unfold State.duplicate
  extract_lets +onlyGivenNames y0
  have h1 : Keeps s₀ y0 := by
    unfold y0
    apply State.tcount_keeps
    assumption
  clear_value y0
  split
  · apply State.replyStatus_keeps
    assumption
  · apply State.replyStatus_keeps
    apply State.modReq_keeps
    assumption
  · extract_lets +onlyGivenNames y2
    have h3 : Keeps s₀ y2 := by
      unfold y2
      apply State.modReq_keeps
      assumption
    clear_value y2
    apply State.resend_keeps
    assumption
  · extract_lets +onlyGivenNames y4
    have h5 : Keeps s₀ y4 := by
      unfold y4
      apply State.modReq_keeps
      assumption
    clear_value y4
    apply State.resend_keeps
    assumption

theorem State.endDieErase_keeps {s₀ s : State} (h : Keeps s₀ s) (a1 a2) : Keeps s₀ (State.endDieErase s a1 a2) := by
  unfold State.endDieErase
  extract_lets +onlyGivenNames y0
  clear_value y0
  extract_lets +onlyGivenNames y1
  clear_value y1
  extract_lets +onlyGivenNames y2
  have h3 : Keeps s₀ y2 := by
    unfold y2
    apply State.modDie_keeps
    assumption
  clear_value y2
  extract_lets +onlyGivenNames y4
  clear_value y4
  extract_lets +onlyGivenNames y5
  have h6 : Keeps s₀ y5 := by
    unfold y5
    refine ⟨?_, ?_⟩
    · dsimp only
      apply Sys2Proof.Machine.Keeps.pending
      assumption
    · dsimp only
      apply Sys2Proof.Machine.Keeps.mem
      assumption
  clear_value y5
  apply Keeps.foldl
  · intro x7 x8 x9
    apply State.raise_keeps
    apply State.tcount_keeps
    assumption
  · assumption

theorem State.endHeld_keeps {s₀ s : State} (h : Keeps s₀ s) (a1 a2) : Keeps s₀ (State.endHeld s a1 a2) := by
  unfold State.endHeld
  extract_lets +onlyGivenNames y0
  have h1 : Keeps s₀ y0 := by
    unfold y0
    refine ⟨?_, ?_⟩
    · dsimp only
      apply Sys2Proof.Machine.Keeps.pending
      assumption
    · dsimp only
      apply Sys2Proof.Machine.Keeps.mem
      assumption
  clear_value y0
  split
  · assumption
  · extract_lets +onlyGivenNames y2
    have h3 : Keeps s₀ y2 := by
      unfold y2
      apply State.dropEnded_keeps
      assumption
    clear_value y2
    refine ⟨?_, ?_⟩
    · dsimp only
      apply Sys2Proof.Machine.Keeps.pending
      assumption
    · dsimp only
      apply Sys2Proof.Machine.Keeps.mem
      assumption

theorem State.endLate_keeps {s₀ s : State} (h : Keeps s₀ s) (a1) : Keeps s₀ (State.endLate s a1) := by
  unfold State.endLate
  split
  · assumption
  · apply Keeps.ite
    · assumption
    · extract_lets +onlyGivenNames y0
      clear_value y0
      apply State.tcount_keeps
      refine ⟨?_, ?_⟩
      · dsimp only
        apply Sys2Proof.Machine.Keeps.pending
        assumption
      · dsimp only
        apply Sys2Proof.Machine.Keeps.mem
        assumption

theorem State.endMvm_keeps {s₀ s : State} (h : Keeps s₀ s) (a1 a2) : Keeps s₀ (State.endMvm s a1 a2) := by
  unfold State.endMvm
  extract_lets +onlyGivenNames y0
  have h1 : Keeps s₀ y0 := by
    unfold y0
    apply State.countTest_keeps
    apply State.modArray_keeps
    assumption
  clear_value y0
  extract_lets +onlyGivenNames y2
  have h3 : Keeps s₀ y2 := by
    unfold y2
    apply Keeps.ite
    · apply State.bankAdd_keeps
      assumption
    · apply State.modArray_keeps
      assumption
  clear_value y2
  apply State.modArray_keeps
  assumption

theorem State.unlisted_keeps {s₀ s : State} (h : Keeps s₀ s) : Keeps s₀ (State.unlisted s) := by
  unfold State.unlisted
  refine ⟨?_, ?_⟩
  · dsimp only
    apply Sys2Proof.Machine.Keeps.pending
    assumption
  · dsimp only
    apply Sys2Proof.Machine.Keeps.mem
    assumption

theorem State.refuse_keeps {s₀ s : State} (h : Keeps s₀ s) (a1 a2 a3 a4) : Keeps s₀ (State.refuse s a1 a2 a3 a4) := by
  unfold State.refuse
  extract_lets +onlyGivenNames y0
  have h1 : Keeps s₀ y0 := by
    unfold y0
    apply State.count_keeps
    apply State.respond_keeps
    assumption
  clear_value y0
  extract_lets +onlyGivenNames y2
  have h3 : Keeps s₀ y2 := by
    unfold y2
    apply Keeps.ite
    · apply State.count_keeps
      assumption
    · assumption
  clear_value y2
  extract_lets +onlyGivenNames y4
  have h5 : Keeps s₀ y4 := by
    unfold y4
    apply Keeps.ite
    · apply State.unlisted_keeps
      assumption
    · assumption
  clear_value y4
  apply Keeps.ite
  · apply State.count_keeps
    assumption
  · assumption

theorem State.endPrep_keeps {s₀ s : State} (h : Keeps s₀ s) (a1 a2 a3) : Keeps s₀ (State.endPrep s a1 a2 a3) := by
  unfold State.endPrep
  extract_lets +onlyGivenNames y0
  clear_value y0
  extract_lets +onlyGivenNames y1
  clear_value y1
  extract_lets +onlyGivenNames y2
  clear_value y2
  extract_lets +onlyGivenNames y3
  have h4 : Keeps s₀ y3 := by
    unfold y3
    refine ⟨?_, ?_⟩
    · dsimp only
      apply Sys2Proof.Machine.Keeps.pending
      assumption
    · dsimp only
      apply Sys2Proof.Machine.Keeps.mem
      assumption
  clear_value y3
  apply Keeps.ite
  · assumption
  · apply State.dropEnded_keeps
    apply State.unwait_keeps
    apply Keeps.ite
    · apply State.respond_keeps
      assumption
    · apply State.refuse_keeps
      assumption

theorem State.putMerged_keeps {s₀ s : State} (h : Keeps s₀ s) (a1 a2 a3 a4 a5) : Keeps s₀ (State.putMerged s a1 a2 a3 a4 a5) := by
  unfold State.putMerged
  split
  · apply State.countClamps_keeps
    apply State.putWords_keeps
    assumption
  · apply State.ocount_keeps
    apply State.putWords_keeps
    assumption

theorem State.mergeMember_keeps {s₀ s : State} (h : Keeps s₀ s) (a1 a2 a3 a4 a5 a6 a7) : Keeps s₀ (State.mergeMember s a1 a2 a3 a4 a5 a6 a7) := by
  unfold State.mergeMember
  split
  · extract_lets +onlyGivenNames y0
    clear_value y0
    extract_lets +onlyGivenNames y1
    clear_value y1
    extract_lets +onlyGivenNames y2
    clear_value y2
    extract_lets +onlyGivenNames y3
    clear_value y3
    extract_lets +onlyGivenNames y4
    clear_value y4
    apply Keeps.foldl
    · intro x5 x6 x7
      apply State.putMerged_keeps
      assumption
    · assumption
  · assumption

theorem State.mergeRanges_keeps {s₀ s : State} (h : Keeps s₀ s) (a1) : Keeps s₀ (State.mergeRanges s a1) := by
  unfold State.mergeRanges
  split
  · apply Keeps.foldl
    · intro x0 x1 x2
      apply State.mergeMember_keeps
      assumption
    · assumption
  · assumption

theorem State.endProgram_keeps {s₀ s : State} (h : Keeps s₀ s) (a1 a2) : Keeps s₀ (State.endProgram s a1 a2) := by
  unfold State.endProgram
  extract_lets +onlyGivenNames y0
  have h1 : Keeps s₀ y0 := by
    unfold y0
    apply State.modUnit_keeps
    assumption
  clear_value y0
  split
  · assumption
  · apply State.workDone_keeps
    apply State.encodeOutputs_keeps
    apply State.mergeRanges_keeps
    apply State.appendMax_keeps
    assumption

theorem State.endReplay_keeps {s₀ s : State} (h : Keeps s₀ s) (a1 a2) : Keeps s₀ (State.endReplay s a1 a2) := by
  unfold State.endReplay
  extract_lets +onlyGivenNames y0
  have h1 : Keeps s₀ y0 := by
    unfold y0
    apply State.modMten_keeps
    assumption
  clear_value y0
  extract_lets +onlyGivenNames y2
  have h3 : Keeps s₀ y2 := by
    unfold y2
    apply Keeps.foldl
    · intro x4 x5 x6
      apply State.closeSess_keeps
      assumption
    · assumption
  clear_value y2
  extract_lets +onlyGivenNames y7
  have h8 : Keeps s₀ y7 := by
    unfold y7
    apply State.tcount_keeps
    apply State.tcount_keeps
    assumption
  clear_value y7
  apply State.syncMirror_keeps
  apply State.finish_keeps
  apply State.raise_keeps
  assumption

theorem State.endWait_keeps {s₀ s : State} (h : Keeps s₀ s) (a1 a2) : Keeps s₀ (State.endWait s a1 a2) := by
  unfold State.endWait
  apply Keeps.ite
  · assumption
  · apply State.modRun_keeps
    apply State.tcount_keeps
    assumption

theorem State.endWrite_keeps {s₀ s : State} (h : Keeps s₀ s) (a1) : Keeps s₀ (State.endWrite s a1) := by
  unfold State.endWrite
  extract_lets +onlyGivenNames y0
  clear_value y0
  apply State.repinArray_keeps
  apply State.modArray_keeps
  assumption

theorem State.setReplay_keeps {s₀ s : State} (h : Keeps s₀ s) (a1 a2) : Keeps s₀ (State.setReplay s a1 a2) := by
  unfold State.setReplay
  apply State.modMten_keeps
  assumption

theorem State.enforceCold_keeps {s₀ s : State} (h : Keeps s₀ s) (a1 a2 a3) : Keeps s₀ (State.enforceCold s a1 a2 a3) := by
  unfold State.enforceCold
  extract_lets +onlyGivenNames y0
  have h1 : Keeps s₀ y0 := by
    unfold y0
    apply State.setReplay_keeps
    assumption
  clear_value y0
  split
  · assumption
  · apply Keeps.ite
    · apply State.makeCold_keeps
      assumption
    · assumption

theorem State.modLease_keeps {s₀ s : State} (h : Keeps s₀ s) (a1) : Keeps s₀ (State.modLease s a1) := by
  unfold State.modLease
  apply State.modCtl_keeps
  assumption

theorem State.enterUnattended_keeps {s₀ s : State} (h : Keeps s₀ s) : Keeps s₀ (State.enterUnattended s) := by
  unfold State.enterUnattended
  extract_lets +onlyGivenNames y0
  have h1 : Keeps s₀ y0 := by
    unfold y0
    apply State.count_keeps
    apply State.modLease_keeps
    assumption
  clear_value y0
  apply Keeps.foldl
  · intro x2 x3 x4
    apply State.applyPolicy_keeps
    assumption
  · apply State.raise_keeps
    assumption

theorem State.retire_keeps {s₀ s : State} (h : Keeps s₀ s) (a1) : Keeps s₀ (State.retire s a1) := by
  unfold State.retire
  extract_lets +onlyGivenNames y0
  clear_value y0
  extract_lets +onlyGivenNames y1
  have h2 : Keeps s₀ y1 := by
    unfold y1
    apply State.modStratum_keeps
    assumption
  clear_value y1
  apply State.raise_keeps
  apply State.tcount_keeps
  assumption

theorem State.eraseDone_keeps {s₀ s : State} (h : Keeps s₀ s) (a1) : Keeps s₀ (State.eraseDone s a1) := by
  unfold State.eraseDone
  extract_lets +onlyGivenNames y0
  clear_value y0
  apply Keeps.ite
  · apply State.endWrite_keeps
    apply State.retire_keeps
    apply State.modStratum_keeps
    assumption
  · apply Keeps.ite
    · apply Keeps.ite
      · apply State.endWrite_keeps
        apply State.modStratum_keeps
        assumption
      · apply State.endWrite_keeps
        apply State.retire_keeps
        apply State.modStratum_keeps
        assumption
    · apply Keeps.ite
      · apply State.modStratum_keeps
        assumption
      · apply State.endWrite_keeps
        apply State.retire_keeps
        apply State.modStratum_keeps
        apply State.relocateOf_keeps
        assumption

theorem State.evictCopies_keeps {s₀ : State} (t slots : Nat) : ∀ (n : Nat) {s : State}, Keeps s₀ s → Keeps s₀ (State.evictCopies t slots n s)
  | 0, _, h => h
  | n + 1, s, h => by
    unfold State.evictCopies
    apply Keeps.ite h
    split
    · exact h
    · exact State.evictCopies_keeps t slots n (State.modStratum_keeps h _ _)

theorem State.nowSpilled_keeps {s₀ s : State} (h : Keeps s₀ s) (a1 a2 a3 a4) : Keeps s₀ (State.nowSpilled s a1 a2 a3 a4) := by
  unfold State.nowSpilled
  apply State.modRun_keeps
  assumption

theorem State.spillOctets_keeps {s₀ s : State} (h : Keeps s₀ s) (a1 a2 a3 a4 a5) : Keeps s₀ (State.spillOctets s a1 a2 a3 a4 a5) := by
  unfold State.spillOctets
  apply Keeps.foldl
  · intro x0 x1 x2
    extract_lets +onlyGivenNames y3
    clear_value y3
    split
    · apply State.setByte_keeps
      assumption
    · assumption
  · assumption

theorem State.evictScratch_keeps {s₀ s t : State} {a : Nat} (h : Keeps s₀ s) (eq : State.evictScratch s a = some t) : Keeps s₀ t := by
  unfold State.evictScratch at eq
  simp only [Option.bind_eq_some_iff, Option.map_eq_some_iff] at eq
  obtain ⟨v, -, u, hu, rfl⟩ := eq
  exact State.nowSpilled_keeps (State.spillOctets_keeps (State.allocExtent_keeps h hu) _ _ _ _ _) _ _ _ _

theorem State.modPopular_keeps {s₀ s : State} (h : Keeps s₀ s) (a1 a2) : Keeps s₀ (State.modPopular s a1 a2) := by
  unfold State.modPopular
  refine ⟨?_, ?_⟩
  · dsimp only
    apply Sys2Proof.Machine.Keeps.pending
    assumption
  · dsimp only
    apply Sys2Proof.Machine.Keeps.mem
    assumption

theorem State.moveBlock_keeps {s₀ s t : State} {a : Nat} {b : WContent} (h : Keeps s₀ s) (eq : State.moveBlock s a b = some t) : Keeps s₀ t := by
  unfold State.moveBlock at eq
  simp only [Option.map_eq_some_iff] at eq
  obtain ⟨ks, -, rfl⟩ := eq
  exact State.releaseOld_keeps (Keeps.foldl (fun _ _ hu => State.assign_keeps hu _ _ _) _ h) _ _ _

theorem State.moveBlocks_keeps {s₀ t : State} {a : Nat} : ∀ {l : List WContent} {s : State}, Keeps s₀ s → State.moveBlocks s a l = some t → Keeps s₀ t
  | [], _, h, eq => by cases eq; exact h
  | c :: l, s, h, eq => by
    simp only [State.moveBlocks, Option.bind_eq_some_iff] at eq
    obtain ⟨u, hu, eq⟩ := eq
    exact State.moveBlocks_keeps (State.moveBlock_keeps h hu) eq

theorem State.rebalance_keeps {s₀ : State} (t slot layer : Nat) (p : Plan) (gen : Nat) (dies : List Nat) :
    ∀ (n : Nat) (l : List ExpertLoad) {s : State}, Keeps s₀ s → Keeps s₀ (State.rebalance t slot layer p gen dies n l s)
  | 0, _, _, h => h
  | n + 1, l, s, h => by
    unfold State.rebalance
    dsimp only
    split
    · exact h
    · split
      · exact h
      · split
        · exact h
        · split
          · exact h
          · rename_i d u e
            obtain ⟨x, -, e⟩ := List.exists_of_findSome?_eq_some e
            simp only [Option.map_eq_some_iff] at e
            obtain ⟨v, hv, e⟩ := e
            cases e
            exact State.rebalance_keeps t slot layer p gen dies n _ (State.tcount_keeps (State.moveBlocks_keeps h hv) _ _ _ _)

theorem State.expertCheck_keeps {s₀ s : State} (h : Keeps s₀ s) (a1 a2 a3) : Keeps s₀ (State.expertCheck s a1 a2 a3) := by
  unfold State.expertCheck
  extract_lets +onlyGivenNames y0
  clear_value y0
  extract_lets +onlyGivenNames y1
  clear_value y1
  extract_lets +onlyGivenNames y2
  have h3 : Keeps s₀ y2 := by
    unfold y2
    apply State.modPopular_keeps
    assumption
  clear_value y2
  extract_lets +onlyGivenNames y4
  clear_value y4
  split
  · assumption
  · extract_lets +onlyGivenNames y5
    clear_value y5
    extract_lets +onlyGivenNames y6
    clear_value y6
    extract_lets +onlyGivenNames y7
    clear_value y7
    extract_lets +onlyGivenNames y8
    clear_value y8
    extract_lets +onlyGivenNames y9
    clear_value y9
    apply Keeps.ite
    · apply State.modPopular_keeps
      apply State.rebalance_keeps
      assumption
    · assumption

theorem State.factoryEffects_keeps {s₀ s : State} (h : Keeps s₀ s) : Keeps s₀ (State.factoryEffects s) := by
  unfold State.factoryEffects
  extract_lets +onlyGivenNames y0
  have h1 : Keeps s₀ y0 := by
    unfold y0
    apply Keeps.foldl
    · intro x2 x3 x4
      apply State.closeConn_keeps
      assumption
    · assumption
  clear_value y0
  extract_lets +onlyGivenNames y5
  have h6 : Keeps s₀ y5 := by
    unfold y5
    apply Keeps.foldl
    · intro x7 x8 x9
      apply State.modPort_keeps
      assumption
    · assumption
  clear_value y5
  apply Keeps.foldl
  · intro x10 x11 x12
    apply Keeps.ite
    · assumption
    · apply portEnableBody_keeps
      assumption
  · assumption

theorem State.failHandshake_keeps {s₀ s : State} (h : Keeps s₀ s) (a1) : Keeps s₀ (State.failHandshake s a1) := by
  unfold State.failHandshake
  split
  · assumption
  · apply State.count_keeps
    apply State.closeConn_keeps
    assumption

theorem State.failedStep_keeps {s₀ s : State} (h : Keeps s₀ s) (a1) : Keeps s₀ (State.failedStep s a1) := by
  unfold State.failedStep
  apply Keeps.ite
  · apply State.raise_keeps
    apply State.endJob_keeps
    assumption
  · apply State.tcount_keeps
    apply State.modJob_keeps
    assumption

theorem State.fillAdapter_keeps {s₀ s : State} (h : Keeps s₀ s) (a1 a2) : Keeps s₀ (State.fillAdapter s a1 a2) := by
  unfold State.fillAdapter
  split
  · apply State.fillExtent_keeps
    assumption
  · assumption

theorem State.fillAll_keeps {s₀ s : State} (h : Keeps s₀ s) (a1) : Keeps s₀ (State.fillAll s a1) := by
  unfold State.fillAll
  apply Keeps.foldl
  · intro x0 x1 x2
    apply State.fillConn_keeps
    assumption
  · assumption

theorem State.renameExtent_keeps {s₀ s : State} (h : Keeps s₀ s) (a1 a2 a3 a4) : Keeps s₀ (State.renameExtent s a1 a2 a3 a4) := by
  unfold State.renameExtent
  refine ⟨?_, ?_⟩
  · dsimp only
    apply Sys2Proof.Machine.Keeps.pending
    assumption
  · dsimp only
    apply Sys2Proof.Machine.Keeps.mem
    assumption

theorem State.retagAll_keeps {s₀ s : State} (h : Keeps s₀ s) (a1 a2 a3) : Keeps s₀ (State.retagAll s a1 a2 a3) := by
  unfold State.retagAll
  refine ⟨?_, ?_⟩
  · dsimp only
    apply Sys2Proof.Machine.Keeps.pending
    assumption
  · dsimp only
    apply Sys2Proof.Machine.Keeps.mem
    assumption

theorem State.flip_keeps {s₀ s : State} (h : Keeps s₀ s) (a1 a2 a3) : Keeps s₀ (State.flip s a1 a2 a3) := by
  unfold State.flip
  extract_lets +onlyGivenNames y0
  clear_value y0
  extract_lets +onlyGivenNames y1
  have h2 : Keeps s₀ y1 := by
    unfold y1
    apply State.advance_keeps
    assumption
  clear_value y1
  extract_lets +onlyGivenNames y3
  clear_value y3
  extract_lets +onlyGivenNames y4
  have h5 : Keeps s₀ y4 := by
    unfold y4
    apply State.renameExtent_keeps
    apply State.renameExtent_keeps
    apply State.retagAll_keeps
    assumption
  clear_value y4
  extract_lets +onlyGivenNames y6
  have h7 : Keeps s₀ y6 := by
    unfold y6
    apply State.modSlot_keeps
    assumption
  clear_value y6
  extract_lets +onlyGivenNames y8
  have h9 : Keeps s₀ y8 := by
    unfold y8
    apply State.applyContext_keeps
    apply State.buildTables_keeps
    assumption
  clear_value y8
  extract_lets +onlyGivenNames y10
  have h11 : Keeps s₀ y10 := by
    unfold y10
    apply Keeps.foldl
    · intro x12 x13 x14
      apply State.queuePromised_keeps
      assumption
    · assumption
  clear_value y10
  apply Keeps.foldl
  · intro x15 x16 x17
    apply State.releaseOne_keeps
    assumption
  · assumption

theorem State.wake_keeps {s₀ s : State} (h : Keeps s₀ s) (a1) : Keeps s₀ (State.wake s a1) := by
  unfold State.wake
  split
  · apply Keeps.ite
    · apply State.beginReturn_keeps
      apply State.wakeSource_keeps
      assumption
    · assumption
  · apply Keeps.ite
    · apply State.beginReturn_keeps
      apply State.wakeSource_keeps
      assumption
    · assumption
  · apply Keeps.ite
    · apply State.modPower_keeps
      apply State.wakeSource_keeps
      assumption
    · assumption
  · split
    · assumption
    · apply Keeps.ite
      · assumption
      · apply Keeps.ite
        · apply State.abortEntry_keeps
          apply State.wakeSource_keeps
          assumption
        · apply State.modPower_keeps
          assumption
  · assumption

theorem State.frameWake_keeps {s₀ s : State} (h : Keeps s₀ s) (a1) : Keeps s₀ (State.frameWake s a1) := by
  unfold State.frameWake
  extract_lets +onlyGivenNames y0
  clear_value y0
  apply Keeps.ite
  · apply State.wake_keeps
    assumption
  · assumption

theorem State.freeValue_keeps {s₀ s : State} (h : Keeps s₀ s) (a1) : Keeps s₀ (State.freeValue s a1).2 := by
  unfold State.freeValue
  dsimp only
  apply State.drawn_keeps
  assumption

theorem State.generate_keeps {s₀ s : State} (h : Keeps s₀ s) (a1 a2 a3) : Keeps s₀ (State.generate s a1 a2 a3) := by
  unfold State.generate
  extract_lets +onlyGivenNames y0
  clear_value y0
  extract_lets +onlyGivenNames y1
  clear_value y1
  extract_lets +onlyGivenNames y2
  have h3 : Keeps s₀ y2 := by
    unfold y2
    apply State.tcount_keeps
    apply State.modReq_keeps
    apply State.modSession_keeps
    assumption
  clear_value y2
  extract_lets +onlyGivenNames y4
  clear_value y4
  extract_lets +onlyGivenNames y5
  clear_value y5
  apply Keeps.ite
  · apply State.endReq_keeps
    assumption
  · apply Keeps.ite
    · apply State.sendOutput_keeps
      assumption
    · assumption

theorem State.modDataset_keeps {s₀ s : State} (h : Keeps s₀ s) (a1 a2) : Keeps s₀ (State.modDataset s a1 a2) := by
  unfold State.modDataset
  refine ⟨?_, ?_⟩
  · dsimp only
    apply Sys2Proof.Machine.Keeps.pending
    assumption
  · dsimp only
    apply Sys2Proof.Machine.Keeps.mem
    assumption

theorem State.handOver_keeps {s₀ s : State} (h : Keeps s₀ s) (a1 a2) : Keeps s₀ (State.handOver s a1 a2) := by
  unfold State.handOver
  apply Keeps.ite
  · apply State.modSlot_keeps
    assumption
  · apply Keeps.ite
    · apply State.noteSlots_keeps
      apply State.modAdapter_keeps
      assumption
    · apply State.modDataset_keeps
      assumption

theorem State.hold_keeps {s₀ s : State} (h : Keeps s₀ s) (a1) : Keeps s₀ (State.hold s a1) := by
  unfold State.hold
  refine ⟨?_, ?_⟩
  · dsimp only
    apply Sys2Proof.Machine.Keeps.pending
    assumption
  · dsimp only
    apply Sys2Proof.Machine.Keeps.mem
    assumption

theorem State.holdHot_keeps {s₀ s : State} (h : Keeps s₀ s) (a1 a2 a3 a4) : Keeps s₀ (State.holdHot s a1 a2 a3 a4) := by
  unfold State.holdHot
  apply Keeps.ite
  · refine ⟨?_, ?_⟩
    · dsimp only
      apply Sys2Proof.Machine.Keeps.pending
      assumption
    · dsimp only
      apply Sys2Proof.Machine.Keeps.mem
      assumption
  · assumption

theorem State.holdPages_keeps {s₀ s : State} (h : Keeps s₀ s) (a1 a2 a3 a4) : Keeps s₀ (State.holdPages s a1 a2 a3 a4) := by
  unfold State.holdPages
  extract_lets +onlyGivenNames y0
  clear_value y0
  extract_lets +onlyGivenNames y1
  have h2 : Keeps s₀ y1 := by
    unfold y1
    apply Keeps.foldl
    · intro x3 x4 x5
      apply State.setPage_keeps
      assumption
    · assumption
  clear_value y1
  extract_lets +onlyGivenNames y6
  have h7 : Keeps s₀ y6 := by
    unfold y6
    apply State.modStagingOf_keeps
    assumption
  clear_value y6
  apply State.setOp_keeps
  assumption

theorem State.holdTimer_keeps {s₀ s : State} (h : Keeps s₀ s) (a1 a2) : Keeps s₀ (State.holdTimer s a1 a2) := by
  unfold State.holdTimer
  split
  · apply State.setOp_keeps
    assumption
  · assumption

theorem State.holdTxn_keeps {s₀ s : State} (h : Keeps s₀ s) (a1 a2) : Keeps s₀ (State.holdTxn s a1 a2) := by
  unfold State.holdTxn
  apply State.hold_keeps
  apply State.modConn_keeps
  assumption

theorem State.inbound_keeps {s₀ s : State} (h : Keeps s₀ s) (a1 a2 a3 a4) : Keeps s₀ (State.inbound s a1 a2 a3 a4) := by
  unfold State.inbound
  apply Keeps.ite
  · assumption
  · apply State.capture_keeps
    assumption

theorem State.openOn_keeps {s₀ s : State} (h : Keeps s₀ s) (k : Conn) (i slot adapter : Nat) (persistent : Bool) :
    Keeps s₀ (State.openOn s k i slot adapter persistent) := by
  unfold State.openOn
  extract_lets t im x u r
  have hu : Keeps s₀ u := by
    unfold u
    generalize e : State.allocExtent s _ _ _ _ _ = o
    cases o with
    | none => exact h
    | some v => exact State.allocExtent_keeps h e
  clear_value u
  have hr : Keeps s₀ r.2 := State.armPersist_keeps _ _ hu
  clear_value r
  exact State.modSession_keeps hr _ _

theorem State.takeOpen_keeps {s₀ s : State} (h : Keeps s₀ s) (a1 a2 a3 a4 a5 a6 a7 a8) : Keeps s₀ (State.takeOpen s a1 a2 a3 a4 a5 a6 a7 a8) := by
  unfold State.takeOpen
  extract_lets +onlyGivenNames y0
  have h1 : Keeps s₀ y0 := by
    unfold y0
    apply State.inbound_keeps
    assumption
  clear_value y0
  extract_lets +onlyGivenNames y2
  clear_value y2
  apply Keeps.ite
  · extract_lets +onlyGivenNames y3
    have h4 : Keeps s₀ y3 := by
      unfold y3
      apply Keeps.ite
      · apply State.quotaRefused_keeps
        assumption
      · assumption
    clear_value y3
    apply State.reply_keeps
    assumption
  · extract_lets +onlyGivenNames y5
    clear_value y5
    extract_lets +onlyGivenNames y6
    have h7 : Keeps s₀ y6 := by
      unfold y6
      apply State.openOn_keeps
      assumption
    clear_value y6
    apply State.reply_keeps
    assumption

theorem State.injectOpen_keeps {s₀ s : State} (h : Keeps s₀ s) (a1 a2 a3) : Keeps s₀ (State.injectOpen s a1 a2 a3) := by
  unfold State.injectOpen
  extract_lets +onlyGivenNames y0
  clear_value y0
  extract_lets +onlyGivenNames y1
  have h2 : Keeps s₀ y1 := by
    unfold y1
    apply State.takeOpen_keeps
    assumption
  clear_value y1
  split
  · apply State.setReplay_keeps
    assumption
  · assumption

theorem State.takeRequest_keeps {s₀ s : State} (h : Keeps s₀ s) (a1 a2 a3 a4) : Keeps s₀ (State.takeRequest s a1 a2 a3 a4) := by
  unfold State.takeRequest
  extract_lets +onlyGivenNames y0
  have h1 : Keeps s₀ y0 := by
    unfold y0
    apply State.inbound_keeps
    assumption
  clear_value y0
  extract_lets +onlyGivenNames y2
  clear_value y2
  extract_lets +onlyGivenNames y3
  clear_value y3
  apply Keeps.ite
  · apply State.replyStatus_keeps
    assumption
  · apply Keeps.ite
    · apply State.replyStatus_keeps
      assumption
    · split
      · apply State.duplicate_keeps
        assumption
      · apply Keeps.ite
        · apply State.replyStatus_keeps
          assumption
        · apply State.admitReq_keeps
          assumption

theorem State.injectRequest_keeps {s₀ s : State} (h : Keeps s₀ s) (a1 a2 a3 a4) : Keeps s₀ (State.injectRequest s a1 a2 a3 a4) := by
  unfold State.injectRequest
  extract_lets +onlyGivenNames y0
  clear_value y0
  extract_lets +onlyGivenNames y1
  clear_value y1
  apply State.takeRequest_keeps
  assumption

theorem State.takeAdapt_keeps {s₀ s : State} (h : Keeps s₀ s) (a1 a2 a3 a4 a5 a6) : Keeps s₀ (State.takeAdapt s a1 a2 a3 a4 a5 a6) := by
  unfold State.takeAdapt
  extract_lets +onlyGivenNames y0
  have h1 : Keeps s₀ y0 := by
    unfold y0
    apply State.inbound_keeps
    assumption
  clear_value y0
  extract_lets +onlyGivenNames y2
  clear_value y2
  extract_lets +onlyGivenNames y3
  clear_value y3
  extract_lets +onlyGivenNames y4
  clear_value y4
  extract_lets +onlyGivenNames y5
  have h6 : Keeps s₀ y5 := by
    unfold y5
    apply Keeps.ite
    · apply State.modSession_keeps
      assumption
    · assumption
  clear_value y5
  apply State.replyStatus_keeps
  assumption

theorem State.takeCancel_keeps {s₀ s : State} (h : Keeps s₀ s) (a1 a2 a3 a4 a5 a6) : Keeps s₀ (State.takeCancel s a1 a2 a3 a4 a5 a6) := by
  unfold State.takeCancel
  extract_lets +onlyGivenNames y0
  have h1 : Keeps s₀ y0 := by
    unfold y0
    apply State.inbound_keeps
    assumption
  clear_value y0
  extract_lets +onlyGivenNames y2
  clear_value y2
  extract_lets +onlyGivenNames y3
  clear_value y3
  apply Keeps.ite
  · apply State.replyStatus_keeps
    assumption
  · split
    · apply Keeps.ite
      · apply State.cancelReq_keeps
        assumption
      · assumption
    · assumption

theorem State.takeClose_keeps {s₀ s : State} (h : Keeps s₀ s) (a1 a2 a3 a4 a5) : Keeps s₀ (State.takeClose s a1 a2 a3 a4 a5) := by
  unfold State.takeClose
  extract_lets +onlyGivenNames y0
  have h1 : Keeps s₀ y0 := by
    unfold y0
    apply State.inbound_keeps
    assumption
  clear_value y0
  extract_lets +onlyGivenNames y2
  clear_value y2
  extract_lets +onlyGivenNames y3
  clear_value y3
  extract_lets +onlyGivenNames y4
  have h5 : Keeps s₀ y4 := by
    unfold y4
    apply Keeps.ite
    · apply State.closeSess_keeps
      assumption
    · assumption
  clear_value y4
  apply State.replyStatus_keeps
  assumption

theorem State.injectMsg_keeps {s₀ s : State} (h : Keeps s₀ s) (a1 a2 a3 a4 a5) : Keeps s₀ (State.injectMsg s a1 a2 a3 a4 a5) := by
  unfold State.injectMsg
  extract_lets +onlyGivenNames y0
  clear_value y0
  extract_lets +onlyGivenNames y1
  clear_value y1
  extract_lets +onlyGivenNames y2
  clear_value y2
  extract_lets +onlyGivenNames y3
  clear_value y3
  split
  · apply State.injectOpen_keeps
    assumption
  · apply State.takeAdapt_keeps
    apply State.setReplay_keeps
    assumption
  · apply State.takeClose_keeps
    apply State.setReplay_keeps
    assumption
  · apply State.injectRequest_keeps
    apply State.setReplay_keeps
    assumption
  · apply State.takeCancel_keeps
    apply State.setReplay_keeps
    assumption
  · assumption

theorem State.prepare_keeps {s₀ s : State} (h : Keeps s₀ s) (a1 a2 a3 a4) : Keeps s₀ (State.prepare s a1 a2 a3 a4) := by
  unfold State.prepare
  extract_lets +onlyGivenNames y0
  have h1 : Keeps s₀ y0 := by
    unfold y0
    apply State.modConn_keeps
    assumption
  clear_value y0
  refine ⟨?_, ?_⟩
  · dsimp only
    apply Sys2Proof.Machine.Keeps.pending
    assumption
  · dsimp only
    apply Sys2Proof.Machine.Keeps.mem
    assumption

theorem gclBody_keeps {s₀ s : State} (h : Keeps s₀ s) (a1 a2 a3) : Keeps s₀ (gclBody a1 a2 a3 s).2 := by
  unfold gclBody
  apply Keeps.iteSnd
  · dsimp only
    assumption
  · apply Keeps.iteSnd
    · dsimp only
      assumption
    · dsimp only
      apply State.modPort_keeps
      apply State.setStored_keeps
      assumption

theorem mediaBody_keeps {s₀ s : State} (h : Keeps s₀ s) (a1 a2) : Keeps s₀ (mediaBody a1 a2 s).2 := by
  unfold mediaBody
  apply Keeps.iteSnd
  · dsimp only
    assumption
  · dsimp only
    apply State.setStored_keeps
    assumption

theorem speedsBody_keeps {s₀ s : State} (h : Keeps s₀ s) (a1 a2) : Keeps s₀ (speedsBody a1 a2 s).2 := by
  unfold speedsBody
  apply Keeps.iteSnd
  · dsimp only
    assumption
  · apply Keeps.iteSnd
    · dsimp only
      assumption
    · dsimp only
      apply State.setStored_keeps
      assumption

theorem State.portEntry_keeps {s₀ s : State} (h : Keeps s₀ s) (a1 a2) : Keeps s₀ (State.portEntry s a1 a2).2 := by
  unfold State.portEntry
  extract_lets +onlyGivenNames y0
  clear_value y0
  split
  · apply portEnableBody_keeps
    assumption
  · apply mediaBody_keeps
    assumption
  · apply speedsBody_keeps
    assumption
  · apply gclBody_keeps
    assumption
  · dsimp only
    apply State.setValue_keeps
    assumption

theorem cacheWaysBody_keeps {s₀ s : State} (h : Keeps s₀ s) (a1 a2) : Keeps s₀ (cacheWaysBody a1 a2 s).2 := by
  unfold cacheWaysBody
  extract_lets +onlyGivenNames y0
  have h1 : Keeps s₀ y0 := by
    unfold y0
    apply State.setStored_keeps
    assumption
  clear_value y0
  apply Keeps.iteSnd
  · dsimp only
    assumption
  · apply Keeps.iteSnd
    · dsimp only
      assumption
    · apply Keeps.iteSnd
      · dsimp only
        assumption
      · dsimp only
        apply State.assignWays_keeps
        assumption

theorem clustersBody_keeps {s₀ s : State} (h : Keeps s₀ s) (a1 a2) : Keeps s₀ (clustersBody a1 a2 s).2 := by
  unfold clustersBody
  extract_lets +onlyGivenNames y0
  have h1 : Keeps s₀ y0 := by
    unfold y0
    apply State.setStored_keeps
    assumption
  clear_value y0
  apply Keeps.iteSnd
  · dsimp only
    assumption
  · apply Keeps.iteSnd
    · dsimp only
      assumption
    · apply Keeps.iteSnd
      · dsimp only
        assumption
      · apply Keeps.iteSnd
        · dsimp only
          assumption
        · apply Keeps.iteSnd
          · dsimp only
            assumption
          · dsimp only
            apply State.assignWays_keeps
            assumption

theorem State.trimCluster_keeps {s₀ : State} (t c : Nat) : ∀ (n : Nat) {s : State}, Keeps s₀ s → Keeps s₀ (State.trimCluster t c n s)
  | 0, _, h => h
  | n + 1, s, h => by
    unfold State.trimCluster
    apply Keeps.ite h
    split
    · exact h
    · refine Keeps.ite (State.trimCluster_keeps t c n (State.evict_keeps h _)) ?_
      split
      · exact h
      · exact State.trimCluster_keeps t c n (State.makeCold_keeps h _ _)

theorem State.trimHot_keeps {s₀ s : State} (h : Keeps s₀ s) (a1) : Keeps s₀ (State.trimHot s a1) := by
  unfold State.trimHot
  apply Keeps.foldl
  · intro x0 x1 x2
    apply State.trimCluster_keeps
    assumption
  · assumption

theorem csKvPagesBody_keeps {s₀ s : State} (h : Keeps s₀ s) (a1 a2) : Keeps s₀ (csKvPagesBody a1 a2 s).2 := by
  unfold csKvPagesBody
  apply Keeps.iteSnd
  · dsimp only
    assumption
  · dsimp only
    apply State.trimHot_keeps
    apply State.setStored_keeps
    assumption

theorem State.setSub_keeps {s₀ s : State} (h : Keeps s₀ s) (a1 a2 a3) : Keeps s₀ (State.setSub s a1 a2 a3) := by
  unfold State.setSub
  apply State.setStored_keeps
  assumption

theorem State.subActive_keeps {s₀ s : State} (h : Keeps s₀ s) (a1 a2 a3) : Keeps s₀ (State.subActive s a1 a2 a3).2 := by
  unfold State.subActive
  extract_lets +onlyGivenNames y0
  have h1 : Keeps s₀ y0 := by
    unfold y0
    apply State.setSub_keeps
    assumption
  clear_value y0
  apply Keeps.iteSnd
  · dsimp only
    assumption
  · apply Keeps.iteSnd
    · apply Keeps.iteSnd
      · dsimp only
        assumption
      · apply Keeps.iteSnd
        · dsimp only
          assumption
        · dsimp only
          apply State.evictCopies_keeps
          assumption
    · apply Keeps.iteSnd
      · extract_lets +onlyGivenNames y2
        have h3 : Keeps s₀ y2 := by
          unfold y2
          apply State.coolTo_keeps
          assumption
        clear_value y2
        extract_lets +onlyGivenNames y4
        have h5 : Keeps s₀ y4 := by
          unfold y4
          apply State.setSub_keeps
          assumption
        clear_value y4
        apply Keeps.iteSnd
        · apply Keeps.iteSnd
          · dsimp only
            assumption
          · dsimp only
            assumption
        · dsimp only
          apply State.modKvPending_keeps
          assumption
      · split
        · apply Keeps.iteSnd
          · dsimp only
            assumption
          · apply Keeps.iteSnd
            · dsimp only
              assumption
            · dsimp only
              assumption
        · dsimp only
          assumption

theorem dramSubQuotaBody_keeps {s₀ s : State} (h : Keeps s₀ s) (a1 a2 a3) : Keeps s₀ (dramSubQuotaBody a1 a2 a3 s).2 := by
  unfold dramSubQuotaBody
  apply Keeps.iteSnd
  · dsimp only
    assumption
  · apply Keeps.iteSnd
    · dsimp only
      apply State.setSub_keeps
      assumption
    · apply Keeps.iteSnd
      · apply State.subActive_keeps
        assumption
      · dsimp only
        assumption

theorem grainBody_keeps {s₀ s : State} (h : Keeps s₀ s) (a1 a2) : Keeps s₀ (grainBody a1 a2 s).2 := by
  unfold grainBody
  apply Keeps.iteSnd
  · dsimp only
    assumption
  · dsimp only
    apply State.setStored_keeps
    assumption

theorem mirrorConsentBody_keeps {s₀ s : State} (h : Keeps s₀ s) (a1 a2) : Keeps s₀ (mirrorConsentBody a1 a2 s).2 := by
  unfold mirrorConsentBody
  apply Keeps.iteSnd
  · dsimp only
    assumption
  · dsimp only
    apply State.syncMirror_keeps
    apply State.setStored_keeps
    assumption

theorem mirrorKeyBody_keeps {s₀ s : State} (h : Keeps s₀ s) (a1 a2) : Keeps s₀ (mirrorKeyBody a1 a2 s).2 := by
  unfold mirrorKeyBody
  extract_lets +onlyGivenNames y0
  have h1 : Keeps s₀ y0 := by
    unfold y0
    apply Keeps.ite
    · apply State.exportOpen_keeps
      assumption
    · assumption
  clear_value y0
  dsimp only
  apply State.syncMirror_keeps
  apply State.setStored_keeps
  assumption

theorem sessionsMaxBody_keeps {s₀ s : State} (h : Keeps s₀ s) (a1 a2) : Keeps s₀ (sessionsMaxBody a1 a2 s).2 := by
  unfold sessionsMaxBody
  extract_lets +onlyGivenNames y0
  have h1 : Keeps s₀ y0 := by
    unfold y0
    apply State.setStored_keeps
    assumption
  clear_value y0
  apply Keeps.iteSnd
  · dsimp only
    assumption
  · apply Keeps.iteSnd
    · dsimp only
      assumption
    · apply Keeps.iteSnd
      · dsimp only
        assumption
      · dsimp only
        assumption

theorem shareBody_keeps {s₀ s : State} (h : Keeps s₀ s) (a1 a2 a3) : Keeps s₀ (shareBody a1 a2 a3 s).2 := by
  unfold shareBody
  extract_lets +onlyGivenNames y0
  have h1 : Keeps s₀ y0 := by
    unfold y0
    apply State.setValue_keeps
    assumption
  clear_value y0
  apply Keeps.iteSnd
  · dsimp only
    assumption
  · apply Keeps.iteSnd
    · dsimp only
      assumption
    · dsimp only
      assumption

theorem ufsMibBody_keeps {s₀ s : State} (h : Keeps s₀ s) (a1 a2) : Keeps s₀ (ufsMibBody a1 a2 s).2 := by
  unfold ufsMibBody
  extract_lets +onlyGivenNames y0
  have h1 : Keeps s₀ y0 := by
    unfold y0
    apply State.setStored_keeps
    assumption
  clear_value y0
  apply Keeps.iteSnd
  · dsimp only
    assumption
  · apply Keeps.iteSnd
    · dsimp only
      assumption
    · apply Keeps.iteSnd
      · dsimp only
        assumption
      · apply Keeps.iteSnd
        · dsimp only
          assumption
        · dsimp only
          assumption

theorem vaultDiesBody_keeps {s₀ s : State} (h : Keeps s₀ s) (a1 a2) : Keeps s₀ (vaultDiesBody a1 a2 s).2 := by
  unfold vaultDiesBody
  apply Keeps.iteSnd
  · dsimp only
    assumption
  · apply Keeps.iteSnd
    · dsimp only
      assumption
    · apply Keeps.iteSnd
      · dsimp only
        assumption
      · dsimp only
        apply State.regrant_keeps
        apply State.setStored_keeps
        assumption

theorem State.tenantEntry_keeps {s₀ s : State} (h : Keeps s₀ s) (a1 a2) : Keeps s₀ (State.tenantEntry s a1 a2).2 := by
  unfold State.tenantEntry
  extract_lets +onlyGivenNames y0
  clear_value y0
  split
  · apply clustersBody_keeps
    assumption
  · apply vaultDiesBody_keeps
    assumption
  · apply cacheWaysBody_keeps
    assumption
  · apply csKvPagesBody_keeps
    assumption
  · apply sessionsMaxBody_keeps
    assumption
  · apply ufsMibBody_keeps
    assumption
  · apply dramSubQuotaBody_keeps
    assumption
  · apply grainBody_keeps
    assumption
  · apply shareBody_keeps
    assumption
  · apply shareBody_keeps
    assumption
  · apply keyBody_keeps
    assumption
  · apply mirrorConsentBody_keeps
    assumption
  · apply mirrorKeyBody_keeps
    assumption
  · dsimp only
    apply State.setValue_keeps
    assumption

theorem State.writeSetting_keeps {s₀ s : State} (h : Keeps s₀ s) (a1 a2 a3 a4 a5) : Keeps s₀ (State.writeSetting s a1 a2 a3 a4 a5).2 := by
  unfold State.writeSetting
  apply Keeps.iteSnd
  · dsimp only
    assumption
  · apply Keeps.iteSnd
    · apply State.portEntry_keeps
      assumption
    · apply Keeps.iteSnd
      · apply State.deviceEntry_keeps
        assumption
      · apply State.tenantEntry_keeps
        assumption

theorem State.replayItem_keeps {s₀ s : State} (h : Keeps s₀ s) (a1 a2) : Keeps s₀ (State.replayItem s a1 a2) := by
  unfold State.replayItem
  extract_lets +onlyGivenNames y0
  have h1 : Keeps s₀ y0 := by
    unfold y0
    apply State.setReplay_keeps
    assumption
  clear_value y0
  split
  · assumption
  · apply Keeps.ite
    · extract_lets +onlyGivenNames y2
      have h3 : Keeps s₀ y2.2 := by
        unfold y2
        apply State.writeSetting_keeps
        assumption
      clear_value y2
      apply Keeps.ite
      · assumption
      · apply Keeps.ite
        · apply State.prepare_keeps
          assumption
        · assumption
    · assumption

theorem State.injectRecord_keeps {s₀ s : State} (h : Keeps s₀ s) (a1 a2 a3) : Keeps s₀ (State.injectRecord s a1 a2 a3) := by
  unfold State.injectRecord
  split
  · apply State.injectMsg_keeps
    assumption
  · apply Keeps.foldl
    · intro x0 x1 x2
      apply State.replayItem_keeps
      assumption
    · assumption
  · apply Keeps.ite
    · assumption
    · apply State.setReplay_keeps
      assumption
  · apply State.setReplay_keeps
    assumption

theorem State.issueEntry_keeps {s₀ s : State} (h : Keeps s₀ s) (a1 a2 a3) : Keeps s₀ (State.issueEntry s a1 a2 a3) := by
  unfold State.issueEntry
  extract_lets +onlyGivenNames y0
  clear_value y0
  extract_lets +onlyGivenNames y1
  have h2 : Keeps s₀ y1 := by
    unfold y1
    apply Keeps.ite
    · assumption
    · apply State.wakeChan_keeps
      assumption
  clear_value y1
  apply State.modEngine_keeps
  assumption

theorem State.issueRead_keeps {s₀ s : State} (h : Keeps s₀ s) (a1) : Keeps s₀ (State.issueRead s a1) := by
  unfold State.issueRead
  extract_lets +onlyGivenNames y0
  clear_value y0
  apply Keeps.ite
  · assumption
  · split
    · assumption
    · split
      · assumption
      · extract_lets +onlyGivenNames y1
        clear_value y1
        apply State.deliverRead_keeps
        apply State.modChan_keeps
        assumption

theorem State.joinPod_keeps {s₀ s : State} (h : Keeps s₀ s) (a1 a2 a3) : Keeps s₀ (State.joinPod s a1 a2 a3) := by
  unfold State.joinPod
  apply State.modPod_keeps
  assumption

theorem State.keepHot_keeps {s₀ s : State} (h : Keeps s₀ s) (a1 a2 a3) : Keeps s₀ (State.keepHot s a1 a2 a3) := by
  unfold State.keepHot
  apply Keeps.ite
  · apply State.holdHot_keeps
    assumption
  · assumption

theorem State.kvGrow_keeps {s₀ s : State} (h : Keeps s₀ s) (a1 a2 a3) : Keeps s₀ (State.kvGrow s a1 a2 a3) := by
  unfold State.kvGrow
  apply Keeps.ite
  · apply State.modSession_keeps
    assumption
  · assumption

theorem State.landBlock_keeps {s₀ s : State} (h : Keeps s₀ s) (a1 a2 a3) : Keeps s₀ (State.landBlock s a1 a2 a3) := by
  unfold State.landBlock
  extract_lets +onlyGivenNames y0
  have h1 : Keeps s₀ y0 := by
    unfold y0
    split
    · apply State.cacheBlock_keeps
      assumption
    · assumption
  clear_value y0
  extract_lets +onlyGivenNames y2
  have h3 : Keeps s₀ y2 := by
    unfold y2
    apply State.modEngine_keeps
    assumption
  clear_value y2
  extract_lets +onlyGivenNames y4
  have h5 : Keeps s₀ y4 := by
    unfold y4
    apply Keeps.ite
    · apply State.tcount_keeps
      apply State.tcount_keeps
      assumption
    · assumption
  clear_value y4
  extract_lets +onlyGivenNames y6
  have h7 : Keeps s₀ y6 := by
    unfold y6
    apply State.endLate_keeps
    assumption
  clear_value y6
  split
  · apply Keeps.ite
    · apply State.modEngine_keeps
      assumption
    · assumption
  · assumption

theorem State.noteLates_keeps {s₀ s : State} (h : Keeps s₀ s) (a1) : Keeps s₀ (State.noteLates s a1) := by
  unfold State.noteLates
  extract_lets +onlyGivenNames y0
  clear_value y0
  apply Keeps.ite
  · assumption
  · refine ⟨?_, ?_⟩
    · dsimp only
      apply Sys2Proof.Machine.Keeps.pending
      assumption
    · dsimp only
      apply Sys2Proof.Machine.Keeps.mem
      assumption

theorem State.lateWaits_keeps {s₀ s : State} (h : Keeps s₀ s) : Keeps s₀ (State.lateWaits s) := by
  unfold State.lateWaits
  apply State.noteLates_keeps
  assumption

theorem State.lateWrite_keeps {s₀ s : State} (h : Keeps s₀ s) (a1) : Keeps s₀ (State.lateWrite s a1) := by
  unfold State.lateWrite
  extract_lets +onlyGivenNames y0
  clear_value y0
  extract_lets +onlyGivenNames y1
  have h2 : Keeps s₀ y1 := by
    unfold y1
    refine ⟨?_, ?_⟩
    · dsimp only
      apply Sys2Proof.Machine.Keeps.pending
      assumption
    · dsimp only
      apply Sys2Proof.Machine.Keeps.mem
      assumption
  clear_value y1
  apply State.raise_keeps
  apply State.modRemoval_keeps
  assumption

theorem State.listed_keeps {s₀ s r : State} (h : Keeps s₀ s) (a1 : Bool) (hr : Keeps s₀ r) : KeepsR s₀ (State.listed s a1 r) := by
  unfold State.listed
  exact KeepsR.ite (KeepsR.next hr) (KeepsR.next (State.unlisted_keeps h))

theorem State.loadDue_keeps {s₀ s : State} (h : Keeps s₀ s) : Keeps s₀ (State.loadDue s) := by
  unfold State.loadDue
  extract_lets +onlyGivenNames y0
  clear_value y0
  extract_lets +onlyGivenNames y1
  clear_value y1
  apply Keeps.foldlFst
  · intro x2 x3 x4
    extract_lets +onlyGivenNames y5
    clear_value y5
    dsimp only
    apply Keeps.foldl
    · intro x6 x7 x8
      apply State.loadCopyBut_keeps
      assumption
    · assumption
  · dsimp only
    apply Keeps.foldl
    · intro x9 x10 x11
      apply State.repin_keeps
      apply State.loadCopyBut_keeps
      assumption
    · assumption

theorem State.loadScalars_keeps {s₀ s : State} (h : Keeps s₀ s) (a1) : Keeps s₀ (State.loadScalars s a1) := by
  unfold State.loadScalars
  extract_lets +onlyGivenNames y0
  clear_value y0
  extract_lets +onlyGivenNames y1
  have h2 : Keeps s₀ y1 := by
    unfold y1
    apply Keeps.foldl
    · intro x3 x4 x5
      split
      · apply State.modUnit_keeps
        assumption
      · assumption
    · assumption
  clear_value y1
  split
  · apply State.modUnit_keeps
    assumption
  · assumption

theorem State.macsecSeen_keeps {s₀ s : State} (h : Keeps s₀ s) (a1 a2) : Keeps s₀ (State.macsecSeen s a1 a2) := by
  unfold State.macsecSeen
  split
  · extract_lets +onlyGivenNames y0
    clear_value y0
    apply State.modPort_keeps
    assumption
  · assumption

theorem State.poisonBlock_keeps {s₀ s : State} (h : Keeps s₀ s) (a1 a2 a3 a4) : Keeps s₀ (State.poisonBlock s a1 a2 a3 a4) := by
  unfold State.poisonBlock
  extract_lets +onlyGivenNames y0
  have h1 : Keeps s₀ y0 := by
    unfold y0
    apply State.raise_keeps
    apply State.ocount_keeps
    assumption
  clear_value y0
  extract_lets +onlyGivenNames y2
  clear_value y2
  extract_lets +onlyGivenNames y3
  clear_value y3
  extract_lets +onlyGivenNames y4
  have h5 : Keeps s₀ y4 := by
    unfold y4
    apply Keeps.ite
    · refine ⟨?_, ?_⟩
      · dsimp only
        apply Sys2Proof.Machine.Keeps.pending
        assumption
      · dsimp only
        apply Sys2Proof.Machine.Keeps.mem
        assumption
    · assumption
  clear_value y4
  apply State.modPod_keeps
  apply State.workDone_keeps
  apply State.stopOp_keeps
  assumption

theorem State.meetBlock_keeps {s₀ s : State} (h : Keeps s₀ s) (a1 a2 a3 a4) : Keeps s₀ (State.meetBlock s a1 a2 a3 a4) := by
  unfold State.meetBlock
  split
  · apply State.poisonBlock_keeps
    assumption
  · extract_lets +onlyGivenNames y0
    have h1 : Keeps s₀ y0 := by
      unfold y0
      apply State.setOp_keeps
      assumption
    clear_value y0
    refine ⟨?_, ?_⟩
    · dsimp only
      apply Sys2Proof.Machine.Keeps.pending
      assumption
    · dsimp only
      apply Sys2Proof.Machine.Keeps.mem
      assumption
  · apply State.countBlock_keeps
    assumption

theorem State.meetBlocks_keeps {s₀ s : State} (h : Keeps s₀ s) (a1 a2) : Keeps s₀ (State.meetBlocks s a1 a2) := by
  unfold State.meetBlocks
  apply Keeps.foldl
  · intro x0 x1 x2
    apply Keeps.foldl
    · intro x3 x4 x5
      apply State.meetBlock_keeps
      assumption
    · assumption
  · assumption

theorem State.modCredit_keeps {s₀ s : State} (h : Keeps s₀ s) (a1 a2) : Keeps s₀ (State.modCredit s a1 a2) := by
  unfold State.modCredit
  refine ⟨?_, ?_⟩
  · dsimp only
    apply Sys2Proof.Machine.Keeps.pending
    assumption
  · dsimp only
    apply Sys2Proof.Machine.Keeps.mem
    assumption

theorem State.modFwSlot_keeps {s₀ s : State} (h : Keeps s₀ s) (a1 a2) : Keeps s₀ (State.modFwSlot s a1 a2) := by
  unfold State.modFwSlot
  refine ⟨?_, ?_⟩
  · dsimp only
    apply Sys2Proof.Machine.Keeps.pending
    assumption
  · dsimp only
    apply Sys2Proof.Machine.Keeps.mem
    assumption

theorem State.modNextDie_keeps {s₀ s : State} (h : Keeps s₀ s) (a1 a2) : Keeps s₀ (State.modNextDie s a1 a2) := by
  unfold State.modNextDie
  refine ⟨?_, ?_⟩
  · dsimp only
    apply Sys2Proof.Machine.Keeps.pending
    assumption
  · dsimp only
    apply Sys2Proof.Machine.Keeps.mem
    assumption

theorem State.modReceipt_keeps {s₀ s : State} (h : Keeps s₀ s) (a1 a2) : Keeps s₀ (State.modReceipt s a1 a2) := by
  unfold State.modReceipt
  refine ⟨?_, ?_⟩
  · dsimp only
    apply Sys2Proof.Machine.Keeps.pending
    assumption
  · dsimp only
    apply Sys2Proof.Machine.Keeps.mem
    assumption

theorem State.modServed_keeps {s₀ s : State} (h : Keeps s₀ s) (a1 a2) : Keeps s₀ (State.modServed s a1 a2) := by
  unfold State.modServed
  refine ⟨?_, ?_⟩
  · dsimp only
    apply Sys2Proof.Machine.Keeps.pending
    assumption
  · dsimp only
    apply Sys2Proof.Machine.Keeps.mem
    assumption

theorem State.modUpload_keeps {s₀ s : State} (h : Keeps s₀ s) (a1 a2) : Keeps s₀ (State.modUpload s a1 a2) := by
  unfold State.modUpload
  refine ⟨?_, ?_⟩
  · dsimp only
    apply Sys2Proof.Machine.Keeps.pending
    assumption
  · dsimp only
    apply Sys2Proof.Machine.Keeps.mem
    assumption

theorem State.modWayOwner_keeps {s₀ s : State} (h : Keeps s₀ s) (a1 a2) : Keeps s₀ (State.modWayOwner s a1 a2) := by
  unfold State.modWayOwner
  refine ⟨?_, ?_⟩
  · dsimp only
    apply Sys2Proof.Machine.Keeps.pending
    assumption
  · dsimp only
    apply Sys2Proof.Machine.Keeps.mem
    assumption

theorem State.movePlace_keeps {s₀ s : State} (h : Keeps s₀ s) (a1 a2 a3 a4) : Keeps s₀ (State.movePlace s a1 a2 a3 a4) := by
  unfold State.movePlace
  extract_lets +onlyGivenNames y0
  clear_value y0
  apply State.putTensor_keeps
  apply State.copyOctets_keeps
  assumption

theorem State.moveSide_keeps {s₀ s : State} (h : Keeps s₀ s) (a1 a2 a3 a4) : Keeps s₀ (State.moveSide s a1 a2 a3 a4) := by
  unfold State.moveSide
  extract_lets +onlyGivenNames y0
  clear_value y0
  extract_lets +onlyGivenNames y1
  clear_value y1
  extract_lets +onlyGivenNames y2
  clear_value y2
  extract_lets +onlyGivenNames y3
  clear_value y3
  apply State.putTensor_keeps
  apply State.putTensor_keeps
  assumption

theorem State.moveTable_keeps {s₀ s : State} (h : Keeps s₀ s) (a1 a2) : Keeps s₀ (State.moveTable s a1 a2) := by
  unfold State.moveTable
  apply Keeps.ite
  · extract_lets +onlyGivenNames y0
    clear_value y0
    apply State.modAct_keeps
    assumption
  · assumption

theorem State.moveTiles_keeps {s₀ s : State} (h : Keeps s₀ s) (a1 a2 a3 a4 a5) : Keeps s₀ (State.moveTiles s a1 a2 a3 a4 a5) := by
  unfold State.moveTiles
  extract_lets +onlyGivenNames y0
  clear_value y0
  extract_lets +onlyGivenNames y1
  clear_value y1
  extract_lets +onlyGivenNames y2
  clear_value y2
  extract_lets +onlyGivenNames y3
  have h4 : Keeps s₀ y3 := by
    unfold y3
    apply Keeps.ite
    · apply Keeps.foldl
      · intro x5 x6 x7
        apply Keeps.ite
        · apply State.movePlace_keeps
          assumption
        · assumption
      · assumption
    · apply State.copyOctets_keeps
      assumption
  clear_value y3
  extract_lets +onlyGivenNames y8
  have h9 : Keeps s₀ y8 := by
    unfold y8
    apply Keeps.ite
    · apply State.putTensor_keeps
      assumption
    · assumption
  clear_value y8
  extract_lets +onlyGivenNames y10
  have h11 : Keeps s₀ y10 := by
    unfold y10
    apply Keeps.ite
    · apply Keeps.foldl
      · intro x12 x13 x14
        apply State.moveSide_keeps
        assumption
      · assumption
    · assumption
  clear_value y10
  apply State.ocount_keeps
  assumption

theorem State.newChallenge_keeps {s₀ s : State} (h : Keeps s₀ s) : Keeps s₀ (State.newChallenge s) := by
  unfold State.newChallenge
  apply State.drawn_keeps
  refine ⟨?_, ?_⟩
  · dsimp only
    apply Sys2Proof.Machine.Keeps.pending
    assumption
  · dsimp only
    apply Sys2Proof.Machine.Keeps.mem
    assumption

theorem State.startRestart_keeps {s₀ s : State} (h : Keeps s₀ s) (a1 a2) : Keeps s₀ (State.startRestart s a1 a2) := by
  unfold State.startRestart
  apply State.raise_keeps
  apply State.count_keeps
  apply State.modCore_keeps
  assumption

theorem State.nextRestart_keeps {s₀ s : State} (h : Keeps s₀ s) : Keeps s₀ (State.nextRestart s) := by
  unfold State.nextRestart
  apply Keeps.ite
  · assumption
  · split
    · apply State.startRestart_keeps
      apply State.modCtl_keeps
      assumption
    · split
      · apply State.startRestart_keeps
        assumption
      · assumption

theorem State.noteStart_keeps {s₀ s : State} (h : Keeps s₀ s) (a1) : Keeps s₀ (State.noteStart s a1) := by
  unfold State.noteStart
  split
  · assumption
  · apply Keeps.ite
    · assumption
    · extract_lets +onlyGivenNames y0
      have h1 : Keeps s₀ y0 := by
        unfold y0
        apply State.modRun_keeps
        assumption
      clear_value y0
      apply Keeps.ite
      · extract_lets +onlyGivenNames y2
        have h3 : Keeps s₀ y2 := by
          unfold y2
          apply State.tcount_keeps
          assumption
        clear_value y2
        split
        · assumption
        · extract_lets +onlyGivenNames y4
          clear_value y4
          extract_lets +onlyGivenNames y5
          clear_value y5
          apply Keeps.ite
          · refine ⟨?_, ?_⟩
            · dsimp only
              apply Sys2Proof.Machine.Keeps.pending
              assumption
            · dsimp only
              apply Sys2Proof.Machine.Keeps.mem
              assumption
          · assumption
      · assumption

theorem State.noteWait_keeps {s₀ s : State} (h : Keeps s₀ s) (a1) : Keeps s₀ (State.noteWait s a1) := by
  unfold State.noteWait
  apply State.modRun_keeps
  assumption

theorem State.nowLit_keeps {s₀ s : State} (h : Keeps s₀ s) (a1) : Keeps s₀ (State.nowLit s a1) := by
  unfold State.nowLit
  extract_lets +onlyGivenNames y0
  clear_value y0
  extract_lets +onlyGivenNames y1
  have h2 : Keeps s₀ y1 := by
    unfold y1
    apply State.modStratum_keeps
    assumption
  clear_value y1
  extract_lets +onlyGivenNames y3
  have h4 : Keeps s₀ y3 := by
    unfold y3
    split
    · apply Keeps.ite
      · assumption
      · apply State.modSlot_keeps
        assumption
    · assumption
  clear_value y3
  apply State.endWrite_keeps
  apply State.modStratum_keeps
  apply State.tcount_keeps
  assumption

theorem State.raiseThresh_keeps {s₀ s : State} (h : Keeps s₀ s) (a1 a2 a3 a4) : Keeps s₀ (State.raiseThresh s a1 a2 a3 a4) := by
  unfold State.raiseThresh
  apply Keeps.ite
  · assumption
  · apply Keeps.foldl
    · intro x0 x1 x2
      split
      · apply State.modObj_keeps
        assumption
      · assumption
    · assumption

theorem State.scatPages_keeps {s₀ : State} (sess layer gen : Nat) : ∀ (l : List Nat) {s : State}, Keeps s₀ s → Keeps s₀ (State.scatPages s sess layer gen l).1
  | [], _, h => h
  | pos :: l, s, h => by
    unfold State.scatPages
    extract_lets +onlyGivenNames T
    clear_value T
    extract_lets +onlyGivenNames r
    have hr : Keeps s₀ r.1 := by
      unfold r
      split
      · exact h
      · exact State.allocPage_keeps h _ _ _ _
    clear_value r
    split
    · exact hr
    · have hq := State.scatPages_keeps sess layer gen l hr
      dsimp only
      split <;> exact hq

theorem State.scatOp_keeps {s₀ s : State} (h : Keeps s₀ s) (a1 a2 a3 a4) : Keeps s₀ (State.scatOp s a1 a2 a3 a4).1 := by
  unfold State.scatOp
  split
  · extract_lets +onlyGivenNames y0
    clear_value y0
    extract_lets +onlyGivenNames y1
    have h2 : Keeps s₀ y1.1 := by
      unfold y1
      apply State.scatPages_keeps
      assumption
    clear_value y1
    split
    · dsimp only
      apply State.modSession_keeps
      assumption
    · extract_lets +onlyGivenNames y3
      have h4 : Keeps s₀ y3 := by
        unfold y3
        apply Keeps.foldl
        · intro x5 x6 x7
          apply State.setPage_keeps
          assumption
        · assumption
      clear_value y3
      dsimp only
      apply State.modSession_keeps
      assumption
  · dsimp only
    assumption

theorem State.scatOps_keeps {s₀ : State} (r : StepRun) (o : Op) : ∀ (l : List (Nat × Nat)) {s : State}, Keeps s₀ s → Keeps s₀ (State.scatOps s r o l).1
  | [], _, h => h
  | (sess, m) :: l, s, h => by
    unfold State.scatOps
    have ha := State.scatOp_keeps h r o m sess
    have hb := State.scatOps_keeps r o l ha
    dsimp only
    split
    · exact ha
    · split <;> exact hb

theorem State.resolve_keeps {s₀ s : State} (h : Keeps s₀ s) (a1 a2 a3 a4) : Keeps s₀ (State.resolve s a1 a2 a3 a4).1 := by
  unfold State.resolve
  extract_lets +onlyGivenNames y0
  clear_value y0
  extract_lets +onlyGivenNames y1
  clear_value y1
  extract_lets +onlyGivenNames y2
  clear_value y2
  extract_lets +onlyGivenNames y3
  clear_value y3
  split
  · dsimp only
    assumption
  · apply Keeps.iteFst
    · dsimp only
      assumption
    · apply State.scatOps_keeps
      assumption
  · dsimp only
    assumption
  · dsimp only
    assumption
  · dsimp only
    assumption
  · dsimp only
    assumption

theorem State.oneInv_keeps {s₀ s : State} (h : Keeps s₀ s) (a1 a2 a3 a4) : Keeps s₀ (State.oneInv s a1 a2 a3 a4).1 := by
  unfold State.oneInv
  extract_lets +onlyGivenNames y0
  clear_value y0
  apply Keeps.iteFst
  · dsimp only
    apply State.noteWait_keeps
    assumption
  · extract_lets +onlyGivenNames y1
    have h2 : Keeps s₀ y1.1 := by
      unfold y1
      apply State.resolve_keeps
      apply State.endWait_keeps
      assumption
    clear_value y1
    split
    · dsimp only
      assumption
    · extract_lets +onlyGivenNames y3
      have h4 : Keeps s₀ y3 := by
        unfold y3
        apply State.raiseThresh_keeps
        apply State.armAll_keeps
        assumption
      clear_value y3
      dsimp only
      apply State.modRun_keeps
      assumption

theorem State.unpackPlace_keeps {s₀ s : State} (h : Keeps s₀ s) (a1 a2 a3 a4) : Keeps s₀ (State.unpackPlace s a1 a2 a3 a4) := by
  unfold State.unpackPlace
  split
  · apply State.writePlace_keeps
    assumption
  · split
    · apply State.writePlace_keeps
      assumption
    · assumption
  · assumption

theorem State.openOutputs_keeps {s₀ s : State} (h : Keeps s₀ s) (a1) : Keeps s₀ (State.openOutputs s a1) := by
  unfold State.openOutputs
  apply Keeps.foldl
  · intro x0 x1 x2
    apply Keeps.foldl
    · intro x3 x4 x5
      apply State.unpackPlace_keeps
      assumption
    · assumption
  · assumption

theorem State.openSum_keeps {s₀ s : State} (h : Keeps s₀ s) (a1 a2 a3 a4 a5 a6 a7) : Keeps s₀ (State.openSum s a1 a2 a3 a4 a5 a6 a7) := by
  unfold State.openSum
  extract_lets +onlyGivenNames y0
  clear_value y0
  extract_lets +onlyGivenNames y1
  clear_value y1
  refine ⟨?_, ?_⟩
  · dsimp only
    apply Sys2Proof.Machine.Keeps.pending
    assumption
  · dsimp only
    apply Sys2Proof.Machine.Keeps.mem
    assumption

theorem State.optimise_keeps {s₀ s : State} (h : Keeps s₀ s) (a1 a2 a3) : Keeps s₀ (State.optimise s a1 a2 a3) := by
  unfold State.optimise
  extract_lets +onlyGivenNames y0
  clear_value y0
  extract_lets +onlyGivenNames y1
  clear_value y1
  extract_lets +onlyGivenNames y2
  clear_value y2
  extract_lets +onlyGivenNames y3
  clear_value y3
  extract_lets +onlyGivenNames y4
  clear_value y4
  extract_lets +onlyGivenNames y5
  clear_value y5
  extract_lets +onlyGivenNames y6
  clear_value y6
  extract_lets +onlyGivenNames y7
  clear_value y7
  extract_lets +onlyGivenNames y8
  clear_value y8
  extract_lets +onlyGivenNames y9
  have h10 : Keeps s₀ y9 := by
    unfold y9
    apply State.modJob_keeps
    apply State.drawn_keeps
    assumption
  clear_value y9
  apply State.tcount_keeps
  apply State.countConv_keeps
  assumption

theorem State.promise_keeps {s₀ s : State} (h : Keeps s₀ s) (a1 a2) : Keeps s₀ (State.promise s a1 a2) := by
  unfold State.promise
  apply State.modStratum_keeps
  assumption

/-- The same of a placement in progress. -/
def KeepsD (s : State) (o : Option Deal) : Prop := ∀ d, o = some d → Keeps s d.s

theorem KeepsD.foldlM {α : Type} {s : State} {f : Deal → α → Option Deal} (hf : ∀ d a, Keeps s d.s → KeepsD s (f d a)) :
    ∀ (l : List α) {d : Deal}, Keeps s d.s → KeepsD s (l.foldlM f d)
  | [], _, h => by intro e he; cases he; exact h
  | a :: l, d, h => by
    intro e he
    simp only [List.foldlM_cons, Option.bind_eq_bind, Option.bind_eq_some_iff] at he
    obtain ⟨u, hu, he⟩ := he
    exact KeepsD.foldlM hf l (hf d a h u hu) e he

theorem Deal.take_keeps {s₀ : State} {d : Deal} (h : Keeps s₀ d.s) (c : WContent) (ks : List Nat) : Keeps s₀ (d.take c ks).s :=
  Keeps.foldl (fun _ _ hu => State.promise_keeps hu _ _) _ h

theorem Deal.block_keeps {s₀ : State} {d : Deal} (h : Keeps s₀ d.s) (p : Placing) (dies : List Nat) (proj rbs cb : Nat) : KeepsD s₀ (d.block p dies proj rbs cb) := by
  intro e he
  unfold Deal.block at he
  split at he
  · cases he; exact Deal.take_keeps h _ _
  · simp only [Option.map_eq_some_iff] at he
    obtain ⟨ks, -, rfl⟩ := he
    exact Deal.take_keeps h _ _

theorem Deal.proj_keeps {s₀ : State} {d : Deal} (h : Keeps s₀ d.s) (p : Placing) (dies : List Nat) (i : Nat) : KeepsD s₀ (d.proj p dies i) := by
  unfold Deal.proj
  extract_lets q
  split
  · intro e he; cases he; exact h
  · exact KeepsD.foldlM (fun _ _ hd => Deal.block_keeps hd _ _ _ _ _) _ h

theorem Deal.expertOn_keeps {s₀ : State} {d : Deal} (h : Keeps s₀ d.s) (p : Placing) (die : Nat) (projs : List Nat) : KeepsD s₀ (d.expertOn p die projs) := by
  unfold Deal.expertOn
  refine KeepsD.foldlM (fun _ _ hd => KeepsD.foldlM (fun d cb hd => ?_) _ hd) _ h
  intro e he
  split at he
  · cases he; exact Deal.take_keeps hd _ _
  · simp only [Option.map_eq_some_iff] at he
    obtain ⟨ks, -, rfl⟩ := he
    exact Deal.take_keeps hd _ _

theorem KeepsD.foldlPair {α β : Type} {s : State} {f : Deal × β → α → Option (Deal × β)} (hf : ∀ d a e, Keeps s d.1.s → f d a = some e → Keeps s e.1.s) :
    ∀ (l : List α) {d e : Deal × β}, Keeps s d.1.s → l.foldlM f d = some e → Keeps s e.1.s
  | [], _, _, h, he => by cases he; exact h
  | a :: l, d, e, h, he => by
    simp only [List.foldlM_cons, Option.bind_eq_bind, Option.bind_eq_some_iff] at he
    obtain ⟨u, hu, he⟩ := he
    exact KeepsD.foldlPair hf l (hf d a u h hu) he

theorem Deal.layer_keeps {s₀ : State} {d : Deal} (h : Keeps s₀ d.s) (p : Placing) (dies : List Nat) (l : Nat) : KeepsD s₀ (d.layer p dies l) := by
  intro e he
  unfold Deal.layer at he
  simp only [Option.map_eq_some_iff] at he
  obtain ⟨y, hy, rfl⟩ := he
  refine KeepsD.foldlPair (fun x a z hx hz => ?_) _ h hy
  obtain ⟨k, -, hz⟩ := List.exists_of_findSome?_eq_some hz
  simp only [Option.map_eq_some_iff] at hz
  obtain ⟨w, hw, rfl⟩ := hz
  exact Deal.expertOn_keeps hx _ _ _ _ hw

theorem State.placeOn_keeps {s₀ s : State} (h : Keeps s₀ s) (p : Placing) (dies : List Nat) : KeepsD s₀ (s.placeOn p dies) := by
  intro e he
  unfold State.placeOn at he
  simp only [Option.bind_eq_some_iff, Option.map_eq_some_iff] at he
  obtain ⟨d, hd, f, hf, rfl⟩ := he
  have h1 := KeepsD.foldlM (fun d i hd => Deal.proj_keeps hd p _ i) _ (d := { s := s, pos := s.nextDie p.t, got := [] }) h d hd
  show Keeps s₀ (f.s.modNextDie p.t fun _ => f.pos)
  exact State.modNextDie_keeps (KeepsD.foldlM (fun d l hd => Deal.layer_keeps hd p _ l) _ h1 f hf) _ _

theorem State.placeImage_keeps {s₀ s : State} (h : Keeps s₀ s) (p : Placing) : KeepsD s₀ (s.placeImage p) := by
  intro e he
  unfold State.placeImage at he
  split at he
  · rename_i d hd
    cases he
    split at hd
    · cases hd
    · exact State.placeOn_keeps h _ _ _ hd
  · exact State.placeOn_keeps h _ _ _ he

theorem State.winRoom_keeps {s₀ : State} (t c k : Nat) (own : List (Nat × Nat)) : ∀ (n : Nat) {s : State}, Keeps s₀ s → Keeps s₀ (State.winRoom s t c k own n).1
  | 0, _, h => h
  | n + 1, s, h => by
    unfold State.winRoom
    split
    · exact h
    · exact Keeps.iteFst h (State.winRoom_keeps t c k own n (State.dropHot_keeps h _))

theorem State.windowRoom_keeps {s₀ : State} (t c k : Nat) (own : List (Nat × Nat)) : ∀ (n : Nat) {s : State}, Keeps s₀ s → Keeps s₀ (State.windowRoom s t c k own n).1
  | 0, _, h => h
  | n + 1, s, h => by
    unfold State.windowRoom
    extract_lets q
    have hq : Keeps s₀ q.1 := State.winRoom_keeps t c k own 6 h
    clear_value q
    split
    · exact hq
    · split
      · rename_i u hu
        exact State.windowRoom_keeps t c k own n (State.evictScratch_keeps hq hu)
      · exact hq

theorem State.placeScratch_keeps {s₀ : State} (t : Nat) : ∀ (ds : List (Nat × TDesc)) (l : List (Nat × TDesc × Option Nat)) {s : State}, Keeps s₀ s → Keeps s₀ (State.placeScratch s t l ds).1
  | [], _, _, h => h
  | (k, d) :: ds, l, s, h => by
    unfold State.placeScratch
    exact State.placeScratch_keeps t ds _ (State.windowRoom_keeps _ _ _ _ _ h)

theorem State.prepOne_keeps {s₀ s : State} (h : Keeps s₀ s) (a1 a2) : Keeps s₀ (State.prepOne s a1 a2).2 := by
  unfold State.prepOne
  split
  · dsimp only
    assumption
  · apply State.writeSetting_keeps
    assumption

theorem prepareItem_keeps {s₀ s : State} (h : Keeps s₀ s) (a1 a2) : Keeps s₀ (prepareItem s a1 a2) := by
  unfold prepareItem
  extract_lets +onlyGivenNames y0
  clear_value y0
  apply Keeps.ite
  · extract_lets +onlyGivenNames y1
    have h2 : Keeps s₀ y1 := by
      unfold y1
      apply State.coolTo_keeps
      assumption
    clear_value y1
    apply Keeps.ite
    · assumption
    · apply State.modKvPending_keeps
      assumption
  · assumption

theorem State.tryPrep_keeps {s₀ s : State} (h : Keeps s₀ s) (p : PrepWrite) : Keeps s₀ (State.tryPrep s p) := by
  unfold State.tryPrep
  extract_lets items f r
  have hf : Keeps s₀ f := State.dropPending_keeps h _
  have hr : Keeps s₀ r.state := writeAll_keeps (fun it u hu => State.prepOne_keeps hu _ _) 0 items false hf
  clear_value r
  exact Keeps.ite (State.endPrep_keeps hf _ _ _) (Keeps.ite (Keeps.foldl (fun _ _ hu => prepareItem_keeps hu _ _) _ h)
    (State.endPrep_keeps (State.mirrorWrite_keeps hr _ _ _) _ _ _))

theorem State.prepStep_keeps {s₀ s : State} (h : Keeps s₀ s) : Keeps s₀ (State.prepStep s) := by
  unfold State.prepStep
  apply Keeps.ite
  · apply Keeps.foldl
    · intro x0 x1 x2
      apply State.tryPrep_keeps
      assumption
    · assumption
  · assumption

theorem State.purgeTenant_keeps {s₀ s : State} (h : Keeps s₀ s) (a1) : Keeps s₀ (State.purgeTenant s a1) := by
  unfold State.purgeTenant
  extract_lets +onlyGivenNames y0
  clear_value y0
  extract_lets +onlyGivenNames y1
  have h2 : Keeps s₀ y1 := by
    unfold y1
    apply Keeps.foldl
    · intro x3 x4 x5
      apply State.modPort_keeps
      assumption
    · assumption
  clear_value y1
  extract_lets +onlyGivenNames y6
  have h7 : Keeps s₀ y6 := by
    unfold y6
    apply Keeps.foldl
    · intro x8 x9 x10
      apply State.closeConn_keeps
      assumption
    · assumption
  clear_value y6
  apply Keeps.foldl
  · intro x11 x12 x13
    apply State.fillAll_keeps
    assumption
  · apply State.setRemoval_keeps
    assumption

theorem State.put_keeps {s₀ s : State} (h : Keeps s₀ s) (a1 a2 a3) : Keeps s₀ (State.put s a1 a2 a3) := by
  unfold State.put
  split
  · apply State.setBytes_keeps
    assumption
  · apply State.discardXfer_keeps
    assumption

theorem State.putCode_keeps {s₀ s : State} (h : Keeps s₀ s) (a1 a2 a3 a4 a5) : Keeps s₀ (State.putCode s a1 a2 a3 a4 a5) := by
  unfold State.putCode
  extract_lets +onlyGivenNames y0
  clear_value y0
  extract_lets +onlyGivenNames y1
  clear_value y1
  extract_lets +onlyGivenNames y2
  clear_value y2
  extract_lets +onlyGivenNames y3
  clear_value y3
  apply State.putTensor_keeps
  assumption

theorem State.putRun_keeps {s₀ s : State} (h : Keeps s₀ s) (a1 a2 a3 a4 a5) : Keeps s₀ (State.putRun s a1 a2 a3 a4 a5) := by
  unfold State.putRun
  apply State.modUnit_keeps
  apply State.countNarrow_keeps
  assumption

theorem State.putTop_keeps {s₀ s : State} (h : Keeps s₀ s) (a1 a2 a3) : Keeps s₀ (State.putTop s a1 a2 a3) := by
  unfold State.putTop
  extract_lets +onlyGivenNames y0
  clear_value y0
  apply State.modUnit_keeps
  assumption

theorem State.queueRowBlock_keeps {s₀ s : State} (h : Keeps s₀ s) (a1 a2 a3 a4 a5 a6 a7) : Keeps s₀ (State.queueRowBlock s a1 a2 a3 a4 a5 a6 a7) := by
  unfold State.queueRowBlock
  extract_lets +onlyGivenNames y0
  clear_value y0
  split
  · apply Keeps.ite
    · extract_lets +onlyGivenNames y1
      clear_value y1
      apply State.setOp_keeps
      apply State.modArray_keeps
      assumption
    · apply State.shiftSum_keeps
      apply State.addShadow_keeps
      assumption
  · apply State.shiftSum_keeps
    apply State.addShadow_keeps
    assumption

theorem State.queueColBlock_keeps {s₀ s : State} (h : Keeps s₀ s) (a1 a2 a3 a4 a5 a6 a7) : Keeps s₀ (State.queueColBlock s a1 a2 a3 a4 a5 a6 a7) := by
  unfold State.queueColBlock
  apply Keeps.foldl
  · intro x0 x1 x2
    apply State.queueRowBlock_keeps
    assumption
  · apply State.openSum_keeps
    assumption

theorem State.queueFlush_keeps {s₀ s : State} (h : Keeps s₀ s) (a1) : Keeps s₀ (State.queueFlush s a1) := by
  unfold State.queueFlush
  split
  · assumption
  · extract_lets +onlyGivenNames y0
    clear_value y0
    extract_lets +onlyGivenNames y1
    clear_value y1
    apply Keeps.ite
    · assumption
    · split
      · assumption
      · extract_lets +onlyGivenNames y2
        clear_value y2
        extract_lets +onlyGivenNames y3
        have h4 : Keeps s₀ y3 := by
          unfold y3
          apply State.modOp_keeps
          assumption
        clear_value y3
        refine ⟨?_, ?_⟩
        · dsimp only
          apply Sys2Proof.Machine.Keeps.pending
          assumption
        · dsimp only
          apply Sys2Proof.Machine.Keeps.mem
          assumption

theorem State.queueVmvm_keeps {s₀ s : State} (h : Keeps s₀ s) (a1 a2 a3 a4 a5 a6) : Keeps s₀ (State.queueVmvm s a1 a2 a3 a4 a5 a6) := by
  unfold State.queueVmvm
  extract_lets +onlyGivenNames y0
  clear_value y0
  apply Keeps.foldl
  · intro x1 x2 x3
    apply Keeps.foldl
    · intro x4 x5 x6
      apply State.queueColBlock_keeps
      assumption
    · assumption
  · assumption

theorem State.quitRun_keeps {s₀ s : State} (h : Keeps s₀ s) (a1 a2) : Keeps s₀ (State.quitRun s a1 a2) := by
  unfold State.quitRun
  extract_lets +onlyGivenNames y0
  have h1 : Keeps s₀ y0 := by
    unfold y0
    apply State.modSession_keeps
    assumption
  clear_value y0
  split
  · assumption
  · apply Keeps.ite
    · assumption
    · apply State.dropRun_keeps
      assumption

theorem State.readFailed_keeps {s₀ s : State} (h : Keeps s₀ s) (a1 a2) : Keeps s₀ (State.readFailed s a1 a2) := by
  unfold State.readFailed
  extract_lets +onlyGivenNames y0
  have h1 : Keeps s₀ y0 := by
    unfold y0
    apply State.count_keeps
    apply State.tcount_keeps
    assumption
  clear_value y0
  apply Keeps.ite
  · apply State.raise_keeps
    assumption
  · extract_lets +onlyGivenNames y2
    have h3 : Keeps s₀ y2 := by
      unfold y2
      split
      · apply State.stopOp_keeps
        assumption
      · assumption
    clear_value y2
    apply State.raise_keeps
    assumption

theorem State.readForeign_keeps {s₀ s : State} (h : Keeps s₀ s) (a1) : Keeps s₀ (State.readForeign s a1) := by
  unfold State.readForeign
  apply Keeps.foldl
  · intro x0 x1 x2
    split
    · assumption
    · split
      · assumption
      · apply State.discardXfer_keeps
        assumption
  · assumption

theorem State.reading_keeps {s₀ s : State} (h : Keeps s₀ s) (a1) : Keeps s₀ (State.reading s a1) := by
  unfold State.reading
  apply State.modPower_keeps
  assumption

theorem State.refuseEntry_keeps {s₀ s : State} (h : Keeps s₀ s) (a1 a2) : Keeps s₀ (State.refuseEntry s a1 a2) := by
  unfold State.refuseEntry
  split
  · assumption
  · apply State.noteRefusal_keeps
    apply Keeps.foldl
    · intro x0 x1 x2
      apply State.count_keeps
      assumption
    · assumption

theorem State.releaseEntries_keeps {s₀ s : State} (h : Keeps s₀ s) (a1) : Keeps s₀ (State.releaseEntries s a1) := by
  unfold State.releaseEntries
  extract_lets +onlyGivenNames y0
  clear_value y0
  apply Keeps.foldl
  · intro x1 x2 x3
    refine ⟨?_, ?_⟩
    · dsimp only
      apply Sys2Proof.Machine.Keeps.pending
      assumption
    · dsimp only
      apply Sys2Proof.Machine.Keeps.mem
      assumption
  · assumption

theorem State.releaseHolds_keeps {s₀ s : State} (h : Keeps s₀ s) : Keeps s₀ (State.releaseHolds s) := by
  unfold State.releaseHolds
  apply Keeps.foldl
  · intro x0 x1 x2
    split
    · assumption
    · apply Keeps.ite
      · apply State.modArray_keeps
        apply State.modArray_keeps
        apply State.tcount_keeps
        apply State.bankAdd_keeps
        assumption
      · assumption
  · assumption

theorem State.releaseSet_keeps {s₀ s : State} (h : Keeps s₀ s) (a1 a2) : Keeps s₀ (State.releaseSet s a1 a2) := by
  unfold State.releaseSet
  extract_lets +onlyGivenNames y0
  clear_value y0
  apply Keeps.ite
  · extract_lets +onlyGivenNames y1
    clear_value y1
    extract_lets +onlyGivenNames y2
    have h3 : Keeps s₀ y2 := by
      unfold y2
      apply State.runPod_keeps
      apply State.modPod_keeps
      assumption
    clear_value y2
    split
    · apply State.fabCheck_keeps
      assumption
    · assumption
  · assumption

theorem State.released_keeps {s₀ s : State} (h : Keeps s₀ s) (a1 a2) : Keeps s₀ (State.released s a1 a2) := by
  unfold State.released
  extract_lets +onlyGivenNames y0
  clear_value y0
  extract_lets +onlyGivenNames y1
  have h2 : Keeps s₀ y1 := by
    unfold y1
    apply State.modReceipt_keeps
    assumption
  clear_value y1
  extract_lets +onlyGivenNames y3
  clear_value y3
  extract_lets +onlyGivenNames y4
  have h5 : Keeps s₀ y4 := by
    unfold y4
    refine ⟨?_, ?_⟩
    · dsimp only
      apply Sys2Proof.Machine.Keeps.pending
      assumption
    · dsimp only
      apply Sys2Proof.Machine.Keeps.mem
      assumption
  clear_value y4
  extract_lets +onlyGivenNames y6
  have h7 : Keeps s₀ y6 := by
    unfold y6
    apply State.modTenState_keeps
    apply State.releaseEntries_keeps
    assumption
  clear_value y6
  extract_lets +onlyGivenNames y8
  have h9 : Keeps s₀ y8 := by
    unfold y8
    apply State.assignWays_keeps
    apply State.count_keeps
    apply State.modRemoval_keeps
    assumption
  clear_value y8
  extract_lets +onlyGivenNames y10
  have h11 : Keeps s₀ y10 := by
    unfold y10
    apply State.raise_keeps
    assumption
  clear_value y10
  apply Keeps.ite
  · assumption
  · apply State.finish_keeps
    assumption

theorem State.undrop_keeps {s₀ s : State} (h : Keeps s₀ s) (a1 a2 a3) : Keeps s₀ (State.undrop s a1 a2 a3) := by
  unfold State.undrop
  refine ⟨?_, ?_⟩
  · dsimp only
    apply Sys2Proof.Machine.Keeps.pending
    assumption
  · dsimp only
    apply Sys2Proof.Machine.Keeps.mem
    assumption

theorem State.reload_keeps {s₀ s : State} (h : Keeps s₀ s) (a1 a2 a3) : Keeps s₀ (State.reload s a1 a2 a3) := by
  unfold State.reload
  split
  · apply State.fillExtent_keeps
    apply State.undrop_keeps
    assumption
  · assumption

theorem State.reloadAdapters_keeps {s₀ s : State} (h : Keeps s₀ s) (a1 a2) : Keeps s₀ (State.reloadAdapters s a1 a2) := by
  unfold State.reloadAdapters
  apply Keeps.foldl
  · intro x0 x1 x2
    extract_lets +onlyGivenNames y3
    clear_value y3
    apply Keeps.ite
    · apply State.modAdapter_keeps
      apply State.fillAdapter_keeps
      apply State.undrop_keeps
      assumption
    · assumption
  · assumption

theorem State.reserveScratch_keeps {s₀ s : State} (h : Keeps s₀ s) (n : Nat) (r : StepRun) : Keeps s₀ (State.reserveScratch s n r).1 := by
  unfold State.reserveScratch
  refine Keeps.iteFst h ?_
  extract_lets p q below need base
  have hq : Keeps s₀ q.1 := State.placeScratch_keeps _ _ _ h
  clear_value below need base q
  split
  · exact State.modRun_keeps h _ _
  · rename_i u hu
    exact State.modRun_keeps (Keeps.ite (State.allocExtent_keeps hq hu) (State.tcount_keeps (State.allocExtent_keeps hq hu) _ _ _ _)) _ _

theorem State.restartFailed_keeps {s₀ s : State} (h : Keeps s₀ s) (a1) : Keeps s₀ (State.restartFailed s a1) := by
  unfold State.restartFailed
  apply Keeps.ite
  · apply State.modCtl_keeps
    apply State.modCore_keeps
    assumption
  · apply State.startRestart_keeps
    assumption

theorem State.retransmit_keeps {s₀ s : State} (h : Keeps s₀ s) (a1 a2) : Keeps s₀ (State.retransmit s a1 a2) := by
  unfold State.retransmit
  extract_lets +onlyGivenNames y0
  clear_value y0
  extract_lets +onlyGivenNames y1
  clear_value y1
  apply State.fillConn_keeps
  apply State.modConn_keeps
  assumption

theorem State.rewriteHeader_keeps {s₀ s : State} (h : Keeps s₀ s) (a1 a2 a3 a4) : Keeps s₀ (State.rewriteHeader s a1 a2 a3 a4) := by
  unfold State.rewriteHeader
  extract_lets +onlyGivenNames y0
  clear_value y0
  extract_lets +onlyGivenNames y1
  clear_value y1
  extract_lets +onlyGivenNames y2
  clear_value y2
  apply State.putTensor_keeps
  assumption

theorem State.rollBack_keeps {s₀ s : State} (h : Keeps s₀ s) : Keeps s₀ (State.rollBack s) := by
  unfold State.rollBack
  extract_lets +onlyGivenNames y0
  clear_value y0
  extract_lets +onlyGivenNames y1
  have h2 : Keeps s₀ y1 := by
    unfold y1
    apply State.raise_keeps
    apply State.count_keeps
    assumption
  clear_value y1
  apply State.nextRestart_keeps
  apply State.modCtl_keeps
  assumption

theorem State.runHeld_keeps {s₀ s : State} (h : Keeps s₀ s) (hx : ∀ c u, Keeps s₀ u → KeepsR s₀ (exec c u)) (i : Nat) : KeepsR s₀ (State.runHeld s i) := by
  unfold State.runHeld
  split
  · exact KeepsR.next h
  · split
    · rename_i e
      exact KeepsR.next (State.endHeld_keeps (hx _ _ (State.beginHeld_keeps h _ _) _ e) _ _)
    · exact KeepsR.fault _
    · exact KeepsR.refused _

theorem State.runShadow_keeps {s₀ s : State} (h : Keeps s₀ s) (a1 a2 a3) : Keeps s₀ (State.runShadow s a1 a2 a3) := by
  unfold State.runShadow
  apply State.tcount_keeps
  apply State.wakePod_keeps
  assumption

theorem State.startOp_keeps {s₀ s : State} (h : Keeps s₀ s) (a1) : Keeps s₀ (State.startOp s a1) := by
  unfold State.startOp
  extract_lets +onlyGivenNames y0
  have h1 : Keeps s₀ y0 := by
    unfold y0
    apply State.mapEngines_keeps
    apply State.setOp_keeps
    assumption
  clear_value y0
  split
  · apply State.openOutputs_keeps
    apply State.readForeign_keeps
    assumption
  · assumption

theorem State.scatBegin_keeps {s₀ s : State} (h : Keeps s₀ s) (a1 a2) : Keeps s₀ (State.scatBegin s a1 a2) := by
  unfold State.scatBegin
  apply Keeps.ite
  · apply State.startOp_keeps
    assumption
  · apply State.setOp_keeps
    apply Keeps.ite
    · assumption
    · apply State.tcount_keeps
      assumption

theorem State.scatEnd_keeps {s₀ s : State} (h : Keeps s₀ s) (a1 a2 a3 a4 a5) : Keeps s₀ (State.scatEnd s a1 a2 a3 a4 a5) := by
  unfold State.scatEnd
  apply State.workDone_keeps
  apply State.slidePages_keeps
  apply State.kvGrow_keeps
  apply State.scatRetire_keeps
  assumption

theorem State.scatPage_keeps {s₀ s : State} (h : Keeps s₀ s) (a1 a2 a3 a4) : Keeps s₀ (State.scatPage s a1 a2 a3 a4) := by
  unfold State.scatPage
  extract_lets +onlyGivenNames y0
  clear_value y0
  split
  · assumption
  · apply State.setPage_keeps
    apply State.countRecord_keeps
    assumption

theorem State.scatStage_keeps {s₀ s : State} (h : Keeps s₀ s) (a1 a2 a3 a4) : Keeps s₀ (State.scatStage s a1 a2 a3 a4) := by
  unfold State.scatStage
  extract_lets +onlyGivenNames y0
  clear_value y0
  extract_lets +onlyGivenNames y1
  clear_value y1
  extract_lets +onlyGivenNames y2
  clear_value y2
  apply State.tcount_keeps
  apply State.modStagingOf_keeps
  apply State.countRecord_keeps
  assumption

theorem State.scatLoop_keeps {s₀ : State} (slot : Nat) (o : Op) (layer pos count : Nat) (staged : Bool) : ∀ (n : Nat) {s : State}, Keeps s₀ s → Keeps s₀ (State.scatLoop slot o layer pos count staged n s)
  | 0, _, h => State.scatEnd_keeps h _ _ _ _ _
  | n + 1, s, h => by
    unfold State.scatLoop
    extract_lets +onlyGivenNames v
    clear_value v
    refine Keeps.ite (Keeps.ite (State.setOp_keeps h _ _) ?_) ?_
    · exact State.scatLoop_keeps slot o layer pos count staged n (State.setOp_keeps (State.scatStage_keeps h _ _ _ _) _ _)
    · exact State.scatLoop_keeps slot o layer pos count staged n (State.setOp_keeps (State.scatPage_keeps h _ _ _ _) _ _)

theorem State.scrubControl_keeps {s₀ s : State} (h : Keeps s₀ s) (a1) : Keeps s₀ (State.scrubControl s a1) := by
  unfold State.scrubControl
  extract_lets +onlyGivenNames y0
  clear_value y0
  extract_lets +onlyGivenNames y1
  have h2 : Keeps s₀ y1 := by
    unfold y1
    apply Keeps.foldl
    · intro x3 x4 x5
      apply State.dropRun_keeps
      assumption
    · assumption
  clear_value y1
  refine ⟨?_, ?_⟩
  · dsimp only
    apply Sys2Proof.Machine.Keeps.pending
    assumption
  · dsimp only
    apply Sys2Proof.Machine.Keeps.mem
    assumption

theorem State.zero_keeps {s₀ s : State} (h : Keeps s₀ s) (lo hi : Nat) : Keeps s₀ (s.zero lo hi) := ⟨h.pending, fun w => zero_wf (h.mem w) lo hi⟩

theorem State.scrubDram_keeps {s₀ s : State} (h : Keeps s₀ s) (a1) : Keeps s₀ (State.scrubDram s a1) := by
  unfold State.scrubDram
  extract_lets +onlyGivenNames y0
  clear_value y0
  extract_lets +onlyGivenNames y1
  clear_value y1
  extract_lets +onlyGivenNames y2
  have h3 : Keeps s₀ y2 := by
    unfold y2
    apply Keeps.foldl
    · intro x4 x5 x6
      apply State.zero_keeps
      assumption
    · assumption
  clear_value y2
  apply State.setRemoval_keeps
  assumption

theorem State.scrubOnDie_keeps {s₀ s : State} (h : Keeps s₀ s) (a1) : Keeps s₀ (State.scrubOnDie s a1) := by
  unfold State.scrubOnDie
  extract_lets +onlyGivenNames y0
  clear_value y0
  extract_lets +onlyGivenNames y1
  clear_value y1
  extract_lets +onlyGivenNames y2
  have h3 : Keeps s₀ y2 := by
    unfold y2
    apply Keeps.foldl
    · intro x4 x5 x6
      apply State.zero_keeps
      assumption
    · assumption
  clear_value y2
  extract_lets +onlyGivenNames y7
  have h8 : Keeps s₀ y7 := by
    unfold y7
    apply Keeps.foldl
    · intro x9 x10 x11
      apply State.zero_keeps
      assumption
    · assumption
  clear_value y7
  refine ⟨?_, ?_⟩
  · dsimp only
    apply Sys2Proof.Machine.Keeps.pending
    assumption
  · dsimp only
    apply Sys2Proof.Machine.Keeps.mem
    assumption

theorem State.scrubUfs_keeps {s₀ s : State} (h : Keeps s₀ s) (a1) : Keeps s₀ (State.scrubUfs s a1) := by
  unfold State.scrubUfs
  refine ⟨?_, ?_⟩
  · dsimp only
    apply Sys2Proof.Machine.Keeps.pending
    assumption
  · dsimp only
    apply Sys2Proof.Machine.Keeps.mem
    assumption

theorem State.scrubPart_keeps {s₀ s : State} (h : Keeps s₀ s) (a1 a2) : Keeps s₀ (State.scrubPart s a1 a2) := by
  unfold State.scrubPart
  split
  · apply State.scrubDram_keeps
    assumption
  · apply State.scrubOnDie_keeps
    assumption
  · apply State.scrubControl_keeps
    assumption
  · apply State.scrubUfs_keeps
    assumption
  · assumption

theorem State.select_keeps {s₀ s : State} (h : Keeps s₀ s) (a1) : Keeps s₀ (State.select s a1) := by
  unfold State.select
  refine ⟨?_, ?_⟩
  · dsimp only
    apply Sys2Proof.Machine.Keeps.pending
    assumption
  · dsimp only
    apply Sys2Proof.Machine.Keeps.mem
    assumption

theorem State.sendScale_keeps {s₀ s : State} (h : Keeps s₀ s) (a1 a2) : Keeps s₀ (State.sendScale s a1 a2) := by
  unfold State.sendScale
  split
  · apply State.modRun_keeps
    assumption
  · assumption

theorem State.sentFrame_keeps {s₀ s : State} (h : Keeps s₀ s) (a1 a2) : Keeps s₀ (State.sentFrame s a1 a2) := by
  unfold State.sentFrame
  split
  · assumption
  · extract_lets +onlyGivenNames y0
    have h1 : Keeps s₀ y0 := by
      unfold y0
      apply State.count_keeps
      apply State.modPort_keeps
      assumption
    clear_value y0
    extract_lets +onlyGivenNames y2
    have h3 : Keeps s₀ y2 := by
      unfold y2
      apply Keeps.ite
      · apply State.count_keeps
        assumption
      · assumption
    clear_value y2
    apply State.fillAll_keeps
    apply Keeps.ite
    · apply State.dropDatagrams_keeps
      assumption
    · assumption

theorem State.setPresent_keeps {s₀ s : State} (h : Keeps s₀ s) (a1 a2 a3 a4) : Keeps s₀ (State.setPresent s a1 a2 a3 a4) := by
  unfold State.setPresent
  refine ⟨?_, ?_⟩
  · dsimp only
    apply Sys2Proof.Machine.Keeps.pending
    assumption
  · dsimp only
    apply Sys2Proof.Machine.Keeps.mem
    assumption

theorem State.writeBlock_keeps {s₀ s : State} (h : Keeps s₀ s) (a1 a2 a3 a4) : Keeps s₀ (State.writeBlock s a1 a2 a3 a4) := by
  unfold State.writeBlock
  split
  · apply State.putWords_keeps
    assumption
  · assumption

theorem State.shadowAdd_keeps {s₀ s : State} (h : Keeps s₀ s) (a1 a2 a3 a4) : Keeps s₀ (State.shadowAdd s a1 a2 a3 a4) := by
  unfold State.shadowAdd
  split
  · assumption
  · extract_lets +onlyGivenNames y0
    clear_value y0
    extract_lets +onlyGivenNames y1
    clear_value y1
    apply State.ocount_keeps
    apply State.writeBlock_keeps
    refine ⟨?_, ?_⟩
    · dsimp only
      apply Sys2Proof.Machine.Keeps.pending
      assumption
    · dsimp only
      apply Sys2Proof.Machine.Keeps.mem
      assumption

theorem State.sleepPorts_keeps {s₀ s : State} (h : Keeps s₀ s) (a1) : Keeps s₀ (State.sleepPorts s a1) := by
  unfold State.sleepPorts
  apply Keeps.foldl
  · intro x0 x1 x2
    apply State.modPort_keeps
    assumption
  · assumption

theorem State.startJob_keeps {s₀ s : State} (h : Keeps s₀ s) (a1 a2 a3) : Keeps s₀ (State.startJob s a1 a2 a3) := by
  unfold State.startJob
  extract_lets +onlyGivenNames y0
  clear_value y0
  extract_lets +onlyGivenNames y1
  have h2 : Keeps s₀ y1 := by
    unfold y1
    apply State.freeExtents_keeps
    assumption
  clear_value y1
  extract_lets +onlyGivenNames y3
  clear_value y3
  extract_lets +onlyGivenNames y4
  have h5 : Keeps s₀ y4 := by
    unfold y4
    split
    · rename_i e6
      refine State.allocExtent_keeps ?_ e6
      assumption
    · assumption
  clear_value y4
  extract_lets +onlyGivenNames y7
  clear_value y7
  extract_lets +onlyGivenNames y8
  clear_value y8
  extract_lets +onlyGivenNames y9
  have h10 : Keeps s₀ y9.2 := by
    unfold y9
    apply State.armPersist_keeps
    assumption
  clear_value y9
  extract_lets +onlyGivenNames y11
  have h12 : Keeps s₀ y11 := by
    unfold y11
    apply State.modAdapter_keeps
    assumption
  clear_value y11
  extract_lets +onlyGivenNames y13
  have h14 : Keeps s₀ y13 := by
    unfold y13
    apply State.modJob_keeps
    assumption
  clear_value y13
  extract_lets +onlyGivenNames y15
  have h16 : Keeps s₀ y15 := by
    unfold y15
    apply State.runJob_keeps
    assumption
  clear_value y15
  extract_lets +onlyGivenNames y17
  clear_value y17
  apply Keeps.ite
  · apply State.modJob_keeps
    assumption
  · assumption

theorem State.trng_keeps {s₀ s : State} (h : Keeps s₀ s) (a1) : Keeps s₀ (State.trng s a1).2 := by
  unfold State.trng
  dsimp only
  apply State.drawn_keeps
  assumption

theorem State.startReq_keeps {s₀ s : State} (h : Keeps s₀ s) (a1) : Keeps s₀ (State.startReq s a1) := by
  unfold State.startReq
  extract_lets +onlyGivenNames y0
  clear_value y0
  extract_lets +onlyGivenNames y1
  clear_value y1
  split
  · assumption
  · extract_lets +onlyGivenNames y2
    have h3 : Keeps s₀ y2.2 := by
      unfold y2
      apply Keeps.iteSnd
      · apply State.trng_keeps
        assumption
      · dsimp only
        assumption
    clear_value y2
    extract_lets +onlyGivenNames y4
    have h5 : Keeps s₀ y4 := by
      unfold y4
      apply State.capture_keeps
      assumption
    clear_value y4
    extract_lets +onlyGivenNames y6
    clear_value y6
    extract_lets +onlyGivenNames y7
    have h8 : Keeps s₀ y7 := by
      unfold y7
      apply State.modSession_keeps
      assumption
    clear_value y7
    extract_lets +onlyGivenNames y9
    have h10 : Keeps s₀ y9 := by
      unfold y9
      apply State.modReq_keeps
      assumption
    clear_value y9
    extract_lets +onlyGivenNames y11
    have h12 : Keeps s₀ y11 := by
      unfold y11
      apply Keeps.ite
      · assumption
      · apply State.tcount_keeps
        assumption
    clear_value y11
    apply Keeps.ite
    · assumption
    · apply State.tcount_keeps
      assumption

theorem State.startUnit_keeps {s₀ s : State} (h : Keeps s₀ s) (a1 a2 a3) : Keeps s₀ (State.startUnit s a1 a2 a3) := by
  unfold State.startUnit
  apply State.modUnit_keeps
  apply State.startOp_keeps
  assumption

theorem State.stepEnd_keeps {s₀ s : State} (h : Keeps s₀ s) (a1 a2 a3 a4) : Keeps s₀ (State.stepEnd s a1 a2 a3 a4) := by
  unfold State.stepEnd
  split
  · apply State.endReq_keeps
    assumption
  · apply Keeps.ite
    · apply State.endReq_keeps
      assumption
    · apply Keeps.ite
      · apply State.endReq_keeps
        assumption
      · apply Keeps.ite
        · apply State.endReq_keeps
          assumption
        · apply State.generate_keeps
          assumption

theorem State.suspend_keeps {s₀ s : State} (h : Keeps s₀ s) (a1 a2) : Keeps s₀ (State.suspend s a1 a2) := by
  unfold State.suspend
  apply State.tcount_keeps
  apply State.modArray_keeps
  assumption

theorem State.takeSlot_keeps {s₀ s : State} (h : Keeps s₀ s) (a1 a2) : Keeps s₀ (State.takeSlot s a1 a2) := by
  unfold State.takeSlot
  extract_lets +onlyGivenNames y0
  clear_value y0
  apply State.modDie_keeps
  apply State.modArray_keeps
  assumption

theorem State.tc10Answer_keeps {s₀ s : State} (h : Keeps s₀ s) (a1 a2) : Keeps s₀ (State.tc10Answer s a1 a2) := by
  unfold State.tc10Answer
  split
  · assumption
  · apply Keeps.ite
    · apply State.modPower_keeps
      apply State.sleepPorts_keeps
      assumption
    · extract_lets +onlyGivenNames y0
      have h1 : Keeps s₀ y0 := by
        unfold y0
        apply State.modPort_keeps
        assumption
      clear_value y0
      apply Keeps.ite
      · apply State.modPower_keeps
        assumption
      · apply State.abortEntry_keeps
        assumption

theorem State.tickClock_keeps {s₀ s : State} (h : Keeps s₀ s) : Keeps s₀ (State.tickClock s) := by
  unfold State.tickClock
  extract_lets +onlyGivenNames y0
  clear_value y0
  extract_lets +onlyGivenNames y1
  clear_value y1
  refine ⟨?_, ?_⟩
  · dsimp only
    apply Sys2Proof.Machine.Keeps.pending
    assumption
  · dsimp only
    apply Sys2Proof.Machine.Keeps.mem
    assumption

theorem State.tickControl_keeps {s₀ s : State} (h : Keeps s₀ s) : Keeps s₀ (State.tickControl s) := by
  unfold State.tickControl
  extract_lets +onlyGivenNames y0
  clear_value y0
  apply State.modCtl_keeps
  assumption

theorem State.tickDies_keeps {s₀ s : State} (h : Keeps s₀ s) : Keeps s₀ (State.tickDies s) := by
  unfold State.tickDies
  apply Keeps.ite
  · refine ⟨?_, ?_⟩
    · dsimp only
      apply Sys2Proof.Machine.Keeps.pending
      assumption
    · dsimp only
      apply Sys2Proof.Machine.Keeps.mem
      assumption
  · assumption

theorem State.tickDram_keeps {s₀ s : State} (h : Keeps s₀ s) : Keeps s₀ (State.tickDram s) := by
  unfold State.tickDram
  apply Keeps.foldl
  · intro x0 x1 x2
    apply Keeps.ite
    · apply State.issueRead_keeps
      assumption
    · assumption
  · assumption

theorem State.tickPorts_keeps {s₀ s : State} (h : Keeps s₀ s) : Keeps s₀ (State.tickPorts s) := by
  unfold State.tickPorts
  extract_lets +onlyGivenNames y0
  have h1 : Keeps s₀ y0 := by
    unfold y0
    apply Keeps.foldl
    · intro x2 x3 x4
      apply State.modPort_keeps
      assumption
    · assumption
  clear_value y0
  apply Keeps.ite
  · apply Keeps.foldl
    · intro x5 x6 x7
      apply Keeps.ite
      · assumption
      · apply State.drainIngress_keeps
        assumption
    · assumption
  · assumption

theorem State.tickPower_keeps {s₀ s : State} (h : Keeps s₀ s) : Keeps s₀ (State.tickPower s) := by
  unfold State.tickPower
  extract_lets +onlyGivenNames y0
  clear_value y0
  extract_lets +onlyGivenNames y1
  have h2 : Keeps s₀ y1 := by
    unfold y1
    apply State.modPower_keeps
    assumption
  clear_value y1
  apply Keeps.ite
  · apply State.count_keeps
    assumption
  · assumption

theorem State.trimCopies_keeps {s₀ : State} (t c : Nat) : ∀ (n : Nat) {s : State}, Keeps s₀ s → Keeps s₀ (State.trimCopies t c n s)
  | 0, _, h => h
  | n + 1, _, h => by
    unfold State.trimCopies
    exact Keeps.ite h (State.trimCopies_keeps t c n (State.dropHot_keeps h _))

theorem State.tickStores_keeps {s₀ s : State} (h : Keeps s₀ s) : Keeps s₀ (State.tickStores s) := by
  unfold State.tickStores
  apply Keeps.ite
  · apply Keeps.foldl
    · intro x0 x1 x2
      apply Keeps.foldl
      · intro x3 x4 x5
        apply State.trimCopies_keeps
        assumption
      · apply State.trimHot_keeps
        assumption
    · assumption
  · assumption

theorem State.tickVault_keeps {s₀ s : State} (h : Keeps s₀ s) : Keeps s₀ (State.tickVault s) := by
  unfold State.tickVault
  extract_lets +onlyGivenNames y0
  have h1 : Keeps s₀ y0 := by
    unfold y0
    apply Keeps.foldl
    · intro x2 x3 x4
      split
      · apply Keeps.ite
        · apply State.tcount_keeps
          assumption
        · assumption
      · assumption
    · assumption
  clear_value y0
  apply Keeps.ite
  · apply State.loadDue_keeps
    assumption
  · assumption

theorem State.tick_keeps {s₀ s : State} (h : Keeps s₀ s) : Keeps s₀ (State.tick s) := by
  unfold State.tick
  extract_lets +onlyGivenNames y0
  have h1 : Keeps s₀ y0 := by
    unfold y0
    apply State.tickClock_keeps
    assumption
  clear_value y0
  apply Keeps.ite
  · apply State.prepStep_keeps
    apply State.deliver_keeps
    apply State.tickDram_keeps
    apply State.tickStores_keeps
    apply State.tickVault_keeps
    apply State.tickDies_keeps
    apply State.tickPorts_keeps
    apply State.tickControl_keeps
    apply State.tickPower_keeps
    assumption
  · assumption

theorem State.toReset_keeps {s₀ s : State} (h : Keeps s₀ s) (a1) : Keeps s₀ (State.toReset s a1) := by
  unfold State.toReset
  extract_lets +onlyGivenNames y0
  have h1 : Keeps s₀ y0 := by
    unfold y0
    apply State.unpowered_keeps
    assumption
  clear_value y0
  refine ⟨?_, ?_⟩
  · dsimp only
    apply Sys2Proof.Machine.Keeps.pending
    assumption
  · dsimp only
    apply Sys2Proof.Machine.Keeps.mem
    assumption

theorem State.turnAway_keeps {s₀ s : State} (h : Keeps s₀ s) (a1 a2) : Keeps s₀ (State.turnAway s a1 a2) := by
  unfold State.turnAway
  apply State.send_keeps
  apply State.modConn_keeps
  apply State.leaveTrust_keeps
  assumption

theorem State.turnDown_keeps {s₀ s : State} (h : Keeps s₀ s) (a1 a2 a3) : Keeps s₀ (State.turnDown s a1 a2 a3) := by
  unfold State.turnDown
  apply Keeps.ite
  · apply Keeps.ite
    · apply State.count_keeps
      apply State.respond_keeps
      assumption
    · apply State.respond_keeps
      assumption
  · apply State.refuse_keeps
    assumption

theorem State.unlessVendor_keeps {s₀ s : State} {r : Res} (l : List Item) (failed : Nat) (hr : KeepsR s₀ r) : KeepsR s₀ (State.unlessVendor s l failed r) := by
  unfold State.unlessVendor
  split
  · exact KeepsR.refused _
  · exact hr

theorem State.verifyFailed_keeps {s₀ s : State} (h : Keeps s₀ s) (a1) : Keeps s₀ (State.verifyFailed s a1) := by
  unfold State.verifyFailed
  apply Keeps.ite
  · apply State.modStratum_keeps
    assumption
  · apply State.relocateOf_keeps
    apply State.modStratum_keeps
    assumption

theorem State.verifyTests_keeps {s₀ s : State} (h : Keeps s₀ s) (a1 a2) : Keeps s₀ (State.verifyTests s a1 a2) := by
  unfold State.verifyTests
  extract_lets +onlyGivenNames y0
  clear_value y0
  apply State.tcount_keeps
  apply State.drawn_keeps
  apply State.modStratum_keeps
  assumption

theorem State.vmvmCheck_keeps {s₀ s : State} (h : Keeps s₀ s) (a1) : Keeps s₀ (State.vmvmCheck s a1) := by
  unfold State.vmvmCheck
  apply Keeps.ite
  · apply State.workDone_keeps
    refine ⟨?_, ?_⟩
    · dsimp only
      apply Sys2Proof.Machine.Keeps.pending
      assumption
    · dsimp only
      apply Sys2Proof.Machine.Keeps.mem
      assumption
  · assumption

theorem State.whenUp_keeps {s₀ s : State} {r : Res} (h : Keeps s₀ s) (i : Instr) (hr : KeepsR s₀ r) : KeepsR s₀ (State.whenUp s i r) := by
  unfold State.whenUp
  exact KeepsR.ite (KeepsR.next (State.unlisted_keeps h)) (KeepsR.ite (KeepsR.next (State.hold_keeps h i)) hr)

theorem State.withPlaces_keeps {s₀ s : State} {r : Res} (o : Op) (hs : List (Handle × Nat)) (hr : KeepsR s₀ r) : KeepsR s₀ (State.withPlaces s o hs r) := by
  unfold State.withPlaces
  split
  · exact KeepsR.fault _
  · exact hr

theorem State.writeBatch_keeps {s₀ : State} : ∀ (fuel budget n : Nat) (g : Group) {s : State}, Keeps s₀ s → Keeps s₀ (State.writeBatch fuel budget n g s)
  | 0, _, _, _, _, h => h
  | fuel + 1, budget, n, g, s, h => by
    unfold State.writeBatch
    split
    · exact h
    · split
      · exact Keeps.ite h (Keeps.ite (State.writeBatch_keeps fuel _ n g (State.descWrite_keeps (State.modRun_keeps (State.endWait_keeps h _ _) _ _) _)) (State.noteWait_keeps h _))
      · split
        · exact State.modRun_keeps h _ _
        · extract_lets q
          have hq : Keeps s₀ q.1 := State.oneInv_keeps h _ _ _ _
          clear_value q
          exact Keeps.ite (State.writeBatch_keeps fuel budget n g hq) hq

theorem State.writeSet_keeps {s₀ s : State} (h : Keeps s₀ s) (a1 a2 a3 a4) : Keeps s₀ (State.writeSet s a1 a2 a3 a4) := by
  unfold State.writeSet
  split
  · assumption
  · split
    · assumption
    · apply Keeps.ite
      · apply Keeps.foldl
        · intro x0 x1 x2
          apply State.writeTensor_keeps
          assumption
        · assumption
      · apply State.discardXfer_keeps
        assumption

theorem State.zeroiseTenant_keeps {s₀ s : State} (h : Keeps s₀ s) (a1) : Keeps s₀ (State.zeroiseTenant s a1) := by
  unfold State.zeroiseTenant
  extract_lets +onlyGivenNames y0
  have h1 : Keeps s₀ y0 := by
    unfold y0
    apply State.setStored_keeps
    apply State.setStored_keeps
    assumption
  clear_value y0
  extract_lets +onlyGivenNames y2
  have h3 : Keeps s₀ y2 := by
    unfold y2
    apply Keeps.foldl
    · intro x4 x5 x6
      apply State.setStored_keeps
      assumption
    · assumption
  clear_value y2
  extract_lets +onlyGivenNames y7
  have h8 : Keeps s₀ y7 := by
    unfold y7
    apply State.modMten_keeps
    assumption
  clear_value y7
  apply State.setRemoval_keeps
  apply State.modKeySlot_keeps
  assumption

theorem adapterDeleteBody_keeps {s₀ s : State} (h : Keeps s₀ s) (a1 a2) : Keeps s₀ (adapterDeleteBody a1 a2 s).2 := by
  unfold adapterDeleteBody
  extract_lets +onlyGivenNames y0
  clear_value y0
  apply Keeps.iteSnd
  · dsimp only
    assumption
  · apply Keeps.iteSnd
    · dsimp only
      assumption
    · dsimp only
      apply State.noteSlots_keeps
      apply State.modAdapter_keeps
      apply State.freeExtents_keeps
      assumption

theorem adapterLoadBody_keeps {s₀ s : State} (h : Keeps s₀ s) (a1 a2 a3) : Keeps s₀ (adapterLoadBody a1 a2 a3 s).2 := by
  unfold adapterLoadBody
  extract_lets +onlyGivenNames y0
  clear_value y0
  extract_lets +onlyGivenNames y1
  clear_value y1
  apply Keeps.iteSnd
  · dsimp only
    assumption
  · apply Keeps.iteSnd
    · dsimp only
      assumption
    · apply Keeps.iteSnd
      · dsimp only
        apply State.tcount_keeps
        apply Keeps.ite
        · apply State.quotaRefused_keeps
          assumption
        · assumption
      · split
        · dsimp only
          assumption
        · dsimp only
          apply State.modAdapter_keeps
          rename_i e2
          refine State.allocExtent_keeps ?_ e2
          assumption

theorem adapterUnloadBody_keeps {s₀ s : State} (h : Keeps s₀ s) (a1 a2) : Keeps s₀ (adapterUnloadBody a1 a2 s).2 := by
  unfold adapterUnloadBody
  apply Keeps.iteSnd
  · dsimp only
    assumption
  · apply Keeps.iteSnd
    · dsimp only
      assumption
    · dsimp only
      apply State.unloadAdapter_keeps
      assumption

theorem answerBatch_keeps {s₀ s : State} (h : Keeps s₀ s) (rq : Rq) (c : Conn) (durable : Bool) (items : List Item) {r : Batch} (hr : Keeps s₀ r.state) :
    Keeps s₀ (answerBatch rq c durable items r s) := by
  unfold answerBatch
  exact Keeps.ite (State.refuse_keeps h _ _ _ _) (Keeps.ite (State.refuse_keeps h _ _ _ _)
    (Keeps.ite (State.prepare_keeps (Keeps.foldl (fun _ _ hu => prepareItem_keeps hu _ _) _ h) _ _ _ _) (State.respond_keeps (State.mirrorWrite_keeps hr _ _ _) _ _ _ _)))

theorem editItem_keeps {s₀ s : State} (h : Keeps s₀ s) (a1 a2 a3) : Keeps s₀ (editItem a1 a2 a3 s).2 := by
  unfold editItem
  split
  · dsimp only
    assumption
  · extract_lets +onlyGivenNames y0
    clear_value y0
    apply Keeps.iteSnd
    · dsimp only
      assumption
    · apply Keeps.iteSnd
      · dsimp only
        assumption
      · dsimp only
        refine ⟨?_, ?_⟩
        · dsimp only
          apply Sys2Proof.Machine.Keeps.pending
          assumption
        · dsimp only
          apply Sys2Proof.Machine.Keeps.mem
          assumption

theorem answerEdit_keeps {s₀ s : State} (h : Keeps s₀ s) (rq : Rq) (c : Conn) (durable : Bool) (p : Nat) (items : List Item) :
    KeepsR s₀ (answerEdit rq c durable p items s) := by
  unfold answerEdit
  extract_lets r codes
  have hr : Keeps s₀ r.state := writeAll_keeps (fun it u hu => editItem_keeps hu _ _ _) 0 items false h
  clear_value r
  exact State.unlessVendor_keeps _ _ (KeepsR.next (Keeps.ite (State.refuse_keeps h _ _ _ _) (Keeps.ite (State.refuse_keeps h _ _ _ _)
    (State.respond_keeps (State.mirrorWrite_keeps hr _ _ _) _ _ _ _))))

theorem answerWrite_keeps {s₀ : State} {r : Nat × State} (rq : Rq) (p c v : Nat) (hr : Keeps s₀ r.2) : Keeps s₀ (answerWrite rq p c v r) := by
  unfold answerWrite
  exact Keeps.ite (State.accept_keeps hr _ _ _ _ _) (Keeps.ite (State.prepare_keeps hr _ _ _ _) (State.refuse_keeps hr _ _ _ _))

theorem cableTestBody_keeps {s₀ s : State} (h : Keeps s₀ s) (a1) : Keeps s₀ (cableTestBody a1 s).2 := by
  unfold cableTestBody
  apply Keeps.iteSnd
  · dsimp only
    assumption
  · dsimp only
    apply State.modPort_keeps
    assumption

theorem calSetBody_keeps {s₀ s : State} (h : Keeps s₀ s) (a1) : Keeps s₀ (calSetBody a1 s).2 := by
  unfold calSetBody
  apply Keeps.iteSnd
  · dsimp only
    assumption
  · extract_lets +onlyGivenNames y0
    clear_value y0
    extract_lets +onlyGivenNames y1
    have h2 : Keeps s₀ y1 := by
      unfold y1
      refine ⟨?_, ?_⟩
      · dsimp only
        apply Sys2Proof.Machine.Keeps.pending
        assumption
      · dsimp only
        apply Sys2Proof.Machine.Keeps.mem
        assumption
    clear_value y1
    dsimp only
    apply State.captureAll_keeps
    assumption

theorem ccRestartBody_keeps {s₀ s : State} (h : Keeps s₀ s) (a1) : Keeps s₀ (ccRestartBody a1 s).2 := by
  unfold ccRestartBody
  apply Keeps.iteSnd
  · dsimp only
    assumption
  · apply Keeps.iteSnd
    · dsimp only
      assumption
    · dsimp only
      apply State.startRestart_keeps
      apply State.modCore_keeps
      assumption

theorem countersClearBody_keeps {s₀ s : State} (h : Keeps s₀ s) (a1) : Keeps s₀ (countersClearBody a1 s).2 := by
  unfold countersClearBody
  apply Keeps.iteSnd
  · dsimp only
    assumption
  · dsimp only
    refine ⟨?_, ?_⟩
    · dsimp only
      apply Sys2Proof.Machine.Keeps.pending
      assumption
    · dsimp only
      apply Sys2Proof.Machine.Keeps.mem
      assumption

theorem debugUnlockBody_keeps {s₀ s : State} (h : Keeps s₀ s) (a1) : Keeps s₀ (debugUnlockBody a1 s).2 := by
  unfold debugUnlockBody
  extract_lets +onlyGivenNames y0
  have h1 : Keeps s₀ y0 := by
    unfold y0
    apply State.newChallenge_keeps
    assumption
  clear_value y0
  apply Keeps.iteSnd
  · dsimp only
    assumption
  · apply Keeps.iteSnd
    · dsimp only
      assumption
    · dsimp only
      apply State.count_keeps
      refine ⟨?_, ?_⟩
      · dsimp only
        apply Sys2Proof.Machine.Keeps.pending
        assumption
      · dsimp only
        apply Sys2Proof.Machine.Keeps.mem
        assumption

theorem factoryResetBody_keeps {s₀ s : State} (h : Keeps s₀ s) (a1) : Keeps s₀ (factoryResetBody a1 s).2 := by
  unfold factoryResetBody
  apply Keeps.iteSnd
  · dsimp only
    assumption
  · apply Keeps.iteSnd
    · dsimp only
      assumption
    · extract_lets +onlyGivenNames y0
      clear_value y0
      extract_lets +onlyGivenNames y1
      clear_value y1
      dsimp only
      apply State.factoryEffects_keeps
      refine ⟨?_, ?_⟩
      · dsimp only
        apply Sys2Proof.Machine.Keeps.pending
        assumption
      · dsimp only
        apply Sys2Proof.Machine.Keeps.mem
        assumption

theorem faultAckBody_keeps {s₀ s : State} (h : Keeps s₀ s) (a1) : Keeps s₀ (faultAckBody a1 s).2 := by
  unfold faultAckBody
  apply Keeps.iteSnd
  · dsimp only
    assumption
  · dsimp only
    refine ⟨?_, ?_⟩
    · dsimp only
      apply Sys2Proof.Machine.Keeps.pending
      assumption
    · dsimp only
      apply Sys2Proof.Machine.Keeps.mem
      assumption

theorem fwResetBody_keeps {s₀ s : State} (h : Keeps s₀ s) : Keeps s₀ (fwResetBody s).2 := by
  unfold fwResetBody
  apply Keeps.iteSnd
  · dsimp only
    assumption
  · dsimp only
    apply State.toReset_keeps
    apply State.modCtl_keeps
    assumption

theorem fwRollingBody_keeps {s₀ s : State} (h : Keeps s₀ s) : Keeps s₀ (fwRollingBody s).2 := by
  unfold fwRollingBody
  apply Keeps.iteSnd
  · dsimp only
    assumption
  · apply Keeps.iteSnd
    · dsimp only
      assumption
    · dsimp only
      apply State.nextRestart_keeps
      apply State.modCtl_keeps
      assumption

theorem fwActivateBody_keeps {s₀ s : State} (h : Keeps s₀ s) (a1) : Keeps s₀ (fwActivateBody a1 s).2 := by
  unfold fwActivateBody
  apply Keeps.iteSnd
  · apply fwRollingBody_keeps
    assumption
  · apply fwResetBody_keeps
    assumption

theorem fwBeginBody_keeps {s₀ s : State} (h : Keeps s₀ s) (a1) : Keeps s₀ (fwBeginBody a1 s).2 := by
  unfold fwBeginBody
  apply Keeps.iteSnd
  · dsimp only
    assumption
  · dsimp only
    apply State.modCtl_keeps
    apply State.modFwSlot_keeps
    assumption

theorem fwCommitBody_keeps {s₀ s : State} (h : Keeps s₀ s) : Keeps s₀ (fwCommitBody s).2 := by
  unfold fwCommitBody
  apply Keeps.iteSnd
  · dsimp only
    assumption
  · extract_lets +onlyGivenNames y0
    have h1 : Keeps s₀ y0 := by
      unfold y0
      refine ⟨?_, ?_⟩
      · dsimp only
        apply Sys2Proof.Machine.Keeps.pending
        assumption
      · dsimp only
        apply Sys2Proof.Machine.Keeps.mem
        assumption
    clear_value y0
    dsimp only
    apply Keeps.foldl
    · intro x2 x3 x4
      apply State.modCore_keeps
      assumption
    · apply State.modCtl_keeps
      assumption

theorem fwDataBody_keeps {s₀ s : State} (h : Keeps s₀ s) (a1 a2) : Keeps s₀ (fwDataBody a1 a2 s).2 := by
  unfold fwDataBody
  split
  · dsimp only
    assumption
  · apply Keeps.iteSnd
    · dsimp only
      assumption
    · dsimp only
      apply State.modCtl_keeps
      assumption

theorem fwEndBody_keeps {s₀ s : State} (h : Keeps s₀ s) (a1 a2) : Keeps s₀ (fwEndBody a1 a2 s).2 := by
  unfold fwEndBody
  split
  · dsimp only
    assumption
  · extract_lets +onlyGivenNames y0
    clear_value y0
    extract_lets +onlyGivenNames y1
    have h2 : Keeps s₀ y1 := by
      unfold y1
      apply State.modCtl_keeps
      assumption
    clear_value y1
    extract_lets +onlyGivenNames y3
    have h4 : Keeps s₀ y3 := by
      unfold y3
      apply Keeps.ite
      · apply State.modCtl_keeps
        apply State.modFwSlot_keeps
        assumption
      · assumption
    clear_value y3
    dsimp only
    apply State.finish_keeps
    assumption

theorem fwRevertBody_keeps {s₀ s : State} (h : Keeps s₀ s) : Keeps s₀ (fwRevertBody s).2 := by
  unfold fwRevertBody
  apply Keeps.iteSnd
  · dsimp only
    assumption
  · dsimp only
    apply State.rollBack_keeps
    apply State.modCtl_keeps
    assumption

theorem leaseClaimBody_keeps {s₀ s : State} (h : Keeps s₀ s) : Keeps s₀ (leaseClaimBody s).2 := by
  unfold leaseClaimBody
  extract_lets +onlyGivenNames y0
  clear_value y0
  extract_lets +onlyGivenNames y1
  clear_value y1
  extract_lets +onlyGivenNames y2
  clear_value y2
  extract_lets +onlyGivenNames y3
  have h4 : Keeps s₀ y3 := by
    unfold y3
    apply State.modCtl_keeps
    apply State.modLease_keeps
    assumption
  clear_value y3
  dsimp only
  apply Keeps.ite
  · apply State.raise_keeps
    assumption
  · assumption

theorem leaseReleaseBody_keeps {s₀ s : State} (h : Keeps s₀ s) (a1) : Keeps s₀ (leaseReleaseBody a1 s).2 := by
  unfold leaseReleaseBody
  extract_lets +onlyGivenNames y0
  clear_value y0
  apply Keeps.iteSnd
  · dsimp only
    assumption
  · dsimp only
    apply State.enterUnattended_keeps
    assumption

theorem leaseRenewBody_keeps {s₀ s : State} (h : Keeps s₀ s) (a1) : Keeps s₀ (leaseRenewBody a1 s).2 := by
  unfold leaseRenewBody
  extract_lets +onlyGivenNames y0
  clear_value y0
  apply Keeps.iteSnd
  · dsimp only
    assumption
  · dsimp only
    apply State.modLease_keeps
    assumption

theorem powerRequestBody_keeps {s₀ s : State} (h : Keeps s₀ s) (a1) : Keeps s₀ (powerRequestBody a1 s).2 := by
  unfold powerRequestBody
  apply Keeps.iteSnd
  · dsimp only
    assumption
  · extract_lets +onlyGivenNames y0
    clear_value y0
    apply Keeps.iteSnd
    · dsimp only
      apply State.beginEntry_keeps
      assumption
    · dsimp only
      apply State.refuseEntry_keeps
      assumption

theorem restartTimersBody_keeps {s₀ s : State} (h : Keeps s₀ s) : Keeps s₀ (restartTimersBody s).2 := by
  unfold restartTimersBody
  apply Keeps.iteSnd
  · dsimp only
    assumption
  · dsimp only
    apply State.modPower_keeps
    assumption

theorem powerBodyOf_keeps {s₀ s : State} (h : Keeps s₀ s) (a1) : Keeps s₀ (powerBodyOf a1 s).2 := by
  unfold powerBodyOf
  split
  · apply restartTimersBody_keeps
    assumption
  · apply powerRequestBody_keeps
    assumption
  · apply powerRequestBody_keeps
    assumption
  · apply powerRequestBody_keeps
    assumption

theorem profileSelectBody_keeps {s₀ s : State} (h : Keeps s₀ s) (a1) : Keeps s₀ (profileSelectBody a1 s).2 := by
  unfold profileSelectBody
  apply Keeps.iteSnd
  · dsimp only
    assumption
  · apply Keeps.iteSnd
    · dsimp only
      refine ⟨?_, ?_⟩
      · dsimp only
        apply Sys2Proof.Machine.Keeps.pending
        assumption
      · dsimp only
        apply Sys2Proof.Machine.Keeps.mem
        assumption
    · dsimp only
      refine ⟨?_, ?_⟩
      · dsimp only
        apply Sys2Proof.Machine.Keeps.pending
        assumption
      · dsimp only
        apply Sys2Proof.Machine.Keeps.mem
        assumption

theorem subscribeBody_keeps {s₀ s : State} (h : Keeps s₀ s) (a1 a2) : Keeps s₀ (subscribeBody a1 a2 s).2 := by
  unfold subscribeBody
  dsimp only
  apply State.modConn_keeps
  assumption

theorem deviceCommand_keeps {s₀ s : State} (h : Keeps s₀ s) (a1 a2 a3) : Keeps s₀ (deviceCommand a1 a2 a3 s).2 := by
  unfold deviceCommand
  extract_lets +onlyGivenNames y0
  clear_value y0
  split
  · apply ccRestartBody_keeps
    assumption
  · apply fwBeginBody_keeps
    assumption
  · apply fwDataBody_keeps
    assumption
  · apply fwEndBody_keeps
    assumption
  · apply fwActivateBody_keeps
    assumption
  · apply fwCommitBody_keeps
    assumption
  · apply fwRevertBody_keeps
    assumption
  · apply leaseClaimBody_keeps
    assumption
  · apply leaseRenewBody_keeps
    assumption
  · apply leaseReleaseBody_keeps
    assumption
  · apply profileSelectBody_keeps
    assumption
  · apply factoryResetBody_keeps
    assumption
  · apply powerBodyOf_keeps
    assumption
  · apply debugUnlockBody_keeps
    assumption
  · apply faultAckBody_keeps
    assumption
  · apply subscribeBody_keeps
    assumption
  · apply countersClearBody_keeps
    assumption
  · apply calSetBody_keeps
    assumption
  · apply cableTestBody_keeps
    assumption

theorem datasetDeleteBody_keeps {s₀ s : State} (h : Keeps s₀ s) (a1 a2) : Keeps s₀ (datasetDeleteBody a1 a2 s).2 := by
  unfold datasetDeleteBody
  apply Keeps.iteSnd
  · dsimp only
    assumption
  · apply Keeps.iteSnd
    · dsimp only
      assumption
    · apply Keeps.iteSnd
      · dsimp only
        assumption
      · dsimp only
        apply State.modDataset_keeps
        assumption

theorem installBody_keeps {s₀ s : State} (h : Keeps s₀ s) (a1 a2) : Keeps s₀ (installBody a1 a2 s).2 := by
  unfold installBody
  apply Keeps.iteSnd
  · dsimp only
    apply State.modSlot_keeps
    assumption
  · dsimp only
    assumption

theorem mirrorFlushBody_keeps {s₀ s : State} (h : Keeps s₀ s) (a1) : Keeps s₀ (mirrorFlushBody a1 s).2 := by
  unfold mirrorFlushBody
  apply Keeps.iteSnd
  · dsimp only
    apply State.exportOpen_keeps
    assumption
  · dsimp only
    assumption

theorem removeBody_keeps {s₀ s : State} (h : Keeps s₀ s) (a1 a2 a3) : Keeps s₀ (removeBody a1 a2 a3 s).2 := by
  unfold removeBody
  extract_lets +onlyGivenNames y0
  clear_value y0
  apply Keeps.iteSnd
  · dsimp only
    assumption
  · apply Keeps.iteSnd
    · dsimp only
      assumption
    · split
      · dsimp only
        apply State.modSlot_keeps
        assumption
      · apply Keeps.iteSnd
        · dsimp only
          assumption
        · dsimp only
          apply State.beginRemove_keeps
          assumption
      · apply Keeps.iteSnd
        · dsimp only
          assumption
        · dsimp only
          apply State.beginRemove_keeps
          assumption
      · apply Keeps.iteSnd
        · dsimp only
          assumption
        · dsimp only
          apply State.beginRemove_keeps
          assumption
      · dsimp only
        assumption

theorem replayStartBody_keeps {s₀ s : State} (h : Keeps s₀ s) (a1 a2 a3 a4 a5) : Keeps s₀ (replayStartBody a1 a2 a3 a4 a5 s).2 := by
  unfold replayStartBody
  apply Keeps.iteSnd
  · dsimp only
    assumption
  · apply Keeps.iteSnd
    · dsimp only
      assumption
    · split
      · dsimp only
        assumption
      · extract_lets +onlyGivenNames y0
        clear_value y0
        apply Keeps.iteSnd
        · dsimp only
          assumption
        · apply Keeps.iteSnd
          · dsimp only
            assumption
          · apply Keeps.iteSnd
            · dsimp only
              assumption
            · dsimp only
              apply State.syncMirror_keeps
              apply State.modMten_keeps
              assumption

theorem replayStopBody_keeps {s₀ s : State} (h : Keeps s₀ s) (a1) : Keeps s₀ (replayStopBody a1 s).2 := by
  unfold replayStopBody
  apply Keeps.iteSnd
  · dsimp only
    apply State.modMten_keeps
    assumption
  · dsimp only
    assumption

theorem swapBody_keeps {s₀ s : State} (h : Keeps s₀ s) (a1 a2 a3 a4 a5) : Keeps s₀ (swapBody a1 a2 a3 a4 a5 s).2 := by
  unfold swapBody
  apply Keeps.iteSnd
  · dsimp only
    assumption
  · apply Keeps.iteSnd
    · dsimp only
      assumption
    · apply Keeps.iteSnd
      · dsimp only
        apply State.modSlot_keeps
        assumption
      · dsimp only
        assumption

theorem tenantActivateBody_keeps {s₀ s : State} (h : Keeps s₀ s) (a1) : Keeps s₀ (tenantActivateBody a1 s).2 := by
  unfold tenantActivateBody
  apply Keeps.iteSnd
  · dsimp only
    assumption
  · apply Keeps.iteSnd
    · dsimp only
      assumption
    · dsimp only
      apply State.modTenState_keeps
      assumption

theorem tenantFormBody_keeps {s₀ s : State} (h : Keeps s₀ s) (a1) : Keeps s₀ (tenantFormBody a1 s).2 := by
  unfold tenantFormBody
  extract_lets +onlyGivenNames y0
  clear_value y0
  extract_lets +onlyGivenNames y1
  have h2 : Keeps s₀ y1 := by
    unfold y1
    apply State.clamped_keeps
    assumption
  clear_value y1
  extract_lets +onlyGivenNames y3
  have h4 : Keeps s₀ y3 := by
    unfold y3
    apply State.modTenState_keeps
    assumption
  clear_value y3
  apply Keeps.iteSnd
  · dsimp only
    assumption
  · apply Keeps.iteSnd
    · dsimp only
      assumption
    · apply Keeps.iteSnd
      · dsimp only
        assumption
      · apply Keeps.iteSnd
        · dsimp only
          assumption
        · apply Keeps.iteSnd
          · dsimp only
            assumption
          · dsimp only
            apply State.syncMirror_keeps
            apply State.assignWays_keeps
            apply State.modPointer_keeps
            apply State.newKey_keeps
            assumption

theorem tenantRemoveBody_keeps {s₀ s : State} (h : Keeps s₀ s) (a1 a2 a3) : Keeps s₀ (tenantRemoveBody a1 a2 a3 s).2 := by
  unfold tenantRemoveBody
  apply Keeps.iteSnd
  · dsimp only
    apply State.beginRemoval_keeps
    assumption
  · dsimp only
    assumption

theorem trainBody_keeps {s₀ s : State} (h : Keeps s₀ s) (a1 a2) : Keeps s₀ (trainBody a1 a2 s).2 := by
  unfold trainBody
  extract_lets +onlyGivenNames y0
  clear_value y0
  extract_lets +onlyGivenNames y1
  clear_value y1
  extract_lets +onlyGivenNames y2
  clear_value y2
  apply Keeps.iteSnd
  · dsimp only
    apply Keeps.ite
    · apply State.quotaRefused_keeps
      assumption
    · assumption
  · apply Keeps.iteSnd
    · dsimp only
      assumption
    · dsimp only
      apply State.finish_keeps
      apply State.startJob_keeps
      assumption

theorem trainStopBody_keeps {s₀ s : State} (h : Keeps s₀ s) (a1) : Keeps s₀ (trainStopBody a1 s).2 := by
  unfold trainStopBody
  apply Keeps.iteSnd
  · dsimp only
    apply State.modJob_keeps
    assumption
  · dsimp only
    assumption

theorem uploadAbortBody_keeps {s₀ s : State} (h : Keeps s₀ s) (a1) : Keeps s₀ (uploadAbortBody a1 s).2 := by
  unfold uploadAbortBody
  apply Keeps.iteSnd
  · dsimp only
    apply State.modUpload_keeps
    assumption
  · dsimp only
    assumption

theorem uploadBeginBody_keeps {s₀ s : State} (h : Keeps s₀ s) (a1 a2 a3 a4 a5) : Keeps s₀ (uploadBeginBody a1 a2 a3 a4 a5 s).2 := by
  unfold uploadBeginBody
  apply Keeps.iteSnd
  · dsimp only
    assumption
  · apply Keeps.iteSnd
    · dsimp only
      assumption
    · apply Keeps.iteSnd
      · dsimp only
        assumption
      · apply Keeps.iteSnd
        · dsimp only
          assumption
        · apply Keeps.iteSnd
          · dsimp only
            assumption
          · apply Keeps.iteSnd
            · dsimp only
              apply State.quotaRefused_keeps
              assumption
            · dsimp only
              apply State.modUpload_keeps
              assumption

theorem uploadDataBody_keeps {s₀ s : State} (h : Keeps s₀ s) (a1 a2 a3 a4) : Keeps s₀ (uploadDataBody a1 a2 a3 a4 s).2 := by
  unfold uploadDataBody
  split
  · dsimp only
    assumption
  · apply Keeps.iteSnd
    · dsimp only
      assumption
    · dsimp only
      apply State.modUpload_keeps
      assumption

theorem uploadEndBody_keeps {s₀ s : State} (h : Keeps s₀ s) (a1) : Keeps s₀ (uploadEndBody a1 s).2 := by
  unfold uploadEndBody
  split
  · dsimp only
    assumption
  · apply Keeps.iteSnd
    · dsimp only
      assumption
    · apply Keeps.iteSnd
      · dsimp only
        assumption
      · dsimp only
        apply State.finish_keeps
        apply State.modUpload_keeps
        apply State.handOver_keeps
        assumption

theorem tenantCommand_keeps {s₀ s : State} (h : Keeps s₀ s) (a1 a2 a3 a4) : Keeps s₀ (tenantCommand a1 a2 a3 a4 s).2 := by
  unfold tenantCommand
  extract_lets +onlyGivenNames y0
  clear_value y0
  extract_lets +onlyGivenNames y1
  clear_value y1
  split
  · apply uploadBeginBody_keeps
    assumption
  · apply uploadDataBody_keeps
    assumption
  · apply uploadEndBody_keeps
    assumption
  · apply uploadAbortBody_keeps
    assumption
  · apply datasetDeleteBody_keeps
    assumption
  · apply trainBody_keeps
    assumption
  · apply trainStopBody_keeps
    assumption
  · apply tenantFormBody_keeps
    assumption
  · apply tenantActivateBody_keeps
    assumption
  · apply tenantRemoveBody_keeps
    assumption
  · apply mirrorFlushBody_keeps
    assumption
  · apply replayStartBody_keeps
    assumption
  · apply replayStopBody_keeps
    assumption
  · apply Keeps.iteSnd
    · apply adapterLoadBody_keeps
      assumption
    · dsimp only
      assumption
  · apply Keeps.iteSnd
    · apply adapterUnloadBody_keeps
      assumption
    · apply installBody_keeps
      assumption
  · apply Keeps.iteSnd
    · apply adapterDeleteBody_keeps
      assumption
    · apply swapBody_keeps
      assumption
  · apply removeBody_keeps
    assumption

theorem runCommand_keeps {s₀ s : State} (h : Keeps s₀ s) (a1 a2 a3 a4) : Keeps s₀ (runCommand a1 a2 a3 a4 s).2 := by
  unfold runCommand
  apply Keeps.iteSnd
  · dsimp only
    assumption
  · apply Keeps.iteSnd
    · apply deviceCommand_keeps
      assumption
    · apply tenantCommand_keeps
      assumption

theorem writeItem_keeps {s₀ s : State} (h : Keeps s₀ s) (a1 a2 a3 a4 a5) : Keeps s₀ (writeItem a1 a2 a3 a4 a5 s).2 := by
  unfold writeItem
  split
  · dsimp only
    assumption
  · extract_lets +onlyGivenNames y0
    clear_value y0
    apply Keeps.iteSnd
    · dsimp only
      assumption
    · apply Keeps.iteSnd
      · apply runCommand_keeps
        assumption
      · apply State.writeSetting_keeps
        assumption

theorem answerOne_keeps {s₀ s : State} (h : Keeps s₀ s) (a1 a2 a3 a4) : Keeps s₀ (answerOne a1 a2 a3 a4 s) := by
  unfold answerOne
  extract_lets +onlyGivenNames y0
  have h1 : Keeps s₀ y0.2 := by
    unfold y0
    apply writeItem_keeps
    assumption
  clear_value y0
  apply Keeps.ite
  · apply State.refuse_keeps
    assumption
  · apply answerWrite_keeps
    assumption

theorem txn_keeps {s₀ s : State} (h : Keeps s₀ s) (i : Instr) (rq : Rq) (pre : Conn → State → Nat) {run : Conn → State → Res} (hr : ∀ c, KeepsR s₀ (run c s)) :
    KeepsR s₀ (txn i rq pre run s) := by
  unfold txn
  split
  · exact KeepsR.next (State.unlisted_keeps h)
  · exact KeepsR.ite (KeepsR.next (State.unlisted_keeps h)) (KeepsR.ite (KeepsR.ite (KeepsR.next (State.holdTxn_keeps h _ _)) (KeepsR.next (State.turnDown_keeps h _ _ _)))
      (KeepsR.ite (KeepsR.next (State.turnDown_keeps h _ _ _)) (hr _)))

theorem bdpCmd_keeps {s₀ s : State} (h : Keeps s₀ s) (i : Instr) (rq : Rq) (code value : Nat) {body : State → Nat × State} (hb : Keeps s₀ (body s).2) :
    KeepsR s₀ (bdpCmd i rq code value body s) := by
  unfold bdpCmd
  exact txn_keeps h _ _ _ fun c => KeepsR.ite (KeepsR.next (State.refuse_keeps h _ _ _ _)) (KeepsR.next (answerWrite_keeps _ _ _ _ hb))

end Sys2Proof.Machine
end

