-- ==== Sys2Proof/Laws/KeepsCommands.lean ====
section
/-! SUPPORT. What every command keeps: the queue behind it, and the canonical form of memory. -/

namespace Sys2Proof.Machine

set_option Elab.async false

theorem execAdapt_keeps {s₀ s : State} (h : Keeps s₀ s) (a1 a2 a3 a4 a5) : KeepsR s₀ (execAdapt a1 a2 a3 a4 a5 s) := by
  unfold execAdapt
  apply State.whenUp_keeps
  · assumption
  · split
    · apply KeepsR.next
      apply State.unlisted_keeps
      assumption
    · apply KeepsR.next
      apply State.takeAdapt_keeps
      assumption

theorem execAdapterDelete_keeps {s₀ s : State} (h : Keeps s₀ s) (a1 a2 a3) : KeepsR s₀ (execAdapterDelete a1 a2 a3 s) := by
  unfold execAdapterDelete
  apply bdpCmd_keeps
  · assumption
  · apply adapterDeleteBody_keeps
    assumption

theorem execAdapterLoad_keeps {s₀ s : State} (h : Keeps s₀ s) (a1 a2 a3 a4) : KeepsR s₀ (execAdapterLoad a1 a2 a3 a4 s) := by
  unfold execAdapterLoad
  apply bdpCmd_keeps
  · assumption
  · apply adapterLoadBody_keeps
    assumption

theorem execAdapterLoadDone_keeps {s₀ s : State} (h : Keeps s₀ s) (a1 a2) : KeepsR s₀ (execAdapterLoadDone a1 a2 s) := by
  unfold execAdapterLoadDone
  apply State.whenUp_keeps
  · assumption
  · extract_lets +onlyGivenNames y0
    clear_value y0
    apply State.listed_keeps
    · assumption
    · apply State.noteSlots_keeps
      apply State.finish_keeps
      apply State.fillAdapter_keeps
      apply State.modAdapter_keeps
      assumption

theorem execAdapterUnload_keeps {s₀ s : State} (h : Keeps s₀ s) (a1 a2 a3) : KeepsR s₀ (execAdapterUnload a1 a2 a3 s) := by
  unfold execAdapterUnload
  apply bdpCmd_keeps
  · assumption
  · apply adapterUnloadBody_keeps
    assumption

theorem execAonLoss_keeps {s₀ s : State} (h : Keeps s₀ s) : KeepsR s₀ (execAonLoss s) := by
  unfold execAonLoss
  extract_lets +onlyGivenNames y0
  have h1 : Keeps s₀ y0 := by
    unfold y0
    apply State.toReset_keeps
    assumption
  clear_value y0
  apply State.listed_keeps
  · assumption
  · refine ⟨?_, ?_⟩
    · dsimp only
      apply Sys2Proof.Machine.Keeps.pending
      assumption
    · dsimp only
      apply Sys2Proof.Machine.Keeps.mem
      assumption

theorem execAuth_keeps {s₀ s : State} (h : Keeps s₀ s) (a1 a2 a3 a4 a5 a6 a7) : KeepsR s₀ (execAuth a1 a2 a3 a4 a5 a6 a7 s) := by
  unfold execAuth
  apply State.whenUp_keeps
  · assumption
  · split
    · apply KeepsR.next
      apply State.unlisted_keeps
      assumption
    · apply KeepsR.ite
      · apply KeepsR.next
        apply State.unlisted_keeps
        assumption
      · apply KeepsR.ite
        · apply KeepsR.next
          apply State.tcount_keeps
          apply State.failHandshake_keeps
          assumption
        · extract_lets +onlyGivenNames y0
          have h1 : Keeps s₀ y0 := by
            unfold y0
            apply State.inbound_keeps
            assumption
          clear_value y0
          apply KeepsR.ite
          · apply KeepsR.next
            apply State.answerResv_keeps
            assumption
          · apply KeepsR.ite
            · extract_lets +onlyGivenNames y2
              have h3 : Keeps s₀ y2 := by
                unfold y2
                apply State.modConn_keeps
                apply State.leaveTrust_keeps
                assumption
              clear_value y2
              apply KeepsR.next
              apply State.count_keeps
              apply State.send_keeps
              assumption
            · apply KeepsR.next
              apply State.failHandshake_keeps
              assumption

theorem execBadMessage_keeps {s₀ s : State} (h : Keeps s₀ s) (a1 a2) : KeepsR s₀ (execBadMessage a1 a2 s) := by
  unfold execBadMessage
  apply State.whenUp_keeps
  · assumption
  · split
    · apply KeepsR.next
      apply State.unlisted_keeps
      assumption
    · extract_lets +onlyGivenNames y0
      have h1 : Keeps s₀ y0 := by
        unfold y0
        apply State.send_keeps
        assumption
      clear_value y0
      apply State.listed_keeps
      · assumption
      · apply Keeps.ite
        · apply State.count_keeps
          assumption
        · assumption

theorem execBdpAuth_keeps {s₀ s : State} (h : Keeps s₀ s) (a1 a2 a3 a4 a5) : KeepsR s₀ (execBdpAuth a1 a2 a3 a4 a5 s) := by
  unfold execBdpAuth
  apply State.whenUp_keeps
  · assumption
  · split
    · apply KeepsR.next
      apply State.unlisted_keeps
      assumption
    · apply KeepsR.ite
      · apply KeepsR.next
        apply State.unlisted_keeps
        assumption
      · apply KeepsR.ite
        · apply KeepsR.next
          apply State.tcount_keeps
          apply State.failHandshake_keeps
          assumption
        · apply KeepsR.ite
          · apply KeepsR.next
            apply State.answerResv_keeps
            assumption
          · apply KeepsR.ite
            · extract_lets +onlyGivenNames y0
              have h1 : Keeps s₀ y0 := by
                unfold y0
                apply State.modConn_keeps
                apply State.leaveTrust_keeps
                assumption
              clear_value y0
              extract_lets +onlyGivenNames y2
              have h3 : Keeps s₀ y2 := by
                unfold y2
                apply State.send_keeps
                assumption
              clear_value y2
              apply KeepsR.next
              apply Keeps.ite
              · apply State.count_keeps
                assumption
              · assumption
            · apply KeepsR.next
              apply State.failHandshake_keeps
              assumption

theorem execBdpConnect_keeps {s₀ s : State} (h : Keeps s₀ s) (a1 a2 a3) : KeepsR s₀ (execBdpConnect a1 a2 a3 s) := by
  unfold execBdpConnect
  apply State.whenUp_keeps
  · assumption
  · split
    · apply KeepsR.next
      apply State.unlisted_keeps
      assumption
    · apply KeepsR.ite
      · apply KeepsR.next
        apply State.unlisted_keeps
        assumption
      · extract_lets +onlyGivenNames y0
        clear_value y0
        extract_lets +onlyGivenNames y1
        have h2 : Keeps s₀ y1 := by
          unfold y1
          apply State.modConn_keeps
          assumption
        clear_value y1
        apply KeepsR.next
        apply Keeps.ite
        · apply State.count_keeps
          apply State.turnAway_keeps
          assumption
        · assumption

theorem execBdpEventSend_keeps {s₀ s : State} (h : Keeps s₀ s) (a1) : KeepsR s₀ (execBdpEventSend a1 s) := by
  unfold execBdpEventSend
  apply State.whenUp_keeps
  · assumption
  · split
    · apply KeepsR.next
      apply State.unlisted_keeps
      assumption
    · apply State.listed_keeps
      · assumption
      · apply State.modConn_keeps
        apply State.send_keeps
        assumption

theorem execBdpRead_keeps {s₀ s : State} (h : Keeps s₀ s) (a1 a2) : KeepsR s₀ (execBdpRead a1 a2 s) := by
  unfold execBdpRead
  apply txn_keeps
  · assumption
  · intro x0
    apply KeepsR.next
    apply State.answerRead_keeps
    assumption

theorem execBdpSnapshot_keeps {s₀ s : State} (h : Keeps s₀ s) (a1 a2) : KeepsR s₀ (execBdpSnapshot a1 a2 s) := by
  unfold execBdpSnapshot
  apply txn_keeps
  · assumption
  · intro x0
    split
    · apply KeepsR.next
      apply State.respond_keeps
      assumption
    · apply KeepsR.next
      apply State.answerRead_keeps
      assumption

theorem writeSome_keeps {s₀ s : State} (h : Keeps s₀ s) (rq : Rq) (c : Conn) (b : BdpBody) : KeepsR s₀ (writeSome rq c b s) := by
  unfold writeSome
  exact State.unlessVendor_keeps _ _ (KeepsR.next (answerBatch_keeps h _ _ _ _ (writeAll_keeps (fun it u hu => writeItem_keeps hu _ _ _ _ _) 0 _ false h)))

theorem execBdpWrite_keeps {s₀ s : State} (h : Keeps s₀ s) (rq : Rq) (b : BdpBody) : KeepsR s₀ (execBdpWrite rq b s) := by
  unfold execBdpWrite
  refine txn_keeps h _ _ _ fun c => KeepsR.ite (answerEdit_keeps h _ _ _ _ _) ?_
  split
  · exact State.unlessVendor_keeps _ _ (KeepsR.next (answerOne_keeps h _ _ _ _))
  · exact writeSome_keeps h _ _ _

theorem execBlockReencode_keeps {s₀ s : State} (h : Keeps s₀ s) (a1 a2 a3 a4) : KeepsR s₀ (execBlockReencode a1 a2 a3 a4 s) := by
  unfold execBlockReencode
  apply State.whenUp_keeps
  · assumption
  · extract_lets +onlyGivenNames y0
    clear_value y0
    split
    · apply KeepsR.next
      apply State.unlisted_keeps
      assumption
    · split
      · apply KeepsR.next
        apply State.unlisted_keeps
        assumption
      · apply State.listed_keeps
        · assumption
        · extract_lets +onlyGivenNames y1
          have h2 : Keeps s₀ y1 := by
            unfold y1
            apply State.encodeWeight_keeps
            assumption
          clear_value y1
          refine ⟨?_, ?_⟩
          · dsimp only
            apply Sys2Proof.Machine.Keeps.pending
            assumption
          · dsimp only
            apply Sys2Proof.Machine.Keeps.mem
            assumption

theorem execBrownout_keeps {s₀ s : State} (h : Keeps s₀ s) : KeepsR s₀ (execBrownout s) := by
  unfold execBrownout
  apply State.listed_keeps
  · assumption
  · apply State.toOff_keeps
    assumption

theorem execBypass_keeps {s₀ s : State} (h : Keeps s₀ s) (a1) : KeepsR s₀ (execBypass a1 s) := by
  unfold execBypass
  apply KeepsR.next
  extract_lets +onlyGivenNames y0
  have h1 : Keeps s₀ y0 := by
    unfold y0
    apply State.select_keeps
    assumption
  clear_value y0
  refine ⟨?_, ?_⟩
  · dsimp only
    apply Sys2Proof.Machine.Keeps.pending
    assumption
  · dsimp only
    apply Sys2Proof.Machine.Keeps.mem
    assumption

theorem execCableTest_keeps {s₀ s : State} (h : Keeps s₀ s) (a1 a2) : KeepsR s₀ (execCableTest a1 a2 s) := by
  unfold execCableTest
  apply bdpCmd_keeps
  · assumption
  · apply cableTestBody_keeps
    assumption

theorem execCableTestDone_keeps {s₀ s : State} (h : Keeps s₀ s) (a1 a2 a3) : KeepsR s₀ (execCableTestDone a1 a2 a3 s) := by
  unfold execCableTestDone
  apply State.listed_keeps
  · assumption
  · apply State.finish_keeps
    apply State.modPort_keeps
    assumption

theorem execCacheWays_keeps {s₀ s : State} (h : Keeps s₀ s) (a1 a2 a3) : KeepsR s₀ (execCacheWays a1 a2 a3 s) := by
  unfold execCacheWays
  apply bdpCmd_keeps
  · assumption
  · apply cacheWaysBody_keeps
    assumption

theorem execCalAlarm_keeps {s₀ s : State} (h : Keeps s₀ s) (a1 a2) : KeepsR s₀ (execCalAlarm a1 a2 s) := by
  unfold execCalAlarm
  apply bdpCmd_keeps
  · assumption
  · apply calAlarmBody_keeps
    assumption

theorem execCalAlarmDue_keeps {s₀ s : State} (h : Keeps s₀ s) : KeepsR s₀ (execCalAlarmDue s) := by
  unfold execCalAlarmDue
  extract_lets +onlyGivenNames y0
  clear_value y0
  apply State.listed_keeps
  · assumption
  · apply State.wake_keeps
    apply State.setStored_keeps
    assumption

theorem execCalSet_keeps {s₀ s : State} (h : Keeps s₀ s) (a1 a2) : KeepsR s₀ (execCalSet a1 a2 s) := by
  unfold execCalSet
  apply bdpCmd_keeps
  · assumption
  · apply calSetBody_keeps
    assumption

theorem execCalendarLost_keeps {s₀ s : State} (h : Keeps s₀ s) : KeepsR s₀ (execCalendarLost s) := by
  unfold execCalendarLost
  apply State.listed_keeps
  · assumption
  · refine ⟨?_, ?_⟩
    · dsimp only
      apply Sys2Proof.Machine.Keeps.pending
      assumption
    · dsimp only
      apply Sys2Proof.Machine.Keeps.mem
      assumption

theorem execCancel_keeps {s₀ s : State} (h : Keeps s₀ s) (a1 a2 a3 a4 a5) : KeepsR s₀ (execCancel a1 a2 a3 a4 a5 s) := by
  unfold execCancel
  apply State.whenUp_keeps
  · assumption
  · split
    · apply KeepsR.next
      apply State.unlisted_keeps
      assumption
    · apply KeepsR.next
      apply State.takeCancel_keeps
      assumption

theorem execCcRestart_keeps {s₀ s : State} (h : Keeps s₀ s) (a1 a2) : KeepsR s₀ (execCcRestart a1 a2 s) := by
  unfold execCcRestart
  apply bdpCmd_keeps
  · assumption
  · apply ccRestartBody_keeps
    assumption

theorem execCcRestartDone_keeps {s₀ s : State} (h : Keeps s₀ s) (a1 a2) : KeepsR s₀ (execCcRestartDone a1 a2 s) := by
  unfold execCcRestartDone
  extract_lets +onlyGivenNames y0
  clear_value y0
  apply KeepsR.ite
  · apply KeepsR.ite
    · apply KeepsR.next
      apply State.nextRestart_keeps
      apply State.coreRuns_keeps
      assumption
    · apply KeepsR.next
      apply State.rollBack_keeps
      apply State.modCore_keeps
      assumption
  · apply KeepsR.next
    apply State.unlisted_keeps
    assumption

theorem execChannelIdleExpiry_keeps {s₀ s : State} (h : Keeps s₀ s) (a1) : KeepsR s₀ (execChannelIdleExpiry a1 s) := by
  unfold execChannelIdleExpiry
  apply State.whenUp_keeps
  · assumption
  · split
    · apply KeepsR.next
      apply State.unlisted_keeps
      assumption
    · apply State.listed_keeps
      · assumption
      · apply State.closeConn_keeps
        assumption

theorem State.checkPass_keeps {s₀ s : State} (h : Keeps s₀ s) (t slot : Nat) (i : Image) : Keeps s₀ (s.checkPass t slot i).2.2 := by
  unfold State.checkPass
  extract_lets m old spare g
  split
  · exact h
  · split
    · exact h
    · split
      · exact h
      · rename_i d e
        exact State.placeImage_keeps h _ d e

theorem execCheckPassEnd_keeps {s₀ s : State} (h : Keeps s₀ s) (t slot : Nat) : KeepsR s₀ (execCheckPassEnd t slot s) := by
  unfold execCheckPassEnd
  apply State.whenUp_keeps h
  extract_lets m
  split
  · exact KeepsR.next (State.unlisted_keeps h)
  · extract_lets r
    have hr : Keeps s₀ r.2.2 := State.checkPass_keeps h _ _ _
    clear_value r
    exact KeepsR.ite (KeepsR.ite (KeepsR.next (State.checkFailed_keeps h _ _ _)) (KeepsR.next (Keeps.ite (State.beginSwap_keeps hr _ _ _ _) (State.beginInstall_keeps hr _ _ _ _)))) (KeepsR.next (State.unlisted_keeps h))

theorem execCheckpointLanded_keeps {s₀ s : State} (h : Keeps s₀ s) (a1) : KeepsR s₀ (execCheckpointLanded a1 s) := by
  unfold execCheckpointLanded
  apply State.listed_keeps
  · assumption
  · apply State.enterStop_keeps
    apply State.tcount_keeps
    apply State.modJob_keeps
    assumption

theorem execClientHello_keeps {s₀ s : State} (h : Keeps s₀ s) (a1 a2 a3 a4) : KeepsR s₀ (execClientHello a1 a2 a3 a4 s) := by
  unfold execClientHello
  apply State.whenUp_keeps
  · assumption
  · split
    · apply KeepsR.next
      apply State.unlisted_keeps
      assumption
    · apply KeepsR.ite
      · apply KeepsR.next
        apply State.unlisted_keeps
        assumption
      · apply KeepsR.ite
        · apply KeepsR.next
          apply State.answerResv_keeps
          assumption
        · apply KeepsR.ite
          · apply KeepsR.next
            apply State.failHandshake_keeps
            assumption
          · extract_lets +onlyGivenNames y0
            have h1 : Keeps s₀ y0 := by
              unfold y0
              apply Keeps.ite
              · apply State.inbound_keeps
                assumption
              · assumption
            clear_value y0
            apply KeepsR.ite
            · extract_lets +onlyGivenNames y2
              have h3 : Keeps s₀ y2.2 := by
                unfold y2
                apply State.freeValue_keeps
                assumption
              clear_value y2
              extract_lets +onlyGivenNames y4
              have h5 : Keeps s₀ y4 := by
                unfold y4
                apply State.turnAway_keeps
                assumption
              clear_value y4
              apply KeepsR.next
              apply Keeps.ite
              · apply State.count_keeps
                assumption
              · apply State.count_keeps
                assumption
            · extract_lets +onlyGivenNames y6
              have h7 : Keeps s₀ y6 := by
                unfold y6
                apply State.modConn_keeps
                assumption
              clear_value y6
              apply KeepsR.next
              refine ⟨?_, ?_⟩
              · dsimp only
                apply Sys2Proof.Machine.Keeps.pending
                assumption
              · dsimp only
                apply Sys2Proof.Machine.Keeps.mem
                assumption

theorem execCloseSession_keeps {s₀ s : State} (h : Keeps s₀ s) (a1 a2 a3 a4) : KeepsR s₀ (execCloseSession a1 a2 a3 a4 s) := by
  unfold execCloseSession
  apply State.whenUp_keeps
  · assumption
  · split
    · apply KeepsR.next
      apply State.unlisted_keeps
      assumption
    · apply KeepsR.next
      apply State.takeClose_keeps
      assumption

theorem execColdStart_keeps {s₀ s : State} (h : Keeps s₀ s) (a1) : KeepsR s₀ (execColdStart a1 s) := by
  unfold execColdStart
  apply KeepsR.ite
  · apply KeepsR.next
    apply State.unlisted_keeps
    assumption
  · apply KeepsR.ite
    · apply KeepsR.next
      apply State.modPower_keeps
      assumption
    · apply KeepsR.ite
      · apply KeepsR.next
        apply State.boot_keeps
        assumption
      · extract_lets +onlyGivenNames y0
        have h1 : Keeps s₀ y0 := by
          unfold y0
          apply State.bootClock_keeps
          assumption
        clear_value y0
        apply KeepsR.next
        refine ⟨?_, ?_⟩
        · dsimp only
          apply Sys2Proof.Machine.Keeps.pending
          assumption
        · dsimp only
          apply Sys2Proof.Machine.Keeps.mem
          assumption

theorem execColumnBlockWrite_keeps {s₀ s : State} (h : Keeps s₀ s) (a1 a2 a3) : KeepsR s₀ (execColumnBlockWrite a1 a2 a3 s) := by
  unfold execColumnBlockWrite
  split
  · apply State.listed_keeps
    · assumption
    · apply State.vmvmCheck_keeps
      apply State.releaseHolds_keeps
      apply State.ocount_keeps
      apply State.ocount_keeps
      apply State.writeBlock_keeps
      refine ⟨?_, ?_⟩
      · dsimp only
        apply Sys2Proof.Machine.Keeps.pending
        assumption
      · dsimp only
        apply Sys2Proof.Machine.Keeps.mem
        assumption
  · apply KeepsR.next
    apply State.unlisted_keeps
    assumption

theorem execCommission_keeps {s₀ s : State} (h : Keeps s₀ s) (a1 a2) : KeepsR s₀ (execCommission a1 a2 s) := by
  unfold execCommission
  extract_lets +onlyGivenNames y0
  clear_value y0
  extract_lets +onlyGivenNames y1
  have h2 : Keeps s₀ y1 := by
    unfold y1
    apply State.select_keeps
    assumption
  clear_value y1
  apply KeepsR.next
  refine ⟨?_, ?_⟩
  · dsimp only
    apply Sys2Proof.Machine.Keeps.pending
    assumption
  · dsimp only
    apply Sys2Proof.Machine.Keeps.mem
    assumption

theorem execCompletionAccept_keeps {s₀ s : State} (h : Keeps s₀ s) (a1) : KeepsR s₀ (execCompletionAccept a1 s) := by
  unfold execCompletionAccept
  apply State.whenUp_keeps
  · assumption
  · split
    · apply KeepsR.next
      apply State.unlisted_keeps
      assumption
    · apply KeepsR.ite
      · extract_lets +onlyGivenNames y0
        have h1 : Keeps s₀ y0 := by
          unfold y0
          apply State.modOp_keeps
          assumption
        clear_value y0
        extract_lets +onlyGivenNames y2
        clear_value y2
        extract_lets +onlyGivenNames y3
        have h4 : Keeps s₀ y3 := by
          unfold y3
          refine ⟨?_, ?_⟩
          · dsimp only
            apply Sys2Proof.Machine.Keeps.pending
            assumption
          · dsimp only
            apply Sys2Proof.Machine.Keeps.mem
            assumption
        clear_value y3
        extract_lets +onlyGivenNames y5
        have h6 : Keeps s₀ y5 := by
          unfold y5
          apply State.sweepObjs_keeps
          assumption
        clear_value y5
        extract_lets +onlyGivenNames y7
        have h8 : Keeps s₀ y7 := by
          unfold y7
          split
          · apply Keeps.ite
            · apply State.endRun_keeps
              assumption
            · assumption
          · assumption
        clear_value y7
        apply KeepsR.next
        apply Keeps.foldl
        · intro x9 x10 x11
          apply State.queueFlush_keeps
          assumption
        · assumption
      · apply KeepsR.next
        apply State.unlisted_keeps
        assumption

theorem execConvertingSlotGrant_keeps {s₀ s : State} (h : Keeps s₀ s) (a1) : KeepsR s₀ (execConvertingSlotGrant a1 s) := by
  unfold execConvertingSlotGrant
  split
  · apply KeepsR.next
    apply State.unlisted_keeps
    assumption
  · apply State.listed_keeps
    · assumption
    · apply State.modArray_keeps
      apply State.takeSlot_keeps
      assumption

theorem execCopyLoadDone_keeps {s₀ s : State} (h : Keeps s₀ s) (a1) : KeepsR s₀ (execCopyLoadDone a1 s) := by
  unfold execCopyLoadDone
  apply State.whenUp_keeps
  · assumption
  · apply State.listed_keeps
    · assumption
    · extract_lets +onlyGivenNames y0
      have h1 : Keeps s₀ y0 := by
        unfold y0
        apply State.modStratum_keeps
        assumption
      clear_value y0
      apply State.repin_keeps
      refine ⟨?_, ?_⟩
      · dsimp only
        apply Sys2Proof.Machine.Keeps.pending
        assumption
      · dsimp only
        apply Sys2Proof.Machine.Keeps.mem
        assumption

theorem execCorrAdd_keeps {s₀ s : State} (h : Keeps s₀ s) (a1) : KeepsR s₀ (execCorrAdd a1 s) := by
  unfold execCorrAdd
  split
  · apply KeepsR.next
    apply State.unlisted_keeps
    assumption
  · split
    · apply KeepsR.next
      apply State.unlisted_keeps
      assumption
    · apply State.listed_keeps
      · assumption
      · apply State.workDone_keeps
        apply Keeps.foldl
        · intro x0 x1 x2
          apply State.corrPut_keeps
          assumption
        · assumption

theorem execCorrOp_keeps {s₀ s : State} (h : Keeps s₀ s) (a1) : KeepsR s₀ (execCorrOp a1 s) := by
  unfold execCorrOp
  split
  · apply KeepsR.next
    apply State.unlisted_keeps
    assumption
  · apply State.withPlaces_keeps
    apply KeepsR.next
    apply State.modUnit_keeps
    apply State.startOp_keeps
    assumption

theorem execCountersClear_keeps {s₀ s : State} (h : Keeps s₀ s) (a1 a2) : KeepsR s₀ (execCountersClear a1 a2 s) := by
  unfold execCountersClear
  apply bdpCmd_keeps
  · assumption
  · apply countersClearBody_keeps
    assumption

theorem execCsKvPages_keeps {s₀ s : State} (h : Keeps s₀ s) (a1 a2 a3) : KeepsR s₀ (execCsKvPages a1 a2 a3 s) := by
  unfold execCsKvPages
  apply bdpCmd_keeps
  · assumption
  · apply csKvPagesBody_keeps
    assumption

theorem execDatagramTxDrop_keeps {s₀ s : State} (h : Keeps s₀ s) (a1 a2) : KeepsR s₀ (execDatagramTxDrop a1 a2 s) := by
  unfold execDatagramTxDrop
  extract_lets +onlyGivenNames y0
  clear_value y0
  split
  · apply KeepsR.next
    apply State.unlisted_keeps
    assumption
  · split
    · apply KeepsR.next
      apply State.unlisted_keeps
      assumption
    · apply KeepsR.next
      apply State.count_keeps
      apply State.dropDatagrams_keeps
      apply State.modConn_keeps
      assumption

theorem execDatasetDelete_keeps {s₀ s : State} (h : Keeps s₀ s) (a1 a2 a3) : KeepsR s₀ (execDatasetDelete a1 a2 a3 s) := by
  unfold execDatasetDelete
  apply bdpCmd_keeps
  · assumption
  · apply datasetDeleteBody_keeps
    assumption

theorem execDebugUnlock_keeps {s₀ s : State} (h : Keeps s₀ s) (a1 a2) : KeepsR s₀ (execDebugUnlock a1 a2 s) := by
  unfold execDebugUnlock
  apply bdpCmd_keeps
  · assumption
  · apply debugUnlockBody_keeps
    assumption

theorem execDeepAfterExpiry_keeps {s₀ s : State} (h : Keeps s₀ s) : KeepsR s₀ (execDeepAfterExpiry s) := by
  unfold execDeepAfterExpiry
  apply State.whenUp_keeps
  · assumption
  · extract_lets +onlyGivenNames y0
    clear_value y0
    apply State.listed_keeps
    · assumption
    · apply State.modPower_keeps
      apply Keeps.ite
      · apply State.beginEntry_keeps
        apply State.dataPathOn_keeps
        assumption
      · apply State.refuseEntry_keeps
        assumption

theorem execDieEraseDone_keeps {s₀ s : State} (h : Keeps s₀ s) (a1 a2) : KeepsR s₀ (execDieEraseDone a1 a2 s) := by
  unfold execDieEraseDone
  apply State.listed_keeps
  · assumption
  · apply State.modRemoval_keeps
    apply State.endDieErase_keeps
    assumption

theorem execDisciplineLoss_keeps {s₀ s : State} (h : Keeps s₀ s) : KeepsR s₀ (execDisciplineLoss s) := by
  unfold execDisciplineLoss
  apply State.listed_keeps
  · assumption
  · apply Keeps.foldl
    · intro x0 x1 x2
      apply State.modPort_keeps
      assumption
    · refine ⟨?_, ?_⟩
      · dsimp only
        apply Sys2Proof.Machine.Keeps.pending
        assumption
      · dsimp only
        apply Sys2Proof.Machine.Keeps.mem
        assumption

theorem execDrainSet_keeps {s₀ s : State} (h : Keeps s₀ s) (a1 a2) : KeepsR s₀ (execDrainSet a1 a2 s) := by
  unfold execDrainSet
  extract_lets +onlyGivenNames y0
  clear_value y0
  split
  · apply KeepsR.next
    apply State.unlisted_keeps
    assumption
  · split
    · apply State.listed_keeps
      · assumption
      · apply State.fabCheck_keeps
        apply State.runPod_keeps
        apply State.drawn_keeps
        apply State.modPod_keeps
        apply State.writeSet_keeps
        assumption
    · apply KeepsR.next
      apply State.unlisted_keeps
      assumption

theorem withUnit_keeps {s₀ : State} {r : Res} (ch u : Nat) (hr : KeepsR s₀ r) : KeepsR s₀ (withUnit ch u r) := KeepsR.ite hr (KeepsR.fault _)

theorem execDramRead_keeps {s₀ s : State} (h : Keeps s₀ s) (a1 a2 a3 a4 a5 a6 a7) : KeepsR s₀ (execDramRead a1 a2 a3 a4 a5 a6 a7 s) := by
  unfold execDramRead
  apply withUnit_keeps
  apply KeepsR.ite
  · apply KeepsR.next
    apply State.unlisted_keeps
    assumption
  · apply KeepsR.ite
    · apply KeepsR.next
      apply State.discardXfer_keeps
      assumption
    · extract_lets +onlyGivenNames y0
      have h1 : Keeps s₀ y0.1 := by
        unfold y0
        apply Keeps.iteFst
        · dsimp only
          assumption
        · apply State.cacheAccess_keeps
          assumption
      clear_value y0
      extract_lets +onlyGivenNames y2
      clear_value y2
      apply KeepsR.ite
      · apply KeepsR.next
        apply State.modChan_keeps
        assumption
      · apply KeepsR.next
        apply State.modChan_keeps
        apply State.drainFor_keeps
        apply State.wakeChan_keeps
        assumption

theorem execDramSubQuota_keeps {s₀ s : State} (h : Keeps s₀ s) (a1 a2 a3 a4) : KeepsR s₀ (execDramSubQuota a1 a2 a3 a4 s) := by
  unfold execDramSubQuota
  apply bdpCmd_keeps
  · assumption
  · apply dramSubQuotaBody_keeps
    assumption

theorem execDramWrite_keeps {s₀ s : State} (h : Keeps s₀ s) (a1 a2 a3 a4) : KeepsR s₀ (execDramWrite a1 a2 a3 a4 s) := by
  unfold execDramWrite
  apply withUnit_keeps
  apply KeepsR.ite
  · apply KeepsR.next
    apply State.unlisted_keeps
    assumption
  · apply KeepsR.ite
    · apply KeepsR.next
      apply State.discardXfer_keeps
      assumption
    · apply KeepsR.ite
      · apply KeepsR.next
        apply State.lateWrite_keeps
        assumption
      · apply KeepsR.next
        apply State.acceptWrite_keeps
        assumption

theorem execEntryAbort_keeps {s₀ s : State} (h : Keeps s₀ s) (a1 a2 a3) : KeepsR s₀ (execEntryAbort a1 a2 a3 s) := by
  unfold execEntryAbort
  split
  · apply KeepsR.next
    apply State.unlisted_keeps
    assumption
  · apply State.listed_keeps
    · assumption
    · apply State.abortEntry_keeps
      assumption

theorem execEntryProgress_keeps {s₀ s : State} (h : Keeps s₀ s) : KeepsR s₀ (execEntryProgress s) := by
  unfold execEntryProgress
  apply State.whenUp_keeps
  · assumption
  · split
    · apply KeepsR.next
      apply State.unlisted_keeps
      assumption
    · apply State.listed_keeps
      · assumption
      · apply State.advanceEntry_keeps
        assumption

theorem execEnvelope_keeps {s₀ s : State} (h : Keeps s₀ s) (a1 a2 a3) : KeepsR s₀ (execEnvelope a1 a2 a3 s) := by
  unfold execEnvelope
  apply bdpCmd_keeps
  · assumption
  · apply envelopeBody_keeps
    assumption

theorem execEraseDone_keeps {s₀ s : State} (h : Keeps s₀ s) (a1) : KeepsR s₀ (execEraseDone a1 s) := by
  unfold execEraseDone
  apply State.listed_keeps
  · assumption
  · apply State.eraseDone_keeps
    assumption

theorem execEventSubscribe_keeps {s₀ s : State} (h : Keeps s₀ s) (a1 a2) : KeepsR s₀ (execEventSubscribe a1 a2 s) := by
  unfold execEventSubscribe
  apply bdpCmd_keeps
  · assumption
  · apply subscribeBody_keeps
    assumption

theorem execExpanderSelftestEnd_keeps {s₀ s : State} (h : Keeps s₀ s) (a1) : KeepsR s₀ (execExpanderSelftestEnd a1 s) := by
  unfold execExpanderSelftestEnd
  extract_lets +onlyGivenNames y0
  clear_value y0
  apply State.listed_keeps
  · assumption
  · apply Keeps.foldl
    · intro x1 x2 x3
      apply State.raise_keeps
      assumption
    · refine ⟨?_, ?_⟩
      · dsimp only
        apply Sys2Proof.Machine.Keeps.pending
        assumption
      · dsimp only
        apply Sys2Proof.Machine.Keeps.mem
        assumption

theorem execExpertRebalanceCheck_keeps {s₀ s : State} (h : Keeps s₀ s) (a1 a2 a3) : KeepsR s₀ (execExpertRebalanceCheck a1 a2 a3 s) := by
  unfold execExpertRebalanceCheck
  apply State.whenUp_keeps
  · assumption
  · apply State.listed_keeps
    · assumption
    · apply State.expertCheck_keeps
      assumption

theorem execExtest_keeps {s₀ s : State} (h : Keeps s₀ s) (a1) : KeepsR s₀ (execExtest a1 s) := by
  unfold execExtest
  apply KeepsR.next
  apply Keeps.ite
  · extract_lets +onlyGivenNames y0
    have h1 : Keeps s₀ y0 := by
      unfold y0
      apply State.select_keeps
      assumption
    clear_value y0
    refine ⟨?_, ?_⟩
    · dsimp only
      apply Sys2Proof.Machine.Keeps.pending
      assumption
    · dsimp only
      apply Sys2Proof.Machine.Keeps.mem
      assumption
  · apply State.select_keeps
    assumption

theorem execFactoryReset_keeps {s₀ s : State} (h : Keeps s₀ s) (a1 a2) : KeepsR s₀ (execFactoryReset a1 a2 s) := by
  unfold execFactoryReset
  apply bdpCmd_keeps
  · assumption
  · apply factoryResetBody_keeps
    assumption

theorem execFatalReset_keeps {s₀ s : State} (h : Keeps s₀ s) : KeepsR s₀ (execFatalReset s) := by
  unfold execFatalReset
  apply State.listed_keeps
  · assumption
  · apply State.toReset_keeps
    apply State.count_keeps
    assumption

theorem execFattn_keeps {s₀ s : State} (h : Keeps s₀ s) (a1) : KeepsR s₀ (execFattn a1 s) := by
  unfold execFattn
  split
  · apply KeepsR.next
    apply State.unlisted_keeps
    assumption
  · split
    · apply KeepsR.ite
      · extract_lets +onlyGivenNames y0
        clear_value y0
        extract_lets +onlyGivenNames y1
        clear_value y1
        apply State.withPlaces_keeps
        apply KeepsR.next
        apply State.runPod_keeps
        apply State.meetBlocks_keeps
        apply State.holdPages_keeps
        apply State.joinPod_keeps
        apply State.startOp_keeps
        assumption
      · apply KeepsR.next
        apply State.unlisted_keeps
        assumption
    · apply KeepsR.next
      apply State.unlisted_keeps
      assumption

theorem execFaultAck_keeps {s₀ s : State} (h : Keeps s₀ s) (a1 a2) : KeepsR s₀ (execFaultAck a1 a2 s) := by
  unfold execFaultAck
  apply bdpCmd_keeps
  · assumption
  · apply faultAckBody_keeps
    assumption

theorem execFgemm_keeps {s₀ s : State} (h : Keeps s₀ s) (a1) : KeepsR s₀ (execFgemm a1 s) := by
  unfold execFgemm
  split
  · apply KeepsR.next
    apply State.unlisted_keeps
    assumption
  · split
    · apply KeepsR.ite
      · apply State.withPlaces_keeps
        apply KeepsR.next
        apply State.fabCheck_keeps
        apply State.runPod_keeps
        apply State.meetBlocks_keeps
        apply State.joinPod_keeps
        apply State.startOp_keeps
        assumption
      · apply KeepsR.next
        apply State.unlisted_keeps
        assumption
    · apply KeepsR.next
      apply State.unlisted_keeps
      assumption

theorem execFrameReceive_keeps {s₀ s : State} (h : Keeps s₀ s) (a1 a2) : KeepsR s₀ (execFrameReceive a1 a2 s) := by
  unfold execFrameReceive
  apply KeepsR.ite
  · apply KeepsR.ite
    · apply KeepsR.next
      apply State.count_keeps
      assumption
    · apply KeepsR.ite
      · apply KeepsR.next
        apply Keeps.ite
        · assumption
        · apply State.count_keeps
          assumption
      · extract_lets +onlyGivenNames y0
        have h1 : Keeps s₀ y0 := by
          unfold y0
          apply State.macsecSeen_keeps
          assumption
        clear_value y0
        apply KeepsR.ite
        · apply KeepsR.next
          apply State.count_keeps
          assumption
        · apply KeepsR.next
          apply State.frameWake_keeps
          apply State.bufferFrame_keeps
          assumption
  · apply KeepsR.next
    apply State.unlisted_keeps
    assumption

theorem execFrameTransmit_keeps {s₀ s : State} (h : Keeps s₀ s) (a1) : KeepsR s₀ (execFrameTransmit a1 s) := by
  unfold execFrameTransmit
  apply KeepsR.ite
  · split
    · split
      · apply KeepsR.next
        apply State.modPort_keeps
        apply State.sentFrame_keeps
        assumption
      · apply State.listed_keeps
        · assumption
        · apply State.sentFrame_keeps
          assumption
    · split
      · apply KeepsR.next
        apply State.unlisted_keeps
        assumption
      · apply KeepsR.next
        apply Keeps.ite
        · apply State.modPort_keeps
          assumption
        · apply State.sentFrame_keeps
          assumption
  · apply KeepsR.next
    apply State.unlisted_keeps
    assumption

theorem execFwActivateReset_keeps {s₀ s : State} (h : Keeps s₀ s) (a1) : KeepsR s₀ (execFwActivateReset a1 s) := by
  unfold execFwActivateReset
  apply bdpCmd_keeps
  · assumption
  · apply fwResetBody_keeps
    assumption

theorem execFwActivateRolling_keeps {s₀ s : State} (h : Keeps s₀ s) (a1) : KeepsR s₀ (execFwActivateRolling a1 s) := by
  unfold execFwActivateRolling
  apply bdpCmd_keeps
  · assumption
  · apply fwRollingBody_keeps
    assumption

theorem execFwBegin_keeps {s₀ s : State} (h : Keeps s₀ s) (a1 a2) : KeepsR s₀ (execFwBegin a1 a2 s) := by
  unfold execFwBegin
  apply bdpCmd_keeps
  · assumption
  · apply fwBeginBody_keeps
    assumption

theorem execFwCommit_keeps {s₀ s : State} (h : Keeps s₀ s) (a1) : KeepsR s₀ (execFwCommit a1 s) := by
  unfold execFwCommit
  apply bdpCmd_keeps
  · assumption
  · apply fwCommitBody_keeps
    assumption

theorem execFwData_keeps {s₀ s : State} (h : Keeps s₀ s) (a1 a2 a3) : KeepsR s₀ (execFwData a1 a2 a3 s) := by
  unfold execFwData
  apply bdpCmd_keeps
  · assumption
  · apply fwDataBody_keeps
    assumption

theorem execFwEnd_keeps {s₀ s : State} (h : Keeps s₀ s) (a1 a2 a3) : KeepsR s₀ (execFwEnd a1 a2 a3 s) := by
  unfold execFwEnd
  apply bdpCmd_keeps
  · assumption
  · apply fwEndBody_keeps
    assumption

theorem execFwRevert_keeps {s₀ s : State} (h : Keeps s₀ s) (a1) : KeepsR s₀ (execFwRevert a1 s) := by
  unfold execFwRevert
  apply bdpCmd_keeps
  · assumption
  · apply fwRevertBody_keeps
    assumption

theorem execFwTrialWindowEnd_keeps {s₀ s : State} (h : Keeps s₀ s) : KeepsR s₀ (execFwTrialWindowEnd s) := by
  unfold execFwTrialWindowEnd
  apply State.listed_keeps
  · assumption
  · apply State.modCtl_keeps
    assumption

theorem execGcl_keeps {s₀ s : State} (h : Keeps s₀ s) (a1 a2 a3 a4) : KeepsR s₀ (execGcl a1 a2 a3 a4 s) := by
  unfold execGcl
  apply bdpCmd_keeps
  · assumption
  · apply gclBody_keeps
    assumption

theorem execGclSwitch_keeps {s₀ s : State} (h : Keeps s₀ s) (a1) : KeepsR s₀ (execGclSwitch a1 s) := by
  unfold execGclSwitch
  split
  · apply KeepsR.next
    apply State.unlisted_keeps
    assumption
  · apply State.listed_keeps
    · assumption
    · apply State.modPort_keeps
      assumption

theorem execGptpSync_keeps {s₀ s : State} (h : Keeps s₀ s) (a1 a2 a3 a4) : KeepsR s₀ (execGptpSync a1 a2 a3 a4 s) := by
  unfold execGptpSync
  apply State.whenUp_keeps
  · assumption
  · apply KeepsR.ite
    · extract_lets +onlyGivenNames y0
      have h1 : Keeps s₀ y0 := by
        unfold y0
        apply State.modPort_keeps
        assumption
      clear_value y0
      apply KeepsR.ite
      · extract_lets +onlyGivenNames y2
        have h3 : Keeps s₀ y2 := by
          unfold y2
          apply State.discipline_keeps
          assumption
        clear_value y2
        apply KeepsR.next
        split
        · apply State.setStored_keeps
          assumption
        · assumption
      · apply KeepsR.next
        assumption
    · apply KeepsR.next
      apply State.unlisted_keeps
      assumption

theorem execGraceExpiry_keeps {s₀ s : State} (h : Keeps s₀ s) : KeepsR s₀ (execGraceExpiry s) := by
  unfold execGraceExpiry
  apply State.listed_keeps
  · assumption
  · apply State.enterUnattended_keeps
    assumption

theorem execGrantRecompute_keeps {s₀ s : State} (h : Keeps s₀ s) : KeepsR s₀ (execGrantRecompute s) := by
  unfold execGrantRecompute
  apply State.listed_keeps
  · assumption
  · refine ⟨?_, ?_⟩
    · dsimp only
      apply Sys2Proof.Machine.Keeps.pending
      assumption
    · dsimp only
      apply Sys2Proof.Machine.Keeps.mem
      assumption

theorem execGroupInstantiate_keeps {s₀ s : State} (h : Keeps s₀ s) (a1) : KeepsR s₀ (execGroupInstantiate a1 s) := by
  unfold execGroupInstantiate
  apply State.whenUp_keeps
  · assumption
  · split
    · apply KeepsR.next
      apply State.unlisted_keeps
      assumption
    · split
      · apply KeepsR.next
        apply State.unlisted_keeps
        assumption
      · apply KeepsR.ite
        · extract_lets +onlyGivenNames y0
          have h1 : Keeps s₀ y0.1 := by
            unfold y0
            apply State.reserveScratch_keeps
            assumption
          clear_value y0
          apply KeepsR.next
          apply Keeps.ite
          · apply State.lateWaits_keeps
            apply State.writeBatch_keeps
            assumption
          · assumption
        · apply KeepsR.next
          apply State.unlisted_keeps
          assumption

theorem execHandshakeDeadline_keeps {s₀ s : State} (h : Keeps s₀ s) (a1) : KeepsR s₀ (execHandshakeDeadline a1 s) := by
  unfold execHandshakeDeadline
  apply State.whenUp_keeps
  · assumption
  · split
    · apply KeepsR.next
      apply State.unlisted_keeps
      assumption
    · apply State.listed_keeps
      · assumption
      · apply State.failHandshake_keeps
        assumption

theorem execHandshakeJobStart_keeps {s₀ s : State} (h : Keeps s₀ s) (a1) : KeepsR s₀ (execHandshakeJobStart a1 s) := by
  unfold execHandshakeJobStart
  apply State.whenUp_keeps
  · assumption
  · split
    · apply KeepsR.next
      apply State.unlisted_keeps
      assumption
    · apply KeepsR.ite
      · apply KeepsR.next
        apply State.unlisted_keeps
        assumption
      · extract_lets +onlyGivenNames y0
        clear_value y0
        extract_lets +onlyGivenNames y1
        clear_value y1
        extract_lets +onlyGivenNames y2
        have h3 : Keeps s₀ y2.2 := by
          unfold y2
          apply State.trng_keeps
          apply State.drawn_keeps
          assumption
        clear_value y2
        extract_lets +onlyGivenNames y4
        have h5 : Keeps s₀ y4 := by
          unfold y4
          assumption
        clear_value y4
        extract_lets +onlyGivenNames y6
        clear_value y6
        extract_lets +onlyGivenNames y7
        clear_value y7
        extract_lets +onlyGivenNames y8
        clear_value y8
        extract_lets +onlyGivenNames y9
        clear_value y9
        extract_lets +onlyGivenNames y10
        have h11 : Keeps s₀ y10 := by
          unfold y10
          refine ⟨?_, ?_⟩
          · dsimp only
            apply Sys2Proof.Machine.Keeps.pending
            assumption
          · dsimp only
            apply Sys2Proof.Machine.Keeps.mem
            assumption
        clear_value y10
        extract_lets +onlyGivenNames y12
        have h13 : Keeps s₀ y12 := by
          unfold y12
          apply State.modConn_keeps
          assumption
        clear_value y12
        apply KeepsR.next
        apply State.count_keeps
        apply State.send_keeps
        assumption

theorem execIdcode_keeps {s₀ s : State} (h : Keeps s₀ s) : KeepsR s₀ (execIdcode s) := by
  unfold execIdcode
  apply KeepsR.next
  extract_lets +onlyGivenNames y0
  have h1 : Keeps s₀ y0 := by
    unfold y0
    apply State.select_keeps
    assumption
  clear_value y0
  refine ⟨?_, ?_⟩
  · dsimp only
    apply Sys2Proof.Machine.Keeps.pending
    assumption
  · dsimp only
    apply Sys2Proof.Machine.Keeps.mem
    assumption

theorem execIdleClose_keeps {s₀ s : State} (h : Keeps s₀ s) (a1) : KeepsR s₀ (execIdleClose a1 s) := by
  unfold execIdleClose
  apply State.whenUp_keeps
  · assumption
  · extract_lets +onlyGivenNames y0
    clear_value y0
    apply State.listed_keeps
    · assumption
    · apply State.closeSess_keeps
      assumption

theorem execIdleEntry_keeps {s₀ s : State} (h : Keeps s₀ s) : KeepsR s₀ (execIdleEntry s) := by
  unfold execIdleEntry
  apply State.whenUp_keeps
  · assumption
  · apply State.listed_keeps
    · assumption
    · apply State.notePower_keeps
      apply State.count_keeps
      apply State.modPower_keeps
      assumption

theorem execIdleExit_keeps {s₀ s : State} (h : Keeps s₀ s) : KeepsR s₀ (execIdleExit s) := by
  unfold execIdleExit
  apply State.listed_keeps
  · assumption
  · apply State.beginReturn_keeps
    assumption

theorem execInstall_keeps {s₀ s : State} (h : Keeps s₀ s) (a1 a2 a3) : KeepsR s₀ (execInstall a1 a2 a3 s) := by
  unfold execInstall
  apply bdpCmd_keeps
  · assumption
  · apply installBody_keeps
    assumption

theorem execInstallReady_keeps {s₀ s : State} (h : Keeps s₀ s) (a1 a2) : KeepsR s₀ (execInstallReady a1 a2 s) := by
  unfold execInstallReady
  apply State.whenUp_keeps
  · assumption
  · apply State.listed_keeps
    · assumption
    · apply State.noteSlots_keeps
      apply State.finish_keeps
      apply State.raise_keeps
      apply State.tcount_keeps
      apply State.modSlot_keeps
      apply State.buildTables_keeps
      assumption

theorem execKeyShare_keeps {s₀ s : State} (h : Keeps s₀ s) (a1 a2) : KeepsR s₀ (execKeyShare a1 a2 s) := by
  unfold execKeyShare
  apply State.whenUp_keeps
  · assumption
  · split
    · apply KeepsR.next
      apply State.unlisted_keeps
      assumption
    · apply KeepsR.ite
      · apply KeepsR.next
        apply State.unlisted_keeps
        assumption
      · apply KeepsR.ite
        · apply KeepsR.next
          apply State.answerResv_keeps
          assumption
        · apply KeepsR.ite
          · apply KeepsR.next
            apply State.failHandshake_keeps
            assumption
          · extract_lets +onlyGivenNames y0
            have h1 : Keeps s₀ y0 := by
              unfold y0
              apply Keeps.ite
              · apply State.inbound_keeps
                assumption
              · assumption
            clear_value y0
            extract_lets +onlyGivenNames y2
            clear_value y2
            apply KeepsR.next
            apply State.modConn_keeps
            assumption

theorem execKeyZeroise_keeps {s₀ s : State} (h : Keeps s₀ s) (a1) : KeepsR s₀ (execKeyZeroise a1 s) := by
  unfold execKeyZeroise
  apply State.listed_keeps
  · assumption
  · extract_lets +onlyGivenNames y0
    have h1 : Keeps s₀ y0 := by
      unfold y0
      apply State.modKeySlot_keeps
      assumption
    clear_value y0
    split
    · apply Keeps.ite
      · apply State.beginScrub_keeps
        assumption
      · assumption
    · assumption

theorem execKvPreempt_keeps {s₀ s : State} (h : Keeps s₀ s) (a1) : KeepsR s₀ (execKvPreempt a1 s) := by
  unfold execKvPreempt
  apply State.whenUp_keeps
  · assumption
  · apply KeepsR.ite
    · split
      · apply KeepsR.next
        apply State.unlisted_keeps
        assumption
      · apply KeepsR.next
        apply State.modSession_keeps
        apply State.tcount_keeps
        apply State.makeCold_keeps
        apply State.leaveRun_keeps
        assumption
    · apply KeepsR.next
      apply State.unlisted_keeps
      assumption

theorem execKvPromote_keeps {s₀ s : State} (h : Keeps s₀ s) (a1 a2 a3) : KeepsR s₀ (execKvPromote a1 a2 a3 s) := by
  unfold execKvPromote
  apply State.whenUp_keeps
  · assumption
  · split
    · apply KeepsR.next
      apply State.unlisted_keeps
      assumption
    · apply State.listed_keeps
      · assumption
      · apply State.setPage_keeps
        assumption

theorem execKvflush_keeps {s₀ s : State} (h : Keeps s₀ s) (a1) : KeepsR s₀ (execKvflush a1 s) := by
  unfold execKvflush
  split
  · apply KeepsR.next
    apply State.unlisted_keeps
    assumption
  · extract_lets +onlyGivenNames y0
    clear_value y0
    extract_lets +onlyGivenNames y1
    clear_value y1
    extract_lets +onlyGivenNames y2
    clear_value y2
    apply State.listed_keeps
    · assumption
    · apply State.workDone_keeps
      apply State.startOp_keeps
      apply State.modStagingOf_keeps
      apply State.setPage_keeps
      assumption

theorem execKvscat_keeps {s₀ s : State} (h : Keeps s₀ s) (a1) : KeepsR s₀ (execKvscat a1 s) := by
  unfold execKvscat
  split
  · apply KeepsR.next
    apply State.unlisted_keeps
    assumption
  · split
    · apply KeepsR.ite
      · apply KeepsR.next
        apply State.unlisted_keeps
        assumption
      · apply State.withPlaces_keeps
        apply KeepsR.next
        apply State.scatLoop_keeps
        apply State.scatBegin_keeps
        assumption
    · apply KeepsR.next
      apply State.unlisted_keeps
      assumption

theorem execLeaseClaim_keeps {s₀ s : State} (h : Keeps s₀ s) (a1) : KeepsR s₀ (execLeaseClaim a1 s) := by
  unfold execLeaseClaim
  apply bdpCmd_keeps
  · assumption
  · apply leaseClaimBody_keeps
    assumption

theorem execLeaseExpiry_keeps {s₀ s : State} (h : Keeps s₀ s) : KeepsR s₀ (execLeaseExpiry s) := by
  unfold execLeaseExpiry
  apply State.listed_keeps
  · assumption
  · apply State.raise_keeps
    apply State.count_keeps
    apply State.modLease_keeps
    assumption

theorem execLeaseRelease_keeps {s₀ s : State} (h : Keeps s₀ s) (a1 a2) : KeepsR s₀ (execLeaseRelease a1 a2 s) := by
  unfold execLeaseRelease
  apply bdpCmd_keeps
  · assumption
  · apply leaseReleaseBody_keeps
    assumption

theorem execLeaseRenew_keeps {s₀ s : State} (h : Keeps s₀ s) (a1 a2) : KeepsR s₀ (execLeaseRenew a1 a2 s) := by
  unfold execLeaseRenew
  apply bdpCmd_keeps
  · assumption
  · apply leaseRenewBody_keeps
    assumption

theorem execLinkDown_keeps {s₀ s : State} (h : Keeps s₀ s) (a1) : KeepsR s₀ (execLinkDown a1 s) := by
  unfold execLinkDown
  apply State.listed_keeps
  · assumption
  · apply State.linkLoss_keeps
    assumption

theorem execLinkUp_keeps {s₀ s : State} (h : Keeps s₀ s) (a1 a2 a3 a4) : KeepsR s₀ (execLinkUp a1 a2 a3 a4 s) := by
  unfold execLinkUp
  apply State.listed_keeps
  · assumption
  · extract_lets +onlyGivenNames y0
    clear_value y0
    apply State.modPort_keeps
    assumption

theorem execMacMergeVerified_keeps {s₀ s : State} (h : Keeps s₀ s) (a1) : KeepsR s₀ (execMacMergeVerified a1 s) := by
  unfold execMacMergeVerified
  apply State.listed_keeps
  · assumption
  · apply State.modPort_keeps
    assumption

theorem execMedia_keeps {s₀ s : State} (h : Keeps s₀ s) (a1 a2 a3) : KeepsR s₀ (execMedia a1 a2 a3 s) := by
  unfold execMedia
  apply bdpCmd_keeps
  · assumption
  · apply mediaBody_keeps
    assumption

theorem execMirrorConsent_keeps {s₀ s : State} (h : Keeps s₀ s) (a1 a2 a3) : KeepsR s₀ (execMirrorConsent a1 a2 a3 s) := by
  unfold execMirrorConsent
  apply bdpCmd_keeps
  · assumption
  · apply mirrorConsentBody_keeps
    assumption

theorem execMirrorFlush_keeps {s₀ s : State} (h : Keeps s₀ s) (a1 a2) : KeepsR s₀ (execMirrorFlush a1 a2 s) := by
  unfold execMirrorFlush
  apply bdpCmd_keeps
  · assumption
  · apply mirrorFlushBody_keeps
    assumption

theorem execMirrorGet_keeps {s₀ s : State} (h : Keeps s₀ s) (a1 a2 a3 a4 a5 a6) : KeepsR s₀ (execMirrorGet a1 a2 a3 a4 a5 a6 s) := by
  unfold execMirrorGet
  apply State.whenUp_keeps
  · assumption
  · split
    · apply KeepsR.next
      apply State.unlisted_keeps
      assumption
    · extract_lets +onlyGivenNames y0
      clear_value y0
      apply State.listed_keeps
      · assumption
      · apply State.send_keeps
        assumption

theorem execMirrorKey_keeps {s₀ s : State} (h : Keeps s₀ s) (a1 a2 a3) : KeepsR s₀ (execMirrorKey a1 a2 a3 s) := by
  unfold execMirrorKey
  apply bdpCmd_keeps
  · assumption
  · apply mirrorKeyBody_keeps
    assumption

theorem execMirrorPowerRecord_keeps {s₀ s : State} (h : Keeps s₀ s) (a1) : KeepsR s₀ (execMirrorPowerRecord a1 s) := by
  unfold execMirrorPowerRecord
  apply State.whenUp_keeps
  · assumption
  · apply State.listed_keeps
    · assumption
    · apply State.capture_keeps
      assumption

theorem execMirrorTimeRecord_keeps {s₀ s : State} (h : Keeps s₀ s) (a1) : KeepsR s₀ (execMirrorTimeRecord a1 s) := by
  unfold execMirrorTimeRecord
  apply State.whenUp_keeps
  · assumption
  · apply State.listed_keeps
    · assumption
    · apply State.noteTime_keeps
      assumption

theorem execMkaHello_keeps {s₀ s : State} (h : Keeps s₀ s) (a1 a2) : KeepsR s₀ (execMkaHello a1 a2 s) := by
  unfold execMkaHello
  extract_lets +onlyGivenNames y0
  clear_value y0
  extract_lets +onlyGivenNames y1
  clear_value y1
  apply State.listed_keeps
  · assumption
  · apply Keeps.ite
    · apply State.modPort_keeps
      assumption
    · assumption

theorem execMkaPeerLost_keeps {s₀ s : State} (h : Keeps s₀ s) (a1) : KeepsR s₀ (execMkaPeerLost a1 s) := by
  unfold execMkaPeerLost
  apply State.listed_keeps
  · assumption
  · extract_lets +onlyGivenNames y0
    have h1 : Keeps s₀ y0 := by
      unfold y0
      apply State.modPort_keeps
      assumption
    clear_value y0
    apply Keeps.ite
    · apply State.raise_keeps
      assumption
    · assumption

theorem execModelReloadDone_keeps {s₀ s : State} (h : Keeps s₀ s) (a1 a2) : KeepsR s₀ (execModelReloadDone a1 a2 s) := by
  unfold execModelReloadDone
  apply State.whenUp_keeps
  · assumption
  · extract_lets +onlyGivenNames y0
    clear_value y0
    extract_lets +onlyGivenNames y1
    have h2 : Keeps s₀ y1 := by
      unfold y1
      apply State.reload_keeps
      assumption
    clear_value y1
    extract_lets +onlyGivenNames y3
    have h4 : Keeps s₀ y3 := by
      unfold y3
      apply Keeps.ite
      · apply Keeps.ite
        · apply State.reload_keeps
          assumption
        · apply State.reload_keeps
          assumption
      · assumption
    clear_value y3
    apply State.listed_keeps
    · assumption
    · apply State.modSlot_keeps
      apply State.reloadAdapters_keeps
      apply State.buildTables_keeps
      assumption

theorem execMoveOp_keeps {s₀ s : State} (h : Keeps s₀ s) (a1) : KeepsR s₀ (execMoveOp a1 s) := by
  unfold execMoveOp
  split
  · apply KeepsR.next
    apply State.unlisted_keeps
    assumption
  · split
    · extract_lets +onlyGivenNames y0
      clear_value y0
      apply State.withPlaces_keeps
      apply KeepsR.next
      apply State.workDone_keeps
      apply State.moveTable_keeps
      apply State.moveTiles_keeps
      apply State.startOp_keeps
      assumption
    · apply KeepsR.next
      apply State.unlisted_keeps
      assumption

theorem execMvmComplete_keeps {s₀ s : State} (h : Keeps s₀ s) (a1) : KeepsR s₀ (execMvmComplete a1 s) := by
  unfold execMvmComplete
  split
  · apply KeepsR.next
    apply State.unlisted_keeps
    assumption
  · apply State.listed_keeps
    · assumption
    · apply State.drawn_keeps
      apply State.endMvm_keeps
      apply State.countMvm_keeps
      apply State.dropSlot_keeps
      assumption

theorem execMvmResume_keeps {s₀ s : State} (h : Keeps s₀ s) (a1) : KeepsR s₀ (execMvmResume a1 s) := by
  unfold execMvmResume
  split
  · apply KeepsR.next
    apply State.unlisted_keeps
    assumption
  · extract_lets +onlyGivenNames y0
    clear_value y0
    apply State.listed_keeps
    · assumption
    · apply State.modArray_keeps
      apply State.takeSlot_keeps
      assumption

theorem execMvmSuspend_keeps {s₀ s : State} (h : Keeps s₀ s) (a1) : KeepsR s₀ (execMvmSuspend a1 s) := by
  unfold execMvmSuspend
  split
  · apply KeepsR.next
    apply State.unlisted_keeps
    assumption
  · apply KeepsR.ite
    · apply State.listed_keeps
      · assumption
      · apply State.drawn_keeps
        apply State.suspend_keeps
        apply State.dropSlot_keeps
        assumption
    · apply State.listed_keeps
      · assumption
      · apply State.suspend_keeps
        assumption

theorem execOpComplete_keeps {s₀ s : State} (h : Keeps s₀ s) (a1 a2) : KeepsR s₀ (execOpComplete a1 a2 s) := by
  unfold execOpComplete
  split
  · apply KeepsR.next
    apply State.unlisted_keeps
    assumption
  · apply State.listed_keeps
    · assumption
    · apply State.lateWaits_keeps
      apply State.complete_keeps
      assumption

theorem execOpDispatch_keeps {s₀ s : State} (h : Keeps s₀ s) (a1) : KeepsR s₀ (execOpDispatch a1 s) := by
  unfold execOpDispatch
  split
  · apply KeepsR.next
    apply State.unlisted_keeps
    assumption
  · split
    · apply KeepsR.next
      apply State.unlisted_keeps
      assumption
    · apply State.listed_keeps
      · assumption
      · apply State.noteStart_keeps
        apply State.modCredit_keeps
        apply State.setOp_keeps
        assumption

theorem execOpTimeout_keeps {s₀ s : State} (h : Keeps s₀ s) (a1) : KeepsR s₀ (execOpTimeout a1 s) := by
  unfold execOpTimeout
  split
  · apply KeepsR.next
    apply State.unlisted_keeps
    assumption
  · apply State.listed_keeps
    · assumption
    · apply State.raise_keeps
      apply State.stopOp_keeps
      assumption

theorem execOpenSession_keeps {s₀ s : State} (h : Keeps s₀ s) (a1 a2 a3 a4 a5 a6 a7) : KeepsR s₀ (execOpenSession a1 a2 a3 a4 a5 a6 a7 s) := by
  unfold execOpenSession
  apply State.whenUp_keeps
  · assumption
  · split
    · apply KeepsR.next
      apply State.unlisted_keeps
      assumption
    · apply KeepsR.next
      apply State.takeOpen_keeps
      assumption

theorem execOutputBufferDrain_keeps {s₀ s : State} (h : Keeps s₀ s) (a1 a2) : KeepsR s₀ (execOutputBufferDrain a1 a2 s) := by
  unfold execOutputBufferDrain
  apply State.whenUp_keeps
  · assumption
  · split
    · apply KeepsR.next
      apply State.unlisted_keeps
      assumption
    · extract_lets +onlyGivenNames y0
      clear_value y0
      apply State.listed_keeps
      · assumption
      · apply Keeps.ite
        · apply State.closeConn_keeps
          assumption
        · apply State.modConn_keeps
          assumption

theorem execPageMoveStart_keeps {s₀ s : State} (h : Keeps s₀ s) (a1 a2) : KeepsR s₀ (execPageMoveStart a1 a2 s) := by
  unfold execPageMoveStart
  apply State.whenUp_keeps
  · assumption
  · split
    · apply KeepsR.next
      apply State.unlisted_keeps
      assumption
    · apply State.listed_keeps
      · assumption
      · apply State.setPage_keeps
        assumption

theorem execPageMoveSwitch_keeps {s₀ s : State} (h : Keeps s₀ s) (a1) : KeepsR s₀ (execPageMoveSwitch a1 s) := by
  unfold execPageMoveSwitch
  apply State.whenUp_keeps
  · assumption
  · split
    · apply KeepsR.next
      apply State.unlisted_keeps
      assumption
    · split
      · apply KeepsR.next
        apply State.unlisted_keeps
        assumption
      · extract_lets +onlyGivenNames y0
        clear_value y0
        extract_lets +onlyGivenNames y1
        have h2 : Keeps s₀ y1 := by
          unfold y1
          refine ⟨?_, ?_⟩
          · dsimp only
            apply Sys2Proof.Machine.Keeps.pending
            assumption
          · dsimp only
            apply Sys2Proof.Machine.Keeps.mem
            assumption
        clear_value y1
        extract_lets +onlyGivenNames y3
        have h4 : Keeps s₀ y3 := by
          unfold y3
          apply State.setPage_keeps
          assumption
        clear_value y3
        apply KeepsR.next
        apply State.queueFlush_keeps
        apply State.countMove_keeps
        assumption

theorem execPageSourceRelease_keeps {s₀ s : State} (h : Keeps s₀ s) (a1) : KeepsR s₀ (execPageSourceRelease a1 s) := by
  unfold execPageSourceRelease
  split
  · apply KeepsR.next
    apply State.unlisted_keeps
    assumption
  · apply State.listed_keeps
    · assumption
    · apply State.setPage_keeps
      assumption

theorem execPatrolScrub_keeps {s₀ s : State} (h : Keeps s₀ s) (a1 a2) : KeepsR s₀ (execPatrolScrub a1 a2 s) := by
  unfold execPatrolScrub
  extract_lets +onlyGivenNames y0
  clear_value y0
  extract_lets +onlyGivenNames y1
  clear_value y1
  apply State.listed_keeps
  · assumption
  · extract_lets +onlyGivenNames y2
    have h3 : Keeps s₀ y2 := by
      unfold y2
      apply State.count_keeps
      apply State.modChan_keeps
      assumption
    clear_value y2
    split
    · assumption
    · apply State.count_keeps
      assumption
    · apply State.raise_keeps
      apply State.count_keeps
      assumption

theorem execPeerDelay_keeps {s₀ s : State} (h : Keeps s₀ s) (a1 a2) : KeepsR s₀ (execPeerDelay a1 a2 s) := by
  unfold execPeerDelay
  apply State.listed_keeps
  · assumption
  · apply State.modPort_keeps
    assumption

theorem execPing_keeps {s₀ s : State} (h : Keeps s₀ s) (a1 a2 a3) : KeepsR s₀ (execPing a1 a2 a3 s) := by
  unfold execPing
  apply State.whenUp_keeps
  · assumption
  · apply State.listed_keeps
    · assumption
    · apply Keeps.ite
      · apply State.replyStatus_keeps
        assumption
      · apply State.reply_keeps
        assumption

theorem execPlcaBeacon_keeps {s₀ s : State} (h : Keeps s₀ s) (a1) : KeepsR s₀ (execPlcaBeacon a1 s) := by
  unfold execPlcaBeacon
  extract_lets +onlyGivenNames y0
  clear_value y0
  apply State.listed_keeps
  · assumption
  · apply State.modPort_keeps
    assumption

theorem execPodIdle_keeps {s₀ s : State} (h : Keeps s₀ s) (a1) : KeepsR s₀ (execPodIdle a1 s) := by
  unfold execPodIdle
  extract_lets +onlyGivenNames y0
  clear_value y0
  apply State.listed_keeps
  · assumption
  · apply State.modPod_keeps
    assumption

theorem execPortEnable_keeps {s₀ s : State} (h : Keeps s₀ s) (a1 a2 a3) : KeepsR s₀ (execPortEnable a1 a2 a3 s) := by
  unfold execPortEnable
  apply bdpCmd_keeps
  · assumption
  · apply portEnableBody_keeps
    assumption

theorem execPowerRequestDeepSleep_keeps {s₀ s : State} (h : Keeps s₀ s) (a1) : KeepsR s₀ (execPowerRequestDeepSleep a1 s) := by
  unfold execPowerRequestDeepSleep
  apply bdpCmd_keeps
  · assumption
  · apply powerRequestBody_keeps
    assumption

theorem execPowerRequestOff_keeps {s₀ s : State} (h : Keeps s₀ s) (a1) : KeepsR s₀ (execPowerRequestOff a1 s) := by
  unfold execPowerRequestOff
  apply bdpCmd_keeps
  · assumption
  · apply powerRequestBody_keeps
    assumption

theorem execPowerRequestRestartTimers_keeps {s₀ s : State} (h : Keeps s₀ s) (a1) : KeepsR s₀ (execPowerRequestRestartTimers a1 s) := by
  unfold execPowerRequestRestartTimers
  apply bdpCmd_keeps
  · assumption
  · apply restartTimersBody_keeps
    assumption

theorem execPowerRequestSleep_keeps {s₀ s : State} (h : Keeps s₀ s) (a1) : KeepsR s₀ (execPowerRequestSleep a1 s) := by
  unfold execPowerRequestSleep
  apply bdpCmd_keeps
  · assumption
  · apply powerRequestBody_keeps
    assumption

theorem execPpsPulse_keeps {s₀ s : State} (h : Keeps s₀ s) : KeepsR s₀ (execPpsPulse s) := by
  unfold execPpsPulse
  extract_lets +onlyGivenNames y0
  clear_value y0
  apply State.listed_keeps
  · assumption
  · refine ⟨?_, ?_⟩
    · dsimp only
      apply Sys2Proof.Machine.Keeps.pending
      assumption
    · dsimp only
      apply Sys2Proof.Machine.Keeps.mem
      assumption

theorem execPrincipalKeyWrite_keeps {s₀ s : State} (h : Keeps s₀ s) (a1 a2 a3) : KeepsR s₀ (execPrincipalKeyWrite a1 a2 a3 s) := by
  unfold execPrincipalKeyWrite
  apply bdpCmd_keeps
  · assumption
  · apply keyBody_keeps
    assumption

theorem execProfileApply_keeps {s₀ s : State} (h : Keeps s₀ s) : KeepsR s₀ (execProfileApply s) := by
  unfold execProfileApply
  apply State.whenUp_keeps
  · assumption
  · split
    · apply KeepsR.next
      apply State.unlisted_keeps
      assumption
    · extract_lets +onlyGivenNames y0
      have h1 : Keeps s₀ y0 := by
        unfold y0
        apply State.applyProfile_keeps
        assumption
      clear_value y0
      extract_lets +onlyGivenNames y2
      clear_value y2
      extract_lets +onlyGivenNames y3
      have h4 : Keeps s₀ y3 := by
        unfold y3
        refine ⟨?_, ?_⟩
        · dsimp only
          apply Sys2Proof.Machine.Keeps.pending
          assumption
        · dsimp only
          apply Sys2Proof.Machine.Keeps.mem
          assumption
      clear_value y3
      apply State.listed_keeps
      · assumption
      · apply Keeps.ite
        · apply State.finish_keeps
          assumption
        · assumption

theorem execProfileEdit_keeps {s₀ s : State} (h : Keeps s₀ s) (a1 a2 a3) : KeepsR s₀ (execProfileEdit a1 a2 a3 s) := by
  unfold execProfileEdit
  apply txn_keeps
  · assumption
  · intro x0
    apply answerEdit_keeps
    assumption

theorem execProfileSelect_keeps {s₀ s : State} (h : Keeps s₀ s) (a1 a2) : KeepsR s₀ (execProfileSelect a1 a2 s) := by
  unfold execProfileSelect
  apply bdpCmd_keeps
  · assumption
  · apply profileSelectBody_keeps
    assumption

theorem execProgramDone_keeps {s₀ s : State} (h : Keeps s₀ s) (a1) : KeepsR s₀ (execProgramDone a1 s) := by
  unfold execProgramDone
  extract_lets +onlyGivenNames y0
  clear_value y0
  extract_lets +onlyGivenNames y1
  clear_value y1
  apply State.listed_keeps
  · assumption
  · apply State.modStratum_keeps
    assumption

theorem execQueueTimeout_keeps {s₀ s : State} (h : Keeps s₀ s) (a1 a2) : KeepsR s₀ (execQueueTimeout a1 a2 s) := by
  unfold execQueueTimeout
  apply State.whenUp_keeps
  · assumption
  · extract_lets +onlyGivenNames y0
    clear_value y0
    split
    · apply KeepsR.next
      apply State.unlisted_keeps
      assumption
    · extract_lets +onlyGivenNames y1
      clear_value y1
      apply State.listed_keeps
      · assumption
      · apply State.tcount_keeps
        apply State.endReq_keeps
        assumption

theorem execRateMonitorSample_keeps {s₀ s : State} (h : Keeps s₀ s) (a1 a2) : KeepsR s₀ (execRateMonitorSample a1 a2 s) := by
  unfold execRateMonitorSample
  apply State.listed_keeps
  · assumption
  · refine ⟨?_, ?_⟩
    · dsimp only
      apply Sys2Proof.Machine.Keeps.pending
      assumption
    · dsimp only
      apply Sys2Proof.Machine.Keeps.mem
      assumption

theorem execReadRetry_keeps {s₀ s : State} (h : Keeps s₀ s) (a1 a2) : KeepsR s₀ (execReadRetry a1 a2 s) := by
  unfold execReadRetry
  extract_lets +onlyGivenNames y0
  clear_value y0
  split
  · apply KeepsR.next
    apply State.unlisted_keeps
    assumption
  · apply State.listed_keeps
    · assumption
    · apply State.holdTimer_keeps
      apply State.modChan_keeps
      assumption

theorem execReadRetryReturn_keeps {s₀ s : State} (h : Keeps s₀ s) (a1 a2) : KeepsR s₀ (execReadRetryReturn a1 a2 s) := by
  unfold execReadRetryReturn
  split
  · apply KeepsR.next
    apply State.unlisted_keeps
    assumption
  · extract_lets +onlyGivenNames y0
    have h1 : Keeps s₀ y0 := by
      unfold y0
      apply State.holdTimer_keeps
      apply State.modChan_keeps
      assumption
    clear_value y0
    apply KeepsR.next
    apply Keeps.ite
    · apply State.raise_keeps
      apply State.tcount_keeps
      apply State.deliverRead_keeps
      assumption
    · apply State.readFailed_keeps
      assumption

theorem execReceiptSigned_keeps {s₀ s : State} (h : Keeps s₀ s) (a1) : KeepsR s₀ (execReceiptSigned a1 s) := by
  unfold execReceiptSigned
  split
  · apply KeepsR.next
    apply State.unlisted_keeps
    assumption
  · apply State.listed_keeps
    · assumption
    · apply State.released_keeps
      assumption

theorem execRefresh_keeps {s₀ s : State} (h : Keeps s₀ s) (a1 a2 a3) : KeepsR s₀ (execRefresh a1 a2 a3 s) := by
  unfold execRefresh
  extract_lets +onlyGivenNames y0
  clear_value y0
  apply State.listed_keeps
  · assumption
  · apply State.modChan_keeps
    assumption

theorem execRegisterWrite_keeps {s₀ s : State} (h : Keeps s₀ s) (a1 a2) : KeepsR s₀ (execRegisterWrite a1 a2 s) := by
  unfold execRegisterWrite
  apply txn_keeps
  · assumption
  · intro x0
    apply State.unlessVendor_keeps
    apply KeepsR.next
    apply answerOne_keeps
    assumption

theorem execRemovalOpsCancelled_keeps {s₀ s : State} (h : Keeps s₀ s) (a1) : KeepsR s₀ (execRemovalOpsCancelled a1 s) := by
  unfold execRemovalOpsCancelled
  apply State.whenUp_keeps
  · assumption
  · apply State.listed_keeps
    · assumption
    · apply State.setRemoval_keeps
      assumption

theorem execRemovalXfersDone_keeps {s₀ s : State} (h : Keeps s₀ s) (a1 a2) : KeepsR s₀ (execRemovalXfersDone a1 a2 s) := by
  unfold execRemovalXfersDone
  apply State.whenUp_keeps
  · assumption
  · apply State.listed_keeps
    · assumption
    · apply State.zeroiseTenant_keeps
      apply State.purgeTenant_keeps
      apply State.setRemoval_keeps
      apply State.dropXfers_keeps
      assumption

theorem execRemove_keeps {s₀ s : State} (h : Keeps s₀ s) (a1 a2 a3 a4) : KeepsR s₀ (execRemove a1 a2 a3 a4 s) := by
  unfold execRemove
  apply bdpCmd_keeps
  · assumption
  · apply removeBody_keeps
    assumption

theorem execRemoveComplete_keeps {s₀ s : State} (h : Keeps s₀ s) (a1 a2) : KeepsR s₀ (execRemoveComplete a1 a2 s) := by
  unfold execRemoveComplete
  apply State.whenUp_keeps
  · assumption
  · extract_lets +onlyGivenNames y0
    have h1 : Keeps s₀ y0 := by
      unfold y0
      apply State.freeExtents_keeps
      apply State.freeExtents_keeps
      apply State.freeExtents_keeps
      assumption
    clear_value y0
    apply State.listed_keeps
    · assumption
    · apply State.noteSlots_keeps
      apply State.finish_keeps
      apply State.raise_keeps
      apply State.modSlot_keeps
      apply State.dropTables_keeps
      assumption

theorem execReplayEnd_keeps {s₀ s : State} (h : Keeps s₀ s) (a1) : KeepsR s₀ (execReplayEnd a1 s) := by
  unfold execReplayEnd
  split
  · apply KeepsR.next
    apply State.unlisted_keeps
    assumption
  · apply State.listed_keeps
    · assumption
    · apply State.endReplay_keeps
      assumption

theorem execReplayInject_keeps {s₀ s : State} (h : Keeps s₀ s) (a1) : KeepsR s₀ (execReplayInject a1 s) := by
  unfold execReplayInject
  split
  · apply KeepsR.next
    apply State.unlisted_keeps
    assumption
  · apply KeepsR.ite
    · apply KeepsR.next
      apply State.unlisted_keeps
      assumption
    · split
      · apply KeepsR.next
        apply State.enforceCold_keeps
        assumption
      · split
        · apply KeepsR.next
          apply State.unlisted_keeps
          assumption
        · extract_lets +onlyGivenNames y0
          clear_value y0
          apply State.listed_keeps
          · assumption
          · apply State.injectRecord_keeps
            apply State.setReplay_keeps
            assumption

theorem execReplayStart_keeps {s₀ s : State} (h : Keeps s₀ s) (a1 a2 a3 a4 a5 a6) : KeepsR s₀ (execReplayStart a1 a2 a3 a4 a5 a6 s) := by
  unfold execReplayStart
  apply bdpCmd_keeps
  · assumption
  · apply replayStartBody_keeps
    assumption

theorem execReplayStop_keeps {s₀ s : State} (h : Keeps s₀ s) (a1 a2) : KeepsR s₀ (execReplayStop a1 a2 s) := by
  unfold execReplayStop
  apply bdpCmd_keeps
  · assumption
  · apply replayStopBody_keeps
    assumption

theorem execRequest_keeps {s₀ s : State} (h : Keeps s₀ s) (a1 a2 a3) : KeepsR s₀ (execRequest a1 a2 a3 s) := by
  unfold execRequest
  apply State.whenUp_keeps
  · assumption
  · split
    · apply KeepsR.next
      apply State.unlisted_keeps
      assumption
    · apply KeepsR.next
      apply State.takeRequest_keeps
      assumption

theorem execRequestDequeue_keeps {s₀ s : State} (h : Keeps s₀ s) (a1 a2) : KeepsR s₀ (execRequestDequeue a1 a2 s) := by
  unfold execRequestDequeue
  apply State.whenUp_keeps
  · assumption
  · split
    · apply KeepsR.ite
      · extract_lets +onlyGivenNames y0
        have h1 : Keeps s₀ y0 := by
          unfold y0
          apply State.startReq_keeps
          apply State.modServed_keeps
          apply State.modQueue_keeps
          assumption
        clear_value y0
        extract_lets +onlyGivenNames y2
        clear_value y2
        apply KeepsR.next
        split
        · apply Keeps.ite
          · apply State.endReq_keeps
            assumption
          · assumption
        · assumption
      · apply KeepsR.next
        apply State.unlisted_keeps
        assumption
    · apply KeepsR.next
      apply State.unlisted_keeps
      assumption

theorem execResetAssert_keeps {s₀ s : State} (h : Keeps s₀ s) : KeepsR s₀ (execResetAssert s) := by
  unfold execResetAssert
  extract_lets +onlyGivenNames y0
  have h1 : Keeps s₀ y0 := by
    unfold y0
    apply State.toReset_keeps
    assumption
  clear_value y0
  apply State.listed_keeps
  · assumption
  · refine ⟨?_, ?_⟩
    · dsimp only
      apply Sys2Proof.Machine.Keeps.pending
      assumption
    · dsimp only
      apply Sys2Proof.Machine.Keeps.mem
      assumption

theorem execRetrain_keeps {s₀ s : State} (h : Keeps s₀ s) (a1 a2) : KeepsR s₀ (execRetrain a1 a2 s) := by
  unfold execRetrain
  extract_lets +onlyGivenNames y0
  clear_value y0
  apply State.listed_keeps
  · assumption
  · apply State.modChan_keeps
    assumption

theorem execReturnComplete_keeps {s₀ s : State} (h : Keeps s₀ s) : KeepsR s₀ (execReturnComplete s) := by
  unfold execReturnComplete
  apply KeepsR.ite
  · split
    · apply KeepsR.next
      apply State.notePower_keeps
      apply State.modPower_keeps
      assumption
    · apply KeepsR.next
      apply State.enterRunState_keeps
      apply State.dataPathOn_keeps
      apply Keeps.ite
      · apply State.dieMemoryZero_keeps
        assumption
      · assumption
  · apply KeepsR.next
    apply State.unlisted_keeps
    assumption

theorem execRouteOp_keeps {s₀ s : State} (h : Keeps s₀ s) (a1) : KeepsR s₀ (execRouteOp a1 s) := by
  unfold execRouteOp
  split
  · apply KeepsR.next
    apply State.unlisted_keeps
    assumption
  · split
    · extract_lets +onlyGivenNames y0
      clear_value y0
      extract_lets +onlyGivenNames y1
      clear_value y1
      extract_lets +onlyGivenNames y2
      clear_value y2
      apply State.withPlaces_keeps
      apply KeepsR.next
      apply State.workDone_keeps
      apply State.modPopular_keeps
      apply State.putTensor_keeps
      apply State.startOp_keeps
      assumption
    · apply KeepsR.next
      apply State.unlisted_keeps
      assumption

theorem execSakInstall_keeps {s₀ s : State} (h : Keeps s₀ s) (a1 a2 a3) : KeepsR s₀ (execSakInstall a1 a2 a3 s) := by
  unfold execSakInstall
  extract_lets +onlyGivenNames y0
  clear_value y0
  extract_lets +onlyGivenNames y1
  clear_value y1
  extract_lets +onlyGivenNames y2
  clear_value y2
  apply State.listed_keeps
  · assumption
  · apply State.modPort_keeps
    assumption

theorem execSample_keeps {s₀ s : State} (h : Keeps s₀ s) (a1 a2 a3) : KeepsR s₀ (execSample a1 a2 a3 s) := by
  unfold execSample
  apply State.whenUp_keeps
  · assumption
  · extract_lets +onlyGivenNames y0
    clear_value y0
    split
    · apply KeepsR.next
      apply State.unlisted_keeps
      assumption
    · split
      · apply State.listed_keeps
        · assumption
        · apply State.stepEnd_keeps
          assumption
      · split
        · apply KeepsR.next
          apply State.unlisted_keeps
          assumption
        · apply State.listed_keeps
          · assumption
          · apply State.stepEnd_keeps
            apply State.quitRun_keeps
            assumption

theorem execSamplePreload_keeps {s₀ s : State} (h : Keeps s₀ s) (a1 a2) : KeepsR s₀ (execSamplePreload a1 a2 s) := by
  unfold execSamplePreload
  apply KeepsR.next
  apply Keeps.ite
  · extract_lets +onlyGivenNames y0
    have h1 : Keeps s₀ y0 := by
      unfold y0
      apply State.select_keeps
      assumption
    clear_value y0
    refine ⟨?_, ?_⟩
    · dsimp only
      apply Sys2Proof.Machine.Keeps.pending
      assumption
    · dsimp only
      apply Sys2Proof.Machine.Keeps.mem
      assumption
  · apply State.select_keeps
    assumption

theorem execScrubPartDone_keeps {s₀ s : State} (h : Keeps s₀ s) (a1 a2) : KeepsR s₀ (execScrubPartDone a1 a2 s) := by
  unfold execScrubPartDone
  apply State.listed_keeps
  · assumption
  · apply State.setRemoval_keeps
    apply State.scrubPart_keeps
    assumption

theorem execSegmentExport_keeps {s₀ s : State} (h : Keeps s₀ s) (a1) : KeepsR s₀ (execSegmentExport a1 s) := by
  unfold execSegmentExport
  apply State.whenUp_keeps
  · assumption
  · apply State.listed_keeps
    · assumption
    · apply Keeps.ite
      · apply State.exportFull_keeps
        assumption
      · apply State.exportOpen_keeps
        assumption

theorem execSelfRefreshEntry_keeps {s₀ s : State} (h : Keeps s₀ s) (a1) : KeepsR s₀ (execSelfRefreshEntry a1 s) := by
  unfold execSelfRefreshEntry
  extract_lets +onlyGivenNames y0
  clear_value y0
  apply State.listed_keeps
  · assumption
  · apply State.count_keeps
    apply State.modChan_keeps
    assumption

theorem execSelfRefreshExit_keeps {s₀ s : State} (h : Keeps s₀ s) (a1) : KeepsR s₀ (execSelfRefreshExit a1 s) := by
  unfold execSelfRefreshExit
  apply State.listed_keeps
  · assumption
  · apply State.wakeChan_keeps
    assumption

theorem execSerialRecovery_keeps {s₀ s : State} (h : Keeps s₀ s) (a1 a2 a3) : KeepsR s₀ (execSerialRecovery a1 a2 a3 s) := by
  unfold execSerialRecovery
  extract_lets +onlyGivenNames y0
  clear_value y0
  apply KeepsR.ite
  · split
    · apply KeepsR.next
      refine ⟨?_, ?_⟩
      · dsimp only
        apply Sys2Proof.Machine.Keeps.pending
        assumption
      · dsimp only
        apply Sys2Proof.Machine.Keeps.mem
        assumption
    · extract_lets +onlyGivenNames y1
      clear_value y1
      split
      · apply KeepsR.next
        apply State.unlisted_keeps
        assumption
      · extract_lets +onlyGivenNames y2
        clear_value y2
        extract_lets +onlyGivenNames y3
        clear_value y3
        extract_lets +onlyGivenNames y4
        have h5 : Keeps s₀ y4 := by
          unfold y4
          refine ⟨?_, ?_⟩
          · dsimp only
            apply Sys2Proof.Machine.Keeps.pending
            assumption
          · dsimp only
            apply Sys2Proof.Machine.Keeps.mem
            assumption
        clear_value y4
        extract_lets +onlyGivenNames y6
        have h7 : Keeps s₀ y6 := by
          unfold y6
          apply State.ocount_keeps
          apply State.setOp_keeps
          assumption
        clear_value y6
        apply KeepsR.next
        split
        · apply State.poisonBlock_keeps
          assumption
        · extract_lets +onlyGivenNames y8
          clear_value y8
          extract_lets +onlyGivenNames y9
          have h10 : Keeps s₀ y9 := by
            unfold y9
            refine ⟨?_, ?_⟩
            · dsimp only
              apply Sys2Proof.Machine.Keeps.pending
              assumption
            · dsimp only
              apply Sys2Proof.Machine.Keeps.mem
              assumption
          clear_value y9
          extract_lets +onlyGivenNames y11
          have h12 : Keeps s₀ y11 := by
            unfold y11
            apply State.ocount_keeps
            apply State.ocount_keeps
            apply State.ocount_keeps
            assumption
          clear_value y11
          extract_lets +onlyGivenNames y13
          have h14 : Keeps s₀ y13 := by
            unfold y13
            apply Keeps.ite
            · apply State.rewriteHeader_keeps
              assumption
            · assumption
          clear_value y13
          apply State.runPod_keeps
          assumption
  · apply KeepsR.next
    apply State.unlisted_keeps
    assumption

theorem execServiceReady_keeps {s₀ s : State} (h : Keeps s₀ s) : KeepsR s₀ (execServiceReady s) := by
  unfold execServiceReady
  apply State.listed_keeps
  · assumption
  · extract_lets +onlyGivenNames y0
    clear_value y0
    extract_lets +onlyGivenNames y1
    clear_value y1
    extract_lets +onlyGivenNames y2
    clear_value y2
    extract_lets +onlyGivenNames y3
    clear_value y3
    extract_lets +onlyGivenNames y4
    have h5 : Keeps s₀ y4 := by
      unfold y4
      refine ⟨?_, ?_⟩
      · dsimp only
        apply Sys2Proof.Machine.Keeps.pending
        assumption
      · dsimp only
        apply Sys2Proof.Machine.Keeps.mem
        assumption
    clear_value y4
    extract_lets +onlyGivenNames y6
    have h7 : Keeps s₀ y6 := by
      unfold y6
      apply Keeps.foldl
      · intro x8 x9 x10
        apply Keeps.ite
        · apply State.resumeJob_keeps
          assumption
        · assumption
      · apply State.drawn_keeps
        assumption
    clear_value y6
    apply State.deliver_keeps
    apply Keeps.foldl
    · intro x11 x12 x13
      apply State.syncMirror_keeps
      assumption
    · assumption

theorem execSessionIndexFree_keeps {s₀ s : State} (h : Keeps s₀ s) (a1) : KeepsR s₀ (execSessionIndexFree a1 s) := by
  unfold execSessionIndexFree
  apply State.whenUp_keeps
  · assumption
  · extract_lets +onlyGivenNames y0
    clear_value y0
    apply State.listed_keeps
    · assumption
    · apply State.modSession_keeps
      assumption

theorem execShadowOpComplete_keeps {s₀ s : State} (h : Keeps s₀ s) (a1 a2) : KeepsR s₀ (execShadowOpComplete a1 a2 s) := by
  unfold execShadowOpComplete
  split
  · extract_lets +onlyGivenNames y0
    clear_value y0
    apply State.listed_keeps
    · assumption
    · apply State.vmvmCheck_keeps
      apply State.placeShadows_keeps
      apply State.keepHot_keeps
      apply State.dropShadow_keeps
      apply Keeps.foldl
      · intro x1 x2 x3
        apply State.shadowAdd_keeps
        assumption
      · apply State.runShadow_keeps
        assumption
  · apply KeepsR.next
    apply State.unlisted_keeps
    assumption

theorem execSleepAfterExpiry_keeps {s₀ s : State} (h : Keeps s₀ s) : KeepsR s₀ (execSleepAfterExpiry s) := by
  unfold execSleepAfterExpiry
  apply State.whenUp_keeps
  · assumption
  · extract_lets +onlyGivenNames y0
    clear_value y0
    apply State.listed_keeps
    · assumption
    · apply State.modPower_keeps
      apply Keeps.ite
      · apply State.beginEntry_keeps
        assumption
      · apply State.refuseEntry_keeps
        assumption

theorem execSlotReturn_keeps {s₀ s : State} (h : Keeps s₀ s) (a1) : KeepsR s₀ (execSlotReturn a1 s) := by
  unfold execSlotReturn
  split
  · apply State.listed_keeps
    · assumption
    · apply State.drawn_keeps
      apply State.modArray_keeps
      apply State.dropSlot_keeps
      assumption
  · apply State.listed_keeps
    · assumption
    · apply State.modArray_keeps
      apply State.dropSlot_keeps
      assumption
  · apply KeepsR.next
    apply State.unlisted_keeps
    assumption

theorem execSpeeds_keeps {s₀ s : State} (h : Keeps s₀ s) (a1 a2 a3) : KeepsR s₀ (execSpeeds a1 a2 a3 s) := by
  unfold execSpeeds
  apply bdpCmd_keeps
  · assumption
  · apply speedsBody_keeps
    assumption

theorem execStepInstantiate_keeps {s₀ s : State} (h : Keeps s₀ s) (a1) : KeepsR s₀ (execStepInstantiate a1 s) := by
  unfold execStepInstantiate
  apply State.whenUp_keeps
  · assumption
  · extract_lets +onlyGivenNames y0
    clear_value y0
    apply KeepsR.ite
    · split
      · apply KeepsR.next
        apply State.beginStep_keeps
        assumption
      · apply KeepsR.next
        apply Keeps.foldl
        · intro x1 x2 x3
          apply State.endReq_keeps
          assumption
        · assumption
    · apply KeepsR.next
      apply State.unlisted_keeps
      assumption

theorem execStratumChangeDone_keeps {s₀ s : State} (h : Keeps s₀ s) (a1) : KeepsR s₀ (execStratumChangeDone a1 s) := by
  unfold execStratumChangeDone
  split
  · apply KeepsR.next
    apply State.unlisted_keeps
    assumption
  · apply KeepsR.next
    apply State.modArray_keeps
    assumption

theorem execStreamIssue_keeps {s₀ s : State} (h : Keeps s₀ s) (a1) : KeepsR s₀ (execStreamIssue a1 s) := by
  unfold execStreamIssue
  extract_lets +onlyGivenNames y0
  clear_value y0
  split
  · apply KeepsR.next
    apply State.unlisted_keeps
    assumption
  · split
    · apply KeepsR.next
      apply State.unlisted_keeps
      assumption
    · apply State.listed_keeps
      · assumption
      · apply State.issueEntry_keeps
        assumption

theorem execStreamLate_keeps {s₀ s : State} (h : Keeps s₀ s) (a1) : KeepsR s₀ (execStreamLate a1 s) := by
  unfold execStreamLate
  split
  · apply KeepsR.next
    apply State.unlisted_keeps
    assumption
  · apply State.listed_keeps
    · assumption
    · apply State.tcount_keeps
      refine ⟨?_, ?_⟩
      · dsimp only
        apply Sys2Proof.Machine.Keeps.pending
        assumption
      · dsimp only
        apply Sys2Proof.Machine.Keeps.mem
        assumption

theorem execSwap_keeps {s₀ s : State} (h : Keeps s₀ s) (a1 a2 a3 a4 a5 a6) : KeepsR s₀ (execSwap a1 a2 a3 a4 a5 a6 s) := by
  unfold execSwap
  apply bdpCmd_keeps
  · assumption
  · apply swapBody_keeps
    assumption

theorem execSwapComplete_keeps {s₀ s : State} (h : Keeps s₀ s) (a1 a2) : KeepsR s₀ (execSwapComplete a1 a2 s) := by
  unfold execSwapComplete
  apply State.whenUp_keeps
  · assumption
  · extract_lets +onlyGivenNames y0
    clear_value y0
    extract_lets +onlyGivenNames y1
    have h2 : Keeps s₀ y1 := by
      unfold y1
      apply State.dropBarrier_keeps
      assumption
    clear_value y1
    apply State.listed_keeps
    · assumption
    · apply State.noteSlots_keeps
      apply State.finish_keeps
      apply State.raise_keeps
      apply State.tcount_keeps
      apply State.modSlot_keeps
      apply State.freeExtents_keeps
      assumption

theorem execSwapDrainDone_keeps {s₀ s : State} (h : Keeps s₀ s) (a1 a2) : KeepsR s₀ (execSwapDrainDone a1 a2 s) := by
  unfold execSwapDrainDone
  apply State.whenUp_keeps
  · assumption
  · extract_lets +onlyGivenNames y0
    clear_value y0
    split
    · apply KeepsR.next
      apply State.unlisted_keeps
      assumption
    · apply State.listed_keeps
      · assumption
      · apply State.afterFlip_keeps
        apply State.flip_keeps
        assumption

theorem execSyncOp_keeps {s₀ s : State} (h : Keeps s₀ s) (a1) : KeepsR s₀ (execSyncOp a1 s) := by
  unfold execSyncOp
  split
  · apply KeepsR.next
    apply State.unlisted_keeps
    assumption
  · apply KeepsR.next
    apply State.workDone_keeps
    apply State.startOp_keeps
    assumption

theorem execTableBuild_keeps {s₀ s : State} (h : Keeps s₀ s) (a1 a2 a3) : KeepsR s₀ (execTableBuild a1 a2 a3 s) := by
  unfold execTableBuild
  extract_lets +onlyGivenNames y0
  clear_value y0
  extract_lets +onlyGivenNames y1
  clear_value y1
  apply KeepsR.ite
  · split
    · apply KeepsR.next
      apply State.tcount_keeps
      apply State.modAct_keeps
      assumption
    · apply KeepsR.next
      apply State.modAct_keeps
      apply State.addTable_keeps
      assumption
  · apply KeepsR.next
    apply State.unlisted_keeps
    assumption

theorem execTableIdFree_keeps {s₀ s : State} (h : Keeps s₀ s) (a1 a2) : KeepsR s₀ (execTableIdFree a1 a2 s) := by
  unfold execTableIdFree
  split
  · apply KeepsR.next
    apply State.unlisted_keeps
    assumption
  · apply State.listed_keeps
    · assumption
    · apply State.modTable_keeps
      assumption

theorem execTableRebuild_keeps {s₀ s : State} (h : Keeps s₀ s) (a1 a2 a3) : KeepsR s₀ (execTableRebuild a1 a2 a3 s) := by
  unfold execTableRebuild
  extract_lets +onlyGivenNames y0
  clear_value y0
  extract_lets +onlyGivenNames y1
  clear_value y1
  split
  · apply KeepsR.next
    apply State.unlisted_keeps
    assumption
  · apply KeepsR.ite
    · split
      · apply KeepsR.next
        apply State.modAct_keeps
        assumption
      · extract_lets +onlyGivenNames y2
        clear_value y2
        extract_lets +onlyGivenNames y3
        have h4 : Keeps s₀ y3 := by
          unfold y3
          apply State.modTable_keeps
          assumption
        clear_value y3
        apply KeepsR.next
        apply State.tcount_keeps
        apply State.modAct_keeps
        apply State.addTable_keeps
        assumption
    · apply KeepsR.next
      apply State.unlisted_keeps
      assumption

theorem execTc10AckTimeout_keeps {s₀ s : State} (h : Keeps s₀ s) (a1) : KeepsR s₀ (execTc10AckTimeout a1 s) := by
  unfold execTc10AckTimeout
  apply State.listed_keeps
  · assumption
  · apply State.tc10Answer_keeps
    assumption

theorem execTc10SleepRequest_keeps {s₀ s : State} (h : Keeps s₀ s) (a1 a2 a3) : KeepsR s₀ (execTc10SleepRequest a1 a2 a3 s) := by
  unfold execTc10SleepRequest
  apply KeepsR.ite
  · apply State.listed_keeps
    · assumption
    · apply Keeps.ite
      · apply Keeps.ite
        · apply State.tc10Answer_keeps
          assumption
        · apply State.sleepPorts_keeps
          assumption
      · assumption
  · apply State.listed_keeps
    · assumption
    · apply State.tc10Answer_keeps
      assumption

theorem execTc10Wake_keeps {s₀ s : State} (h : Keeps s₀ s) (a1) : KeepsR s₀ (execTc10Wake a1 s) := by
  unfold execTc10Wake
  apply State.listed_keeps
  · assumption
  · apply State.wake_keeps
    assumption

theorem execTcpConnect_keeps {s₀ s : State} (h : Keeps s₀ s) (a1 a2 a3) : KeepsR s₀ (execTcpConnect a1 a2 a3 s) := by
  unfold execTcpConnect
  apply State.whenUp_keeps
  · assumption
  · apply KeepsR.ite
    · apply KeepsR.next
      apply State.unlisted_keeps
      assumption
    · extract_lets +onlyGivenNames y0
      clear_value y0
      extract_lets +onlyGivenNames y1
      have h2 : Keeps s₀ y1 := by
        unfold y1
        apply State.modConn_keeps
        assumption
      clear_value y1
      apply KeepsR.ite
      · extract_lets +onlyGivenNames y3
        have h4 : Keeps s₀ y3.2 := by
          unfold y3
          apply State.freeValue_keeps
          assumption
        clear_value y3
        apply KeepsR.next
        apply State.count_keeps
        apply State.turnAway_keeps
        assumption
      · apply KeepsR.next
        assumption

theorem execTcpConnectionEnd_keeps {s₀ s : State} (h : Keeps s₀ s) (a1) : KeepsR s₀ (execTcpConnectionEnd a1 s) := by
  unfold execTcpConnectionEnd
  apply State.whenUp_keeps
  · assumption
  · apply State.listed_keeps
    · assumption
    · apply State.closeConn_keeps
      assumption

theorem execTcpRetransmissionTimeout_keeps {s₀ s : State} (h : Keeps s₀ s) (a1) : KeepsR s₀ (execTcpRetransmissionTimeout a1 s) := by
  unfold execTcpRetransmissionTimeout
  apply State.whenUp_keeps
  · assumption
  · split
    · apply KeepsR.next
      apply State.unlisted_keeps
      assumption
    · apply State.listed_keeps
      · assumption
      · apply State.retransmit_keeps
        assumption

theorem execTcpUserTimeout_keeps {s₀ s : State} (h : Keeps s₀ s) (a1) : KeepsR s₀ (execTcpUserTimeout a1 s) := by
  unfold execTcpUserTimeout
  apply State.whenUp_keeps
  · assumption
  · split
    · apply KeepsR.next
      apply State.unlisted_keeps
      assumption
    · apply State.listed_keeps
      · assumption
      · apply State.closeConn_keeps
        assumption

theorem execTenantActivate_keeps {s₀ s : State} (h : Keeps s₀ s) (a1 a2) : KeepsR s₀ (execTenantActivate a1 a2 s) := by
  unfold execTenantActivate
  apply bdpCmd_keeps
  · assumption
  · apply tenantActivateBody_keeps
    assumption

theorem execTenantForm_keeps {s₀ s : State} (h : Keeps s₀ s) (a1 a2) : KeepsR s₀ (execTenantForm a1 a2 s) := by
  unfold execTenantForm
  apply bdpCmd_keeps
  · assumption
  · apply tenantFormBody_keeps
    assumption

theorem execTenantRemove_keeps {s₀ s : State} (h : Keeps s₀ s) (a1 a2 a3) : KeepsR s₀ (execTenantRemove a1 a2 a3 s) := by
  unfold execTenantRemove
  apply bdpCmd_keeps
  · assumption
  · apply tenantRemoveBody_keeps
    assumption

theorem execTestDueIdle_keeps {s₀ s : State} (h : Keeps s₀ s) (a1) : KeepsR s₀ (execTestDueIdle a1 s) := by
  unfold execTestDueIdle
  extract_lets +onlyGivenNames y0
  clear_value y0
  apply State.listed_keeps
  · assumption
  · apply State.modArray_keeps
    assumption

theorem execTestDueMvmCount_keeps {s₀ s : State} (h : Keeps s₀ s) (a1) : KeepsR s₀ (execTestDueMvmCount a1 s) := by
  unfold execTestDueMvmCount
  extract_lets +onlyGivenNames y0
  clear_value y0
  apply State.listed_keeps
  · assumption
  · apply State.modArray_keeps
    assumption

theorem execTestVectorComplete_keeps {s₀ s : State} (h : Keeps s₀ s) (a1) : KeepsR s₀ (execTestVectorComplete a1 s) := by
  unfold execTestVectorComplete
  split
  · apply KeepsR.next
    apply State.unlisted_keeps
    assumption
  · split
    · apply KeepsR.next
      apply State.unlisted_keeps
      assumption
    · extract_lets +onlyGivenNames y0
      clear_value y0
      apply State.listed_keeps
      · assumption
      · apply State.tested_keeps
        apply State.drawn_keeps
        apply State.modArray_keeps
        apply State.dropSlot_keeps
        assumption

theorem execThermalSample_keeps {s₀ s : State} (h : Keeps s₀ s) (a1) : KeepsR s₀ (execThermalSample a1 s) := by
  unfold execThermalSample
  apply State.listed_keeps
  · assumption
  · extract_lets +onlyGivenNames y0
    have h1 : Keeps s₀ y0 := by
      unfold y0
      apply State.reading_keeps
      assumption
    clear_value y0
    apply Keeps.ite
    · apply State.raise_keeps
      apply State.driveThermN_keeps
      apply State.modPower_keeps
      assumption
    · apply Keeps.ite
      · apply State.modPower_keeps
        assumption
      · assumption

theorem execThermalShutdown_keeps {s₀ s : State} (h : Keeps s₀ s) (a1) : KeepsR s₀ (execThermalShutdown a1 s) := by
  unfold execThermalShutdown
  apply State.listed_keeps
  · assumption
  · apply State.toOff_keeps
    apply State.raise_keeps
    apply State.count_keeps
    apply State.reading_keeps
    assumption

theorem execThermalTrip_keeps {s₀ s : State} (h : Keeps s₀ s) (a1) : KeepsR s₀ (execThermalTrip a1 s) := by
  unfold execThermalTrip
  apply State.listed_keeps
  · assumption
  · apply State.raise_keeps
    apply State.count_keeps
    apply State.driveThermN_keeps
    apply State.regrant_keeps
    apply State.modPower_keeps
    apply State.reading_keeps
    assumption

theorem execThrottleStep_keeps {s₀ s : State} (h : Keeps s₀ s) : KeepsR s₀ (execThrottleStep s) := by
  unfold execThrottleStep
  extract_lets +onlyGivenNames y0
  clear_value y0
  apply KeepsR.ite
  · apply KeepsR.ite
    · apply KeepsR.next
      apply State.regrant_keeps
      apply State.modPower_keeps
      assumption
    · extract_lets +onlyGivenNames y1
      have h2 : Keeps s₀ y1 := by
        unfold y1
        apply State.regrant_keeps
        apply State.modPower_keeps
        assumption
      clear_value y1
      apply KeepsR.next
      apply Keeps.ite
      · apply State.driveThermN_keeps
        assumption
      · assumption
  · apply KeepsR.next
    apply State.unlisted_keeps
    assumption

theorem execTrainResume_keeps {s₀ s : State} (h : Keeps s₀ s) (a1 a2) : KeepsR s₀ (execTrainResume a1 a2 s) := by
  unfold execTrainResume
  apply bdpCmd_keeps
  · assumption
  · apply trainBody_keeps
    assumption

theorem execTrainStartNew_keeps {s₀ s : State} (h : Keeps s₀ s) (a1 a2) : KeepsR s₀ (execTrainStartNew a1 a2 s) := by
  unfold execTrainStartNew
  apply bdpCmd_keeps
  · assumption
  · apply trainBody_keeps
    assumption

theorem execTrainStep_keeps {s₀ s : State} (h : Keeps s₀ s) (a1 a2 a3 a4) : KeepsR s₀ (execTrainStep a1 a2 a3 a4 s) := by
  unfold execTrainStep
  apply State.listed_keeps
  · assumption
  · apply Keeps.ite
    · apply State.afterStep_keeps
      apply State.optimise_keeps
      assumption
    · apply State.failedStep_keeps
      assumption

theorem execTrainStop_keeps {s₀ s : State} (h : Keeps s₀ s) (a1 a2) : KeepsR s₀ (execTrainStop a1 a2 s) := by
  unfold execTrainStop
  apply bdpCmd_keeps
  · assumption
  · apply trainStopBody_keeps
    assumption

theorem execTransferLand_keeps {s₀ s : State} (h : Keeps s₀ s) (a1 a2 a3 a4 a5) : KeepsR s₀ (execTransferLand a1 a2 a3 a4 a5 s) := by
  unfold execTransferLand
  extract_lets +onlyGivenNames y0
  clear_value y0
  split
  · apply KeepsR.next
    apply State.unlisted_keeps
    assumption
  · apply KeepsR.ite
    · apply KeepsR.next
      apply State.unlisted_keeps
      assumption
    · apply KeepsR.ite
      · apply KeepsR.next
        apply State.discardXfer_keeps
        apply State.modEngine_keeps
        assumption
      · apply KeepsR.ite
        · apply KeepsR.next
          apply State.discardBlock_keeps
          assumption
        · split
          · apply KeepsR.next
            apply State.discardBlock_keeps
            assumption
          · apply KeepsR.next
            apply State.landBlock_keeps
            assumption

theorem execTrngFail_keeps {s₀ s : State} (h : Keeps s₀ s) : KeepsR s₀ (execTrngFail s) := by
  unfold execTrngFail
  apply State.listed_keeps
  · assumption
  · apply State.raise_keeps
    assumption

theorem execUfsPurgeDone_keeps {s₀ s : State} (h : Keeps s₀ s) : KeepsR s₀ (execUfsPurgeDone s) := by
  unfold execUfsPurgeDone
  apply State.listed_keeps
  · assumption
  · apply State.raise_keeps
    refine ⟨?_, ?_⟩
    · dsimp only
      apply Sys2Proof.Machine.Keeps.pending
      assumption
    · dsimp only
      apply Sys2Proof.Machine.Keeps.mem
      assumption

theorem execUnknownMsg_keeps {s₀ s : State} (h : Keeps s₀ s) (a1 a2 a3) : KeepsR s₀ (execUnknownMsg a1 a2 a3 s) := by
  unfold execUnknownMsg
  apply State.whenUp_keeps
  · assumption
  · apply State.listed_keeps
    · assumption
    · apply State.replyStatus_keeps
      assumption

theorem execUploadAbort_keeps {s₀ s : State} (h : Keeps s₀ s) (a1 a2) : KeepsR s₀ (execUploadAbort a1 a2 s) := by
  unfold execUploadAbort
  apply bdpCmd_keeps
  · assumption
  · apply uploadAbortBody_keeps
    assumption

theorem execUploadBegin_keeps {s₀ s : State} (h : Keeps s₀ s) (a1 a2 a3 a4 a5 a6) : KeepsR s₀ (execUploadBegin a1 a2 a3 a4 a5 a6 s) := by
  unfold execUploadBegin
  apply bdpCmd_keeps
  · assumption
  · apply uploadBeginBody_keeps
    assumption

theorem execUploadData_keeps {s₀ s : State} (h : Keeps s₀ s) (a1 a2 a3 a4 a5) : KeepsR s₀ (execUploadData a1 a2 a3 a4 a5 s) := by
  unfold execUploadData
  apply bdpCmd_keeps
  · assumption
  · apply uploadDataBody_keeps
    assumption

theorem execUploadEnd_keeps {s₀ s : State} (h : Keeps s₀ s) (a1 a2) : KeepsR s₀ (execUploadEnd a1 a2 s) := by
  unfold execUploadEnd
  apply bdpCmd_keeps
  · assumption
  · apply uploadEndBody_keeps
    assumption

theorem vecIssue_keeps {s₀ s : State} (h : Keeps s₀ s) (unit opc lanes : Nat) (f : VF) (sets : List Nat) (release : Bool) {eff : Running → State → State}
    (he : ∀ r t, Keeps s₀ t → Keeps s₀ (eff r t)) : KeepsR s₀ (vecIssue unit opc lanes f sets release s eff) := by
  unfold vecIssue
  split
  · exact KeepsR.next (State.unlisted_keeps h)
  · exact KeepsR.ite (KeepsR.next (State.unlisted_keeps h)) (KeepsR.next (State.modUnit_keeps
      (Keeps.ite (Keeps.foldl (fun _ _ hu => State.releaseSet_keeps hu _ _) _ (he _ _ (State.tcount_keeps h _ _ _ _))) (he _ _ (State.tcount_keeps h _ _ _ _))) _ _))

theorem vecEw_keeps {s₀ s : State} (h : Keeps s₀ s) (a1 a2 a3 a4) : KeepsR s₀ (vecEw a1 a2 a3 a4 s) := by
  unfold vecEw
  apply vecIssue_keeps
  · assumption
  · intro x0 x1 x2
    apply State.putRun_keeps
    assumption

theorem execVAbs_keeps {s₀ s : State} (h : Keeps s₀ s) (a1 a2) : KeepsR s₀ (execVAbs a1 a2 s) := by
  unfold execVAbs
  apply vecEw_keeps
  assumption

theorem execVAdd_keeps {s₀ s : State} (h : Keeps s₀ s) (a1 a2) : KeepsR s₀ (execVAdd a1 a2 s) := by
  unfold execVAdd
  apply vecEw_keeps
  assumption

theorem vecEwS_keeps {s₀ s : State} (h : Keeps s₀ s) (a1 a2 a3 a4) : KeepsR s₀ (vecEwS a1 a2 a3 a4 s) := by
  unfold vecEwS
  apply vecIssue_keeps
  · assumption
  · intro x0 x1 x2
    extract_lets +onlyGivenNames y3
    clear_value y3
    apply State.putRun_keeps
    assumption

theorem execVAdds_keeps {s₀ s : State} (h : Keeps s₀ s) (a1 a2) : KeepsR s₀ (execVAdds a1 a2 s) := by
  unfold execVAdds
  apply vecEwS_keeps
  assumption

theorem execVCorr_keeps {s₀ s : State} (h : Keeps s₀ s) (a1 a2) : KeepsR s₀ (execVCorr a1 a2 s) := by
  unfold execVCorr
  apply vecIssue_keeps
  · assumption
  · intro x0 x1 x2
    extract_lets +onlyGivenNames y3
    clear_value y3
    extract_lets +onlyGivenNames y4
    clear_value y4
    extract_lets +onlyGivenNames y5
    clear_value y5
    extract_lets +onlyGivenNames y6
    clear_value y6
    extract_lets +onlyGivenNames y7
    clear_value y7
    extract_lets +onlyGivenNames y8
    clear_value y8
    extract_lets +onlyGivenNames y9
    clear_value y9
    apply State.putRun_keeps
    apply State.countClamps_keeps
    assumption

theorem execVDqt_keeps {s₀ s : State} (h : Keeps s₀ s) (a1 a2) : KeepsR s₀ (execVDqt a1 a2 s) := by
  unfold execVDqt
  apply vecIssue_keeps
  · assumption
  · intro x0 x1 x2
    extract_lets +onlyGivenNames y3
    clear_value y3
    extract_lets +onlyGivenNames y4
    clear_value y4
    apply State.putRun_keeps
    assumption

theorem execVEmap_keeps {s₀ s : State} (h : Keeps s₀ s) (a1 a2) : KeepsR s₀ (execVEmap a1 a2 s) := by
  unfold execVEmap
  apply vecIssue_keeps
  · assumption
  · intro x0 x1 x2
    extract_lets +onlyGivenNames y3
    clear_value y3
    apply State.modUnit_keeps
    assumption

theorem execVEnd_keeps {s₀ s : State} (h : Keeps s₀ s) (a1) : KeepsR s₀ (execVEnd a1 s) := by
  unfold execVEnd
  split
  · apply KeepsR.next
    apply State.unlisted_keeps
    assumption
  · apply KeepsR.ite
    · apply KeepsR.next
      apply State.endProgram_keeps
      apply State.tcount_keeps
      assumption
    · apply KeepsR.next
      apply State.unlisted_keeps
      assumption

theorem execVEscf_keeps {s₀ s : State} (h : Keeps s₀ s) (a1 a2) : KeepsR s₀ (execVEscf a1 a2 s) := by
  unfold execVEscf
  apply vecIssue_keeps
  · assumption
  · intro x0 x1 x2
    extract_lets +onlyGivenNames y3
    clear_value y3
    extract_lets +onlyGivenNames y4
    clear_value y4
    extract_lets +onlyGivenNames y5
    clear_value y5
    extract_lets +onlyGivenNames y6
    have h7 : Keeps s₀ y6 := by
      unfold y6
      apply Keeps.ite
      · assumption
      · apply State.tcount_keeps
        assumption
    clear_value y6
    extract_lets +onlyGivenNames y8
    have h9 : Keeps s₀ y8 := by
      unfold y8
      apply Keeps.ite
      · apply State.tcount_keeps
        assumption
      · assumption
    clear_value y8
    apply State.modUnit_keeps
    assumption

theorem vecFnC_keeps {s₀ s : State} (h : Keeps s₀ s) (a1 a2 a3 a4 a5) : KeepsR s₀ (vecFnC a1 a2 a3 a4 a5 s) := by
  unfold vecFnC
  apply vecIssue_keeps
  · assumption
  · intro x0 x1 x2
    extract_lets +onlyGivenNames y3
    clear_value y3
    apply State.modUnit_keeps
    apply State.countClamps_keeps
    assumption

theorem vecFn_keeps {s₀ s : State} (h : Keeps s₀ s) (a1 a2 a3 a4) : KeepsR s₀ (vecFn a1 a2 a3 a4 s) := by
  unfold vecFn
  apply vecFnC_keeps
  assumption

theorem execVExp_keeps {s₀ s : State} (h : Keeps s₀ s) (a1 a2) : KeepsR s₀ (execVExp a1 a2 s) := by
  unfold execVExp
  apply vecFn_keeps
  assumption

theorem execVFma_keeps {s₀ s : State} (h : Keeps s₀ s) (a1 a2) : KeepsR s₀ (execVFma a1 a2 s) := by
  unfold execVFma
  apply vecEw_keeps
  assumption

theorem execVFmas_keeps {s₀ s : State} (h : Keeps s₀ s) (a1 a2) : KeepsR s₀ (execVFmas a1 a2 s) := by
  unfold execVFmas
  apply vecEwS_keeps
  assumption

theorem execVGath_keeps {s₀ s : State} (h : Keeps s₀ s) (a1 a2) : KeepsR s₀ (execVGath a1 a2 s) := by
  unfold execVGath
  apply vecIssue_keeps
  · assumption
  · intro x0 x1 x2
    extract_lets +onlyGivenNames y3
    clear_value y3
    extract_lets +onlyGivenNames y4
    clear_value y4
    extract_lets +onlyGivenNames y5
    have h6 : Keeps s₀ y5 := by
      unfold y5
      apply State.countOor_keeps
      assumption
    clear_value y5
    apply State.modUnit_keeps
    assumption

theorem execVGelu_keeps {s₀ s : State} (h : Keeps s₀ s) (a1 a2) : KeepsR s₀ (execVGelu a1 a2 s) := by
  unfold execVGelu
  apply vecFn_keeps
  assumption

theorem vecMem_keeps {s₀ s : State} (h : Keeps s₀ s) (unit opc : Nat) (f : VF) (sets : List Nat) {eff : Nat → State → State}
    (he : ∀ a t, Keeps s₀ t → Keeps s₀ (eff a t)) : KeepsR s₀ (vecMem unit opc f sets s eff) := by
  unfold vecMem
  split
  · split
    · exact vecIssue_keeps h _ _ _ _ _ _ fun _ t ht => Keeps.ite (he _ t ht) (State.discardXfer_keeps ht _ _)
    · exact KeepsR.fault _
    · exact KeepsR.fault _
  · exact KeepsR.next (State.unlisted_keeps h)

theorem execVLd_keeps {s₀ s : State} (h : Keeps s₀ s) (a1 a2) : KeepsR s₀ (execVLd a1 a2 s) := by
  unfold execVLd
  apply vecMem_keeps
  · assumption
  · intro x0 x1 x2
    apply State.modUnit_keeps
    assumption

theorem execVLog_keeps {s₀ s : State} (h : Keeps s₀ s) (a1 a2) : KeepsR s₀ (execVLog a1 a2 s) := by
  unfold execVLog
  apply vecFn_keeps
  assumption

theorem execVMax_keeps {s₀ s : State} (h : Keeps s₀ s) (a1 a2) : KeepsR s₀ (execVMax a1 a2 s) := by
  unfold execVMax
  apply vecEw_keeps
  assumption

theorem execVMaxs_keeps {s₀ s : State} (h : Keeps s₀ s) (a1 a2) : KeepsR s₀ (execVMaxs a1 a2 s) := by
  unfold execVMaxs
  apply vecEwS_keeps
  assumption

theorem execVMin_keeps {s₀ s : State} (h : Keeps s₀ s) (a1 a2) : KeepsR s₀ (execVMin a1 a2 s) := by
  unfold execVMin
  apply vecEw_keeps
  assumption

theorem execVMins_keeps {s₀ s : State} (h : Keeps s₀ s) (a1 a2) : KeepsR s₀ (execVMins a1 a2 s) := by
  unfold execVMins
  apply vecEwS_keeps
  assumption

theorem execVMov_keeps {s₀ s : State} (h : Keeps s₀ s) (a1 a2) : KeepsR s₀ (execVMov a1 a2 s) := by
  unfold execVMov
  apply vecEw_keeps
  assumption

theorem execVMul_keeps {s₀ s : State} (h : Keeps s₀ s) (a1 a2) : KeepsR s₀ (execVMul a1 a2 s) := by
  unfold execVMul
  apply vecEw_keeps
  assumption

theorem execVMuls_keeps {s₀ s : State} (h : Keeps s₀ s) (a1 a2) : KeepsR s₀ (execVMuls a1 a2 s) := by
  unfold execVMuls
  apply vecEwS_keeps
  assumption

theorem execVMxq_keeps {s₀ s : State} (h : Keeps s₀ s) (a1 a2) : KeepsR s₀ (execVMxq a1 a2 s) := by
  unfold execVMxq
  split
  · apply KeepsR.next
    apply State.unlisted_keeps
    assumption
  · apply vecIssue_keeps
    · assumption
    · intro x0 x1 x2
      extract_lets +onlyGivenNames y3
      clear_value y3
      extract_lets +onlyGivenNames y4
      have h5 : Keeps s₀ y4 := by
        unfold y4
        apply State.countNarrow_keeps
        assumption
      clear_value y4
      apply State.modUnit_keeps
      assumption

theorem execVNeg_keeps {s₀ s : State} (h : Keeps s₀ s) (a1 a2) : KeepsR s₀ (execVNeg a1 a2 s) := by
  unfold execVNeg
  apply vecEw_keeps
  assumption

theorem execVNorm_keeps {s₀ s : State} (h : Keeps s₀ s) (a1 a2) : KeepsR s₀ (execVNorm a1 a2 s) := by
  unfold execVNorm
  apply vecIssue_keeps
  · assumption
  · intro x0 x1 x2
    extract_lets +onlyGivenNames y3
    clear_value y3
    extract_lets +onlyGivenNames y4
    clear_value y4
    extract_lets +onlyGivenNames y5
    clear_value y5
    extract_lets +onlyGivenNames y6
    clear_value y6
    extract_lets +onlyGivenNames y7
    clear_value y7
    apply State.modUnit_keeps
    apply State.countClamps_keeps
    assumption

theorem execVOscan_keeps {s₀ s : State} (h : Keeps s₀ s) (a1 a2) : KeepsR s₀ (execVOscan a1 a2 s) := by
  unfold execVOscan
  apply vecIssue_keeps
  · assumption
  · intro x0 x1 x2
    extract_lets +onlyGivenNames y3
    clear_value y3
    extract_lets +onlyGivenNames y4
    clear_value y4
    extract_lets +onlyGivenNames y5
    clear_value y5
    extract_lets +onlyGivenNames y6
    clear_value y6
    extract_lets +onlyGivenNames y7
    clear_value y7
    extract_lets +onlyGivenNames y8
    clear_value y8
    extract_lets +onlyGivenNames y9
    clear_value y9
    extract_lets +onlyGivenNames y10
    clear_value y10
    apply State.modUnit_keeps
    apply State.countNarrow_keeps
    assumption

theorem execVQnt_keeps {s₀ s : State} (h : Keeps s₀ s) (a1 a2) : KeepsR s₀ (execVQnt a1 a2 s) := by
  unfold execVQnt
  apply vecIssue_keeps
  · assumption
  · intro x0 x1 x2
    extract_lets +onlyGivenNames y3
    clear_value y3
    apply State.putRun_keeps
    assumption

theorem execVQsite_keeps {s₀ s : State} (h : Keeps s₀ s) (a1 a2) : KeepsR s₀ (execVQsite a1 a2 s) := by
  unfold execVQsite
  apply vecIssue_keeps
  · assumption
  · intro x0 x1 x2
    split
    · assumption
    · extract_lets +onlyGivenNames y3
      clear_value y3
      extract_lets +onlyGivenNames y4
      clear_value y4
      extract_lets +onlyGivenNames y5
      clear_value y5
      extract_lets +onlyGivenNames y6
      clear_value y6
      extract_lets +onlyGivenNames y7
      clear_value y7
      extract_lets +onlyGivenNames y8
      clear_value y8
      apply State.sendScale_keeps
      apply State.putRun_keeps
      assumption

theorem execVRamx_keeps {s₀ s : State} (h : Keeps s₀ s) (a1 a2) : KeepsR s₀ (execVRamx a1 a2 s) := by
  unfold execVRamx
  extract_lets +onlyGivenNames y0
  clear_value y0
  apply KeepsR.ite
  · apply KeepsR.next
    apply State.unlisted_keeps
    assumption
  · apply vecIssue_keeps
    · assumption
    · intro x1 x2 x3
      extract_lets +onlyGivenNames y4
      clear_value y4
      extract_lets +onlyGivenNames y5
      clear_value y5
      apply State.modUnit_keeps
      assumption

theorem execVRcp_keeps {s₀ s : State} (h : Keeps s₀ s) (a1 a2) : KeepsR s₀ (execVRcp a1 a2 s) := by
  unfold execVRcp
  apply vecFnC_keeps
  assumption

theorem vecRed_keeps {s₀ s : State} (h : Keeps s₀ s) (a1 a2 a3 a4) : KeepsR s₀ (vecRed a1 a2 a3 a4 s) := by
  unfold vecRed
  extract_lets +onlyGivenNames y0
  clear_value y0
  apply KeepsR.ite
  · apply KeepsR.next
    apply State.unlisted_keeps
    assumption
  · apply vecIssue_keeps
    · assumption
    · intro x1 x2 x3
      extract_lets +onlyGivenNames y4
      clear_value y4
      apply State.modUnit_keeps
      apply State.countClamps_keeps
      assumption

theorem execVRmax_keeps {s₀ s : State} (h : Keeps s₀ s) (a1 a2) : KeepsR s₀ (execVRmax a1 a2 s) := by
  unfold execVRmax
  apply vecRed_keeps
  assumption

theorem execVRmin_keeps {s₀ s : State} (h : Keeps s₀ s) (a1 a2) : KeepsR s₀ (execVRmin a1 a2 s) := by
  unfold execVRmin
  apply vecRed_keeps
  assumption

theorem execVRope_keeps {s₀ s : State} (h : Keeps s₀ s) (a1 a2) : KeepsR s₀ (execVRope a1 a2 s) := by
  unfold execVRope
  apply vecIssue_keeps
  · assumption
  · intro x0 x1 x2
    extract_lets +onlyGivenNames y3
    clear_value y3
    extract_lets +onlyGivenNames y4
    clear_value y4
    extract_lets +onlyGivenNames y5
    clear_value y5
    extract_lets +onlyGivenNames y6
    clear_value y6
    extract_lets +onlyGivenNames y7
    clear_value y7
    apply State.modUnit_keeps
    apply State.countClamps_keeps
    assumption

theorem execVRsq_keeps {s₀ s : State} (h : Keeps s₀ s) (a1 a2) : KeepsR s₀ (execVRsq a1 a2 s) := by
  unfold execVRsq
  apply vecFn_keeps
  assumption

theorem execVRsum_keeps {s₀ s : State} (h : Keeps s₀ s) (a1 a2) : KeepsR s₀ (execVRsum a1 a2 s) := by
  unfold execVRsum
  apply vecRed_keeps
  assumption

theorem execVScat_keeps {s₀ s : State} (h : Keeps s₀ s) (a1 a2) : KeepsR s₀ (execVScat a1 a2 s) := by
  unfold execVScat
  apply vecIssue_keeps
  · assumption
  · intro x0 x1 x2
    extract_lets +onlyGivenNames y3
    clear_value y3
    extract_lets +onlyGivenNames y4
    clear_value y4
    extract_lets +onlyGivenNames y5
    have h6 : Keeps s₀ y5 := by
      unfold y5
      apply State.countOor_keeps
      assumption
    clear_value y5
    apply State.modUnit_keeps
    assumption

theorem execVSet_keeps {s₀ s : State} (h : Keeps s₀ s) (a1 a2 a3) : KeepsR s₀ (execVSet a1 a2 a3 s) := by
  unfold execVSet
  split
  · apply KeepsR.next
    apply State.unlisted_keeps
    assumption
  · apply KeepsR.next
    apply State.modUnit_keeps
    apply State.tcount_keeps
    assumption

theorem execVSig_keeps {s₀ s : State} (h : Keeps s₀ s) (a1 a2) : KeepsR s₀ (execVSig a1 a2 s) := by
  unfold execVSig
  apply vecFn_keeps
  assumption

theorem execVSilu_keeps {s₀ s : State} (h : Keeps s₀ s) (a1 a2) : KeepsR s₀ (execVSilu a1 a2 s) := by
  unfold execVSilu
  apply vecFn_keeps
  assumption

theorem vecSop_keeps {s₀ s : State} (h : Keeps s₀ s) (a1 a2 a3 a4) : KeepsR s₀ (vecSop a1 a2 a3 a4 s) := by
  unfold vecSop
  apply KeepsR.ite
  · apply vecIssue_keeps
    · assumption
    · intro x0 x1 x2
      extract_lets +onlyGivenNames y3
      clear_value y3
      apply State.modUnit_keeps
      apply State.countClamps_keeps
      assumption
  · apply KeepsR.next
    apply State.unlisted_keeps
    assumption

theorem execVSopAdd_keeps {s₀ s : State} (h : Keeps s₀ s) (a1 a2) : KeepsR s₀ (execVSopAdd a1 a2 s) := by
  unfold execVSopAdd
  apply vecSop_keeps
  assumption

theorem execVSopMax_keeps {s₀ s : State} (h : Keeps s₀ s) (a1 a2) : KeepsR s₀ (execVSopMax a1 a2 s) := by
  unfold execVSopMax
  apply vecSop_keeps
  assumption

theorem execVSopMul_keeps {s₀ s : State} (h : Keeps s₀ s) (a1 a2) : KeepsR s₀ (execVSopMul a1 a2 s) := by
  unfold execVSopMul
  apply vecSop_keeps
  assumption

theorem execVSopRcp_keeps {s₀ s : State} (h : Keeps s₀ s) (a1 a2) : KeepsR s₀ (execVSopRcp a1 a2 s) := by
  unfold execVSopRcp
  apply vecSop_keeps
  assumption

theorem execVSopRsqrt_keeps {s₀ s : State} (h : Keeps s₀ s) (a1 a2) : KeepsR s₀ (execVSopRsqrt a1 a2 s) := by
  unfold execVSopRsqrt
  apply vecSop_keeps
  assumption

theorem execVSopSub_keeps {s₀ s : State} (h : Keeps s₀ s) (a1 a2) : KeepsR s₀ (execVSopSub a1 a2 s) := by
  unfold execVSopSub
  apply vecSop_keeps
  assumption

theorem execVSt_keeps {s₀ s : State} (h : Keeps s₀ s) (a1 a2) : KeepsR s₀ (execVSt a1 a2 s) := by
  unfold execVSt
  apply vecMem_keeps
  · assumption
  · intro x0 x1 x2
    apply State.setBytes_keeps
    assumption

theorem execVStat_keeps {s₀ s : State} (h : Keeps s₀ s) (a1 a2) : KeepsR s₀ (execVStat a1 a2 s) := by
  unfold execVStat
  apply vecIssue_keeps
  · assumption
  · intro x0 x1 x2
    extract_lets +onlyGivenNames y3
    clear_value y3
    extract_lets +onlyGivenNames y4
    clear_value y4
    extract_lets +onlyGivenNames y5
    clear_value y5
    extract_lets +onlyGivenNames y6
    clear_value y6
    extract_lets +onlyGivenNames y7
    clear_value y7
    apply State.modUnit_keeps
    apply State.countClamps_keeps
    assumption

theorem execVSub_keeps {s₀ s : State} (h : Keeps s₀ s) (a1 a2) : KeepsR s₀ (execVSub a1 a2 s) := by
  unfold execVSub
  apply vecEw_keeps
  assumption

theorem execVSubs_keeps {s₀ s : State} (h : Keeps s₀ s) (a1 a2) : KeepsR s₀ (execVSubs a1 a2 s) := by
  unfold execVSubs
  apply vecEwS_keeps
  assumption

theorem execVTanh_keeps {s₀ s : State} (h : Keeps s₀ s) (a1 a2) : KeepsR s₀ (execVTanh a1 a2 s) := by
  unfold execVTanh
  apply vecFn_keeps
  assumption

theorem execVTopk_keeps {s₀ s : State} (h : Keeps s₀ s) (a1 a2) : KeepsR s₀ (execVTopk a1 a2 s) := by
  unfold execVTopk
  apply vecIssue_keeps
  · assumption
  · intro x0 x1 x2
    extract_lets +onlyGivenNames y3
    clear_value y3
    apply State.putTop_keeps
    assumption

theorem execVTopki_keeps {s₀ s : State} (h : Keeps s₀ s) (a1 a2) : KeepsR s₀ (execVTopki a1 a2 s) := by
  unfold execVTopki
  apply vecIssue_keeps
  · assumption
  · intro x0 x1 x2
    apply State.putTop_keeps
    assumption

theorem execVWcorr_keeps {s₀ s : State} (h : Keeps s₀ s) (a1 a2) : KeepsR s₀ (execVWcorr a1 a2 s) := by
  unfold execVWcorr
  apply vecIssue_keeps
  · assumption
  · intro x0 x1 x2
    extract_lets +onlyGivenNames y3
    clear_value y3
    extract_lets +onlyGivenNames y4
    clear_value y4
    extract_lets +onlyGivenNames y5
    clear_value y5
    extract_lets +onlyGivenNames y6
    have h7 : Keeps s₀ y6 := by
      unfold y6
      apply Keeps.ite
      · assumption
      · apply State.tcount_keeps
        assumption
    clear_value y6
    apply State.modUnit_keeps
    apply State.countClamps_keeps
    assumption

theorem execVcoreLoop_keeps {s₀ s : State} (h : Keeps s₀ s) (a1 a2) : KeepsR s₀ (execVcoreLoop a1 a2 s) := by
  unfold execVcoreLoop
  extract_lets +onlyGivenNames y0
  clear_value y0
  extract_lets +onlyGivenNames y1
  clear_value y1
  extract_lets +onlyGivenNames y2
  clear_value y2
  apply State.listed_keeps
  · assumption
  · extract_lets +onlyGivenNames y3
    clear_value y3
    extract_lets +onlyGivenNames y4
    clear_value y4
    extract_lets +onlyGivenNames y5
    have h6 : Keeps s₀ y5 := by
      unfold y5
      apply State.modPower_keeps
      assumption
    clear_value y5
    extract_lets +onlyGivenNames y7
    have h8 : Keeps s₀ y7 := by
      unfold y7
      apply State.count_keeps
      apply State.regrant_keeps
      assumption
    clear_value y7
    apply Keeps.ite
    · apply State.count_keeps
      assumption
    · assumption

theorem execVerifyDone_keeps {s₀ s : State} (h : Keeps s₀ s) (a1 a2) : KeepsR s₀ (execVerifyDone a1 a2 s) := by
  unfold execVerifyDone
  apply State.listed_keeps
  · assumption
  · apply Keeps.ite
    · apply State.nowLit_keeps
      apply State.verifyTests_keeps
      assumption
    · apply State.verifyFailed_keeps
      apply State.verifyTests_keeps
      assumption

theorem execVmvm_keeps {s₀ s : State} (h : Keeps s₀ s) (a1) : KeepsR s₀ (execVmvm a1 s) := by
  unfold execVmvm
  split
  · apply KeepsR.next
    apply State.unlisted_keeps
    assumption
  · split
    · apply State.withPlaces_keeps
      apply KeepsR.next
      apply State.vmvmCheck_keeps
      apply State.queueVmvm_keeps
      apply State.startOp_keeps
      assumption
    · apply KeepsR.next
      apply State.unlisted_keeps
      assumption

theorem execVprog_keeps {s₀ s : State} (h : Keeps s₀ s) (a1) : KeepsR s₀ (execVprog a1 s) := by
  unfold execVprog
  split
  · apply KeepsR.next
    apply State.unlisted_keeps
    assumption
  · apply State.listed_keeps
    · assumption
    · apply State.loadScalars_keeps
      apply State.startUnit_keeps
      assumption

theorem execWakeEvent_keeps {s₀ s : State} (h : Keeps s₀ s) (a1) : KeepsR s₀ (execWakeEvent a1 s) := by
  unfold execWakeEvent
  apply State.listed_keeps
  · assumption
  · apply State.wake_keeps
    assumption

theorem execWakePin_keeps {s₀ s : State} (h : Keeps s₀ s) : KeepsR s₀ (execWakePin s) := by
  unfold execWakePin
  apply KeepsR.next
  apply State.wake_keeps
  assumption

theorem execWatchdogExpire_keeps {s₀ s : State} (h : Keeps s₀ s) (a1) : KeepsR s₀ (execWatchdogExpire a1 s) := by
  unfold execWatchdogExpire
  extract_lets +onlyGivenNames y0
  clear_value y0
  apply KeepsR.ite
  · apply KeepsR.ite
    · apply KeepsR.next
      apply State.raise_keeps
      assumption
    · extract_lets +onlyGivenNames y1
      clear_value y1
      extract_lets +onlyGivenNames y2
      have h3 : Keeps s₀ y2 := by
        unfold y2
        apply State.restartFailed_keeps
        apply State.modCore_keeps
        assumption
      clear_value y2
      apply KeepsR.next
      apply Keeps.ite
      · apply State.rollBack_keeps
        assumption
      · assumption
  · apply KeepsR.next
    apply State.unlisted_keeps
    assumption

theorem execWayHandover_keeps {s₀ s : State} (h : Keeps s₀ s) (a1 a2) : KeepsR s₀ (execWayHandover a1 a2 s) := by
  unfold execWayHandover
  extract_lets +onlyGivenNames y0
  clear_value y0
  extract_lets +onlyGivenNames y1
  clear_value y1
  apply State.listed_keeps
  · assumption
  · apply State.modWayNext_keeps
    apply State.modWayOwner_keeps
    refine ⟨?_, ?_⟩
    · dsimp only
      apply Sys2Proof.Machine.Keeps.pending
      assumption
    · dsimp only
      apply Sys2Proof.Machine.Keeps.mem
      assumption

theorem execWriteDrain_keeps {s₀ s : State} (h : Keeps s₀ s) (a1) : KeepsR s₀ (execWriteDrain a1 s) := by
  unfold execWriteDrain
  extract_lets +onlyGivenNames y0
  clear_value y0
  apply KeepsR.ite
  · apply KeepsR.next
    apply State.unlisted_keeps
    assumption
  · apply KeepsR.ite
    · apply KeepsR.next
      apply State.issueWrites_keeps
      assumption
    · apply State.listed_keeps
      · assumption
      · apply State.issueWrites_keeps
        assumption

theorem execWriteSlotGrant_keeps {s₀ s : State} (h : Keeps s₀ s) (a1) : KeepsR s₀ (execWriteSlotGrant a1 s) := by
  unfold execWriteSlotGrant
  apply State.whenUp_keeps
  · assumption
  · split
    · apply KeepsR.next
      apply State.unlisted_keeps
      assumption
    · apply State.listed_keeps
      · assumption
      · apply State.beginWrite_keeps
        assumption

/-- What every command keeps: the queue behind it, and the canonical form of memory. -/
theorem exec_keeps {s₀ s : State} (h : Keeps s₀ s) (i : Instr) : KeepsR s₀ (exec i s) := by
  cases i with
  | vmvm _ => exact execVmvm_keeps h _
  | convertingSlotGrant _ => exact execConvertingSlotGrant_keeps h _
  | mvmComplete _ => exact execMvmComplete_keeps h _
  | columnBlockWrite _ _ _ => exact execColumnBlockWrite_keeps h _ _ _
  | stratumChangeDone _ => exact execStratumChangeDone_keeps h _
  | mvmSuspend _ => exact execMvmSuspend_keeps h _
  | mvmResume _ => exact execMvmResume_keeps h _
  | slotReturn _ => exact execSlotReturn_keeps h _
  | grantRecompute => exact execGrantRecompute_keeps h
  | rateMonitorSample _ _ => exact execRateMonitorSample_keeps h _ _
  | testDueMvmCount _ => exact execTestDueMvmCount_keeps h _
  | testDueIdle _ => exact execTestDueIdle_keeps h _
  | testVectorComplete _ => exact execTestVectorComplete_keeps h _
  | writeSlotGrant _ => exact execWriteSlotGrant_keeps h _
  | eraseDone _ => exact execEraseDone_keeps h _
  | programDone _ => exact execProgramDone_keeps h _
  | verifyDone _ _ => exact execVerifyDone_keeps h _ _
  | dieEraseDone _ _ => exact execDieEraseDone_keeps h _ _
  | copyLoadDone _ => exact execCopyLoadDone_keeps h _
  | shadowOpComplete _ _ => exact execShadowOpComplete_keeps h _ _
  | fgemm _ => exact execFgemm_keeps h _
  | fattn _ => exact execFattn_keeps h _
  | drainSet _ _ => exact execDrainSet_keeps h _ _
  | podIdle _ => exact execPodIdle_keeps h _
  | vprog _ => exact execVprog_keeps h _
  | vAdd _ _ => exact execVAdd_keeps h _ _
  | vSub _ _ => exact execVSub_keeps h _ _
  | vMul _ _ => exact execVMul_keeps h _ _
  | vFma _ _ => exact execVFma_keeps h _ _
  | vMax _ _ => exact execVMax_keeps h _ _
  | vMin _ _ => exact execVMin_keeps h _ _
  | vAbs _ _ => exact execVAbs_keeps h _ _
  | vNeg _ _ => exact execVNeg_keeps h _ _
  | vMov _ _ => exact execVMov_keeps h _ _
  | vAdds _ _ => exact execVAdds_keeps h _ _
  | vSubs _ _ => exact execVSubs_keeps h _ _
  | vMuls _ _ => exact execVMuls_keeps h _ _
  | vFmas _ _ => exact execVFmas_keeps h _ _
  | vMaxs _ _ => exact execVMaxs_keeps h _ _
  | vMins _ _ => exact execVMins_keeps h _ _
  | vExp _ _ => exact execVExp_keeps h _ _
  | vLog _ _ => exact execVLog_keeps h _ _
  | vRcp _ _ => exact execVRcp_keeps h _ _
  | vRsq _ _ => exact execVRsq_keeps h _ _
  | vSig _ _ => exact execVSig_keeps h _ _
  | vTanh _ _ => exact execVTanh_keeps h _ _
  | vGelu _ _ => exact execVGelu_keeps h _ _
  | vSilu _ _ => exact execVSilu_keeps h _ _
  | vStat _ _ => exact execVStat_keeps h _ _
  | vNorm _ _ => exact execVNorm_keeps h _ _
  | vRope _ _ => exact execVRope_keeps h _ _
  | vQnt _ _ => exact execVQnt_keeps h _ _
  | vDqt _ _ => exact execVDqt_keeps h _ _
  | vMxq _ _ => exact execVMxq_keeps h _ _
  | vOscan _ _ => exact execVOscan_keeps h _ _
  | vEscf _ _ => exact execVEscf_keeps h _ _
  | vEmap _ _ => exact execVEmap_keeps h _ _
  | vQsite _ _ => exact execVQsite_keeps h _ _
  | vCorr _ _ => exact execVCorr_keeps h _ _
  | vWcorr _ _ => exact execVWcorr_keeps h _ _
  | vRsum _ _ => exact execVRsum_keeps h _ _
  | vRmax _ _ => exact execVRmax_keeps h _ _
  | vRmin _ _ => exact execVRmin_keeps h _ _
  | vRamx _ _ => exact execVRamx_keeps h _ _
  | vTopk _ _ => exact execVTopk_keeps h _ _
  | vTopki _ _ => exact execVTopki_keeps h _ _
  | vGath _ _ => exact execVGath_keeps h _ _
  | vScat _ _ => exact execVScat_keeps h _ _
  | vLd _ _ => exact execVLd_keeps h _ _
  | vSt _ _ => exact execVSt_keeps h _ _
  | vSet _ _ _ => exact execVSet_keeps h _ _ _
  | vSopAdd _ _ => exact execVSopAdd_keeps h _ _
  | vSopSub _ _ => exact execVSopSub_keeps h _ _
  | vSopMul _ _ => exact execVSopMul_keeps h _ _
  | vSopMax _ _ => exact execVSopMax_keeps h _ _
  | vSopRcp _ _ => exact execVSopRcp_keeps h _ _
  | vSopRsqrt _ _ => exact execVSopRsqrt_keeps h _ _
  | vEnd _ => exact execVEnd_keeps h _
  | kvscat _ => exact execKvscat_keeps h _
  | kvflush _ => exact execKvflush_keeps h _
  | kvPromote _ _ _ => exact execKvPromote_keeps h _ _ _
  | kvPreempt _ => exact execKvPreempt_keeps h _
  | pageMoveStart _ _ => exact execPageMoveStart_keeps h _ _
  | pageMoveSwitch _ => exact execPageMoveSwitch_keeps h _
  | pageSourceRelease _ => exact execPageSourceRelease_keeps h _
  | tableBuild _ _ _ =>
    dsimp only [exec]
    exact execTableBuild_keeps h _ _ _
  | tableRebuild _ _ _ =>
    dsimp only [exec]
    exact execTableRebuild_keeps h _ _ _
  | tableIdFree _ _ => exact execTableIdFree_keeps h _ _
  | serialRecovery _ _ _ => exact execSerialRecovery_keeps h _ _ _
  | blockReencode _ _ _ _ => exact execBlockReencode_keeps h _ _ _ _
  | expanderSelftestEnd _ => exact execExpanderSelftestEnd_keeps h _
  | stepInstantiate _ => exact execStepInstantiate_keeps h _
  | groupInstantiate _ => exact execGroupInstantiate_keeps h _
  | opDispatch _ => exact execOpDispatch_keeps h _
  | opComplete _ _ => exact execOpComplete_keeps h _ _
  | completionAccept _ => exact execCompletionAccept_keeps h _
  | opTimeout _ => exact execOpTimeout_keeps h _
  | moveOp _ => exact execMoveOp_keeps h _
  | routeOp _ => exact execRouteOp_keeps h _
  | corrOp _ => exact execCorrOp_keeps h _
  | corrAdd _ => exact execCorrAdd_keeps h _
  | syncOp _ => exact execSyncOp_keeps h _
  | cacheWays _ _ _ => exact execCacheWays_keeps h _ _ _
  | wayHandover _ _ => exact execWayHandover_keeps h _ _
  | csKvPages _ _ _ => exact execCsKvPages_keeps h _ _ _
  | dramSubQuota _ _ _ _ => exact execDramSubQuota_keeps h _ _ _ _
  | expertRebalanceCheck _ _ _ => exact execExpertRebalanceCheck_keeps h _ _ _
  | streamIssue _ => exact execStreamIssue_keeps h _
  | transferLand _ _ _ _ _ => exact execTransferLand_keeps h _ _ _ _ _
  | streamLate _ => exact execStreamLate_keeps h _
  | dramRead _ _ _ _ _ _ _ => exact execDramRead_keeps h _ _ _ _ _ _ _
  | dramWrite _ _ _ _ => exact execDramWrite_keeps h _ _ _ _
  | writeDrain _ => exact execWriteDrain_keeps h _
  | readRetry _ _ => exact execReadRetry_keeps h _ _
  | readRetryReturn _ _ => exact execReadRetryReturn_keeps h _ _
  | refresh _ _ _ => exact execRefresh_keeps h _ _ _
  | selfRefreshEntry _ => exact execSelfRefreshEntry_keeps h _
  | selfRefreshExit _ => exact execSelfRefreshExit_keeps h _
  | patrolScrub _ _ => exact execPatrolScrub_keeps h _ _
  | retrain _ _ => exact execRetrain_keeps h _ _
  | keyZeroise _ => exact execKeyZeroise_keeps h _
  | uploadBegin _ _ _ _ _ _ => exact execUploadBegin_keeps h _ _ _ _ _ _
  | uploadData _ _ _ _ _ => exact execUploadData_keeps h _ _ _ _ _
  | uploadEnd _ _ => exact execUploadEnd_keeps h _ _
  | uploadAbort _ _ => exact execUploadAbort_keeps h _ _
  | install _ _ _ => exact execInstall_keeps h _ _ _
  | swap _ _ _ _ _ _ => exact execSwap_keeps h _ _ _ _ _ _
  | remove _ _ _ _ => exact execRemove_keeps h _ _ _ _
  | checkPassEnd _ _ => exact execCheckPassEnd_keeps h _ _
  | installReady _ _ => exact execInstallReady_keeps h _ _
  | swapDrainDone _ _ => exact execSwapDrainDone_keeps h _ _
  | swapComplete _ _ => exact execSwapComplete_keeps h _ _
  | removeComplete _ _ => exact execRemoveComplete_keeps h _ _
  | adapterLoad _ _ _ _ => exact execAdapterLoad_keeps h _ _ _ _
  | adapterLoadDone _ _ => exact execAdapterLoadDone_keeps h _ _
  | adapterUnload _ _ _ => exact execAdapterUnload_keeps h _ _ _
  | adapterDelete _ _ _ => exact execAdapterDelete_keeps h _ _ _
  | datasetDelete _ _ _ => exact execDatasetDelete_keeps h _ _ _
  | trainStartNew _ _ => exact execTrainStartNew_keeps h _ _
  | trainResume _ _ => exact execTrainResume_keeps h _ _
  | trainStop _ _ => exact execTrainStop_keeps h _ _
  | trainStep _ _ _ _ => exact execTrainStep_keeps h _ _ _ _
  | checkpointLanded _ => exact execCheckpointLanded_keeps h _
  | modelReloadDone _ _ => exact execModelReloadDone_keeps h _ _
  | tcpConnect _ _ _ => exact execTcpConnect_keeps h _ _ _
  | clientHello _ _ _ _ => exact execClientHello_keeps h _ _ _ _
  | handshakeJobStart _ => exact execHandshakeJobStart_keeps h _
  | keyShare _ _ => exact execKeyShare_keeps h _ _
  | auth _ _ _ _ _ _ _ => exact execAuth_keeps h _ _ _ _ _ _ _
  | handshakeDeadline _ => exact execHandshakeDeadline_keeps h _
  | channelIdleExpiry _ => exact execChannelIdleExpiry_keeps h _
  | tcpConnectionEnd _ => exact execTcpConnectionEnd_keeps h _
  | openSession _ _ _ _ _ _ _ => exact execOpenSession_keeps h _ _ _ _ _ _ _
  | adapt _ _ _ _ _ => exact execAdapt_keeps h _ _ _ _ _
  | closeSession _ _ _ _ => exact execCloseSession_keeps h _ _ _ _
  | request _ _ _ => exact execRequest_keeps h _ _ _
  | cancel _ _ _ _ _ => exact execCancel_keeps h _ _ _ _ _
  | ping _ _ _ => exact execPing_keeps h _ _ _
  | unknownMsg _ _ _ => exact execUnknownMsg_keeps h _ _ _
  | requestDequeue _ _ => exact execRequestDequeue_keeps h _ _
  | queueTimeout _ _ => exact execQueueTimeout_keeps h _ _
  | sample _ _ _ => exact execSample_keeps h _ _ _
  | idleClose _ => exact execIdleClose_keeps h _
  | sessionIndexFree _ => exact execSessionIndexFree_keeps h _
  | outputBufferDrain _ _ => exact execOutputBufferDrain_keeps h _ _
  | watchdogExpire _ => exact execWatchdogExpire_keeps h _
  | ccRestart _ _ => exact execCcRestart_keeps h _ _
  | ccRestartDone _ _ => exact execCcRestartDone_keeps h _ _
  | fwBegin _ _ => exact execFwBegin_keeps h _ _
  | fwData _ _ _ => exact execFwData_keeps h _ _ _
  | fwEnd _ _ _ => exact execFwEnd_keeps h _ _ _
  | fwActivateRolling _ => exact execFwActivateRolling_keeps h _
  | fwActivateReset _ => exact execFwActivateReset_keeps h _
  | fwCommit _ => exact execFwCommit_keeps h _
  | fwRevert _ => exact execFwRevert_keeps h _
  | fwTrialWindowEnd => exact execFwTrialWindowEnd_keeps h
  | leaseClaim _ => exact execLeaseClaim_keeps h _
  | leaseRenew _ _ => exact execLeaseRenew_keeps h _ _
  | leaseRelease _ _ => exact execLeaseRelease_keeps h _ _
  | leaseExpiry => exact execLeaseExpiry_keeps h
  | graceExpiry => exact execGraceExpiry_keeps h
  | portEnable _ _ _ => exact execPortEnable_keeps h _ _ _
  | media _ _ _ => exact execMedia_keeps h _ _ _
  | speeds _ _ _ => exact execSpeeds_keeps h _ _ _
  | linkUp _ _ _ _ => exact execLinkUp_keeps h _ _ _ _
  | linkDown _ => exact execLinkDown_keeps h _
  | cableTest _ _ => exact execCableTest_keeps h _ _
  | cableTestDone _ _ _ => exact execCableTestDone_keeps h _ _ _
  | frameReceive _ _ => exact execFrameReceive_keeps h _ _
  | frameTransmit _ => exact execFrameTransmit_keeps h _
  | datagramTxDrop _ _ => exact execDatagramTxDrop_keeps h _ _
  | sakInstall _ _ _ => exact execSakInstall_keeps h _ _ _
  | mkaPeerLost _ => exact execMkaPeerLost_keeps h _
  | mkaHello _ _ => exact execMkaHello_keeps h _ _
  | macMergeVerified _ => exact execMacMergeVerified_keeps h _
  | gcl _ _ _ _ => exact execGcl_keeps h _ _ _ _
  | gclSwitch _ => exact execGclSwitch_keeps h _
  | tc10SleepRequest _ _ _ => exact execTc10SleepRequest_keeps h _ _ _
  | tc10AckTimeout _ => exact execTc10AckTimeout_keeps h _
  | tc10Wake _ => exact execTc10Wake_keeps h _
  | peerDelay _ _ => exact execPeerDelay_keeps h _ _
  | gptpSync _ _ _ _ => exact execGptpSync_keeps h _ _ _ _
  | disciplineLoss => exact execDisciplineLoss_keeps h
  | tcpUserTimeout _ => exact execTcpUserTimeout_keeps h _
  | tcpRetransmissionTimeout _ => exact execTcpRetransmissionTimeout_keeps h _
  | plcaBeacon _ => exact execPlcaBeacon_keeps h _
  | bdpConnect _ _ _ => exact execBdpConnect_keeps h _ _ _
  | bdpAuth _ _ _ _ _ => exact execBdpAuth_keeps h _ _ _ _ _
  | bdpRead _ _ => exact execBdpRead_keeps h _ _
  | bdpWrite _ _ => exact execBdpWrite_keeps h _ _
  | bdpSnapshot _ _ => exact execBdpSnapshot_keeps h _ _
  | badMessage _ _ => exact execBadMessage_keeps h _ _
  | registerWrite _ _ => exact execRegisterWrite_keeps h _ _
  | profileEdit _ _ _ => exact execProfileEdit_keeps h _ _ _
  | profileSelect _ _ => exact execProfileSelect_keeps h _ _
  | profileApply => exact execProfileApply_keeps h
  | factoryReset _ _ => exact execFactoryReset_keeps h _ _
  | bdpEventSend _ => exact execBdpEventSend_keeps h _
  | tenantForm _ _ => exact execTenantForm_keeps h _ _
  | tenantActivate _ _ => exact execTenantActivate_keeps h _ _
  | tenantRemove _ _ _ => exact execTenantRemove_keeps h _ _ _
  | removalOpsCancelled _ => exact execRemovalOpsCancelled_keeps h _
  | removalXfersDone _ _ => exact execRemovalXfersDone_keeps h _ _
  | scrubPartDone _ _ => exact execScrubPartDone_keeps h _ _
  | receiptSigned _ => exact execReceiptSigned_keeps h _
  | ufsPurgeDone => exact execUfsPurgeDone_keeps h
  | envelope _ _ _ => exact execEnvelope_keeps h _ _ _
  | principalKeyWrite _ _ _ => exact execPrincipalKeyWrite_keeps h _ _ _
  | debugUnlock _ _ => exact execDebugUnlock_keeps h _ _
  | trngFail => exact execTrngFail_keeps h
  | powerRequestRestartTimers _ => exact execPowerRequestRestartTimers_keeps h _
  | powerRequestSleep _ => exact execPowerRequestSleep_keeps h _
  | powerRequestDeepSleep _ => exact execPowerRequestDeepSleep_keeps h _
  | powerRequestOff _ => exact execPowerRequestOff_keeps h _
  | idleEntry => exact execIdleEntry_keeps h
  | idleExit => exact execIdleExit_keeps h
  | sleepAfterExpiry => exact execSleepAfterExpiry_keeps h
  | deepAfterExpiry => exact execDeepAfterExpiry_keeps h
  | entryProgress => exact execEntryProgress_keeps h
  | entryAbort _ _ _ => exact execEntryAbort_keeps h _ _ _
  | wakeEvent _ => exact execWakeEvent_keeps h _
  | returnComplete => exact execReturnComplete_keeps h
  | vcoreLoop _ _ => exact execVcoreLoop_keeps h _ _
  | thermalSample _ => exact execThermalSample_keeps h _
  | throttleStep => exact execThrottleStep_keeps h
  | thermalTrip _ => exact execThermalTrip_keeps h _
  | thermalShutdown _ => exact execThermalShutdown_keeps h _
  | faultAck _ _ => exact execFaultAck_keeps h _ _
  | eventSubscribe _ _ => exact execEventSubscribe_keeps h _ _
  | fatalReset => exact execFatalReset_keeps h
  | countersClear _ _ => exact execCountersClear_keeps h _ _
  | mirrorConsent _ _ _ => exact execMirrorConsent_keeps h _ _ _
  | mirrorKey _ _ _ => exact execMirrorKey_keeps h _ _ _
  | mirrorFlush _ _ => exact execMirrorFlush_keeps h _ _
  | segmentExport _ => exact execSegmentExport_keeps h _
  | mirrorTimeRecord _ => exact execMirrorTimeRecord_keeps h _
  | mirrorPowerRecord _ => exact execMirrorPowerRecord_keeps h _
  | mirrorGet _ _ _ _ _ _ => exact execMirrorGet_keeps h _ _ _ _ _ _
  | replayStart _ _ _ _ _ _ => exact execReplayStart_keeps h _ _ _ _ _ _
  | replayStop _ _ => exact execReplayStop_keeps h _ _
  | replayInject _ => exact execReplayInject_keeps h _
  | replayEnd _ => exact execReplayEnd_keeps h _
  | resetAssert => exact execResetAssert_keeps h
  | coldStart _ => exact execColdStart_keeps h _
  | serviceReady => exact execServiceReady_keeps h
  | wakePin => exact execWakePin_keeps h
  | brownout => exact execBrownout_keeps h
  | aonLoss => exact execAonLoss_keeps h
  | calAlarmDue => exact execCalAlarmDue_keeps h
  | calAlarm _ _ => exact execCalAlarm_keeps h _ _
  | calSet _ _ => exact execCalSet_keeps h _ _
  | ppsPulse => exact execPpsPulse_keeps h
  | extest _ => exact execExtest_keeps h _
  | idcode => exact execIdcode_keeps h
  | samplePreload _ _ => exact execSamplePreload_keeps h _ _
  | commission _ _ => exact execCommission_keeps h _ _
  | bypass _ => exact execBypass_keeps h _
  | calendarLost => exact execCalendarLost_keeps h

end Sys2Proof.Machine
end

