-- ==== Sys2Proof/Laws/Vector.lean ====
section
/-! SUPPORT. What the vector buffer's reads and writes say of one another (R112). -/

namespace Sys2Proof.Machine

/-! ### Words -/

@[simp] theorem word_put_self {u : VecUnit} {a : Nat} (h : a < 4096) (w : BitVec 32) : (u.put a w).word a = w := by
  simp [VecUnit.put, VecUnit.word, h]

@[simp] theorem word_put_ne {u : VecUnit} {a b : Nat} (h : b ≠ a) (w : BitVec 32) : (u.put a w).word b = u.word b := by
  unfold VecUnit.put; split
  · simp [VecUnit.word, h]
  · rfl

theorem put_sc (u : VecUnit) (a : Nat) (w : BitVec 32) : (u.put a w).sc = u.sc := by unfold VecUnit.put; split <;> rfl
theorem put_running (u : VecUnit) (a : Nat) (w : BitVec 32) : (u.put a w).running = u.running := by unfold VecUnit.put; split <;> rfl

theorem puts_sc : ∀ (ws : List (BitVec 32)) (u : VecUnit) (a : Nat), (u.puts a ws).sc = u.sc
  | [], _, _ => rfl
  | _ :: t, _, _ => (puts_sc t _ _).trans (put_sc ..)
theorem puts_running : ∀ (ws : List (BitVec 32)) (u : VecUnit) (a : Nat), (u.puts a ws).running = u.running
  | [], _, _ => rfl
  | _ :: t, _, _ => (puts_running t _ _).trans (put_running ..)

/-- Words outside a written run stay. -/
theorem word_puts_out : ∀ (ws : List (BitVec 32)) (u : VecUnit) (a b : Nat), (b < a ∨ a + ws.length ≤ b) → (u.puts a ws).word b = u.word b
  | [], _, _, _, _ => rfl
  | w :: t, u, a, b, h => by
    simp only [List.length_cons] at h
    rw [VecUnit.puts, word_puts_out t _ _ _ (by omega), word_put_ne (by omega)]

/-- A written run that fits the buffer reads as written. -/
theorem word_puts_in : ∀ (ws : List (BitVec 32)) (u : VecUnit) (a i : Nat) (h : i < ws.length), a + ws.length ≤ 4096 → (u.puts a ws).word (a + i) = ws[i]
  | w :: t, u, a, 0, _, hf => by
    simp only [List.length_cons] at hf
    rw [VecUnit.puts, word_puts_out t _ _ _ (by omega), show a + 0 = a from rfl, word_put_self (by omega)]; rfl
  | w :: t, u, a, i + 1, h, hf => by
    simp only [List.length_cons] at hf h
    rw [VecUnit.puts, show a + (i + 1) = a + 1 + i by omega, word_puts_in t _ _ i (by omega) (by omega)]; rfl

/-! ### Bits -/

/-- Bit `j` of the buffer, numbered from bit 0 of word 0. -/
def VecUnit.bitAt (u : VecUnit) (j : Nat) : Bool := (u.word (j / 32)).toNat.testBit (j % 32)

theorem testBit_nbits (x lo n i : Nat) : (nbits x lo n).testBit i = (decide (i < n) && x.testBit (lo + i)) := by
  simp [nbits, Nat.testBit_mod_two_pow, Nat.testBit_div_two_pow, Nat.add_comm]

/-- Two words side by side, as a run is read. -/
theorem testBit_pair (a b : BitVec 32) (i : Nat) : (a.toNat + 2 ^ 32 * b.toNat).testBit i = if i < 32 then a.toNat.testBit i else b.toNat.testBit (i - 32) := by
  rw [Nat.add_comm, Nat.testBit_two_pow_mul_add _ a.isLt]

/-- A read of a run takes the buffer's bits in their order. -/
theorem testBit_bits (u : VecUnit) (a bit n i : Nat) (hn : n ≤ 32) : (u.bits a bit n).testBit i = (decide (i < n) && u.bitAt (a * 32 + bit + i)) := by
  unfold VecUnit.bits VecUnit.bitAt
  rw [testBit_nbits, testBit_pair]
  by_cases h : i < n
  · simp only [h, decide_true, Bool.true_and]
    split
    · rw [show (a * 32 + bit + i) / 32 = a + bit / 32 by omega, show (a * 32 + bit + i) % 32 = bit % 32 + i by omega]
    · rw [show (a * 32 + bit + i) / 32 = a + bit / 32 + 1 by omega, show (a * 32 + bit + i) % 32 = bit % 32 + i - 32 by omega]
  · simp [h]

/-- A field of `n` bits at bit `b` replaced: the bits of the field are the new ones, every other bit stays. -/
theorem testBit_replace (old v b n i : Nat) :
    (old - nbits old b n * 2 ^ b + v % 2 ^ n * 2 ^ b).testBit i = if b ≤ i ∧ i < b + n then v.testBit (i - b) else old.testBit i := by
  have e1 : old = 2 ^ b * (2 ^ n * (old / 2 ^ b / 2 ^ n) + old / 2 ^ b % 2 ^ n) + old % 2 ^ b := by rw [Nat.div_add_mod, Nat.div_add_mod]
  have e2 : old - nbits old b n * 2 ^ b + v % 2 ^ n * 2 ^ b = 2 ^ b * (2 ^ n * (old / 2 ^ b / 2 ^ n) + v % 2 ^ n) + old % 2 ^ b := by
    unfold nbits
    generalize hx : old / 2 ^ b % 2 ^ n = x at e1 ⊢
    generalize old / 2 ^ b / 2 ^ n = y at e1 ⊢
    generalize old % 2 ^ b = z at e1 ⊢
    generalize v % 2 ^ n = w
    rw [e1]
    simp only [Nat.mul_add]
    rw [Nat.mul_comm x, Nat.mul_comm w]
    omega
  have hb : old % 2 ^ b < 2 ^ b := Nat.mod_lt _ (Nat.two_pow_pos b)
  rw [e2, Nat.testBit_two_pow_mul_add _ hb, Nat.testBit_two_pow_mul_add _ (Nat.mod_lt _ (Nat.two_pow_pos n))]
  by_cases h1 : i < b
  · rw [if_pos h1, if_neg (by omega), Nat.testBit_mod_two_pow]; simp [h1]
  · rw [if_neg h1]
    by_cases h2 : i - b < n
    · rw [if_pos h2, if_pos (by omega), Nat.testBit_mod_two_pow]; simp [h2]
    · rw [if_neg h2, if_neg (by omega), Nat.testBit_div_two_pow, Nat.testBit_div_two_pow]
      rw [show i - b - n + n + b = i by omega]

theorem bitAt_put {u : VecUnit} {k : Nat} (h : k < 4096) (w : BitVec 32) (j : Nat) :
    (u.put k w).bitAt j = if j / 32 = k then w.toNat.testBit (j % 32) else u.bitAt j := by
  unfold VecUnit.bitAt
  split
  · rename_i e; rw [e, word_put_self h]
  · rename_i e; rw [word_put_ne e]

/-- A code written into a run: its bits stand there, and every other bit of the buffer stays. -/
theorem bitAt_putBits (u : VecUnit) (a bit n v j : Nat) (hn : n ≤ 32) (h0 : 0 < n) (hf : a * 32 + bit + n ≤ 131072) :
    (u.putBits a bit n v).bitAt j = if a * 32 + bit ≤ j ∧ j < a * 32 + bit + n then v.testBit (j - (a * 32 + bit)) else u.bitAt j := by
  have hk : a + bit / 32 < 4096 := by omega
  unfold VecUnit.putBits
  simp only
  generalize hN : (u.word (a + bit / 32)).toNat + 2 ^ 32 * (u.word (a + bit / 32 + 1)).toNat - nbits ((u.word (a + bit / 32)).toNat + 2 ^ 32 * (u.word (a + bit / 32 + 1)).toNat) (bit % 32) n * 2 ^ (bit % 32) + v % 2 ^ n * 2 ^ (bit % 32) = N
  have ht : ∀ i, N.testBit i = if bit % 32 ≤ i ∧ i < bit % 32 + n then v.testBit (i - bit % 32)
      else if i < 32 then (u.word (a + bit / 32)).toNat.testBit i else (u.word (a + bit / 32 + 1)).toNat.testBit (i - 32) := by
    intro i; rw [← hN, testBit_replace, testBit_pair]
  by_cases hs : bit % 32 + n ≤ 32
  · rw [if_pos hs, bitAt_put hk]
    by_cases hj : j / 32 = a + bit / 32
    · rw [if_pos hj, BitVec.toNat_ofNat, Nat.testBit_mod_two_pow, ht, if_pos (show j % 32 < 32 by omega)]
      simp only [show j % 32 < 32 by omega, decide_true, Bool.true_and]
      by_cases hi : bit % 32 ≤ j % 32 ∧ j % 32 < bit % 32 + n
      · rw [if_pos hi, if_pos (by omega), show j % 32 - bit % 32 = j - (a * 32 + bit) by omega]
      · rw [if_neg hi, if_neg (by omega)]; unfold VecUnit.bitAt; rw [hj]
    · rw [if_neg hj, if_neg (by omega)]
  · rw [if_neg hs, bitAt_put (by omega)]
    by_cases hj : j / 32 = a + bit / 32 + 1
    · rw [if_pos hj, BitVec.toNat_ofNat, Nat.testBit_mod_two_pow, Nat.testBit_div_two_pow, ht]
      simp only [show j % 32 < 32 by omega, decide_true, Bool.true_and]
      by_cases hi : bit % 32 ≤ j % 32 + 32 ∧ j % 32 + 32 < bit % 32 + n
      · rw [if_pos hi, if_pos (by omega), show j % 32 + 32 - bit % 32 = j - (a * 32 + bit) by omega]
      · rw [if_neg hi, if_neg (by omega), if_neg (by omega)]; unfold VecUnit.bitAt; rw [hj, show j % 32 + 32 - 32 = j % 32 by omega]
    · rw [if_neg hj, bitAt_put hk]
      by_cases hj2 : j / 32 = a + bit / 32
      · rw [if_pos hj2, BitVec.toNat_ofNat, Nat.testBit_mod_two_pow, ht, if_pos (show j % 32 < 32 by omega)]
        simp only [show j % 32 < 32 by omega, decide_true, Bool.true_and]
        by_cases hi : bit % 32 ≤ j % 32 ∧ j % 32 < bit % 32 + n
        · rw [if_pos hi, if_pos (by omega), show j % 32 - bit % 32 = j - (a * 32 + bit) by omega]
        · rw [if_neg hi, if_neg (by omega)]; unfold VecUnit.bitAt; rw [hj2]
      · rw [if_neg hj2, if_neg (by omega)]

theorem putBits_sc (u : VecUnit) (a bit n v : Nat) : (u.putBits a bit n v).sc = u.sc := by
  unfold VecUnit.putBits; simp only; split <;> simp [put_sc]
theorem putBits_running (u : VecUnit) (a bit n v : Nat) : (u.putBits a bit n v).running = u.running := by
  unfold VecUnit.putBits; simp only; split <;> simp [put_running]

theorem putCodes_sc (a n : Nat) : ∀ (cs : List Nat) (u : VecUnit) (i : Nat), (u.putCodes a n i cs).sc = u.sc
  | [], _, _ => rfl
  | _ :: t, _, _ => (putCodes_sc a n t _ _).trans (putBits_sc ..)
theorem putCodes_running (a n : Nat) : ∀ (cs : List Nat) (u : VecUnit) (i : Nat), (u.putCodes a n i cs).running = u.running
  | [], _, _ => rfl
  | _ :: t, _, _ => (putCodes_running a n t _ _).trans (putBits_running ..)

/-- Bits outside a packed run stay. -/
theorem bitAt_putCodes_out (a n : Nat) (hn : n ≤ 32) (h0 : 0 < n) : ∀ (cs : List Nat) (u : VecUnit) (i j : Nat), a * 32 + (i + cs.length) * n ≤ 131072 →
    (j < a * 32 + i * n ∨ a * 32 + (i + cs.length) * n ≤ j) → (u.putCodes a n i cs).bitAt j = u.bitAt j
  | [], _, _, _, _, _ => rfl
  | c :: t, u, i, j, hf, h => by
    simp only [List.length_cons] at hf h
    have e : (i + (t.length + 1)) * n = i * n + n + t.length * n := by rw [Nat.add_mul, Nat.add_mul]; omega
    have e2 : (i + 1 + t.length) * n = i * n + n + t.length * n := by rw [Nat.add_mul, Nat.add_mul]; omega
    have e3 : (i + 1) * n = i * n + n := by rw [Nat.add_mul]; omega
    rw [e] at hf h
    rw [VecUnit.putCodes, bitAt_putCodes_out a n hn h0 t _ _ _ (by rw [e2]; exact hf) (by rw [e2, e3]; omega), bitAt_putBits _ _ _ _ _ _ hn h0 (by omega), if_neg (by omega)]

/-- A packed run that fits the buffer reads as written. -/
theorem bits_putCodes_in (a n : Nat) (hn : n ≤ 32) (h0 : 0 < n) : ∀ (cs : List Nat) (u : VecUnit) (i k : Nat) (h : k < cs.length), a * 32 + (i + cs.length) * n ≤ 131072 →
    (u.putCodes a n i cs).bits a ((i + k) * n) n = cs[k] % 2 ^ n
  | c :: t, u, i, 0, _, hf => by
    simp only [List.length_cons] at hf
    have e : (i + (t.length + 1)) * n = i * n + n + t.length * n := by rw [Nat.add_mul, Nat.add_mul]; omega
    have e2 : (i + 1 + t.length) * n = i * n + n + t.length * n := by rw [Nat.add_mul, Nat.add_mul]; omega
    have e3 : (i + 1) * n = i * n + n := by rw [Nat.add_mul]; omega
    rw [e] at hf
    apply Nat.eq_of_testBit_eq
    intro q
    rw [testBit_bits _ _ _ _ _ hn, Nat.testBit_mod_two_pow]
    by_cases hq : q < n
    · simp only [hq, decide_true, Bool.true_and, Nat.add_zero]
      rw [VecUnit.putCodes, bitAt_putCodes_out a n hn h0 t _ _ _ (by rw [e2]; exact hf) (by rw [e3]; omega), bitAt_putBits _ _ _ _ _ _ hn h0 (by omega), if_pos (by omega),
        show a * 32 + i * n + q - (a * 32 + i * n) = q by omega]
      rfl
    · simp [hq]
  | c :: t, u, i, k + 1, h, hf => by
    simp only [List.length_cons] at hf h
    rw [VecUnit.putCodes, show i + (k + 1) = i + 1 + k by omega, bits_putCodes_in a n hn h0 t _ (i + 1) k (by omega) (by rw [show i + 1 + t.length = i + (t.length + 1) by omega]; exact hf)]
    rfl

end Sys2Proof.Machine
end

