-- ==== Sys2Proof/Tests/Slice0.lean ====
section
/-! SUPPORT. Tests: refused ill-formed commands, worked examples of the spec, and for every statement with hypotheses a witness that meets them. -/

namespace Sys2Proof.Tests

open Machine

set_option Elab.async false

/-! ### Ill-formed commands are refused, each check by itself -/

theorem test_wf_numbers :
    okTenant 0 = false ∧ okTenant 9 = false ∧ okTenant 8 = true ∧ okDomain 9 = false ∧ okDomain 0 = true ∧ okPod 256 = false ∧ okPod 255 = true ∧
    okArray 32768 = false ∧ okStratum 262144 = false ∧ okDie 32 = false ∧ okPort 3 = false ∧ okSession 4096 = false ∧ okCluster 16 = false ∧ okChannel 32 = false ∧
    okSet 32 = false ∧ okPair 16 = false ∧ okSlice 8 = false ∧ okWay 32 = false ∧ okCore 8 = false ∧ okAdapter 16 = false ∧ okAn 2 = false ∧ okPcp 8 = false ∧
    okOpSlot 16384 = false ∧ okModelSlot 4 = false := by decide

theorem test_wf_commands :
    (Instr.vmvm 16384).wellFormed = false ∧ (Instr.mvmComplete 32768).wellFormed = false ∧ (Instr.eraseDone 262144).wellFormed = false ∧ (Instr.dieEraseDone 32 []).wellFormed = false ∧
    (Instr.drainSet 255 32).wellFormed = false ∧ (Instr.drainSet 256 31).wellFormed = false ∧ (Instr.vSet 256 0 0).wellFormed = false ∧ (Instr.idleClose 4096).wellFormed = false ∧
    (Instr.kvPreempt 9).wellFormed = false ∧ (Instr.refresh 32 0 false).wellFormed = false ∧ (Instr.refresh 31 16 false).wellFormed = false ∧ (Instr.wayHandover 8 0).wellFormed = false ∧
    (Instr.wayHandover 7 32).wellFormed = false ∧ (Instr.refresh 31 15 true).wellFormed = true := by decide

theorem test_wf_vector :
    okVF { cnt := 4096, dst := 0, spa := 0, addra := 0, srcb := 0, mod := 0 } = false ∧ okVF { cnt := 0, dst := 4096, spa := 0, addra := 0, srcb := 0, mod := 0 } = false ∧
    okVF { cnt := 0, dst := 0, spa := 2, addra := 0, srcb := 0, mod := 0 } = false ∧ okVF { cnt := 0, dst := 0, spa := 0, addra := 8192, srcb := 0, mod := 0 } = false ∧
    okVF { cnt := 0, dst := 0, spa := 0, addra := 0, srcb := 4096, mod := 0 } = false ∧ okVF { cnt := 0, dst := 0, spa := 0, addra := 0, srcb := 0, mod := 64 } = false ∧
    okVF { cnt := 4095, dst := 4095, spa := 1, addra := 8191, srcb := 4095, mod := 63 } = true := by decide

/-! ### Witnesses of the statements' hypotheses -/

/-- Channels of MGMT on MP, of DRV, of TEN(1), and of a client of tenant 1. -/
def mg : Conn := { kind := .bdp, port := 2, phase := .up, principal := .mgmt }
def dr : Conn := { kind := .bdp, phase := .up, principal := .drv }
def tn : Conn := { kind := .bdp, phase := .up, principal := .ten, tenant := 1 }
def ax : Conn := { kind := .asx, phase := .up, tenant := 1, maxClass := 3, clientId := 7 }
/-- A device in RUN with those channels, tenant 1 ACTIVE and the driver holding epoch 5. -/
def st : State :=
  { power := { state := .run }, pins := { resetN := true }, tenants := { states := [(1, .active)] },
    ctl := { lease := { state := .held, holder := true, epoch := 5, remaining := 9 } },
    svc := { conns := [(0, some mg), (1, some dr), (2, some tn), (3, some ax)] } }
/-- Requests on the three BDP channels. -/
def qm : Rq := { conn := 0, txn := 1, epoch := 0 }
def qd : Rq := { conn := 1, txn := 1, epoch := 5 }
def qt : Rq := { conn := 2, txn := 1, epoch := 0 }

/-! ### Control complex, ports, dictionary -/
/-- `st` with its control complex, its ports, its power part, its Mirror part or its clock changed. -/
def stC (f : Ctl → Ctl) : State := { st with ctl := f st.ctl }
def stP (ports : SMap Port) : State := { st with ports := { st.ports with ports := ports } }
def stW (p : Power) : State := { st with power := p }
def stK (c : Clk) : State := { st with clk := c }

theorem witness_CoreCommandsRun :
    ((st.coreUp 7 = true ∧ ((st.core 7).firings.filter fun t => decide (st.now < t + 60000000000)).length < 2 ∧ st.rollsBack 7 = false) ∧
    (let s := stC fun c => { c with cores := [(0, { firings := [0, 0] })] };
      s.coreUp 0 = true ∧ 2 ≤ ((s.core 0).firings.filter fun t => decide (s.now < t + 60000000000)).length) ∧
    (Claims.Reaches st (.ccRestart qm 7) qm mg (entryCode 0x7401 1) ∧ st.restartRuns = false) ∧
    ((stC fun c => { c with cores := [(0, { state := .restarting })] }).core 0).state = .restarting ∧
    (let s := stC fun c => { c with cores := [(7, { state := .restarting, onNew := true })], fwState := .trial };
      (s.core 7).state = .restarting ∧ s.rollsBack 7 = true)) ∧
    ((Claims.Reaches st (.fwBegin qm 1) qm mg (entryCode 0x7402 1) ∧ st.ctl.fwUpload = none ∧ st.ctl.fwState = .committed) ∧
    (let s := stC fun c => { c with fwUpload := some { length := 2 } };
      Claims.Reaches s (.fwData qm 0 [1, 2]) qm mg (entryCode 0x7402 2) ∧ s.ctl.fwUpload = some { length := 2 } ∧ 0 + [1, 2].length ≤ ({ length := 2 } : FwUpload).length) ∧
    (let u : FwUpload := { length := 2, written := [(0, 2)] };
      let s := stC fun c => { c with fwUpload := some u };
      Claims.Reaches s (.fwEnd qm true { secVersion := 64 }) qm mg (entryCode 0x7402 3) ∧ s.ctl.fwUpload = some u ∧ s.fwStatus u true { secVersion := 64 } = Bdp.ok) ∧
    (let s := stC fun c => { c with fwState := .staged };
      Claims.Reaches s (.fwActivateRolling qm) qm mg (entryCode 0x7402 4) ∧ s.ctl.fwState = .staged ∧ (s.fwSlot s.fwInactive).compatMin ≤ (s.fwSlot s.ctl.fwActive).version ∧
      Claims.Reaches s (.fwActivateReset qm) qm mg (entryCode 0x7402 4)) ∧
    (let s := stC fun c => { c with fwState := .trial, trialOver := true };
      Claims.Reaches s (.fwCommit qm) qm mg (entryCode 0x7402 5) ∧ s.ctl.fwState = .trial ∧ s.ctl.trialOver = true) ∧
    (let s := stC fun c => { c with fwState := .trial };
      Claims.Reaches s (.fwRevert qm) qm mg (entryCode 0x7402 6) ∧ s.ctl.fwState = .trial ∧ s.ctl.trialOver = false ∧ s.ctl.trialLeft = 0)) := by
  and_intros <;> decide

theorem witness_LeaseCommandsRun :
    (Claims.Reaches st (.leaseClaim qd) qd dr (entryCode 0x7000 2) ∧
     Claims.Reaches st (.leaseRenew qd 5) qd dr (entryCode 0x7000 3) ∧ Claims.Reaches st (.leaseRelease qd 5) qd dr (entryCode 0x7000 4) ∧
     st.ctl.lease.state ≠ .unattended ∧ 5 = st.ctl.lease.epoch) ∧
    (let s := stC fun c => { c with lease := { state := .held } };
      s.countsRun = true ∧ s.ctl.lease.state = .held ∧ s.ctl.lease.remaining = 0) ∧
    (let s := stC fun c => { c with lease := { state := .grace } };
      s.countsRun = true ∧ s.ctl.lease.state = .grace ∧ s.ctl.lease.remaining = 0) := by
  and_intros <;> decide

/-- A DRV write that names no epoch, one of an old epoch, and one in UNATTENDED. -/
theorem witness_LeaseFence :
    (let q : Rq := { conn := 1, txn := 1, epoch := 0 };
      let i : Instr := .tenantForm q 8;
      reqOf i = some q ∧ isRead i = false ∧ i.wellFormed = true ∧ i ≠ .leaseClaim q ∧ namedEntries i ≠ [leaseClaimCode] ∧ (∀ p l, i ≠ .profileEdit q p l) ∧
      (∀ b, i = .bdpWrite q b → b.fills = true ∧ b.count = b.items.length ∧ 0 < b.count ∧ b.count ≤ 64 ∧ b.resv = false ∧ b.flags < 8 ∧ b.toProfile = false) ∧
      st.conn q.conn = some dr ∧ dr.kind = .bdp ∧ dr.phase = .up ∧ dr.principal = .drv ∧ Claims.Up st i ∧ st.ctl.lease.state ≠ .unattended ∧ q.epoch = 0) ∧
    (let q : Rq := { conn := 1, txn := 1, epoch := 4 };
      let b : BdpBody := plainBody [⟨entryCode 0x8101 3, 1, 1, 2, false⟩, ⟨entryCode 0x8101 4, 1, 1, 2, false⟩] 0;
      b.fills = true ∧ b.count = b.items.length ∧ 0 < b.count ∧ b.count ≤ 64 ∧ b.resv = false ∧ b.flags < 8 ∧ b.toProfile = false ∧ namedEntries (.bdpWrite q b) ≠ [leaseClaimCode] ∧
      Claims.Up st (.bdpWrite q b) ∧ q.epoch ≠ st.ctl.lease.epoch) ∧
    (let s := stC fun c => { c with lease := {} };
      s.conn 1 = some dr ∧ Claims.Up s (.leaseRenew qd 5) ∧ s.ctl.lease.state = .unattended) := by
  and_intros <;> first | decide | exact fun _ _ => Instr.noConfusion | exact fun _ => Instr.noConfusion

theorem witness_PortCommandsRun :
    (Claims.Reaches st (.portEnable qm 2 true) qm mg (entryCode (portIndex 2) 1) ∧
     (let s := stP [(1, { link := .up })]; Claims.Reaches s (.portEnable qm 1 false) qm mg (entryCode (portIndex 1) 1) ∧ (s.port 1).link = .up) ∧
     (Claims.Reaches st (.portEnable qm 1 false) qm mg (entryCode (portIndex 1) 1) ∧ (st.port 1).link ≠ .up ∧ (st.port 1).link ≠ .sleep) ∧
     (Claims.Reaches st (.media qm 1 0) qm mg (entryCode (portIndex 1) 2) ∧ mediaSpeedsOk 0 (st.setting (portIndex 1) 3) = true) ∧
     (Claims.Reaches st (.speeds qm 1 15) qm mg (entryCode (portIndex 1) 3) ∧ mediaSpeedsOk (st.setting (portIndex 1) 2) 15 = true)) ∧
    (let l : GclList := { cycle := 1000, entries := [{ interval := 1 }, { interval := 999 }] };
      Claims.Reaches st (.gcl qm 1 l false) qm mg (entryCode (portIndex 1) 10) ∧ l.inRange = true) ∧
    (Claims.Reaches st (.cableTest qm 0) qm mg (entryCode (portIndex 0) 0x15) ∧ (st.port 0).link ≠ .up) ∧
    (let s := stP [(0, { on := true, link := .training })];
      (s.port 0).on = true ∧ (s.port 0).link = .training ∧ s.eff 0 3 &&& 8 ≠ 0) ∧
    ((stP [(1, { link := .up })]).port 1).link = .up ∧
    ((stP [(1, { cableBusy := true })]).port 1).cableBusy = true ∧
    (let s := stP [(0, { gclNext := some { cycle := 1000, entries := [{ interval := 1000 }] } })];
      (s.port 0).gclNext = some { cycle := 1000, entries := [{ interval := 1000 }] } ∧ 0 ≤ s.clk.cal) := by
  and_intros <;> decide

theorem witness_FrameCommandsRun :
    ((let s := stP [(2, { link := .up })];
      let f : RxFrame := { len := 64, fcsOk := true, vid := none, pcp := 0, express := false, kind := .arp, sa := none, pn := 0, icvOk := true, ipOk := true, number := 0, conn := none, record := none };
      (s.port 2).link = .up ∧ f.len ≤ 1522 ∧ 64 ≤ f.len ∧ f.fcsOk = true ∧ s.macsecPass 2 f = true ∧ (s.macsecSeen 2 f).vlanPass 2 f = true) ∧
     (let s := stP [(0, { link := .up, egress := [(3, [{ kind := .gptp }])] })];
      s.sends 0 = true ∧ (s.port 0).fragment = none ∧ s.nextQueue 0 false = some 3) ∧
     (let s := stP [(0, { link := .up, eff := [(9, 1)], verified := true, fragment := some 3, egress := [(3, [{ kind := .gptp }])] })];
      s.sends 0 = true ∧ (s.port 0).fragment = some 3 ∧ s.nextQueue 0 true = none ∧ s.mayStart 0 3 = true)) ∧
    (let f : TxFrame := { len := 2000, dgram := true, pcp := 4 };
      let k : Conn := { ax with toQueue := [f] };
      let s : State := { stP [(0, { egress := [(4, [{ len := 262144 }])] })] with clk := { mono := 1000000 }, svc := { conns := [(3, some k)] } };
      s.connsWhere (fun k => decide (k.port = 0) && (match k.waitingDatagram 4 with | some f => decide (f.since + 1000000 ≤ s.now) && !(s.port 0).takes f | none => false)) = [3] ∧
      s.conn 3 = some k ∧ k.waitingDatagram 4 = some f) ∧
    (let s : State := { stP [(1, { link := .up })] with dict := { stored := [(entryCode 0x3101 13, 9)] } };
      (s.port 1).link = .up ∧ s.sv (0x3100 + 1) 13 0 ≠ 0 ∧ (s.port 1).peerLive = false) ∧
    (let s := stP [(1, { link := .up, peerLive := true })]; (s.port 1).link = .up ∧ (s.port 1).peerLive = true) ∧
    (let s := stP [(0, { link := .up, eff := [(9, 1)] })]; (s.port 0).link = .up ∧ s.eff 0 9 = 1) ∧
    (let k : Conn := { ax with unacked := some 0, outBytes := 1 };
      let s : State := { st with clk := { mono := 10 ^ 12 }, svc := { conns := [(3, some k)] } };
      Claims.Up s (.tcpUserTimeout 3) ∧ Claims.Up s (.tcpRetransmissionTimeout 3) ∧ s.conn 3 = some k ∧ k.unacked = some 0 ∧ 0 + s.setting 0x3000 3 ≤ s.now ∧ 0 + 10000000 ≤ s.now ∧ 0 < k.outBytes) ∧
    (let s := stP [(2, { on := true, eff := [(2, 1)] })]; (s.port 2).on = true ∧ s.eff 2 2 ≠ 255 ∧ (true = true ↔ s.eff 2 2 ≠ 0)) := by
  and_intros <;> decide

theorem witness_TimeAndSleepCommandsRun :
    ((let s := stP [(1, { link := .up })]; (s.port 1).link = .up ∧ Claims.Up s (.gptpSync 1 0 true none)) ∧
     (let s := (stP [(1, { link := .up })]).modPort 1 (fun x => { x with syncLive := true, bmca := true }); s.supplies 1 = true) ∧
     (let s := (stP [(0, { syncLive := true }), (1, { link := .up })]).modPort 1 (fun x => { x with syncLive := true, bmca := false }); s.supplies 1 = false)) ∧
    (let s := stK { disciplined := true, mono := 3000000000 }; s.clk.disciplined = true ∧ s.clk.lastSync + 3000000000 ≤ s.now) ∧
    (let s := stW { state := .entering, entry := some { waitPorts := [1] } }; s.awaitsPort 1 = true) ∧
    (let s : State := { stP [(0, { link := .up, eff := [(19, 1)] })] with power := { state := .entering } };
      (s.port 0).link = .up ∧ s.tc10 0 = true ∧ s.power.state = .entering ∧ s.awaitsPort 0 = false) := by
  and_intros <;> decide

theorem witness_BdpTransactionsRun :
    ((Claims.Up st (.bdpConnect 9 2 (st.serviceNumber 0)) ∧ st.bdpService 2 (st.serviceNumber 0) = some .bdp ∧ st.conn 9 = none ∧ st.tcpCount false < 64 ∧ st.bdpFull 2 = false) ∧
     (let k : Conn := { kind := .bdp, port := 2, phase := .authWait, principal := .mgmt };
      let s : State := { st with svc := { conns := [(9, some k)] }, dict := { stored := [(entryCode 0x4001 1, 10)] } };
      Claims.Up s (.bdpAuth 9 true 0 true false) ∧ s.conn 9 = some k ∧ k.phase = .authWait ∧ k.kind = .bdp ∧ s.authOk k 0 true = true)) ∧
    (let b := plainBody [⟨entryCode 0x7000 1, 0, 0, 0, false⟩] 0;
      Claims.Transacts st (.bdpRead qt b) qt tn b false ∧ Claims.Transacts st (.bdpSnapshot qt b) qt tn b false ∧ ∀ it ∈ b.items, tn.spoils it = false) ∧
    (let i : Item := ⟨entryCode 0x8101 4, 1, 1, 88, false⟩;
      let b := plainBody [i, i] 0;
      Claims.Transacts st (.bdpWrite qd b) qd dr b true ∧ b.toProfile = false ∧ (writeAll (writeItem qd dr b false) 0 b.items false st).status = Bdp.ok ∧
      (writeAll (writeItem qd dr b false) 0 b.items false st).waits = false ∧
      Claims.Transacts st (.bdpWrite qd (plainBody [i] 0)) qd dr (plainBody [i] 0) true ∧ (writeItem qd dr (plainBody [i] 0) true i st).1 = Bdp.ok ∧
      Claims.Transacts st (.registerWrite qd i) qd dr (plainBody [i] 0) true) ∧
    (let i : Item := ⟨entryCode 0x2004 1, 8, 8, 20000, false⟩;
      let l := [i];
      Claims.Transacts st (.profileEdit qm 3 l) qm mg (plainBody l (1 + 2 * (3 % 4))) true ∧ (writeAll (editItem mg (3 % 4)) 0 l false st).status = Bdp.ok) ∧
    (Claims.Up st (.badMessage 2 0x33) ∧ st.conn 2 = some tn ∧ wrongCode .bdp 0x33 = true) ∧
    (let k : Conn := { tn with events := [3] };
      let s : State := { st with svc := { conns := [(2, some k)] } };
      Claims.Up s (.bdpEventSend 2) ∧ s.conn 2 = some k ∧ k.kind = .bdp ∧ k.phase = .up ∧ k.events ≠ []) := by
  and_intros <;> decide

/-- Which vendor test entries unlocked debug access opens is a free value; where it opens one, the premises of its stop are met. -/
theorem witness_BdpTransactionsRun_vendor (h : Config.vendorEntry 0xF00001 = true) :
    let s : State := { st with trust := { debug := true } };
    let it : Item := ⟨0xF00001, 8, 8, 1, false⟩;
    s.conn qm.conn = some mg ∧ mg.kind = .bdp ∧ mg.phase = .up ∧ Claims.Up s (.registerWrite qm it) ∧ txnPre qm (plainBody [it] 0) true mg s = Bdp.ok ∧ s.vendorNamed it.code = true :=
  ⟨by decide, rfl, rfl, ⟨by decide, by decide⟩, by decide, by simp [State.vendorNamed, h]⟩

theorem witness_ProfileCommandsRun :
    (Claims.Reaches st (.profileSelect qm 3) qm mg (entryCode 0x2000 5) ∧ st.profileWaits = false) ∧
    (let s := stW { state := .entering }; Claims.Reaches s (.profileSelect qm 0) qm mg (entryCode 0x2000 5) ∧ s.profileWaits = true) ∧
    (let s : State := { st with dict := { selected := some 1 } }; Claims.Up s .profileApply ∧ s.dict.selected = some 1 ∧ s.profileWaits = false) ∧
    (let s : State := { st with tenants := {} }; Claims.Reaches s (.factoryReset qm 1) qm mg (entryCode 0x2000 6) ∧ ∀ i, i < 8 → s.tenState (i + 1) = .free) := by
  and_intros <;> decide

/-! ### Tenants, trust, power, faults, Mirror, start-up -/
/-- `st` with the removal of tenant 1, or its Mirror part, in a given state. -/
def stR (r : Removal) : State := { st with tenants := { states := [(1, .husk)], removals := [(1, some r)] } }
def stM (m : MTen) : State := { st with mirror := { st.mirror with tenants := [(1, m)] } }

theorem witness_TenantCommandsRun :
    ((let s : State := { st with tenants := {}, dict := { stored := [(entryCode 0x4300 8, 2 ^ 72 + 2 * 2 ^ 64 + 2 ^ 31 * 2 ^ 32 + 2 ^ 15), (entryCode 0x8108 1, 2 ^ 15), (entryCode 0x8108 2, 2 ^ 31)] } };
      Claims.Reaches s (.tenantForm qd 8) qd dr (entryCode (0x4200 + 8) 2) ∧ s.tenState 8 = .free ∧ s.trust.debug = false ∧ (s.envOf 8).enabled = true ∧
      bitsWithin 16 (s.clustersOf 8) (s.envOf 8).clusters = true ∧ bitsWithin 32 (s.diesOf 8) (s.envOf 8).dies = true ∧ s.contested 8 = false ∧
      ((s.clamped 8).modTenState 8 fun _ => .forming).sumsHold = true) ∧
     (let s : State := { st with tenants := { states := [(8, .forming)] }, dict := { stored := [(entryCode 0x8108 1, 2 ^ 15), (entryCode 0x8108 2, 2 ^ 31), (entryCode 0x8118 1, 100), (entryCode 0x8118 2, 100)] } };
      Claims.Reaches s (.tenantActivate qd 8) qd dr (entryCode (0x4200 + 8) 3) ∧ s.tenState 8 = .forming ∧ s.clustersOf 8 ≠ 0 ∧ s.diesOf 8 ≠ 0 ∧ s.subSum 8 + 256 ≤ s.dramMib 8) ∧
     (Claims.Reaches st (.tenantRemove qd 1 0) qd dr (entryCode (0x4200 + 1) 4) ∧ st.tenState 1 = .active)) ∧
    (let s := stR { step := 2 }; Claims.Up s (.removalOpsCancelled 1) ∧ s.removalStep 1 = 2 ∧ s.opsInFlight 1 = 0) ∧
    (let s := stR { step := 3 }; Claims.Up s (.removalXfersDone 1 0) ∧ s.removalStep 1 = 3) ∧
    (let s := stR { step := 6 }; s.powered = true ∧ ScrubPart.dram ≠ .vault ∧ s.scrubLeft 1 .dram = true) ∧
    (let r : Removal := { step := 6, parts := [.dram, .onDie, .control, .ufs, .vault] };
      (stR r).removal 1 = some r ∧ (stR r).powered = true ∧ r.step = 6) ∧
    (let s : State := { st with tenants := { purging := true } }; s.powered = true ∧ s.tenants.purging = true) := by
  and_intros <;> decide

theorem witness_TenantCommandsRun_parts : ∀ p : ScrubPart, p ∈ [ScrubPart.dram, .onDie, .control, .ufs, .vault] := by
  intro p; cases p <;> decide

theorem witness_TrustCommandsRun :
    (let v := 2 ^ 72 + 30 * 2 ^ 64 + 4096 * 2 ^ 128;
      Claims.Reaches st (.envelope qm 8 v) qm mg (entryCode 0x4300 8) ∧ envelopeResv v = false ∧ (EnvRec.ofNat v).inRange = true ∧ st.envCovers 8 (EnvRec.ofNat v) = true) ∧
    (Claims.Reaches st (.principalKeyWrite qm (entryCode 0x4001 4) 0) qm mg (entryCode 0x4001 4) ∧ (entryCode 0x4001 4 / 256 = 0x4001 → 0 ≠ 0 ∨ st.mgmtKeys ≠ 1) ∧
      (keyPrincipal (entryCode 0x4001 4 / 256) = .ten → st.quotaOpen (entryCode 0x4001 4 / 256 % 16) = true)) ∧
    (let s : State := { st with tenants := {} }; Claims.Reaches s (.debugUnlock qm true) qm mg (entryCode 0x4400 3) ∧ ∀ i, i < 8 → s.tenState (i + 1) = .free) ∧
    st.powered = true := by
  and_intros <;> decide

theorem witness_PowerRequestsRun :
    ((Claims.Reaches st (.powerRequestRestartTimers qm) qm mg powerRequestCode ∧ Claims.Reaches st (.powerRequestSleep qm) qm mg powerRequestCode ∧
      Claims.Reaches st (.powerRequestDeepSleep qm) qm mg powerRequestCode ∧ Claims.Reaches st (.powerRequestOff qm) qm mg powerRequestCode ∧ st.inTransition = false) ∧
     (let s : State := { st with tenants := {} };
      s.refusers .sleep false = [] ∧ s.refusers .deepSleep false = [] ∧ s.refusers .off false = [])) ∧
    (let s := stK { mono := 20000 }; Claims.Up s .idleEntry ∧ s.power.state = .run ∧ s.dataWork = false ∧ s.power.idleSince + s.pv 0x2004 1 20000 ≤ s.now) ∧
    (let s : State := { stW { state := .idle } with models := { jobs := [(1, { state := .running })] } }; s.power.state = .idle ∧ s.dataWork = true) ∧
    (let s : State := { st with tenants := {}, power := { state := .idle, sleepCount := 7 }, dict := { present := [(entryCode 0x2004 2, 7), (entryCode 0x2004 4, 1)] } };
      Claims.Up s .sleepAfterExpiry ∧ s.power.state = .idle ∧ s.pv 0x2004 2 0 ≠ 0 ∧ s.pv 0x2004 2 0 ≤ s.power.sleepCount ∧ s.refusers .sleep true = []) ∧
    (let s : State := { st with tenants := {}, power := { state := .sleep, deepCount := 7 }, dict := { present := [(entryCode 0x2004 3, 7), (entryCode 0x2004 4, 1)] } };
      Claims.Up s .deepAfterExpiry ∧ s.power.state = .sleep ∧ s.pv 0x2004 3 0 ≠ 0 ∧ s.pv 0x2004 3 0 ≤ s.power.deepCount ∧ s.refusers .deepSleep true = []) ∧
    (let e : Entry := { step := 2 }; let s := stW { state := .entering, entry := some e };
      Claims.Up s .entryProgress ∧ s.power.entry = some e ∧ s.stepDone e = true ∧ e.mayAbort 1 = true) ∧
    (stW { state := .sleep }).power.state = .sleep ∧ (stW { state := .off }).power.state = .off ∧
    (stW { state := .returning, returnFrom := .deepSleep }).power.returnFrom = .deepSleep := by
  and_intros <;> decide

theorem witness_ThermalCommandsRun :
    (let s := stW { state := .run, vcore := 840, tj := 85000 };
      let s1 := s.modPower fun p => (if s.power.state = .run ∨ s.power.state = .entering then p.loopStep s.vcoreMax (s.digitalBudget - 0) 0 5 else p).measured [1, 2, 3, 4, 5, 6] 7;
      s.corePowered 0 = true ∧ 0 = (4 - s.budget 2) + (6 - s.budget 3) ∧ 600 ≤ s1.power.vcore ∧ s1.power.vcore ≤ 850 ∧ -40000 ≤ s.power.tj ∧ s.power.tj ≤ 125000 ∧ s.power.tj = 85000) ∧
    (st.powered = true ∧ st.power.thermState = 0 ∧ (115000 : Int) ≤ 115000 ∧ (114999 : Int) < 115000) ∧
    (stW { state := .run, thermState := 2 }).power.thermState = 2 ∧
    (let s := stW { state := .run, thermState := 1, tj := 115000 }; s.powered = true ∧ s.power.thermState = 1 ∧ 115000 ≤ s.power.tj) ∧
    (let s := stW { state := .run, thermState := 1, tj := 110000 }; s.powered = true ∧ s.power.thermState = 1 ∧ s.power.tj ≤ 110000) := by
  and_intros <;> decide

/-- Whether the silicon is the typical one is a free value; on typical silicon the premise of the table's rate is met. -/
theorem witness_ThermalCommandsRun_typical (h : Config.typicalSilicon = true) : (stW { state := .run, vcore := 840, tj := 85000 }).power.tj = 85000 ∧ Config.typicalSilicon = true := ⟨rfl, h⟩

theorem witness_FaultCommandsRun :
    (let s : State := { st with faults := { nextSeq := 3 } };
      Claims.Reaches s (.faultAck qm 2) qm mg (entryCode 0xB000 2) ∧ serialAfter 32 2 ((s.faults.nextSeq + 2 ^ 32 - 1) % 2 ^ 32) = false) ∧
    Claims.Reaches st (.eventSubscribe qt 255) qt tn (entryCode 0xB000 4) ∧
    (let s : State := { st with faults := { fatalDue := true } }; s.powered = true ∧ s.faults.fatalDue = true) ∧
    Claims.Reaches st (.countersClear qm 8) qm mg (entryCode 0xA0F0 3) := by
  and_intros <;> decide

theorem witness_CountersClearZeroes : Claims.Reaches st (.countersClear qm 9) qm mg (entryCode 0xA0F0 3) ∧ 8 < 9 ∧ Claims.Reaches st (.countersClear qm 0) qm mg (entryCode 0xA0F0 3) := by
  and_intros <;> decide

theorem witness_CounterSaturates :
    entryCode 0xA001 1 ≠ entryCode 0xA0F2 2 ∧ entryCode 0xA001 1 ≠ entryCode 0xAF01 6 ∧
    (let s : State := { st with faults := { counters := [(entryCode 0xA001 1, counterMax)] } }; counterMax ≤ s.counter 0xA001 1 ∧ s.counter 0xA001 1 ≤ counterMax) ∧
    (let s : State := { st with faults := { counters := [(entryCode 0xA001 1, counterMax - 1)] } };
      s.counter 0xA001 1 < counterMax ∧ counterMax ≤ s.counter 0xA001 1 + 1 ∧ s.faults.satList.length < 64 ∧ s.counter 0xA0F2 2 + 1 < counterMax) := by
  and_intros <;> decide

theorem witness_SerialOrder : (0 < 1) ∧ serialAfter 32 0 0xFFFFFFFF = true ∧ serialAfter 32 0x80000000 0 = false ∧ serialAfter 32 0x7FFFFFFF 0 = true ∧ (0xFFFFFFFF + 0x7FFFFFFF) % 2 ^ 32 = 0x7FFFFFFE := by
  and_intros <;> decide

theorem witness_EventNumbers : State.reset.faults.nextSeq < 2 ^ 32 ∧ State.reset.faults.fatalLog.length ≤ 64 ∧ (State.reset.faults.seqMark + 2 ^ 32 - State.reset.faults.nextSeq) % 2 ^ 32 ≤ 69631 := by
  and_intros <;> decide

theorem witness_MirrorCommandsRun :
    (Claims.Reaches st (.mirrorConsent qt 1 1) qt tn (entryCode (0xB100 + 1) 1) ∧ Claims.Reaches st (.mirrorKey qt 1 0) qt tn (entryCode (0xB100 + 1) 2)) ∧
    (let s := stM { recording := true };
      Claims.Reaches s (.mirrorFlush qd 1) qd dr (entryCode (0xB100 + 1) 4) ∧ (s.mten 1).recording = true ∧ Claims.Up s (.mirrorTimeRecord 1) ∧ Claims.Up s (.mirrorPowerRecord 1)) ∧
    (let s := stM { recording := true, full := [{ seq := 0, mono := 0, len := 8, body := .time 0 false }] }; Claims.Up s (.segmentExport 1) ∧ s.exportDue 1 = true) ∧
    (let k : Conn := { kind := .mirror, phase := .up, principal := .ten, tenant := 1 };
      let s : State := { st with svc := { conns := [(5, some k)] } }; Claims.Up s (.mirrorGet 5 1 0 0 65000 false) ∧ s.conn 5 = some k) := by
  and_intros <;> decide

theorem witness_ReplayCommandsRun :
    (let f : MFile := { seq := 4, records := [] };
      let s := stM { files := [f] };
      Claims.Reaches s (.replayStart qd 1 4 4 1 false) qd dr (entryCode (0xB100 + 1) 6) ∧ (s.mten 1).range 4 4 = some [f] ∧ s.tenState 1 = .active ∧
      s.sessionsWhere (fun x => x.isOpen && decide (x.tenant = 1)) = [] ∧ (s.mten 1).replay = none ∧ (∀ x ∈ [f], x.key = s.mirrorKeyOf 1) ∧
      (([f].flatMap (·.records)).findSome? MRec.slotsInfo).all (s.slotsMatch 1) = true) ∧
    (let m : MRec := { seq := 0, mono := 0, len := 8, body := .inbound 0 0x10 [0, 0, 0, 0] };
      let r := replayOf 4 4 1 0 [m];
      let s := stM { replay := some r };
      (s.mten 1).replay = some r ∧ s.powered = true ∧ r.stopping = false ∧ s.nextCold r = none ∧ r.todo = [m] ∧ s.injectsNow r m = true ∧
      Claims.Reaches s (.replayStop qd 1) qd dr (entryCode (0xB100 + 1) 7)) ∧
    (let r : Replay := { replayOf 4 4 1 0 [] with steps := [{ body := .cold 9 0 }] }; (stM { replay := some r }).nextCold r = some 9) ∧
    (let r : Replay := { replayOf 4 4 1 0 [] with stopping := true }; let s := stM { replay := some r }; s.replayOver 1 r = true) := by
  and_intros <;> decide

theorem witness_StartupCommandsRun :
    (st.pins.resetN = true ∧ st.power.state ≠ .off ∧ st.clk.vaon = true) ∧ (stK { vaon := false }).clk.vaon = false ∧
    (let b : Boot := { profsel := 3, gpio := 0, aonTemp := 105000, okA := true, okB := false, lost := [], ufsMib := 0 };
      State.reset.power.state = .held ∧ State.reset.clk.starting = false ∧ State.reset.clk.noBoot = false ∧ (State.reset.power.lastOff ≠ 2 ∨ b.aonTemp ≤ 105000) ∧
      State.reset.slotBoots b State.reset.ctl.fwActive = true) ∧
    (stK { starting := true }).clk.starting = true ∧ ({ stK { starting := true } with exp := { selfTesting := false } } : State).exp.selfTesting = false ∧ (stW { state := .off }).power.state = .off ∧
    (let s : State := { stK { timeUnknown := false, cal := 10 ^ 9 + 50 } with dict := { stored := [(entryCode 0xC001 4, 1)] } };
      s.powered = true ∧ s.setting 0xC001 4 = 1 ∧ s.clk.timeUnknown = false ∧ s.clk.cal % 1000000000 ≤ 50) := by
  and_intros <;> decide

theorem witness_TestPortAndClockRun :
    (State.reset.scanOffered = true ∧ State.reset.pins.resetN = false ∧ State.reset.mgmtKeys = 0 ∧ (10 + 256 * 3) % 256 = 10) ∧
    (let s := stK { timeUnknown := false, cal := 7 }; Claims.Reaches s (.calAlarm qm 8) qm mg (entryCode 0xC001 3) ∧ s.clk.timeUnknown = false ∧ s.clk.cal < 8) ∧
    (Claims.Reaches st (.calSet qm 0) qm mg (entryCode 0xC001 1) ∧ st.clk.disciplined = false) ∧
    (let s : State := { stK { cal := 7 } with dict := { stored := [(entryCode 0xC001 3, 7)] } }; s.sv 0xC001 3 0 ≠ 0 ∧ s.sv 0xC001 3 0 ≤ s.clk.cal) := by
  and_intros <;> decide

theorem witness_TestPortOffers : st.trust.debug = false ∧ st.pins.resetN = true ∧ State.reset.trust.debug = false ∧ State.reset.pins.resetN = false ∧ State.reset.mgmtKeys = 0 := by
  and_intros <;> decide

/-! ### Models, adapters, training -/
/-- A plan of one SYNC operation for each step, its tokeniser, and the image that carries them. -/
def tSync : Template := {}
def grp : Group := { invs := [{ sigs := [{}] }], thresh := [1] }
def tok : Tokeniser := { vocab := 257, strings := (List.range 256).map (fun b => [b]) ++ [[60, 47, 115, 62]], specials := [(256, true)] }
def plan : Plan := { templates := [tSync], graphs := [[grp], [grp], [], []], vocab := 257, chunk := 128 }
def img : Image :=
  { header := { bytes := 24576, sections := 5 }, sects := [1, 2, 3, 4, 5].map fun t => { type := t, offset := 4096 * t, length := 4096 }, plan := plan, tok := tok }
/-- An adapter image without targets, of the same base. -/
def adImg : Image := { header := { kind := 1, bytes := 8192 }, sects := [{ type := 6, offset := 4096, length := 4096 }] }
/-- `st` with given models. -/
def stL (m : Models) : State := { st with models := m, dict := { stored := [(entryCode 0x8101 1, 1), (entryCode 0x8101 2, 3), (entryCode 0x8101 7, 1), (entryCode 0x8111 1, 10)] } }

theorem witness_UploadCommandsRun :
    ((let s := stL {};
      Claims.Reaches s (.uploadBegin qd 1 0 3 4096 false) qd dr (entryCode (0x5300 + 1) 2) ∧ s.tenState 1 = .active ∧ s.upload 1 = none ∧ s.slotTakes 1 0 3 = true ∧
      s.ufsFits 1 4096 = true ∧ 4096 % 4096 = 0) ∧
     (let u : Upload := { bytes := 2 }; let s := stL { uploads := [(1, some u)] };
      Claims.Reaches s (.uploadData qd 1 0 [1, 2] none) qd dr (entryCode (0x5300 + 1) 3) ∧ s.upload 1 = some u ∧ 0 + [1, 2].length ≤ u.bytes ∧
      Claims.Reaches s (.uploadAbort qd 1) qd dr (entryCode (0x5300 + 1) 5))) ∧
    (let u : Upload := { bytes := 24576, written := [(0, 24576)], img := some img }; let s := stL { uploads := [(1, some u)] };
      Claims.Reaches s (.uploadEnd qd 1) qd dr (entryCode (0x5300 + 1) 4) ∧ s.upload 1 = some u ∧ u.endStatus = Bdp.ok ∧ s.slotTakes 1 u.kind u.slot = true) ∧
    (let s := stL { datasets := [(7, some {})] };
      Claims.Reaches s (.datasetDelete qd 1 3) qd dr (entryCode (0x5300 + 1) 7) ∧ s.dataset (1 * 4 + 3) = some {} ∧ s.datasetInUse 1 3 = false) := by
  and_intros <;> decide +kernel

theorem witness_ModelSlotCommandsRun :
    ((let s := stL { slots := [(7, { state := .staged, pending := some img })] };
      Claims.Reaches s (.install qd 1 3) qd dr (entryCode (slotIndex 1 3) 4) ∧ s.tenState 1 = .active ∧ (s.mslot 1 3).state = .staged ∧
      Claims.Reaches s (.remove qd 1 3 1) qd dr (entryCode (slotIndex 1 3) 6)) ∧
     (let s := stL { slots := [(4, { state := .ready, current := some img, pending := some img })] };
      Claims.Reaches s (.swap qd 1 0 1 1 false) qd dr (entryCode (slotIndex 1 0) 5) ∧ (s.mslot 1 0).state = .ready ∧ (s.mslot 1 0).pending = some img ∧
      Claims.Reaches s (.remove qd 1 0 0) qd dr (entryCode (slotIndex 1 0) 6) ∧ s.slotSessions 1 0 = [])) ∧
    (let s := stL { slots := [(4, { state := .installing, current := some img })] };
      Claims.Up s (.installReady 1 0) ∧ (s.mslot 1 0).state = .installing ∧ s.unwritten 1 0 = false ∧
      Claims.Up s (.modelReloadDone 1 0) ∧ (s.mslot 1 0).current = some img ∧ (s.mslot 1 0).loaded = false ∧ (s.mslot 1 0).state ≠ .swapping) ∧
    (let s := stL { slots := [(4, { state := .swapping, current := some img, pending := some img })] };
      Claims.Up s (.swapDrainDone 1 0) ∧ (s.mslot 1 0).pending = some img ∧ (s.mslot 1 0).state = .swapping ∧ (s.mslot 1 0).flipped = false ∧ s.slotBusy 1 0 = false ∧ (s.job 1).state ≠ .running) ∧
    (let s := stL { slots := [(4, { state := .swapping, flipped := true })] };
      Claims.Up s (.swapComplete 1 0) ∧ (s.mslot 1 0).state = .swapping ∧ (s.mslot 1 0).flipped = true ∧ s.unwritten 1 0 = false ∧
      s.strataWhere (fun x => isContent 1 0 (s.mslot 1 0).oldStamp x.content) = []) ∧
    (let s := stL { slots := [(4, { state := .removing })] };
      Claims.Up s (.removeComplete 1 0) ∧ (s.mslot 1 0).state = .removing ∧ s.slotBusy 1 0 = false ∧ s.strataWhere (fun x => x.ofSlot 1 0) = []) := by
  and_intros <;> decide +kernel

theorem witness_ModelSlotCommandsRun_check :
    let s := stL { slots := [(4, { state := .checking, pending := some img })] };
    Claims.Up s (.checkPassEnd 1 0) ∧ (s.mslot 1 0).pending = some img ∧ (s.mslot 1 0).state = .checking ∧ (s.checkPass 1 0 img).1 = Bdp.ok := by
  and_intros <;> decide +kernel

theorem witness_AdapterCommandsRun :
    (let s := stL { slots := [(4, { state := .ready, current := some img })], adapters := [(31, { state := .stored, img := some adImg })] };
      Claims.Reaches s (.adapterLoad qd 1 15 0) qd dr (entryCode (adapterIndex 1 15) 3) ∧ s.tenState 1 = .active ∧ (s.adapter (1 * 16 + 15)).state = .stored ∧
      (s.adapter (1 * 16 + 15)).loading = none ∧ s.loadStatus 1 15 0 = Bdp.ok ∧
      (s.allocExtent 1 .adapterC 15 none (Image.adapterOctets ((s.adapter (1 * 16 + 15)).img.getD Image.init))).isSome = true ∧
      Claims.Reaches s (.adapterDelete qd 1 15) qd dr (entryCode (adapterIndex 1 15) 5) ∧ s.adapterUsed 1 15 = false) ∧
    (let s := stL { adapters := [(16, { state := .stored, img := some adImg, loading := some 0 })] }; Claims.Up s (.adapterLoadDone 1 0) ∧ (s.adapter (1 * 16 + 0)).loading = some 0) ∧
    (let s := stL { adapters := [(16, { state := .resident, img := some adImg, binding := some 0 })] };
      Claims.Reaches s (.adapterUnload qd 1 0) qd dr (entryCode (adapterIndex 1 0) 4) ∧ (s.adapter (1 * 16 + 0)).state = .resident ∧ s.adapterUsed 1 0 = false) := by
  and_intros <;> decide +kernel

/-- TRAIN_CONFIG: adapter 0, dataset 0, batch 1, 2,048 tokens, micro-batch 1, rate 1, betas 0, epsilon 1, decay 0. -/
def trainCfg : Nat := 2 ^ 32 + 2048 * 2 ^ 64 + 2 ^ 96 + 0x3F800000 * 2 ^ 128 + 0x3F800000 * 2 ^ 224
/-- A device on which that job may start, or be resumed. -/
def stJ (j : Job) : State :=
  let s := stL { slots := [(4, { state := .ready, current := some img })], adapters := [(16, { state := .resident, img := some adImg, binding := some 0 })], datasets := [(4, some {})], jobs := [(1, j)] }
  { s with dict := { stored := s.dict.stored ++ [(entryCode 0x8111 5, 10)] ++ [(entryCode 0x5501 1, trainCfg)] } }

theorem witness_TrainingCommandsRun :
    ((let s := stJ {}; Claims.Reaches s (.trainStartNew qd 1) qd dr (entryCode (0x5500 + 1) 2) ∧ s.trainStatus 1 (s.setting (0x5500 + 1) 1) = Bdp.ok) ∧
     (let s := stJ { files := [(0, some { config := trainCfg })], newest := some 0 };
      Claims.Reaches s (.trainResume qd 1) qd dr (entryCode (0x5500 + 1) 2) ∧ s.trainStatus 1 (s.setting (0x5500 + 1) 1) = Bdp.ok ∧ (s.job 1).checkpoint = some { config := trainCfg } ∧
      cfgField trainCfg 0 1 = cfgField (s.setting (0x5500 + 1) 1) 0 1)) ∧
    (let s := stJ { state := .running }; Claims.Reaches s (.trainStop qd 1) qd dr (entryCode (0x5500 + 1) 3) ∧ (s.job 1).state = .running ∧ (s.job 1).writing = none ∧
      s.power.state = .run ∧ s.tenState 1 = .active) ∧
    ((stJ { state := .running, writing := some 1 }).job 1).writing = some 1 := by
  and_intros <;> decide +kernel

/-! ### Channels, sessions, requests -/
/-- `st` with the image of slot 0 served, given sessions and queues. -/
def stS (sessions : SMap Session) (queues : SMap (List QEntry)) : State :=
  { stL { slots := [(4, { state := .ready, current := some img, loaded := true })] } with
    svc := { st.svc with sessions := sessions, queues := queues }, clk := { mono := 3600000000000 } }
/-- An open session of the client of `ax`, with or without a request. -/
def ses : Session := { used := true, state := .idle, incarn := 1, tenant := 1, clientId := 7, ctxMax := 2048, history := [1, 2], kvLen := 2 }
def sesR (r : Req) : Session := { ses with state := .active, reqs := [r], highest := r.id }
def hReq (k : Conn) (c : Nat) (s : State) : State := { s with svc := { s.svc with conns := [(c, some k)] } }

theorem witness_ChannelCommandsRun :
    ((Claims.Up st (.tcpConnect 9 1 (st.serviceNumber 1)) ∧ st.conn 9 = none ∧ nbit (st.servicesOf 1) 1 = true ∧ st.tcpCount true < 1088 ∧ st.places .asx < 1024) ∧
     (let k : Conn := { kind := .bdp, phase := .tcp }; let s := hReq k 9 st;
      Claims.Up s (.clientHello 9 1 10 ⟨5, false⟩) ∧ Claims.Up s (.clientHello 9 1 10 ⟨5, true⟩) ∧ s.conn 9 = some k ∧ k.phase = .tcp ∧ k.kind ≠ .asx ∧ (hReq k 9 { st with tenants := { states := [(8, .forming)] } }).helloOk k 1 10 = true ∧
      s.svc.waiting.length < 64) ∧
     (let k : Conn := { phase := .tcp }; let s := hReq k 9 st; Claims.Up s (.clientHello 9 1 1 ⟨5, false⟩) ∧ s.conn 9 = some k ∧ k.phase = .tcp ∧ k.kind = .asx ∧ s.helloOk k 1 1 = true)) ∧
    (let k : Conn := { phase := .helloQueued, tenant := 1 };
      let s : State := { hReq k 9 st with svc := { (hReq k 9 st).svc with waiting := [9, 10], working := [1, 2, 3, 4, 5, 6, 7] } };
      Claims.Up s (.handshakeJobStart 9) ∧ s.conn 9 = some k ∧ s.svc.waiting = 9 :: [10] ∧ s.svc.working.length < 8) ∧
    (let k : Conn := { phase := .shareWait, tenant := 1, deadline := some 0 }; let s := hReq k 9 st;
      Claims.Up s (.keyShare 9 ⟨2 ^ 12544 - 1, false⟩) ∧ Claims.Up s (.keyShare 9 ⟨0, true⟩) ∧ s.conn 9 = some k ∧ k.phase = .shareWait ∧ 2 ^ 12544 - 1 < 2 ^ 12544 ∧
      Claims.Up s (.handshakeDeadline 9) ∧ k.deadline = some 0 ∧ 0 ≤ s.now) ∧
    (let s : State := { st with clk := { mono := 60000000000 } }; Claims.Up s (.channelIdleExpiry 3) ∧ s.conn 3 = some ax ∧ s.countsRun = true ∧ ax.phase = .up ∧ 60000000000 ≤ s.now - ax.idleSince ∧
      Claims.Up s (.tcpConnectionEnd 3)) ∧
    (let k : Conn := { ax with outBytes := 2 }; let s := hReq k 3 st; Claims.Up s (.outputBufferDrain 3 1) ∧ s.conn 3 = some k ∧ 1 < k.outBytes) := by
  and_intros <;> decide +kernel

/-- A ticket whose TAG is right (R282). -/
def tag : BitVec 128 := BitVec.ofNat 128 (unle (shake256 (le 32 5 ++ ticketHead 7 3 0 0 ++ le 1 1) 16))
theorem witness_ChannelCommandsRun_auth :
    let k : Conn := { phase := .authWait, tenant := 1, ticketKey := 5 };
    let s := hReq k 9 st;
    Claims.Up s (.auth 9 true 7 3 0 tag 0) ∧ s.conn 9 = some k ∧ k.phase = .authWait ∧ k.kind = .asx ∧ s.ticketOk k 7 3 0 tag 0 = true ∧ s.tenState k.tenant = .active := by
  and_intros <;> decide +kernel

theorem witness_SessionCommandsRun :
    ((let s := stS [] [];
      let s1 := s.inbound 1 3 0x10 (openBody 0 0xFF false 0 9);
      Claims.Up s (.openSession 3 false 0 0 0xFF false 9) ∧ s.channel 3 = some ax ∧ ax.tenant = 1 ∧ s1.openStatus ax 0 0 0xFF = Asx.ok ∧
      (List.range 4096).find? (fun j => decide ((s1.session j).state = .free)) = some 0) ∧
     (let s := stS [(4095, ses)] [];
      let h := s.handleOf 4095;
      let s1 := s.inbound 1 3 0x12 (namedBody h (le 1 0xFF) 3 0);
      Claims.Up s (.adapt 3 true 0 h 0xFF) ∧ s.channel 3 = some ax ∧ handleResv h = false ∧ s1.findSession ax h = (Asx.ok, 4095) ∧ s1.tenState (s1.session 4095).tenant = .active ∧
      (s1.session 4095).state ≠ .active ∧ s1.adapterOk (s1.session 4095).tenant (s1.session 4095).slot 0xFF = true ∧ Claims.Up s (.closeSession 3 true 0 h))) ∧
    (Claims.Up st (.ping 3 false ⟨5, true⟩) ∧ st.channel 3 = some ax ∧ Claims.Up st (.unknownMsg 3 true ⟨0x2F, false⟩)) ∧
    (let s := stS [(0, ses)] [];
      Claims.Up s (.idleClose 0) ∧ s.countsRun = true ∧ (s.session 0).isOpen = true ∧ (s.session 0).live = none ∧ s.sv (0x6100 + (s.session 0).tenant) 4 3600000000000 ≠ 0 ∧
      s.sv (0x6100 + (s.session 0).tenant) 4 3600000000000 ≤ s.now - (s.session 0).openedAt) ∧
    (let s := stS [(0, { ses with state := .closed })] []; Claims.Up s (.sessionIndexFree 0) ∧ (s.session 0).state = .closed ∧ 60000000000 ≤ s.now - (s.session 0).closedAt) := by
  and_intros <;> decide +kernel

/-- A request that generates one token after two octets of text. -/
def rBody (h : Nat) : ReqBody :=
  { reqId := 1, session := h, cls := 3, flags := 0, resv := 0, streamN := 1, maxTokens := 1, prefixLen := 0, resume := 0, temperature := 0, topP := 0x3F800000, minP := 0, repPenalty := 0x3F800000,
    repWindow := 0, topK := 0, seed := 5, stopCount := 0, stops := [], input := [104, 105] }

theorem witness_RequestCommandsRun :
    ((let s := stS [(0, ses)] [];
      let r := rBody (s.handleOf 0);
      let s1 := s.inbound 1 3 0x14 r.bytes;
      Claims.Up s (.request 3 false r) ∧ s.channel 3 = some ax ∧ r.formStatus = Asx.ok ∧ s1.findSession ax r.session = (Asx.ok, 0) ∧ (s1.session 0).req r.reqId = none ∧
      (s1.session 0).highest < r.reqId ∧ (s1.admitStatus ax 0 r).1 = Asx.ok) ∧
     (let q : Req := { id := 1, state := .running }; let s := stS [(0, sesR q)] [];
      let h := s.handleOf 0;
      let s1 := s.inbound 1 3 0x15 (le 4 h ++ le 4 0 ++ le 8 1);
      Claims.Up s (.cancel 3 false 0 h 1) ∧ s.channel 3 = some ax ∧ handleResv h = false ∧ s1.findSession ax h = (Asx.ok, 0) ∧ (s1.session 0).live = some q ∧ q.id = 1)) ∧
    (let e : QEntry := { session := 0, req := 1 }; let s := stS [(0, sesR { id := 1, state := .queued, cls := .bulk })] [(queueKey 1 .bulk, [e])];
      Claims.Up s (.requestDequeue 1 .bulk) ∧ (s.nextClass 1).map (·.1) = some .bulk ∧ s.queueHead 1 .bulk = some e ∧ s.countsRun = true) ∧
    (let r : Req := { id := 1, state := .queued, cls := .imm }; let s := stS [(0, sesR r)] [];
      Claims.Up s (.queueTimeout 0 1) ∧ (s.session 0).req 1 = some r ∧ s.countsRun = true ∧ r.state = .queued ∧ s.queueTimeoutOf (s.session 0).tenant r.cls ≠ 0 ∧
      s.queueTimeoutOf (s.session 0).tenant r.cls ≤ s.now - r.queuedAt - r.heldNs ∧ (s.mslot (s.session 0).tenant (s.session 0).slot).held = false) ∧
    (let r : Req := { id := 1, state := .running }; let q : StepRun := { sessions := [0], tenant := 1, groups := 1, nextGroup := 1 };
      let s : State := { stS [(0, { sesR r with run := some 4 })] [] with ops := { runs := [(4, some q)] } };
      Claims.Up s (.sample 0 [(3, 1)] .none) ∧ (s.session 0).running = some r ∧ (s.session 0).run = some 4 ∧ s.run 4 = some q ∧ s.runOver 4 q = true) ∧
    (let r : Req := { id := 1, state := .running }; let s := stS [(0, { sesR r with kvLen := 2 })] [];
      Claims.Up s (.sample 0 [(3, 1)] .none) ∧ (s.session 0).running = some r ∧ (s.session 0).run = none ∧ (s.session 0).state = .active ∧ (s.session 0).due = 0 ∧ (s.session 0).history ≠ []) := by
  and_intros <;> decide +kernel

/-- The octets of every operand have places, as a Bool. -/
def placed (s : State) (o : Op) (hs : List (Handle × Nat)) : Bool :=
  hs.all fun h => match s.tensor o h.1 with | none => true | some d => (s.tensorFault o h.1 d h.2).isNone
theorem placed_of {s : State} {o : Op} {hs : List (Handle × Nat)} (h : placed s o hs = true) : Claims.Placed s o hs := by
  intro x hx d hd
  have := List.all_eq_true.mp h x hx
  simpa [hd] using this

/-- A plan with one template, a weight tensor in tile memory, and one projection of one row-block and one column block. -/
def plan1 : Plan := { templates := [{}], tensors := [{ fmt := 0, tier := 0, unit := 1, rows := 16, cols := 16 }, { fmt := 0, tier := 1, unit := 0, rows := 16, cols := 16 }], projs := [{ inputs := 4, outSlots := 4 }] }
def img1 : Image := { plan := plan1 }
/-- The state with that image in slot 0 of tenant 1, which owns clusters 0 and 1 and die 0, and one operation. -/
def stOp (k : Nat) (o : Op) : State :=
  { st with models := { slots := [(4, { state := .ready, current := some img1 })] }, ops := { slots := [(k, some o)] },
            dict := { stored := [(entryCode 0x8101 1, 3), (entryCode 0x8101 2, 1)] } }
def mkOp (kind : OpKind) (k : Kspec) (p : OpPhase) : Op :=
  { d := { kind := kind, tenant := 1, k := k, opA := { tab := 0, idx := 0 }, opC := { tab := 0, idx := 1 } }, phase := p }
/-- A device whose array 5 of die 0 is as given. -/
def stA (a : VArray) : State :=
  { stOp 0 {} with vault := { arrays := [(5, a)], grant := 3 } }

theorem witness_VaultMatrixCommandsRun :
    ((let o := mkOp .vmvm (.vmvm 0 1 1 2 8 false 0 0) .dispatched; let s := stOp 9 o;
      s.opIn 9 .vmvm .dispatched = some o ∧
      Claims.Placed s o [(o.d.opA, (2 * (s.vmvmProj o).2.inputs * (if (Kspec.vmvm 0 1 1 2 8 false 0 0).vmvmInput.1 = .int4 then 4 else 8) + 7) / 8 + 4 * 2),
        (o.d.opC, 2 * outLength (s.vmvmProj o).2 * 4)]) ∧
     (let m : Mvm := { tenant := 1, stratum := 40, nextPlane := 8 }; let s := stA { queue := [m] };
      s.nextOn 5 = some m ∧ s.mayConvert 5 = true)) ∧
    (let m : Mvm := { tenant := 1, stratum := 40, nextPlane := 1 }; let s := stA { running := some m, slotOf := some 1 };
      (s.array 5).running = some m ∧ m.test = none ∧ (s.array 5).slotOf = some 1 ∧ s.slotFalls (dieOf (8 * 5)) = true) ∧
    (let o := mkOp .vmvm (.vmvm 0 1 1 2 8 false 0 0) .started; let c : ColSum := { op := 9, arrived := 1 };
      let s : State := { stOp 9 o with vault := { sums := [c] } };
      s.opIn 9 .vmvm .started = some o ∧ s.sumOf 9 0 0 = some c ∧ c.waiting = 0 ∧ 0 < c.arrived ∧ c.written = false) ∧
    (let s := stA { changing := some 7 }; (s.array 5).changing = some 7) := by
  refine ⟨⟨⟨?_, placed_of ?_⟩, ?_⟩, ?_⟩ <;> decide +kernel

theorem witness_VaultSlotCommandsRun :
    (let m : Mvm := { tenant := 1, stratum := 40, nextPlane := 2 }; let s := stA { running := some m, slotOf := some 1, queue := [{ imm := true, stratum := 41 }] };
      (s.array 5).running = some m ∧ (s.array 5).maySuspend = true ∧ (s.array 5).slotOf.isSome = true ∧ s.slotFalls (dieOf (8 * 5)) = true) ∧
    (let m : Mvm := { tenant := 1, stratum := 40, nextPlane := 1 }; let s := stA { running := some m, queue := [{ imm := true, stratum := 41 }] };
      (s.array 5).running = some m ∧ (s.array 5).maySuspend = true ∧ (s.array 5).slotOf = none) ∧
    (let m : Mvm := { tenant := 1, stratum := 40, nextPlane := 2 }; let s := stA { suspended := some m, queue := [{ stratum := 41 }] };
      (s.array 5).suspended = some m ∧ (s.array 5).free = true ∧ (s.array 5).running = none ∧
      (s.array 5).selected = m.stratum % 8 ∧ (∀ x ∈ (s.array 5).queue, x.imm = false) ∧ s.slotFree (dieOf (8 * 5)) = true ∧ (s.payer m.tenant).isSome = true) ∧
    (let m : Mvm := { tenant := 1, stratum := 40, nextPlane := 2 };
      let s : State := { st with vault := { arrays := [(5, { running := some m, slotOf := some 2 }), (6, { queue := [{ tenant := 2, stratum := 48 }] })], grant := 3 } };
      (s.array 5).running = some m ∧ (s.array 5).slotOf = some 2 ∧ 2 ≠ m.tenant ∧ 2 ≤ m.nextPlane ∧ s.slotWaits 2 = true ∧ s.slotFalls (dieOf (8 * 5)) = true) ∧
    (let m : Mvm := { tenant := 1, stratum := 40, nextPlane := 2 };
      let s : State := { st with vault := { arrays := [(5, { running := some m, slotOf := some 1 })], grant := 0 } };
      (s.array 5).running = some m ∧ (s.array 5).slotOf = some 1 ∧ 2 ≤ m.nextPlane ∧ s.vault.grant < s.convertingCount ∧ s.slotFalls (dieOf (8 * 5)) = true) ∧
    (let m : Mvm := { tenant := 1, stratum := 40, nextPlane := 2 };
      let s : State := { st with
        vault := { arrays := [(5, { running := some m, slotOf := some 1 }), (6, { slotOf := some 1 }), (8191, { queue := [{ tenant := 2, stratum := 65528 }] })], grant := 2 },
        tenants := { states := [(1, .active), (2, .active)] }, dict := { stored := [(entryCode 0x8101 2, 1), (entryCode 0x8102 2, 2)] } };
      s.grantShare 1 < s.slotsPaid 1 ∧ 1 ≤ 2 ∧ 2 ≤ 8 ∧ s.underShare 2 = true ∧ s.slotWaits 2 = true ∧ s.slotFalls (dieOf (8 * 5)) = true) ∧
    (let s := stA { slotOf := some 1 }; (s.array 5).running = none ∧ (s.array 5).slotOf = some 1 ∧ s.slotFalls (dieOf (8 * 5)) = true) ∧
    st.powered = true := by
  and_intros <;> decide +kernel

theorem witness_VaultTestCommandsRun :
    (let s : State := { st with vault := { arrays := [(5, { sinceTest := 4096 })], strata := [(40, { state := .lit })] }, clk := { mono := 10000000000 } };
      4096 ≤ (s.array 5).sinceTest ∧ (s.array 5).countDue = false ∧ (s.stratum (5 * 8 + (s.array 5).selected)).state = .lit ∧ (s.power.state = .run ∨ s.power.state = .idle) ∧
      10000000000 ≤ s.now - (s.stratum 40).lastTest ∧ 40 ∉ (s.array (40 / 8)).testDue) ∧
    (let m : Mvm := { stratum := 40, test := some 3 }; let s := stA { running := some m, slotOf := some 1 };
      (s.array 5).running = some m ∧ m.test = some 3 ∧ (s.array 5).slotOf = some 1 ∧ s.slotFalls (dieOf (8 * 5)) = true) := by
  and_intros <;> decide +kernel

theorem witness_VaultWriteCommandsRun :
    (let r : WriteReq := { stratum := 40, kind := .dimRewrite };
      let s : State := { stOp 0 {} with vault := { dies := [(0, { writes := [r] })], strata := [(40, { state := .dim, copyPinned := true, copyIn := true })] }, power := { state := .run, writeSlots := 4 } };
      Claims.Up s (.writeSlotGrant 40) ∧ s.nextWrite (dieOf 40) = some r ∧ r.stratum = 40 ∧ writeListed (s.stratum 40) r.kind = true) ∧
    (let f := fun (x : StratumState) => ({ st with vault := { arrays := [(5, { writing := some 40 })], strata := [(40, { state := x, incoming := some {}, target := some {} })] } } : State);
      ((f .erasing).stratum 40).state = .erasing ∧ ((f .erasing).array (40 / 8)).writing = some 40 ∧
      ((f .programming).stratum 40).state = .programming ∧ ((f .programming).array (40 / 8)).writing = some 40 ∧ ((f .programming).stratum 40).target = some {} ∧
      ((f .verifying).stratum 40).state = .verifying ∧ ((f .verifying).array (40 / 8)).writing = some 40) ∧
    (let s : State := { st with vault := { dies := [(31, { dieErase := true })], strata := [(262143, { copyLoading := true })] } };
      (s.die 31).dieErase = true ∧ Claims.Up s (.copyLoadDone 262143) ∧ (s.stratum 262143).copyLoading = true) ∧
    (let o := mkOp .vmvm (.vmvm 0 1 1 2 8 false 0 0) .started; let x : ShadowOp := { op := 9, stratum := 40, vecs := [0, 1], pod := some 255 };
      let s : State := { stOp 9 o with vault := { sums := [{ op := 9 }, { op := 9, vec := 1, arrived := 1, written := true }], shadows := [x] } };
      s.opIn 9 .vmvm .started = some o ∧ s.vault.shadows.find? (fun x => decide (x.op = 9 ∧ x.stratum = 40) && x.pod.isSome) = some x ∧ x.pod = some 255 ∧ s.shadowReady 9 x.content.cb x.vecs = true ∧
      s.copyStreamed 9 40 = true ∧ x.vecs.length ≤ (s.pod 255).freeSets.length) := by
  and_intros <;> decide +kernel

theorem witness_FabricCommandsRun :
    ((let o := mkOp .fgemm (.fgemm 16 16 16 0 1 false false) .dispatched; let s := stOp 9 o;
      s.opIn 9 .fgemm .dispatched = some o ∧ o.d.k.gemm = some (16, 16, 16, .square, 1, false, false) ∧ s.podOpen o = true ∧ Claims.Placed s o [(o.d.opA, 1), (o.d.opB, 1), (o.d.opC, 1)]) ∧
     (let o := mkOp .fattn (.fattn 0 2 0 5 0) .dispatched; let run : StepRun := { tenant := 1 };
      let s : State := { stOp 9 o with ops := { slots := [(9, some o)], runs := [(0, some run)] } };
      s.opIn 9 .fattn .dispatched = some o ∧ s.run o.run = some run ∧ s.podOpen o = true ∧
      Claims.Placed s o [(o.d.opA, 1), (o.d.opC, (o.member * 16 + (o.range + 1)) * (run.attRows 2 * ((s.kvShape o.d.session).2.2 + 2) * 4))])) ∧
    (let o := mkOp .fgemm (.fgemm 16 16 16 0 1 false false) .started;
      let s : State := { stOp 9 o with fabric := { pods := [(255, { setState := [(31, .full)], setOwner := [(31, 10)] })] } };
      s.op (mget 0 (s.pod 255).setOwner 31 - 1) = some o ∧ o.d.k.gemm = some (16, 16, 16, .square, 1, false, false) ∧ mget .free (s.pod 255).setState 31 = .full) ∧
    (let s : State := { st with fabric := { pods := [(255, { idle := false })] } };
      255 < 256 ∧ (s.pod 255).stopped = true ∧ (s.pod 255).idle = false) ∧
    (let o := { mkOp .fattn (.fattn 0 2 0 5 0) .started with d := { (mkOp .fattn (.fattn 0 2 0 5 0) .started).d with cluster := 15, pod := 15 } }; let run : StepRun := { tenant := 1 }; let f : FabOp := { slot := 9, total := 1 };
      let s : State := { stOp 9 o with ops := { slots := [(9, some o)], runs := [(0, some run)] }, fabric := { pods := [(255, { ops := [f] })] } };
      s.op 9 = some o ∧ o.d.kind = .fattn ∧ s.run o.run = some run ∧ (s.pod o.podOf).ops.find? (fun f => decide (f.slot = 9)) = some f ∧ f.poisoned = false ∧ f.passes < f.total ∧
      max 1 (s.opTemplate o).inter ≤ (s.pod o.podOf).freeSets.length ∧ (∀ r ∈ s.exp.recovering, r.slot ≠ 9) ∧ s.tensor o o.d.opC = plan1.tensors[1]?) := by
  refine ⟨⟨⟨?_, rfl, ?_, placed_of ?_⟩, ?_, ?_, ?_, placed_of ?_⟩, ⟨?_, rfl, ?_⟩, ?_⟩ <;> decide +kernel

/-- A unit 3 of tenant 1 that stands at the one word `w` of its program. -/
def rnV (w : BitVec 64) : Running := { slot := 9, tenant := 1, words := [w] }
def stV (w : BitVec 64) : State := { stOp 9 (mkOp .vprog (.vprog 0 0 0 0) .started) with vec := { units := [(3, { running := some (rnV w) })] } }
/-- 32 elements from accumulator set 0, or from word 0, to the last 32 words of the buffer. -/
def vfA : VF := { cnt := 31, dst := 4064, spa := 1, addra := 0, srcb := 5, mod := 0 }
def vfB (mod : Nat) : VF := { cnt := 31, dst := 4064, spa := 0, addra := 0, srcb := 5, mod := mod }
/-- The premises that every vector command shares. -/
def atWord (opc : Nat) (f : VF) (sets : List Nat) : Prop :=
  (stV (f.encode opc)).nextWord 3 (f.encode opc) = some (rnV (f.encode opc)) ∧ Claims.Ready (stV (f.encode opc)) 3 sets

theorem witness_VectorArithmeticResult :
    (∀ opc ∈ [0x01, 0x02, 0x03, 0x04, 0x05, 0x06, 0x07, 0x08, 0x09, 0x11, 0x12, 0x13, 0x14, 0x15, 0x16],
      atWord opc vfA vfA.setsRead ∧ atWord opc (vfB 1) (vfB 1).setsRead) ∧
    vfA.dst * 32 + vfA.n * vfA.ewFmt.bits ≤ 131072 ∧ (vfB 1).dst * 32 + (vfB 1).n * (vfB 1).ewFmt.bits ≤ 131072 := by
  unfold atWord Claims.Ready; and_intros <;> decide +kernel

theorem witness_VectorFunctionResult :
    (∀ opc ∈ [0x21, 0x22, 0x23, 0x24, 0x25, 0x26, 0x27, 0x28, 0x31, 0x32], atWord opc vfA vfA.setsRead) ∧ vfA.dst + vfA.n ≤ 4096 := by
  unfold atWord Claims.Ready; and_intros <;> decide +kernel

theorem witness_VectorConversionResult :
    (atWord 0x40 (vfB 2) (vfB 2).setsRead ∧ (vfB 2).dst * 32 + (vfB 2).n * fmtBits ((vfB 2).mod % 16) ≤ 131072 ∧ isMx ((vfB 2).mod % 16) = false ∧ (fmtOf ((vfB 2).mod % 16)).isSome = true) ∧
    (atWord 0x40 (vfB 10) (vfB 10).setsRead ∧ (vfB 10).dst * 32 + (vfB 10).n * fmtBits ((vfB 10).mod % 16) ≤ 131072 ∧ isMx ((vfB 10).mod % 16) = true ∧ (fmtOf ((vfB 10).mod % 16)).isSome = true) ∧
    (atWord 0x41 vfA vfA.setsRead ∧ vfA.dst + vfA.n ≤ 4096) ∧
    (let f := vfB 10; atWord 0x42 f f.setsRead ∧ ∃ p, mxElem (f.mod % 16) = some p ∧ f.dst * 32 + f.n / 32 * 32 * p.1.bits ≤ 131072 ∧ f.srcb * 32 + f.n / 32 * 8 ≤ f.dst * 32 ∧ f.srcb * 32 + f.n / 32 * 8 ≤ 131072) ∧
    (let f := vfB 16; atWord 0x46 f f.setsRead ∧ f.dst * 32 + f.n * (if f.mbit 4 then 4 else 8) ≤ 131072 ∧ ∃ o, (stV (f.encode 0x46)).runningOp (rnV (f.encode 0x46)) = some o) ∧
    (let f := vfB 16; atWord 0x48 f f.setsRead ∧ f.dst + f.n ≤ 4096) ∧ (let f := vfB 1; atWord 0x49 f (f.setsOf (2 * f.n))) := by
  unfold atWord Claims.Ready
  refine ⟨?_, ?_, ?_, ⟨?_, _, rfl, ?_⟩, ⟨?_, ?_, _, rfl⟩, ?_⟩ <;> decide +kernel

theorem witness_VectorReductionResult :
    (∀ opc ∈ [0x30, 0x50, 0x51, 0x52, 0x53], atWord opc (vfB 2) (vfB 2).setsRead ∧ atWord opc (vfB 1) (vfB 1).setsRead) ∧ (vfB 2).mod % 4 = 2 ∧ (vfB 1).mod % 4 < 2 ∧
    (vfB 1).dst + ((axisGroups ((vfB 1).mod % 4) (vfB 1).n ((stV ((vfB 1).encode 0x50)).srcWords 3 (vfB 1))).map laneSum).length ≤ 4096 ∧
    (∀ opc ∈ [0x54, 0x55], atWord opc (vfB 15) (vfB 15).setsRead) ∧ (vfB 15).dst + 2 * ((vfB 15).mod + 1) ≤ 4096 := by
  unfold atWord Claims.Ready; and_intros <;> decide +kernel

theorem witness_VectorEscapeResult :
    (∀ opc ∈ [0x45, 0x43, 0x44], atWord opc vfA vfA.setsRead) ∧ vfA.dst + 2 * (keep8 ((stV (vfA.encode 0x44)).unit 3).cands).length ≤ 4096 := by
  unfold atWord Claims.Ready; and_intros <;> decide +kernel

theorem witness_VectorMoveResult :
    (∀ opc ∈ [0x68, 0x69], atWord opc (vfB 0) (vfB 0).setsRead ∧ (stV ((vfB 0).encode opc)).lsPlace 3 (vfB 0) = some (.tile 3 0)) ∧
    (Place.tile 3 0).flat = some (2 ^ 41 + 3 * 2 ^ 16) ∧ ((Place.tile 3 0).plus (4 * (vfB 0).n - 1)).flat = some (2 ^ 41 + 3 * 2 ^ 16 + 127) ∧ (vfB 0).dst + (vfB 0).n ≤ 4096 ∧
    (vfB 0).mbit 5 = false ∧ (stV ((vfB 0).encode 0x69)).ownerAt (2 ^ 41 + 3 * 2 ^ 16) = 1 ∧
    (let w := BitVec.ofNat 64 (0x70 * 2 ^ 56 + 15 * 2 ^ 32 + (7 : BitVec 32).toNat); (stV w).nextWord 3 w = some (rnV w)) ∧
    (∀ m ∈ List.range 6, (vfB m).mod = m ∧ atWord 0x71 (vfB m) []) := by
  unfold atWord Claims.Ready; and_intros <;> decide +kernel

theorem witness_VectorProgramsRun :
    (let o := mkOp .vprog (.vprog 0 0 0 0) .dispatched; let s := stOp 9 o; s.opIn 9 .vprog .dispatched = some o ∧ (s.unit o.podOf).running = none) ∧
    (let w := BitVec.ofNat 64 (0x7F * 2 ^ 56); ((stV w).unit 3).running = some (rnV w) ∧ (((rnV w).words[(rnV w).pc]?).getD 0).toNat / 2 ^ 56 = 0x7F) := by
  and_intros <;> decide +kernel

theorem witness_VectorFrame : Claims.vecOf (.vSet 3 1 7) = some (3, false) ∧
    ∃ t, exec (.vSet 3 1 7) (stV (BitVec.ofNat 64 (0x70 * 2 ^ 56 + 2 ^ 32 + 7))) = .next t := ⟨rfl, _, rfl⟩

theorem witness_IndexedMoves :
    (∀ opc ∈ [0x60, 0x61], atWord opc (vfB 0) (vfB 0).setsRead) ∧ (vfB 0).dst + (vfB 0).n ≤ 4096 ∧ (rnV ((vfB 0).encode 0x60)).tenant ≠ 0 := by
  unfold atWord Claims.Ready; and_intros <;> decide +kernel

/-- An operation on static tensors 0 (tile memory) and 1 (cluster store). -/
def stPg (p : Page) : State := { stOp 9 {} with kv := { pages := [(70000, some p)] } }

/-- A session that runs a request, on a plan with one SYNC in its one group. -/
def plan2 : Plan := { templates := [{ d := { kind := .sync, k := .sync } }], graphs := [[{ invs := [{ template := 0 }] }], [{ invs := [{ template := 0 }] }], [], []], vocab := 257, layers := 1, chunk := 128 }
def stS2 (ss : List (Nat × Session)) : State :=
  { stOp 9 {} with ops := {}, models := { slots := [(4, { state := .ready, loaded := true, current := some { plan := plan2 } })] }, svc := { sessions := ss } }
/-- The same on a plan whose KV pages hold one token each. -/
def stS3 (ss : List (Nat × Session)) : State :=
  { stS2 ss with models := { slots := [(4, { state := .ready, loaded := true, current := some { plan := { plan2 with kvHeads := 255, headDim := 128 } } })] } }

theorem witness_KvCommandsRun :
    (let o := mkOp .kvscat (.kvscat 0 0 1 true) .dispatched; let s := stOp 16383 o;
      s.scatReady 16383 = some o ∧ s.scatBehind 16383 o 0 0 = false ∧ Claims.Placed s o [(o.d.opA, 1)]) ∧
    (let o := mkOp .kvscat (.kvscat 0 5 2 true) .started; let s := stOp 9 o; let f : State := { stS3 [(0, { tenant := 1 })] with ops := { slots := [(9, some o)] }, kv := { staging := [(0, [{}])] } };
      s.scatStaged o 0 (5 + (2 - (0 + 1))) false = false ∧ s.scatStaged o 0 5 true = true ∧ (s.stagingOf o.d.session).length < s.stageCap o.d.session ∧
      f.scatStaged o 0 5 true = true ∧ f.stageCap o.d.session ≤ (f.stagingOf o.d.session).length) ∧
    (let o := mkOp .kvflush (.kvflush 0 0 1) .dispatched; let s : State := { stOp 9 o with kv := { staging := [(0, [{ page := 0 }])] } };
      s.opIn 9 .kvflush .dispatched = some o ∧ (∀ e ∈ s.stagedFor o.d.session (o.pages.headD 0), e.readers = 0) ∧ s.stagedFor o.d.session (o.pages.headD 0) ≠ []) ∧
    (let p : Page := { tenant := 1 }; let s := stPg p;
      Claims.Up s (.pageMoveStart 70000 (some 1)) ∧ s.page 70000 = some p ∧ p.moving = none ∧ p.srcHeld = false ∧ p.writesOut = 0 ∧ p.hot ≠ some 1 ∧ s.takesPage p.tenant (some 1) = true) ∧
    (let p : Page := { tenant := 1, moving := some (some 1) }; let s := stPg p;
      Claims.Up s (.pageMoveSwitch 70000) ∧ s.page 70000 = some p ∧ p.moving = some (some 1)) ∧
    (let p : Page := { tenant := 1, srcHeld := true }; let s := stPg p; s.page 70000 = some p ∧ p.srcHeld = true ∧ p.srcReaders = 0) ∧
    (let p : Page := { tenant := 1, firstPos := 64 };
      let s : State := { stPg p with svc := { sessions := [(0, { state := .active, tenant := 1 })] } };
      Claims.Up s (.kvPromote 1 70000 1) ∧ (s.promotable 1).find? (fun e => decide (e.1 = 70000)) = some (70000, p) ∧ (∀ x ∈ s.promotable 1, x.2.firstPos ≤ p.firstPos) ∧
      s.takesPage 1 (some 1) = true) ∧
    (let s : State := { stOp 9 {} with kv := { pages := [(70000, some { tenant := 1, session := 4095 })] }, svc := { sessions := [(4095, { state := .active, tenant := 1, waitsPage := true })] } };
      Claims.Up s (.kvPreempt 1) ∧ s.kvStuck 1 = true ∧ s.pinned 1 = false ∧ s.preemptee 1 = some 4095) := by
  refine ⟨⟨?_, ?_, placed_of ?_⟩, ?_⟩
  all_goals (and_intros <;> decide +kernel)

/-- A tenant with room for code tables in its part of DRAM. -/
def stTab (acts : SMap ActTensor) (tables : SMap (Option ExpTable)) : State :=
  { st with exp := { acts := acts, tables := tables }, dict := { stored := [(entryCode 0x8101 1, 3), (entryCode 0x8111 1, 64)] } }

theorem witness_ExpanderCommandsRun :
    (let s : State := { st with exp := { acts := [(actKey 1 0 5, { occurred := true })] } };
      (s.act (actKey 1 0 5)).occurred = true ∧ (s.act (actKey 1 0 5)).table = none ∧ s.producing 1 0 5 = false ∧ s.freeActTable 1 = none) ∧
    (let s := stTab [(actKey 1 0 5, { occurred := true })] []; s.producing 1 0 5 = false ∧ s.freeActTable 1 = some 0) ∧
    (let a : ActTensor := { table := some 0, rebuild := true, occurred := true, counts := [(127, 9)] };
      let s := stTab [(actKey 1 0 5, a)] [(4096, some {})]; let f : State := { st with exp := { acts := [(actKey 1 0 5, a)], tables := [(4096, some {})] } };
      s.act (actKey 1 0 5) = a ∧ s.producing 1 0 5 = false ∧ s.freeActTable 1 = some 1 ∧ f.producing 1 0 5 = false ∧ f.freeActTable 1 = none) ∧
    (let x : ExpTable := { retiring := true, waitOps := [3] }; let s : State := { st with exp := { tables := [(4096 + 4095, some x)] } };
      s.table (1 * 4096 + 4095) = some x ∧ x.retiring = true ∧ (∀ k ∈ x.waitOps, k ∉ s.ordersInFlight 1)) ∧
    (let o := mkOp .fgemm (.fgemm 16 16 16 0 1 false false) .started; let r : Recovering := { slot := 9, tensor := 0, block := 0 };
      let s : State := { stOp 9 o with exp := { recovering := [r] } };
      r ∈ s.exp.recovering ∧ s.op 9 = some o ∧ (s.tensor o { tab := 0, idx := 0 }).isSome = true) ∧
    (let s : State := { stOp 9 {} with exp := { poisonedWeights := [{ slot := 4, tensor := 0, block := 7 }] } };
      Claims.Up s (.blockReencode 1 0 0 7) ∧ (s.mslot 1 0).current = some img1 ∧ (img1.plan.tensors[0]?).isSome = true ∧
      ({ slot := 1 * 4 + 0, tensor := 0, block := 7 } : Recovering) ∈ s.exp.poisonedWeights) ∧
    (let s : State := { st with clk := { starting := true }, exp := { selfTesting := true } }; s.clk.starting = true ∧ s.exp.selfTesting = true) := by
  and_intros <;> decide +kernel

theorem witness_StepCommandsRun :
    (let x : Session := { state := .active, tenant := 1, history := [7], reqs := [{ id := 1, state := .running }] }; let s := stS2 [(0, x), (1, x)];
      Claims.Up s (.stepInstantiate [1, 0]) ∧ s.power.state = .run ∧ s.batchOk [1, 0] = true ∧ (∀ i ∈ [1, 0], s.stepDue i = true) ∧
      s.batchAllowed (s.session ([1, 0].headD 0)).tenant [1, 0] = true ∧ s.freeBatch.isSome = true ∧ s.overLimit [1, 0] = []) ∧
    (let x : Session := { state := .active, tenant := 1, history := List.replicate 161 7, reqs := [{ id := 1, state := .running, kvLimit := 161 }] };
      let s := stS3 [(0, x)];
      Claims.Up s (.stepInstantiate [0]) ∧ s.batchOk [0] = true ∧ (∀ i ∈ [0], s.stepDue i = true) ∧ s.batchAllowed (s.session ([0].headD 0)).tenant [0] = true ∧ s.overLimit [0] ≠ []) ∧
    (let r : StepRun := { tenant := 1, sessions := [0], groups := 1 }; let s : State := { stS2 [(0, { tenant := 1 })] with ops := { runs := [(3, some r)] } };
      Claims.Up s (.groupInstantiate 3) ∧ s.run 3 = some r ∧ (s.nextGroupOf r).isSome = true ∧ s.mayLook 3 r = true ∧ s.immAhead r = false) ∧
    (let o := mkOp .sync .sync .waiting; let s := stOp 9 o;
      s.op 9 = some o ∧ (s.nextFor o.unit o.d.tenant).map (·.1) = some 9 ∧ o.phase = .waiting ∧ s.unitFree o = true) ∧
    (let o := { mkOp .sync .sync .started with workDone := true }; let s := stOp 9 o; s.op 9 = some o ∧ s.atEnd o = true ∧ s.endStatus o = .none ∧ s.streamed 9 = true) ∧
    (let o := { mkOp .sync .sync .dispatched with stopping := .timeout }; let s := stOp 9 o; s.op 9 = some o ∧ s.atEnd o = true ∧ s.endStatus o ≠ .none) ∧
    (let o := mkOp .sync .sync .posted; let s : State := { stOp 9 o with ops := { slots := [(9, some o)], records := [9] } };
      Claims.Up s (.completionAccept 9) ∧ s.op 9 = some o ∧ 9 ∈ s.ops.records) ∧
    (let o := mkOp .fgemm (.fgemm 16 16 16 0 1 false false) .started; let s : State := { stOp 9 o with clk := { mono := 1000000 } };
      s.op 9 = some o ∧ o.phase = .started ∧ o.timerHeld = false ∧ o.stopping = .none ∧ o.startAt + 1000000 ≤ s.now) := by
  and_intros <;> decide +kernel

theorem witness_PlanOperationsRun :
    (let o := mkOp .move (.move 0 1) .dispatched; let s := stOp 9 o;
      s.opIn 9 .move .dispatched = some o ∧ s.tensor o o.d.opA = plan1.tensors[0]? ∧ s.tensor o o.d.opC = plan1.tensors[1]? ∧
      Claims.Placed s o [(o.d.opA, (0 + 1) * (plan1.tensors[0]?.getD TDesc.init).tileOctets), (o.d.opC, (0 + 1) * (plan1.tensors[0]?.getD TDesc.init).tileOctets)]) ∧
    (let o := mkOp .route (.route 0 2 3 0) .dispatched; let s := stOp 9 o;
      s.opIn 9 .route .dispatched = some o ∧ (s.tensor o o.d.opA).isSome = true ∧ (s.tensor o o.d.opC).isSome = true ∧
      Claims.Placed s o [(o.d.opA, 3 * (if 0 = 0 then 256 else 0) * 4), (o.d.opC, 3 * 2 * 8)]) ∧
    (let o := mkOp .corr (.corr 1 0 1) .dispatched; let s := stOp 9 o;
      s.opIn 9 .corr .dispatched = some o ∧ Claims.Placed s o [(o.d.opA, 68), (o.d.opC, 4)]) ∧
    (let o := mkOp .corr (.corr 1 0 1) .started; let s := stOp 9 o;
      s.opIn 9 .corr .started = some o ∧ (s.tensor o o.d.opC).isSome = true ∧ s.waitOk o.d.wait1 = true ∧ o.workDone = false) ∧
    (let o := mkOp .sync .sync .dispatched; let s := stOp 9 o; s.opIn 9 .sync .dispatched = some o) := by
  refine ⟨⟨?_, ?_, ?_, placed_of ?_⟩, ⟨?_, ?_, ?_, placed_of ?_⟩, ⟨?_, placed_of ?_⟩, ?_⟩
  all_goals (and_intros <;> decide +kernel)

theorem witness_TierCommandsRun :
    (let s : State := { stOp 9 {} with tenants := { states := [(1, .forming)] }, dict := { stored := [(entryCode 0x4300 1, 2 ^ 64 * 30)] } };
      (Claims.Reaches s (.cacheWays qd 1 30) qd dr (entryCode (0x8100 + 1) 3) ∧ (s.setStored (0x8100 + 1) 3 2 30).waysFit = true ∧ (s.tenState 1 = .forming ∨ s.tenState 1 = .active) ∧
        30 ≤ (s.envOf 1).maxWays) ∧
      (Claims.Reaches s (.csKvPages qd 1 88) qd dr (entryCode (0x8100 + 1) 4) ∧ 88 ≤ 88 ∧ s.sv (0x8130 + 1) 1 6 + 2 ≤ 96 - 88) ∧
      (Claims.Reaches s (.dramSubQuota qd 1 4 9) qd dr (entryCode (0x8110 + 1) 4) ∧ (4 = 4 → 9 ≤ 9) ∧ s.tenState 1 = .forming)) ∧
    (let s : State := { st with tiers := { wayNext := [(7 * 32 + 31, 10)] } }; 7 < 8 ∧ 31 < 32 ∧ s.wayNext (7 * 32 + 31) ≠ 0) ∧
    (let s : State := { stOp 9 {} with tiers := { popular := [(popKey 1 0 3, { checkDue := true })] } };
      Claims.Up s (.expertRebalanceCheck 1 0 3) ∧ (s.popular (popKey 1 0 3)).checkDue = true) := by
  and_intros <;> decide +kernel

theorem witness_StreamCommandsRun :
    (let e : SEntry := { len16 := 256 }; let x : Stream := { slot := 9, tenant := 1, list := [e] };
      let s : State := { stOp 9 (mkOp .fgemm (.fgemm 16 16 16 0 1 false false) .waiting) with streams := { engines := [(3, { streams := [x] })] } };
      (s.engine 3).nextStream = some x ∧ x.list[x.next]? = some e ∧ (s.engine 3).outstanding < 6 ∧ (s.engine 3).held + e.credits ≤ s.creditCap (3 / 16)) ∧
    (let t : Xfer := { slot := 9, operand := 1, entry := 0, bytes := 4096, source := 32 }; let x : Stream := { slot := 9, operand := 1, tenant := 1, list := [{}], next := 1 };
      let s : State := { stOp 9 {} with streams := { engines := [(3, { streams := [x], xfers := [t] })] } };
      (s.engine 3).xfers.find? (fun t => decide (t.slot = 9 ∧ t.operand = 1 ∧ t.entry = 0) && !t.landed) = some t ∧ (s.engine 3).mayLand t = true ∧ t.discard = false ∧
      (s.engine 3).streams.find? (fun x => decide (x.slot = 9 ∧ x.operand = 1)) = some x) ∧
    (let t : Xfer := { slot := 9, operand := 1, entry := 0, discard := true }; let s : State := { stOp 9 {} with streams := { engines := [(3, { xfers := [t] })] } };
      (s.engine 3).xfers.find? (fun t => decide (t.slot = 9 ∧ t.operand = 1 ∧ t.entry = 0) && !t.landed) = some t ∧ (s.engine 3).mayLand t = true ∧ t.discard = true) ∧
    (let l : Late := { slot := 9, since := 5 }; let s : State := { stOp 9 {} with streams := { lates := [l] }, clk := { mono := 20005 } };
      s.streams.lates.find? (fun l => decide (l.slot = 9)) = some l ∧ l.counted = false ∧ 20000 ≤ s.now - l.since) := by
  and_intros <;> decide +kernel

theorem witness_DramRequestsRun :
    (let s := stOp 9 {};
      (31 < 32 ∧ unitCount - 1 < unitCount ∧ s.chanOpen 31 = true ∧ (s.chan 31).reads.length < 64 ∧ s.mayAccess 31 (unitCount - 1) 0 = true) ∧
      (s.chanOpen 3 = true ∧ (s.chan 3).writes.length < 64 ∧ s.mayAccess 3 0 1 = true ∧ (s.keySlot 1).zeroising = false)) ∧
    (let s : State := { st with dram := { channels := [(3, { writes := [{}] })] } }; (s.chan 3).writes ≠ [] ∧ (s.chan 3).reads = []) ∧
    (let s : State := { st with dram := { channels := [(3, { writes := List.replicate 48 {}, reads := [{}] })] } }; 48 ≤ (s.chan 3).writes.length ∧ (s.chan 3).reads ≠ []) ∧
    (let r : RdReq := { id := 6 }; let s : State := { st with dram := { channels := [(3, { reads := [r] })] } };
      (s.chan 3).reads.find? (fun r => decide (r.id = 6)) = some r ∧ (s.chan 3).retrying = none ∧ (s.chan 3).state = .active) ∧
    (let r : RdReq := { id := 6 }; let s : State := { st with dram := { channels := [(3, { retrying := some r })] } }; (s.chan 3).retrying = some r) := by
  and_intros <;> decide +kernel

theorem witness_DramUpkeepRuns :
    ((st.chan 31).state = .active ∧ 15 < 16 ∧ st.chanOpen 31 = true) ∧
    (let s : State := { st with dram := { channels := [(31, { idleLimit := 1000000 })] }, clk := { mono := 100000000 } };
      31 < 32 ∧ (s.chan 31).state = .active ∧ (s.chan 31).reads = [] ∧ (s.chan 31).writes = [] ∧ (s.chan 31).retrying = none ∧ (s.chan 31).idleLimit ≤ s.now - (s.chan 31).lastBusy ∧
      100000000 ≤ s.now - (s.chan 31).lastRetrain) ∧
    (let s : State := { st with dram := { channels := [(0, { state := .selfRefresh })] } }; (s.chan 0).state = .selfRefresh ∧ s.chanOpen 0 = true) ∧
    (let s : State := { st with dram := { keys := [(8, { zeroising := true })] } }; (s.keySlot 8).zeroising = true ∧ s.keyWrites 8 = 0 ∧ s.removal 8 = none) ∧
    (let r : Removal := { step := 5 }; let s : State := { st with dram := { keys := [(8, { zeroising := true })] }, tenants := { removals := [(8, some r)] } };
      (s.keySlot 8).zeroising = true ∧ s.keyWrites 8 = 0 ∧ s.removal 8 = some r ∧ r.step = 5) := by
  and_intros <;> decide +kernel

theorem witness_StepFront : ({ st with pending := [.ping 3 false ⟨5, false⟩, .idcode] } : State).pending = .ping 3 false ⟨5, false⟩ :: [.idcode] := rfl

theorem witness_IdleStep :
    State.reset.pending = [] ∧ State.reset.readyAt = none ∧
    (let s : State := { st with held := [.ping 3 false ⟨5, false⟩] }; s.pending = [] ∧ s.readyAt.isSome = true) := by and_intros <;> decide +kernel

theorem witness_StepTakesOneCommand :
    ∃ t, Machine.step { st with pending := [.idcode, .ping 3 false ⟨5, false⟩] } = .next t ∧ t.pending = [.ping 3 false ⟨5, false⟩] := ⟨_, rfl, rfl⟩

theorem witness_MemoryKeepsForm :
    Memory.wf ({ st with mem := [(3, 7), (9, 255)], pending := [.idcode] } : State).mem = true ∧
    ∃ t, Machine.step { st with mem := [(3, 7), (9, 255)], pending := [.idcode] } = .next t := ⟨by decide, _, rfl⟩

/-- Code lengths of the 32 FP16 exponents: 1 and 5 for two, 6 for the other 30, a complete code. -/
def wLens : SMap Nat := (List.range 32).map fun e => (e, if e = 15 then 1 else if e = 14 then 5 else 6)
theorem witness_LosslessCompression :
    let elems := [0x3C00, 0xFFFF, 0x8000, 0x0001];
    completeCode 1 wLens = true ∧ (1 : Nat) < 3 ∧ (65535 : Nat) < 65536 ∧ elems.length ≤ placeBytes / elemBytes 1 ∧ (∀ v ∈ elems, v < 2 ^ (8 * elemBytes 1)) ∧
    (encodeBlock 1 65535 wLens (List.replicate 64 0x3C00)).isSome = true := by
  and_intros <;> decide +kernel

theorem witness_DriveDecomposition :
    -(2 ^ (VFmt.int8.top + 1) : Int) < -127 ∧ (127 : Int) < 2 ^ (VFmt.int8.top + 1) ∧ -(2 ^ (VFmt.int4.top + 1) : Int) < -7 ∧ (7 : Int) < 2 ^ (VFmt.int4.top + 1) := by decide

theorem witness_MvmAccumulates :
    let m : Mvm := { q := [(0, -127), (2047, 127)], nextPlane := 8 };
    m.acc = [] ∧ m.nextPlane = m.fmt.planes ∧ 1023 < 1024 ∧ (∀ e ∈ m.q, -(2 ^ (m.fmt.top + 1) : Int) < e.2 ∧ e.2 < 2 ^ (m.fmt.top + 1)) ∧ (511 < 512 ∧ Enc.int4 ≠ Enc.int8) := by
  and_intros <;> decide +kernel

theorem witness_GrantNotExceeded :
    let m : Mvm := { tenant := 1, stratum := 40, nextPlane := 8 };
    (∃ t, exec (.convertingSlotGrant 5) (stA { queue := [m] }) = .next t) ∧ ∃ t, exec (.mvmResume 5) (stA { suspended := some m }) = .next t := ⟨⟨_, rfl⟩, _, rfl⟩

theorem witness_ResetState : (1 : Nat) < 2 := by decide

/-! ### Worked examples of the spec -/

/-- The scale example of R42 and R43: W = 4 and M = 1.0 give m = 5.0; 4.2 quantises to 107, and 6.3 is an outlier that enters the vault as 0; after 6.3 is appended it quantises to 127. -/
theorem test_scale_site :
    siteScale [0x404CCCCD, 0x40833333, 0x4079999A, 0x40A00000] 4 0x3F800000 127 = toF32 ((f32 0x40A00000).div (.fin false 127 0)) ∧
    (quantSite 127 (f32 (siteScale [0x404CCCCD, 0x40833333, 0x4079999A, 0x40A00000] 4 0x3F800000 127)) (f32 0x40866666) false).code = 107 ∧
    isOutlier 127 (f32 0x40C9999A) (f32 (siteScale [0x404CCCCD, 0x40833333, 0x4079999A, 0x40A00000] 4 0x3F800000 127)) = true ∧
    (quantSite 127 (f32 (siteScale [0x404CCCCD, 0x40833333, 0x4079999A, 0x40A00000, 0x40C9999A] 4 0x3F800000 127)) (f32 0x40C9999A) false).code = 127 := by
  and_intros <;> decide +kernel

/-- The rounds of row-blocks 0 and 11 of the down-projection example (after R72): 12 and 7. -/
theorem test_rounds :
    ([0, 6, 41, 112, 187, 240, 251, 263].map roundsOf).sum = 12 ∧ ([0, 2, 19, 61, 98, 119, 124, 127].map roundsOf).sum = 7 := by decide

/-- The mapping example of R233 to R235: spread address 0x1_2345_6780 of a tenant of clusters 0 to 7 lies on CH6 at 305,420,160, rank 0, row 9,621, bank 9; the next grain lies on CH7. -/
theorem test_spread_map :
    (let s : State := { st with dict := { stored := [(entryCode 0x8101 1, 0xFF), (entryCode 0x8141 1, 2)] } };
      s.spread 1 0x123456780 = (6, 305420160) ∧ s.spread 1 (0x123456780 + 4096) = (7, 305420160)) ∧
    305420160 / 64 = 4772190 ∧ unitBank 4772190 = (9, 9621) := by and_intros <;> decide +kernel

/-- The penalty of the sampling example of R293: tokens in the window fall from 5.0 to 4.0 and from 2.0 to 1.6; token 9,002 keeps 5.5. -/
theorem test_penalty :
    (penalise { repPenalty := 0x3FA00000 } [47, 88] (47, 0x40A00000)).2 = 0x40800000 ∧ (penalise { repPenalty := 0x3FA00000 } [47, 88] (88, 0x40000000)).2 = 0x3FCCCCCD ∧
    (penalise { repPenalty := 0x3FA00000 } [47, 88] (9002, 0x40B00000)).2 = 0x40B00000 := by and_intros <;> decide +kernel

/-- The KV example of R151: an E4M3 page of 12 heads of 128 elements holds 21 tokens. -/
theorem test_page_slots : kvSlots .e4m3 12 128 = 21 := by decide

/-- The DRAM example of R365: moving KV to the shadow reserve in this order passes with OK. -/
def stDram : State :=
  { st with dict := { stored := [(entryCode 0x8101 1, 0xFF), (entryCode 0x8111 1, 4096), (entryCode 0x8111 2, 85184), (entryCode 0x8111 3, 320), (entryCode 0x8111 4, 2048), (entryCode 0x8111 5, 1024)] } }
def kvItem : Item := ⟨entryCode 0x8111 2, 3, 4, 10138, false⟩
def shItem : Item := ⟨entryCode 0x8111 4, 3, 4, 77350, false⟩
theorem test_dram_move :
    (writeAll (writeItem qd dr (plainBody [kvItem, shItem] 0) false) 0 [kvItem, shItem] false stDram).status = Bdp.ok ∧
    (writeAll (writeItem qd dr (plainBody [shItem, kvItem] 0) false) 0 [shItem, kvItem] false stDram).status = Bdp.outOfRange := by and_intros <;> decide +kernel

/-! ### Machine sanity -/

/-- Writing the value that an unlisted byte reads as removes the entry (log entry 4). -/
theorem test_memory_form : Memory.wf [(3, 0)] = false ∧ Memory.wf [(4, 1), (3, 1)] = false ∧ Memory.wf [(3, 1), (4, 1)] = true := by decide

/-- The device code of IDCODE (R391). -/
theorem test_idcode : (match exec .idcode State.reset with | .next t => t.pins.tdo | _ => 0) = 0x10880A31 := by decide +kernel

/-- Counting octets of an MVM's planes: an element of -127 drives the top plane by -1 and plane 0 by +1 (R59). -/
theorem test_drive : drive .int8 (-127) 7 = -1 ∧ drive .int8 (-127) 0 = 1 ∧ drive .int8 (-127) 1 = 0 ∧ drive .int8 127 7 = 0 := by decide +kernel

/-- E4M3 narrows 448 to its greatest finite code and holds above it (R37). -/
theorem test_narrow : (narrow .e4m3 (f32 0x43E00000)).code = 0x7E ∧ (narrow .e4m3 (f32 0x44000000)).code = 0x7E ∧ (narrow .e4m3 (f32 0x44000000)).clamp = 1 := by and_intros <;> decide +kernel

/-- A BF16 sum rounds to nearest, ties to even (R37). -/
theorem test_bf16_round : (narrow .bf16 (f32 0x3F808000)).code = 0x3F80 ∧ (narrow .bf16 (f32 0x3F818000)).code = 0x3F82 := by and_intros <;> decide +kernel

/-- No word spells a command: the table gives no bits. -/
theorem test_no_words : decodeTableWord 16 0 = none ∧ (State.reset.withFetchWord 16 0) = State.reset := by and_intros <;> rfl

/-! ### Worked examples of the rules that the review named -/

/-- The decode example after R108: 7 query heads in wide shape at interleave 2 over 256 keys of 128 features in E4M3 take 1,024 hs for the scores and 1,024 hs for the values, and one of the 8 row slots runs with zeros. -/
theorem test_attention_tile :
    passesOf .wide 2 7 256 * passHs KvFmt.e4m3.passFmts.1 KvFmt.e4m3.passFmts.1 128 2 = 1024 ∧ tileHs .wide 2 7 128 256 1 .e4m3 = 2048 ∧ tileIdle .wide 2 7 128 256 1 = 6 := by decide

/-- The rate table of R8 at its six voltages, and the slow corner of R456 at 0.60 V. -/
theorem test_rate_table : [600, 650, 700, 750, 800, 850].map tableRate = [580, 710, 850, 1000, 1120, 1220] ∧ tableRate 775 = 1060 ∧ floorRate 600 = 500 := by decide

end Sys2Proof.Tests
end

section
/-! Thermal control and the digital loop: what the shared operations of 19_power.md change, what each command answers, and the obligation about them. -/

namespace Sys2Proof.Machine

/-! ### The levers of the loop -/

@[simp] theorem Power.measured_pNow (p : Power) (powers : List Nat) (rate : Nat) : (p.measured powers rate).pNow = powers.take 5 := rfl
@[simp] theorem Power.measured_vcore (p : Power) (powers : List Nat) (rate : Nat) : (p.measured powers rate).vcore = p.vcore := rfl
@[simp] theorem Power.measured_hsRate (p : Power) (powers : List Nat) (rate : Nat) : (p.measured powers rate).hsRate = p.heldRate rate := rfl

/-- The levers after a loop period: they move in RUN and during an entry only (R404). -/
def State.loopLevers (s : State) (excess digital : Nat) : Power :=
  if s.power.state = .run ∨ s.power.state = .entering then s.power.loopStep s.vcoreMax (s.digitalBudget - excess) excess digital else s.power

@[simp] theorem Power.loopStep_tj (p : Power) (ceil target excess digital : Nat) : (p.loopStep ceil target excess digital).tj = p.tj := by
  unfold Power.loopStep
  dsimp only
  split
  · split <;> rfl
  · split
    · split <;> rfl
    · rfl

@[simp] theorem State.loopLevers_tj (s : State) (excess digital : Nat) : (s.loopLevers excess digital).tj = s.power.tj := by
  unfold State.loopLevers
  split
  · exact Power.loopStep_tj ..
  · rfl

/-! ### The handshake rate (R8, R456; log entry 74) -/

/-- The guaranteed floor is 50/58 of the table's rate, so typical silicon is never below it. -/
theorem floorRate_le_tableRate (mv : Nat) : floorRate mv ≤ tableRate mv := by
  unfold floorRate cdiv
  omega

/-- At 85 degrees typical silicon runs at the table's rate. -/
theorem Power.heldRate_typical {p : Power} (rate : Nat) (hlo : 600 ≤ p.vcore) (hhi : p.vcore ≤ 850) (htj : p.tj = 85000)
    (htyp : Config.typicalSilicon = true) : p.heldRate rate = tableRate p.vcore := by
  unfold Power.heldRate
  rw [if_pos ⟨hlo, hhi⟩, if_pos ⟨htj, htyp⟩]

/-- Inside the range of voltage and temperature that R456 covers, the rate is at least the floor. -/
theorem Power.floorRate_le_heldRate {p : Power} (rate : Nat) (hlo : 600 ≤ p.vcore) (hhi : p.vcore ≤ 850) (hcold : -40000 ≤ p.tj)
    (hhot : p.tj ≤ 125000) : floorRate p.vcore ≤ p.heldRate rate := by
  by_cases htyp : p.tj = 85000 ∧ Config.typicalSilicon = true
  · rw [Power.heldRate_typical rate hlo hhi htyp.1 htyp.2]
    exact floorRate_le_tableRate p.vcore
  · unfold Power.heldRate
    rw [if_pos ⟨hlo, hhi⟩, if_neg htyp, if_pos ⟨hcold, hhot⟩]
    exact Nat.le_max_left ..

/-! ### What each command answers -/

/-- VCORE_LOOP where control core 0 is powered: the averages and the rate enter a state with its levers moved, the grant follows, energy and time over the envelope are counted (R404, R406). -/
theorem exec_vcoreLoop {s s2 : State} {pIn pConv pRest pDram pDig pIo rate excess : Nat} (hcore : s.corePowered 0 = true)
    (hexcess : excess = (pDram - s.budget 2) + (pIo - s.budget 3))
    (hs2 : s2 = (s.modPower fun _ => (s.loopLevers excess pDig).measured [pIn, pConv, pRest, pDram, pDig, pIo] rate).regrant.count 0xA0F1 1 (pIn / 10)) :
    exec (.vcoreLoop [pIn, pConv, pRest, pDram, pDig, pIo] rate) s =
      .next (if s2.power.vcore ≤ 600 ∧ s2.power.pvTenths ≤ s2.power.pvCut + 1 ∧ s2.pv 0x2001 1 110000 < pIn then s2.count 0xA033 4 10000 else s2) := by
  subst hs2 hexcess
  refine (listed_true (by simp [hcore])).trans ?_
  simp only [State.loopLevers, Bool.or_eq_true, decide_eq_true_eq]
  rfl

/-- THERMAL_SAMPLE in a powered state: the reading enters first, and the thermal state that it meets is the one before it (R408, R409). -/
theorem exec_thermalSample {s : State} (tj : Int) (hup : s.powered = true) :
    exec (.thermalSample tj) s =
      .next (if s.power.thermState = 0 ∧ 115000 ≤ tj then
          (((s.reading tj).modPower fun p => { p with thermState := 1 }).driveThermN true).raise Ev.thermalThrottle 0 Locus.none 0 (uint 64 tj)
        else if s.power.thermState = 2 ∧ tj ≤ 115000 then (s.reading tj).modPower fun p => { p with thermState := 1 }
        else s.reading tj) :=
  listed_true hup

/-- THROTTLE_STEP while throttling at 115 degrees or more: one step down (R409). -/
theorem exec_throttleStep_hot {s : State} (hup : s.powered = true) (hthrottling : s.power.thermState = 1) (hhot : 115000 ≤ s.power.tj) :
    exec .throttleStep s = .next (s.modPower fun p => p.throttle (s.pv 0x2001 2 850)).regrant := by
  change execThrottleStep s = _
  unfold execThrottleStep
  rw [if_pos ⟨hup, hthrottling, .inl hhot⟩, if_pos hhot]

/-- THROTTLE_STEP while throttling at 110 degrees or less: one step up, and THERM_N is released with the last one (R409). -/
theorem exec_throttleStep_cool {s s1 : State} (hup : s.powered = true) (hthrottling : s.power.thermState = 1) (hcool : s.power.tj ≤ 110000)
    (hs1 : s1 = (s.modPower fun p => p.release (s.pv 0x2001 2 850)).regrant) :
    exec .throttleStep s = .next (if s1.power.thermState = 0 then s1.driveThermN false else s1) := by
  have hnotHot : ¬ 115000 ≤ s.power.tj := by omega
  change execThrottleStep s = _
  unfold execThrottleStep
  rw [if_pos ⟨hup, hthrottling, .inr hcool⟩, if_neg hnotHot, hs1]

/-- THERMAL_TRIP at 125 degrees or more, where no trip is in force (R409). -/
theorem exec_thermalTrip {s : State} {tj : Int} (hup : s.powered = true) (hhot : 125000 ≤ tj) (huntripped : s.power.thermState ≠ 2) :
    exec (.thermalTrip tj) s =
      .next ((((((s.reading tj).modPower Power.tripLevers).regrant).driveThermN true).count 0xA033 2 1).raise Ev.thermalTrip 0 Locus.none 0 (uint 64 tj)) :=
  listed_true (by simp [hup, hhot, huntripped])

/-- THERMAL_SHUTDOWN at 135 degrees or more (R409). -/
theorem exec_thermalShutdown {s : State} {tj : Int} (hup : s.powered = true) (hhot : 135000 ≤ tj) :
    exec (.thermalShutdown tj) s = .next ((((s.reading tj).count 0xA033 3 1).raise Ev.thermalShutdown 0 Locus.none 0 (uint 64 tj)).toOff 2) :=
  listed_true (by simp [hup, hhot])

/-! ### The obligation -/

/-- Settles O40: each command by its equation above; the clauses on the handshake rate by the bounds of the held rate at the VCORE that the loop leaves, the temperature being the one before it. -/
theorem thermalCommandsRun : Obligations.ThermalCommandsRun := by
  refine ⟨?vcoreLoop, fun s tj => exec_thermalSample tj, fun s => exec_throttleStep_hot, fun s s1 => exec_throttleStep_cool,
    fun s tj => exec_thermalTrip, fun s tj => exec_thermalShutdown⟩
  intro s s1 s2 pIn pConv pRest pDram pDig pIo rate excess hcore hexcess hs1 hs2
  have hpower : s1.power = (s.loopLevers excess pDig).measured [pIn, pConv, pRest, pDram, pDig, pIo] rate := hs1 ▸ rfl
  refine ⟨exec_vcoreLoop hcore hexcess (hs1 ▸ hs2), ?averages, ?floor, ?typical⟩
  case averages => simp [hpower]
  case floor =>
    intro hlo hhi hcold hhot
    simp only [hpower, Power.measured_vcore, Power.measured_hsRate] at hlo hhi ⊢
    exact Power.floorRate_le_heldRate rate hlo hhi (by simpa using hcold) (by simpa using hhot)
  case typical =>
    intro hlo hhi htj htyp
    simp only [hpower, Power.measured_vcore, Power.measured_hsRate] at hlo hhi ⊢
    exact Power.heldRate_typical rate hlo hhi (by simpa using htj) htyp

end Sys2Proof.Machine
end

section
/-! The drives of an input element over the planes (R59): what each plane drives, their weighted sum, and the obligation about them. -/

namespace Sys2Proof.Machine

/-! ### Bits and their weights -/

/-- The weights of the set bits below `n`, as far as plane `n`. -/
theorem sum_weighted_bits (u n : Nat) : ((List.range n).map fun p => (2 ^ p : Int) * if nbit u p = true then 1 else 0).sum = ((u % 2 ^ n : Nat) : Int) := by
  induction n with
  | zero => simp [Nat.mod_one]
  | succ n ih =>
    rw [List.sum_range_succ, ih, Nat.mod_pow_succ]
    rcases Nat.mod_two_eq_zero_or_one (u / 2 ^ n) with h | h <;> simp [nbit, h]

/-- Where every bit of `j..n-1` is set, the low `n` bits are the low `j` bits and all the weights between. -/
theorem mod_two_pow_of_set_bits {u j n : Nat} (hj : j ≤ n) (hset : ∀ p, j ≤ p → p < n → nbit u p = true) : u % 2 ^ n + 2 ^ j = u % 2 ^ j + 2 ^ n := by
  induction n, hj using Nat.le_induction with
  | base => rfl
  | succ n hj ih =>
    have hbit : u / 2 ^ n % 2 = 1 := by simpa [nbit] using hset n hj (Nat.lt_succ_self n)
    have := ih fun p hp hlt => hset p hp (Nat.lt_succ_of_lt hlt)
    rw [Nat.mod_pow_succ, hbit, Nat.pow_succ]
    omega

/-! ### The plane above the highest 0 bit -/

theorem aboveTopZero_le (u : Nat) : ∀ n, aboveTopZero u n ≤ n + 1
  | 0 => by unfold aboveTopZero; split <;> omega
  | n + 1 => by
    have := aboveTopZero_le u n
    unfold aboveTopZero; split <;> omega

/-- The bit below that plane is 0. -/
theorem nbit_below_aboveTopZero {u j : Nat} : ∀ {n}, aboveTopZero u n = j + 1 → nbit u j = false
  | 0, h => by
    unfold aboveTopZero at h
    split at h
    · omega
    · obtain rfl : j = 0 := by omega
      simp_all
  | n + 1, h => by
    unfold aboveTopZero at h
    split at h
    · exact nbit_below_aboveTopZero h
    · obtain rfl : j = n + 1 := by omega
      simp_all

/-- Every bit from that plane up to the top is 1. -/
theorem nbit_from_aboveTopZero {u p : Nat} : ∀ {n}, aboveTopZero u n ≤ p → p ≤ n → nbit u p = true
  | 0, hp, hn => by
    obtain rfl : p = 0 := by omega
    by_contra hbit
    simp [aboveTopZero, hbit] at hp
  | n + 1, hp, hn => by
    unfold aboveTopZero at hp
    split at hp
    · rename_i hbit
      rcases Nat.lt_or_eq_of_le hn with hlt | rfl
      · exact nbit_from_aboveTopZero hp (by omega)
      · exact hbit
    · omega

/-- It is above the top exactly where the top bit is 0. -/
theorem aboveTopZero_eq_succ_iff (u n : Nat) : aboveTopZero u n = n + 1 ↔ nbit u n = false := by
  refine ⟨nbit_below_aboveTopZero, fun hbit => ?_⟩
  by_contra hne
  have htop := nbit_from_aboveTopZero (u := u) (p := n) (by have := aboveTopZero_le u n; omega) le_rfl
  simp [hbit] at htop

/-! ### What each plane drives -/

/-- The plane that a negative element drives by -1. -/
def foldPlane (f : VFmt) (q : Int) : Nat := aboveTopZero (uint f.planes q) f.top

theorem drive_of_nonneg {q : Int} (f : VFmt) (hq : 0 ≤ q) (p : Nat) : drive f q p = if p ≤ f.top ∧ nbit q.toNat p = true then 1 else 0 := if_pos hq

theorem drive_of_neg {q : Int} (f : VFmt) (hq : q < 0) (p : Nat) :
    drive f q p = if p = foldPlane f q then -1 else if p < foldPlane f q ∧ nbit (uint f.planes q) p = true then 1 else 0 := if_neg (by omega)

theorem foldPlane_le (f : VFmt) (q : Int) : foldPlane f q ≤ f.top + 1 := aboveTopZero_le _ _

/-- The weighted sum of -1 on plane `j` and the set bits below it. -/
theorem sum_fold {u j n : Nat} (hj : j < n) :
    ((List.range n).map fun p => (2 ^ p : Int) * if p = j then -1 else if p < j ∧ nbit u p = true then 1 else 0).sum = ((u % 2 ^ j : Nat) : Int) - 2 ^ j := by
  induction n, hj using Nat.le_induction with
  | base =>
    rw [List.sum_range_succ, ← sum_weighted_bits, if_pos rfl, mul_neg_one, ← sub_eq_add_neg]
    congr 2
    refine List.map_congr_left fun p hp => ?_
    have hlt : p < j := List.mem_range.1 hp
    simp [hlt, hlt.ne]
  | succ n hj ih =>
    have hlt : j < n := hj
    rw [List.sum_range_succ, ih, if_neg hlt.ne', if_neg (by omega), mul_zero, add_zero]

section Range

variable {f : VFmt} {q : Int}

/-- A negative element of a format in its bits. -/
theorem uint_planes_of_neg (hlo : -(2 ^ (f.top + 1) : Int) < q) (hq : q < 0) : (uint f.planes q : Int) = q + 2 ^ (f.top + 2) := by
  have hlo' : 0 ≤ q + 2 ^ (f.top + 2) := by rw [pow_succ]; omega
  unfold uint VFmt.planes
  rw [← Int.add_emod_right, Int.emod_eq_of_lt hlo' (by omega), Int.toNat_of_nonneg hlo']

/-- A negative element of a format has its sign bit set. -/
theorem nbit_sign_of_neg (hlo : -(2 ^ (f.top + 1) : Int) < q) (hq : q < 0) : nbit (uint f.planes q) (f.top + 1) = true := by
  have hu := uint_planes_of_neg hlo hq
  have hdiv : uint f.planes q / 2 ^ (f.top + 1) = 1 := by
    rw [pow_succ _ (f.top + 1)] at hu
    exact Nat.div_eq_of_lt_le (by zify; omega) (by zify; omega)
  simp [nbit, hdiv]

/-- The top value bit of a negative element is 0 exactly below the negated weight of the top value plane. -/
theorem nbit_top_of_neg (hlo : -(2 ^ (f.top + 1) : Int) < q) (hq : q < 0) : nbit (uint f.planes q) f.top = false ↔ q < -(2 ^ f.top : Int) := by
  have hu := uint_planes_of_neg hlo hq
  rw [pow_add] at hu
  rw [pow_succ] at hlo
  by_cases htop : q < -(2 ^ f.top : Int)
  · have hdiv : uint f.planes q / 2 ^ f.top = 2 := Nat.div_eq_of_lt_le (by zify; omega) (by zify; omega)
    simp [nbit, hdiv, htop]
  · have hdiv : uint f.planes q / 2 ^ f.top = 3 := Nat.div_eq_of_lt_le (by zify; omega) (by zify; omega)
    simp [nbit, hdiv, htop]

/-- The top plane (R34, R59): only elements below the negated weight of the plane under it drive it, at -1. -/
theorem drive_top (hlo : -(2 ^ (f.top + 1) : Int) < q) : drive f q (f.top + 1) = if q < -(2 ^ f.top : Int) then -1 else 0 := by
  rcases lt_or_ge q 0 with hq | hq
  · have hfold : f.top + 1 = foldPlane f q ↔ q < -(2 ^ f.top : Int) := by
      rw [← nbit_top_of_neg hlo hq, ← aboveTopZero_eq_succ_iff, eq_comm, foldPlane]
    have hle := foldPlane_le f q
    rw [drive_of_neg f hq, if_neg (c := _ < _ ∧ _) (by omega)]
    simp only [hfold]
  · have hpow : (0 : Int) < 2 ^ f.top := by positivity
    rw [drive_of_nonneg f hq, if_neg (by omega), if_neg (by omega)]

/-- The weighted sum of the drives over the planes is the element. -/
theorem sum_drive (hlo : -(2 ^ (f.top + 1) : Int) < q) (hhi : q < 2 ^ (f.top + 1)) :
    ((List.range (f.top + 2)).map fun p => (2 ^ p : Int) * drive f q p).sum = q := by
  rcases lt_or_ge q 0 with hq | hq
  · have hset : ∀ p, foldPlane f q ≤ p → p < f.top + 2 → nbit (uint f.planes q) p = true := fun p hp hlt => by
      rcases Nat.lt_or_eq_of_le (Nat.lt_succ_iff.1 hlt) with hle | rfl
      · exact nbit_from_aboveTopZero hp (Nat.lt_succ_iff.1 hle)
      · exact nbit_sign_of_neg hlo hq
    have hfold : foldPlane f q < f.top + 2 := Nat.lt_succ_of_le (foldPlane_le f q)
    have hbits := mod_two_pow_of_set_bits hfold.le hset
    have hu := uint_planes_of_neg hlo hq
    have hmod : uint f.planes q % 2 ^ (f.top + 2) = uint f.planes q := Nat.mod_eq_of_lt (by zify; omega)
    rw [hmod] at hbits
    simp only [drive_of_neg f hq]
    rw [sum_fold hfold]
    zify at hbits ⊢
    omega
  · have hmod : q.toNat % 2 ^ (f.top + 1) = q.toNat := Nat.mod_eq_of_lt (by zify; omega)
    have hlow : ((List.range (f.top + 1)).map fun p => (2 ^ p : Int) * drive f q p) =
        (List.range (f.top + 1)).map fun p => (2 ^ p : Int) * if nbit q.toNat p = true then 1 else 0 :=
      List.map_congr_left fun p hp => by
        have hle : p ≤ f.top := Nat.lt_succ_iff.1 (List.mem_range.1 hp)
        simp [drive_of_nonneg f hq, hle]
    have htop : drive f q (f.top + 1) = 0 := by simp [drive_of_nonneg f hq]
    rw [List.sum_range_succ, hlow, sum_weighted_bits, hmod, htop, mul_zero, add_zero, Int.toNat_of_nonneg hq]

end Range

/-- A plane that an element leaves undriven: the top one for a nonnegative element, the one below the folding plane, or the top one, for a negative. -/
theorem exists_undriven (f : VFmt) (q : Int) : ∃ p < f.top + 2, drive f q p = 0 := by
  rcases lt_or_ge q 0 with hq | hq
  · cases hfold : foldPlane f q with
    | zero => exact ⟨f.top + 1, by omega, by simp [drive_of_neg f hq, hfold]⟩
    | succ j =>
      have hbit : nbit (uint f.planes q) j = false := nbit_below_aboveTopZero hfold
      have hle := foldPlane_le f q
      exact ⟨j, by omega, by simp [drive_of_neg f hq, hfold, hbit]⟩
  · exact ⟨f.top + 1, by omega, by simp [drive_of_nonneg f hq]⟩

/-- At most one plane fewer than there are is driven. -/
theorem length_driven_le (f : VFmt) (q : Int) : ((List.range (f.top + 2)).filter fun p => drive f q p != 0).length ≤ f.top + 1 := by
  obtain ⟨p, hp, hzero⟩ := exists_undriven f q
  have hlt : ((List.range (f.top + 2)).filter fun p => drive f q p != 0).length < (List.range (f.top + 2)).length :=
    List.length_filter_lt_length_iff_exists.2 ⟨p, List.mem_range.2 hp, by simp [hzero]⟩
  rw [List.length_range] at hlt
  omega

/-- The form in which R59 states the drives of a negative element: -1 above the highest 0 bit, +1 on the set bits up to it. -/
theorem drive_of_neg_highest_zero (f : VFmt) {q : Int} (hq : q < 0) :
    ∃ j : Int, -1 ≤ j ∧ j ≤ f.top ∧ (0 ≤ j → nbit (uint f.planes q) j.toNat = false) ∧
      (∀ p : Nat, j < p → p ≤ f.top → nbit (uint f.planes q) p = true) ∧
      ∀ p : Nat, drive f q p = if (p : Int) = j + 1 then -1 else if (p : Int) ≤ j ∧ nbit (uint f.planes q) p = true then 1 else 0 := by
  have hle := foldPlane_le f q
  refine ⟨(foldPlane f q : Int) - 1, by omega, by omega, fun hj => ?_, fun p hp => ?_, fun p => ?_⟩
  · exact nbit_below_aboveTopZero (n := f.top) (show foldPlane f q = _ by omega)
  · exact nbit_from_aboveTopZero (show foldPlane f q ≤ p by omega)
  · have hat : (p : Int) = (foldPlane f q : Int) - 1 + 1 ↔ p = foldPlane f q := by omega
    have hbelow : (p : Int) ≤ (foldPlane f q : Int) - 1 ↔ p < foldPlane f q := by omega
    simp only [drive_of_neg f hq, hat, hbelow]

/-! ### Active rows -/

/-- A row is active on a plane exactly when its element is driven there (R60). -/
theorem mem_activeRows {f : VFmt} {q : SMap Int} {p r : Nat} {d : Int} : (r, d) ∈ activeRows f q p ↔ d ≠ 0 ∧ ∃ e ∈ q, e.1 = r ∧ drive f e.2 p = d := by
  simp [activeRows, and_comm]

/-- A drive of -1 reverses a row's contribution. -/
theorem idealSum_neg_one (cells : SMap Int) (r c : Nat) : idealSum cells [(r, -1)] c = -idealSum cells [(r, 1)] c := by
  simp [idealSum]

/-! ### The obligation -/

/-- Settles O51: a negative element folds onto the plane above its highest 0 bit, from which up all its bits are 1. -/
theorem driveDecomposition : Obligations.DriveDecomposition := by
  refine ⟨fun f q hlo hhi => ?_, fun f q p r d => mem_activeRows, idealSum_neg_one⟩
  exact ⟨drive_of_nonneg f, drive_of_neg_highest_zero f, sum_drive hlo hhi, drive_top hlo, length_driven_le f q⟩

end Sys2Proof.Machine
end

section
/-! The planes of an MVM: what a column accumulates over them, the bound of the conversion error, and the obligation about them (R59, R60, R65, R73). -/

namespace Sys2Proof.Machine

/-! ### Tables of columns -/

/-- Reading a table of the nonzero values of a function, given on a list of keys. -/
theorem mget_map_filter_ne_zero (f : Nat → Int) (k : Nat) : ∀ ks : List Nat,
    mget 0 ((ks.map fun c => (c, f c)).filter fun e => e.2 != 0) k = if k ∈ ks then f k else 0
  | [] => rfl
  | c :: ks => by
    have ih := mget_map_filter_ne_zero f k ks
    by_cases hzero : f c = 0
    · by_cases hk : k = c
      · subst hk; simp [hzero, ih]
      · simp [hzero, ih, hk]
    · by_cases hk : k = c
      · subst hk; simp [hzero, mget_cons]
      · simp [hzero, mget_cons, ih, hk, Ne.symm hk]

theorem mget_columns {n c : Nat} (f : Nat → Int) (hc : c < n) : mget 0 (columns n f) c = f c := by
  rw [columns, mget_map_filter_ne_zero, if_pos (List.mem_range.2 hc)]

/-- The result of an INT8 row-block: column pairs, the even column shifted by 4 (R56, R65). -/
theorem mget_rowBlockResult_int8 (acc : SMap Int) {k : Nat} (hk : k < 512) :
    mget 0 (rowBlockResult .int8 acc) k = 16 * mget 0 acc (2 * k) + mget 0 acc (2 * k + 1) := mget_columns _ hk

theorem rowBlockResult_of_ne_int8 {e : Enc} (he : e ≠ .int8) (acc : SMap Int) : rowBlockResult e acc = acc := by
  cases e with
  | int8 => exact absurd rfl he
  | _ => rfl

/-! ### One plane, and all of them -/

@[simp] theorem Mvm.plane_fmt (m : Mvm) (st : Stratum) (draw : Nat) : (m.plane st draw).fmt = m.fmt := rfl
@[simp] theorem Mvm.plane_q (m : Mvm) (st : Stratum) (draw : Nat) : (m.plane st draw).q = m.q := rfl
@[simp] theorem Mvm.plane_stratum (m : Mvm) (st : Stratum) (draw : Nat) : (m.plane st draw).stratum = m.stratum := rfl
@[simp] theorem Mvm.plane_nextPlane (m : Mvm) (st : Stratum) (draw : Nat) : (m.plane st draw).nextPlane = m.nextPlane - 1 := rfl

/-- The accumulator of a column after a plane: doubled, and the plane's round codes added. -/
theorem Mvm.plane_acc (m : Mvm) (st : Stratum) (draw : Nat) {c : Nat} (hc : c < 1024) :
    mget 0 (m.plane st draw).acc c = 2 * mget 0 m.acc c + planeCode st m.stratum draw m (m.nextPlane - 1) c := by
  simp only [plane, mget_columns _ hc]

/-- A plane's round codes depend on the MVM's input alone. -/
@[simp] theorem planeCode_plane (st : Stratum) (stratum draw : Nat) (m : Mvm) (p c : Nat) : planeCode st stratum draw (m.plane st draw) p c = planeCode st stratum draw m p c := rfl

theorem Mvm.planesRun_nextPlane (st : Stratum) (draw : Nat) : ∀ (n : Nat) (m : Mvm), (m.planesRun st draw n).nextPlane = m.nextPlane - n
  | 0, _ => rfl
  | n + 1, m => by
    rw [planesRun, planesRun_nextPlane st draw n, plane_nextPlane]
    omega

/-- The accumulator of a column after the planes that are left: the doublings give each plane its weight. -/
theorem Mvm.planesRun_acc (st : Stratum) (draw : Nat) {c : Nat} (hc : c < 1024) : ∀ (n : Nat) (m : Mvm), m.nextPlane = n →
    mget 0 (m.planesRun st draw n).acc c = 2 ^ n * mget 0 m.acc c + ((List.range n).map fun p => (2 ^ p : Int) * planeCode st m.stratum draw m p c).sum
  | 0, m, _ => by simp [planesRun]
  | n + 1, m, hn => by
    rw [planesRun, planesRun_acc st draw hc n _ (by simp [hn]), plane_acc m st draw hc, hn, List.sum_range_succ]
    simp only [plane_stratum, planeCode_plane, Nat.add_sub_cancel]
    ring

/-! ### The ideal sum -/

/-- Rows that are not active contribute nothing, so the ideal sum of a plane runs over the whole slice. -/
theorem idealSum_activeRows (cells : SMap Int) (f : VFmt) (p c : Nat) (q : SMap Int) :
    idealSum cells (activeRows f q p) c = (q.map fun e => drive f e.2 p * mget 0 cells (e.1 * 1024 + c)).sum := by
  induction q with
  | nil => rfl
  | cons e q ih =>
    rw [idealSum, activeRows] at ih ⊢
    by_cases hzero : drive f e.2 p = 0 <;> simp [hzero, ih]

/-- The weighted ideal sums of all planes are the product sum (R59, R65). -/
theorem sum_idealSum (cells : SMap Int) (f : VFmt) (c : Nat) {q : SMap Int} (hq : ∀ e ∈ q, -(2 ^ (f.top + 1) : Int) < e.2 ∧ e.2 < 2 ^ (f.top + 1)) :
    ((List.range f.planes).map fun p => (2 ^ p : Int) * idealSum cells (activeRows f q p) c).sum =
      (q.map fun e => e.2 * mget 0 cells (e.1 * 1024 + c)).sum := by
  simp only [idealSum_activeRows]
  induction q with
  | nil => simp
  | cons e q ih =>
    obtain ⟨hlo, hhi⟩ := hq e List.mem_cons_self
    have hhead : ((List.range f.planes).map fun p => (2 ^ p : Int) * (drive f e.2 p * mget 0 cells (e.1 * 1024 + c))).sum = e.2 * mget 0 cells (e.1 * 1024 + c) := by
      simp only [← mul_assoc, List.sum_map_mul_right]
      rw [VFmt.planes, sum_drive hlo hhi]
    simp only [List.map_cons, List.sum_cons, mul_add, List.sum_map_add]
    rw [hhead, ih fun x hx => hq x (List.mem_cons_of_mem e hx)]

/-! ### The conversion error -/

theorem abs_within_le (b : Nat) (u : Int) : |within b u| ≤ b := by
  rw [abs_le]
  unfold within
  split
  · omega
  · split <;> omega

/-- A sum of integers whose magnitudes are bounded one by one. -/
theorem abs_sum_map_le {α : Type} {f g : α → Int} (h : ∀ x, |f x| ≤ g x) (l : List α) : |(l.map f).sum| ≤ (l.map g).sum :=
  calc |(l.map f).sum| ≤ ((l.map f).map abs).sum := List.le_sum_of_subadditive abs abs_zero.le abs_add_le _
    _ = (l.map fun x => |f x|).sum := by rw [List.map_map]; rfl
    _ ≤ (l.map g).sum := List.sum_le_sum fun x _ => h x

/-- The conversion error of a plane: at most 3 LSB for each round (R73). -/
theorem abs_planeError_le (stratum draw p rounds c : Nat) : |planeError stratum draw p rounds c| ≤ 3 * (rounds : Int) :=
  (abs_sum_map_le (g := fun _ => 3) (fun _ => abs_within_le 3 _) _).trans_eq (by simp [mul_comm])

/-- The weighted conversion errors of planes of given rounds. -/
theorem abs_sum_planeError_le (stratum draw c : Nat) (rounds : Nat → Nat) (ps : List Nat) :
    |(ps.map fun p => (2 ^ p : Int) * planeError stratum draw p (rounds p) c).sum| ≤ 3 * (ps.map fun p => (2 ^ p : Int) * (rounds p : Int)).sum := by
  rw [← List.sum_map_mul_left]
  refine abs_sum_map_le (fun p => ?_) ps
  have hpow : (0 : Int) ≤ 2 ^ p := by positivity
  calc |(2 ^ p : Int) * planeError stratum draw p (rounds p) c| = 2 ^ p * |planeError stratum draw p (rounds p) c| := by rw [abs_mul, abs_of_nonneg hpow]
    _ ≤ 2 ^ p * (3 * (rounds p : Int)) := mul_le_mul_of_nonneg_left (abs_planeError_le ..) hpow
    _ = 3 * (2 ^ p * (rounds p : Int)) := mul_left_comm ..

/-! ### The obligation -/

/-- The accumulator of a column of a whole MVM: the product sum and the weighted conversion errors. -/
theorem Mvm.planesRun_acc_of_start {m : Mvm} (st : Stratum) (draw : Nat) {c : Nat} (hclear : m.acc = []) (hplanes : m.nextPlane = m.fmt.planes) (hc : c < 1024)
    (hq : ∀ e ∈ m.q, -(2 ^ (m.fmt.top + 1) : Int) < e.2 ∧ e.2 < 2 ^ (m.fmt.top + 1)) :
    mget 0 (m.planesRun st draw m.fmt.planes).acc c = (m.q.map fun e => e.2 * mget 0 st.cells (e.1 * 1024 + c)).sum +
      ((List.range m.fmt.planes).map fun p => (2 ^ p : Int) * planeError m.stratum draw p (roundsOf (activeRows m.fmt m.q p).length) c).sum := by
  rw [planesRun_acc st draw hc _ m hplanes, hclear, ← sum_idealSum st.cells m.fmt c hq, ← List.sum_map_add]
  simp only [planeCode, mul_add, mget_nil, mul_zero, zero_add]

/-- Settles O52: the doublings give every plane its weight, the drives of an element sum to it over the planes (`sum_drive`), and each round's error is within 3 LSB. -/
theorem mvmAccumulates : Obligations.MvmAccumulates := by
  refine ⟨fun m st draw c hclear hplanes hc hq => ?_, fun acc k hk => mget_rowBlockResult_int8 acc hk, fun e acc he => rowBlockResult_of_ne_int8 he acc⟩
  have hbound := abs_le.1 (abs_sum_planeError_le m.stratum draw c (fun p => roundsOf (activeRows m.fmt m.q p).length) (List.range m.fmt.planes))
  refine ⟨?_, _, Mvm.planesRun_acc_of_start st draw hclear hplanes hc hq, rfl, hbound.2, neg_le.1 hbound.1⟩
  rw [Mvm.planesRun_nextPlane, hplanes, Nat.sub_self]

end Sys2Proof.Machine
end

section
/-! The converting grant: what a start of an array adds to the counts of R71 and R25, and the obligation about it. -/

namespace Sys2Proof.Machine

/-! ### Counting the entries of a table -/

theorem mdel_mdel_self {α : Type} (k : Nat) : ∀ m : SMap α, mdel (mdel m k) k = mdel m k
  | [] => rfl
  | (a, w) :: m => by
    have ih := mdel_mdel_self k m
    by_cases h : a = k <;> simp [mdel, h, ih]

theorem mdel_minsert_self {α : Type} (k : Nat) (v : α) : ∀ m : SMap α, mdel (minsert k v m) k = mdel m k
  | [] => by simp [minsert, mdel]
  | (a, w) :: m => by
    have ih := mdel_minsert_self k v m
    unfold minsert
    split
    · rw [mdel, if_pos rfl]
    · simp only [mdel, ih]

theorem mcount_cons {α : Type} (p : Nat → α → Bool) (k : Nat) (v : α) (m : SMap α) : mcount p ((k, v) :: m) = mcount p m + if p k v = true then 1 else 0 := by
  unfold mcount
  rw [List.filter_cons]
  split <;> rfl

theorem mcount_mdel_le {α : Type} (p : Nat → α → Bool) (k : Nat) : ∀ m : SMap α, mcount p (mdel m k) ≤ mcount p m
  | [] => le_rfl
  | (a, w) :: m => by
    have ih := mcount_mdel_le p k m
    unfold mdel
    split <;> simp only [mcount_cons] <;> omega

theorem mcount_minsert {α : Type} (p : Nat → α → Bool) (k : Nat) (v : α) : ∀ m : SMap α, mcount p (minsert k v m) = mcount p m + if p k v = true then 1 else 0
  | [] => mcount_cons p k v []
  | (a, w) :: m => by
    have ih := mcount_minsert p k v m
    unfold minsert
    split
    · exact mcount_cons p k v _
    · simp only [mcount_cons, ih]
      omega

section Set

variable {α : Type} [DecidableEq α] (d : α)

/-- Writing one key of a table adds at most its new entry to a count. -/
theorem mcount_mset_le (p : Nat → α → Bool) (m : SMap α) (k : Nat) (v : α) : mcount p (mset d m k v) ≤ mcount p m + if p k v = true then 1 else 0 := by
  have hdel := mcount_mdel_le p k m
  unfold mset
  split
  · omega
  · rw [mcount_minsert]
    omega

/-- Of two writes of one key the second stands. -/
theorem mset_mset_self (m : SMap α) (k : Nat) (v w : α) : mset d (mset d m k v) k w = mset d m k w := by
  have hdel : mdel (mset d m k v) k = mdel m k := by
    unfold mset
    split
    · exact mdel_mdel_self k m
    · rw [mdel_minsert_self, mdel_mdel_self]
  rw [mset, hdel, ← mset]

end Set

/-! ### Converting arrays after a change of one array -/

theorem State.modArray_modArray_self (s : State) (arr : Nat) (f g : VArray → VArray) : (s.modArray arr f).modArray arr g = s.modArray arr fun a => g (f a) := by
  simp only [modArray, mmod, mget_mset_self, mset_mset_self]

theorem State.modArray_modDie (s : State) (arr die : Nat) (f : VArray → VArray) (g : VDie → VDie) : (s.modDie die g).modArray arr f = (s.modArray arr f).modDie die g := rfl

theorem State.convertingCount_modArray_le (s : State) (arr : Nat) (f : VArray → VArray) : (s.modArray arr f).convertingCount ≤ s.convertingCount + 1 :=
  (mcount_mset_le ..).trans (by split <;> simp [convertingCount])

/-- Only the array's own die can gain a converting array. -/
theorem State.convertingOn_modArray_le (s : State) (arr : Nat) (f : VArray → VArray) (die : Nat) :
    (s.modArray arr f).convertingOn die ≤ s.convertingOn die + if dieOf (8 * arr) = die then 1 else 0 := by
  refine (mcount_mset_le ..).trans ?_
  by_cases hdie : dieOf (8 * arr) = die
  · rw [if_pos hdie]
    split <;> simp [convertingOn]
  · simp [convertingOn, hdie]

@[simp] theorem State.convertingCount_modDie (s : State) (die : Nat) (f : VDie → VDie) : (s.modDie die f).convertingCount = s.convertingCount := rfl
@[simp] theorem State.convertingOn_modDie (s : State) (die d : Nat) (f : VDie → VDie) : (s.modDie die f).convertingOn d = s.convertingOn d := rfl

/-! ### A start of an array -/

/-- A slot is free for a die where the grant, the die's limit and its ramp all have room (R71, R25). -/
theorem State.slotFree_iff {s : State} {die : Nat} :
    s.slotFree die = true ↔ s.convertingCount < s.vault.grant ∧ s.convertingOn die < 64 ∧ (0 < (s.die die).lowered ∨ (s.die die).raised < 16) := by
  simp [slotFree, and_assoc]

/-- The ramp after a start: an end in the same microsecond makes up for it (R25). -/
theorem VDie.up_raised_le {d : VDie} (h : 0 < d.lowered ∨ d.raised < 16) : d.up.raised ≤ max d.raised 16 := by
  unfold VDie.up
  split
  · exact le_max_left ..
  · exact le_max_of_le_right (show d.raised + 1 ≤ 16 by omega)

/-- What a command that may start an array does: nothing but a count, or, where a slot is free, a change of the array and of its die's ramp. -/
def State.StartsAt (s t : State) (arr : Nat) : Prop :=
  t = s.unlisted ∨ s.slotFree (dieOf (8 * arr)) = true ∧ ∃ f, t = (s.modArray arr f).modDie (dieOf (8 * arr)) VDie.up

theorem State.startsAt_takeSlot {s : State} {arr : Nat} (tenant : Nat) (f : VArray → VArray) (hfree : s.slotFree (dieOf (8 * arr)) = true) :
    s.StartsAt ((s.takeSlot arr tenant).modArray arr f) arr := by
  refine .inr ⟨hfree, fun a => f { a with slotOf := some ((s.payer tenant).getD tenant) }, ?_⟩
  rw [takeSlot, modArray_modDie, modArray_modArray_self]

/-- A guarded command answers its effect under its guard, or counts an event that the state does not list. -/
theorem listed_next {s t r : State} {g : Bool} (h : s.listed g r = .next t) : t = s.unlisted ∨ g = true ∧ t = r := by
  unfold State.listed at h
  split at h
  · exact .inr ⟨by assumption, (Host.Outcome.next.inj h).symm⟩
  · exact .inl (Host.Outcome.next.inj h).symm

theorem convertingSlotGrant_startsAt {s t : State} {arr : Nat} (h : exec (.convertingSlotGrant arr) s = .next t) : s.StartsAt t arr := by
  change execConvertingSlotGrant arr s = _ at h
  unfold execConvertingSlotGrant at h
  split at h
  · exact .inl (Host.Outcome.next.inj h).symm
  · rcases listed_next h with rfl | ⟨hmay, rfl⟩
    · exact .inl rfl
    · simp only [State.mayConvert, Bool.and_eq_true] at hmay
      obtain ⟨⟨-, hfree⟩, -⟩ := hmay
      exact State.startsAt_takeSlot _ _ hfree

theorem mvmResume_startsAt {s t : State} {arr : Nat} (h : exec (.mvmResume arr) s = .next t) : s.StartsAt t arr := by
  change execMvmResume arr s = _ at h
  unfold execMvmResume at h
  split at h
  · exact .inl (Host.Outcome.next.inj h).symm
  · rcases listed_next h with rfl | ⟨hmay, rfl⟩
    · exact .inl rfl
    · simp only [Bool.and_eq_true] at hmay
      obtain ⟨⟨-, hfree⟩, -⟩ := hmay
      exact State.startsAt_takeSlot _ _ hfree

section Bounds

variable {s t : State} {arr : Nat}

theorem State.StartsAt.convertingCount_le (h : s.StartsAt t arr) : t.convertingCount ≤ max s.convertingCount s.vault.grant := by
  rcases h with rfl | ⟨hfree, f, rfl⟩
  · exact le_max_left ..
  · obtain ⟨hgrant, -, -⟩ := slotFree_iff.1 hfree
    exact le_max_of_le_right ((s.convertingCount_modArray_le arr f).trans hgrant)

theorem State.StartsAt.grant_eq (h : s.StartsAt t arr) : t.vault.grant = s.vault.grant := by
  rcases h with rfl | ⟨-, f, rfl⟩ <;> rfl

theorem State.StartsAt.convertingOn_le (h : s.StartsAt t arr) (die : Nat) : t.convertingOn die ≤ max (s.convertingOn die) 64 := by
  rcases h with rfl | ⟨hfree, f, rfl⟩
  · exact le_max_left ..
  · obtain ⟨-, hroom, -⟩ := slotFree_iff.1 hfree
    have hle := s.convertingOn_modArray_le arr f die
    rw [convertingOn_modDie]
    split at hle
    · subst die
      omega
    · omega

theorem State.StartsAt.raised_le (h : s.StartsAt t arr) (die : Nat) : (t.die die).raised ≤ max (s.die die).raised 16 := by
  rcases h with rfl | ⟨hfree, f, rfl⟩
  · exact le_max_left ..
  · obtain ⟨-, -, hramp⟩ := slotFree_iff.1 hfree
    by_cases hdie : die = dieOf (8 * arr)
    · rw [hdie, die_modDie_self]
      exact VDie.up_raised_le hramp
    · rw [die_modDie_ne _ _ _ _ hdie]
      exact le_max_left ..

theorem State.StartsAt.array_eq (h : s.StartsAt t arr) {a : Nat} (ha : a ≠ arr) : t.array a = s.array a := by
  rcases h with rfl | ⟨-, f, rfl⟩
  · rfl
  · exact array_modArray_ne s arr a f ha

end Bounds

/-- Settles O58: both commands start an array where a slot is free, which leaves room in the grant, on the die and in its ramp for one more. -/
theorem grantNotExceeded : Obligations.GrantNotExceeded := by
  intro s t arr h
  have hstart : s.StartsAt t arr := h.elim convertingSlotGrant_startsAt mvmResume_startsAt
  exact ⟨hstart.convertingCount_le, hstart.grant_eq, fun die => ⟨hstart.convertingOn_le die, hstart.raised_le die⟩, fun a => hstart.array_eq⟩

end Sys2Proof.Machine
end

section
/-! The vault's matrix-vector commands and its slots: what each command answers where its conditions hold, and the obligations about them. -/

namespace Sys2Proof.Machine

/-! ### Matrix-vector commands (R65, R66, R68, R71, R176) -/

/-- VMVM of a dispatched operation whose operands have places. -/
theorem exec_vmvm {s : State} {slot first count rbs vecs inFmt tok rs : Nat} {ind : Bool} {o : Op} (ho : s.opIn slot .vmvm .dispatched = some o)
    (hk : o.d.k = .vmvm first count rbs vecs inFmt ind tok rs)
    (hplaced : Claims.Placed s o [(o.d.opA, (vecs * (s.vmvmProj o).2.inputs * (if (Kspec.vmvm first count rbs vecs inFmt ind tok rs).vmvmInput.1 = .int4 then 4 else 8) + 7) / 8 + 4 * vecs),
      (o.d.opC, vecs * outLength (s.vmvmProj o).2 * 4)]) :
    exec (.vmvm slot) s = .next (((s.startOp slot).queueVmvm slot o first count rbs vecs).vmvmCheck slot) := by
  change execVmvm slot s = _
  simp only [execVmvm, ho, hk]
  exact withPlaces_of_placed _ hplaced

/-- CONVERTING_SLOT_GRANT of an array that may convert. -/
theorem exec_convertingSlotGrant {s : State} {arr : Nat} {m : Mvm} (hnext : s.nextOn arr = some m) (hmay : s.mayConvert arr = true) :
    exec (.convertingSlotGrant arr) s = .next ((s.takeSlot arr m.tenant).modArray arr fun a => a.begin m) := by
  change execConvertingSlotGrant arr s = _
  rw [execConvertingSlotGrant, hnext]
  exact listed_true hmay

/-- MVM_COMPLETE of an array that converts an MVM, no test. -/
theorem exec_mvmComplete {s : State} {arr p : Nat} {m : Mvm} (hrun : (s.array arr).running = some m) (htest : m.test = none)
    (hslot : (s.array arr).slotOf = some p) (hfalls : s.slotFalls (dieOf (8 * arr)) = true) :
    exec (.mvmComplete arr) s =
      .next ((((s.dropSlot arr).countMvm m).endMvm arr (m.planesRun (s.stratum m.stratum) s.trust.fresh m.nextPlane)).drawn) := by
  change execMvmComplete arr s = _
  rw [execMvmComplete, hrun]
  exact listed_true (by simp [htest, hslot, hfalls])

/-- COLUMN_BLOCK_WRITE of a sum whose row-blocks have all arrived. -/
theorem exec_columnBlockWrite {s : State} {op vec cb : Nat} {o : Op} {c : ColSum} (ho : s.opIn op .vmvm .started = some o) (hsum : s.sumOf op vec cb = some c)
    (hwait : c.waiting = 0) (harrived : 0 < c.arrived) (hwritten : c.written = false) :
    exec (.columnBlockWrite op vec cb) s =
      .next ((((({ s with vault := { s.vault with sums := modFirst (fun x => decide (x = c)) (fun x => { x with written := true, banks := [] }) s.vault.sums } } : State).writeBlock
        o vec cb c.results).ocount o 0xA100 1 ((c.resultsF.map (·.clamps)).sum)).ocount o 0xA900 7 (if s.crosses o c then 1 else 0)).releaseHolds.vmvmCheck op) := by
  change execColumnBlockWrite op vec cb s = _
  rw [execColumnBlockWrite, ho, hsum]
  exact listed_true (by simp [hwait, harrived, hwritten])

/-- STRATUM_CHANGE_DONE of an array that changes its stratum. -/
theorem exec_stratumChangeDone {s : State} {arr k : Nat} (hchange : (s.array arr).changing = some k) :
    exec (.stratumChangeDone arr) s = .next (s.modArray arr fun a => ({ a with selected := k, changing := none, resuming := false }).advance) := by
  change execStratumChangeDone arr s = _
  rw [execStratumChangeDone, hchange]

/-- Settles O2: each command by its equation above. -/
theorem vaultMatrixCommandsRun : Obligations.VaultMatrixCommandsRun := by
  exact ⟨fun s slot o first count rbs vecs inFmt ind tok rs => exec_vmvm, fun s arr m => exec_convertingSlotGrant, fun s arr m p => exec_mvmComplete,
    fun s op vec cb o c => exec_columnBlockWrite, fun s arr k => exec_stratumChangeDone⟩

/-! ### Suspension and resumption (R69) -/

/-- MVM_SUSPEND of an array that holds a converting slot: the present plane ends and the slot goes back. -/
theorem exec_mvmSuspend_converting {s : State} {arr : Nat} {m : Mvm} (hrun : (s.array arr).running = some m) (hmay : (s.array arr).maySuspend = true)
    (hslot : (s.array arr).slotOf.isSome = true) (hfalls : s.slotFalls (dieOf (8 * arr)) = true) :
    exec (.mvmSuspend arr) s = .next (((s.dropSlot arr).suspend arr (m.plane (s.stratum m.stratum) s.trust.fresh)).drawn) := by
  change execMvmSuspend arr s = _
  rw [execMvmSuspend, hrun]
  exact (if_pos hslot).trans (listed_true (by simp [hmay, hfalls]))

/-- MVM_SUSPEND of an array that waits for a slot again: no plane is under way. -/
theorem exec_mvmSuspend_waiting {s : State} {arr : Nat} {m : Mvm} (hrun : (s.array arr).running = some m) (hmay : (s.array arr).maySuspend = true)
    (hslot : (s.array arr).slotOf = none) : exec (.mvmSuspend arr) s = .next (s.suspend arr m) := by
  change execMvmSuspend arr s = _
  rw [execMvmSuspend, hrun]
  exact (if_neg (by simp [hslot])).trans (listed_true hmay)

/-- MVM_RESUME of a suspended MVM whose stratum is selected again. -/
theorem exec_mvmResume {s : State} {arr : Nat} {m : Mvm} (hsusp : (s.array arr).suspended = some m) (hfree : (s.array arr).free = true)
    (hidle : (s.array arr).running = none) (hsel : (s.array arr).selected = m.stratum % 8) (hlower : ∀ x ∈ (s.array arr).queue, x.imm = false)
    (hslot : s.slotFree (dieOf (8 * arr)) = true) (hpayer : (s.payer m.tenant).isSome = true) :
    exec (.mvmResume arr) s = .next ((s.takeSlot arr m.tenant).modArray arr fun a => { a with running := some m, suspended := none }) := by
  change execMvmResume arr s = _
  rw [execMvmResume, hsusp]
  exact listed_true (by simpa [hfree, hidle, hsel, hslot, hpayer] using hlower)

/-! ### The return of slots (R71) -/

/-- An array owes the slot that it borrows from a tenant that waits, that a fall of the grant takes, or that is beyond its payer's share while another waits below its own. -/
theorem State.slotOwed_iff {s : State} {p : Nat} {m : Mvm} :
    s.slotOwed p m = true ↔ (p ≠ m.tenant ∧ s.slotWaits p = true) ∨ s.vault.grant < s.convertingCount ∨
      (s.grantShare p < s.slotsPaid p ∧ ∃ u, 1 ≤ u ∧ u ≤ 8 ∧ s.underShare u = true ∧ s.slotWaits u = true) := by
  have htenants : (∃ i < 8, s.underShare (i + 1) = true ∧ s.slotWaits (i + 1) = true) ↔ ∃ u, 1 ≤ u ∧ u ≤ 8 ∧ s.underShare u = true ∧ s.slotWaits u = true := by
    constructor
    · rintro ⟨i, hi, hu⟩
      exact ⟨i + 1, by omega, by omega, hu⟩
    · rintro ⟨u, hlo, hhi, hu⟩
      obtain ⟨i, rfl⟩ := Nat.exists_eq_add_of_le' hlo
      exact ⟨i, by omega, hu⟩
  rw [← htenants]
  simp [slotOwed, or_assoc]

/-- SLOT_RETURN of an array that owes its slot, with planes left after the present one. -/
theorem exec_slotReturn_owed {s : State} {arr p : Nat} {m : Mvm} (hrun : (s.array arr).running = some m) (hslot : (s.array arr).slotOf = some p)
    (hplanes : 2 ≤ m.nextPlane) (howed : s.slotOwed p m = true) (hfalls : s.slotFalls (dieOf (8 * arr)) = true) :
    exec (.slotReturn arr) s =
      .next (((s.dropSlot arr).modArray arr fun a => { a with running := some (m.plane (s.stratum m.stratum) s.trust.fresh) }).drawn) := by
  change execSlotReturn arr s = _
  rw [execSlotReturn, hrun, hslot]
  exact listed_true (by simp [howed, hplanes, hfalls])

/-- SLOT_RETURN of an array on which nothing converts. -/
theorem exec_slotReturn_idle {s : State} {arr p : Nat} (hidle : (s.array arr).running = none) (hslot : (s.array arr).slotOf = some p)
    (hfalls : s.slotFalls (dieOf (8 * arr)) = true) : exec (.slotReturn arr) s = .next ((s.dropSlot arr).modArray arr VArray.advance) := by
  change execSlotReturn arr s = _
  rw [execSlotReturn, hidle, hslot]
  exact listed_true hfalls

/-- Settles O3: each command by its equation above; GRANT_RECOMPUTE and RATE_MONITOR_SAMPLE ask for power only. -/
theorem vaultSlotCommandsRun : Obligations.VaultSlotCommandsRun := by
  refine ⟨fun s arr m hrun hmay => ⟨exec_mvmSuspend_converting hrun hmay, exec_mvmSuspend_waiting hrun hmay⟩, fun s arr m => exec_mvmResume, ?owed,
    fun s arr p => exec_slotReturn_idle, fun s hup => listed_true hup, fun s kHs roundNs hup => listed_true hup⟩
  case owed =>
    intro s arr p m hrun hslot hplanes howed
    exact exec_slotReturn_owed hrun hslot hplanes (State.slotOwed_iff.2 howed)

end Sys2Proof.Machine
end

section
/-! Vault upkeep: what the commands of test vectors, stratum writes, die erases and the shadow path answer where their conditions hold, and the obligations about them. -/

namespace Sys2Proof.Machine

/-! ### Test vectors (R77..R79) -/

/-- Tests run in RUN and IDLE only (R78). -/
theorem State.testsRun_iff {s : State} : s.testsRun = true ↔ s.power.state = .run ∨ s.power.state = .idle := decide_eq_true_iff

/-- TEST_DUE_MVM_COUNT on a LIT stratum, at the 4,096th MVM since the last test. -/
theorem exec_testDueMvmCount {s : State} {arr : Nat} (hcount : 4096 ≤ (s.array arr).sinceTest) (hnew : (s.array arr).countDue = false)
    (hlit : (s.stratum (arr * 8 + (s.array arr).selected)).state = .lit) (htests : s.testsRun = true) :
    exec (.testDueMvmCount arr) s = .next (s.modArray arr fun a => ({ a with countDue := true }).advance) :=
  listed_true (by simp [hcount, hnew, hlit, htests])

/-- TEST_DUE_IDLE on a LIT stratum without a test for TV_IDLE. -/
theorem exec_testDueIdle {s : State} {k : Nat} (hlit : (s.stratum k).state = .lit) (hidle : tvIdle ≤ s.now - (s.stratum k).lastTest)
    (hnew : k ∉ (s.array (arrayOf k)).testDue) (htests : s.testsRun = true) :
    exec (.testDueIdle k) s = .next (s.modArray (arrayOf k) fun a => ({ a with testDue := a.testDue ++ [k] }).advance) :=
  listed_true (by simp [hlit, hidle, hnew, htests])

/-- TEST_VECTOR_COMPLETE of an array that converts a test of pattern `k`. -/
theorem exec_testVectorComplete {s : State} {arr p k : Nat} {m : Mvm} (hrun : (s.array arr).running = some m) (htest : m.test = some k)
    (hslot : (s.array arr).slotOf = some p) (hfalls : s.slotFalls (dieOf (8 * arr)) = true) :
    exec (.testVectorComplete arr) s =
      .next (((((s.dropSlot arr).modArray arr fun a =>
        ({ a with running := none, sinceTest := 0, countDue := false, testDue := a.testDue.filter (· ≠ m.stratum) } : VArray).advance).drawn).tested
          m.stratum m.tenant (testDeviation (s.stratum m.stratum) m.stratum s.trust.fresh k))) := by
  change execTestVectorComplete arr s = _
  simp only [execTestVectorComplete, hrun, htest]
  exact listed_true (by simp [hslot, hfalls])

/-- Settles O4: each command by its equation above. -/
theorem vaultTestCommandsRun : Obligations.VaultTestCommandsRun := by
  refine ⟨fun s arr hcount hnew hlit hpower => ?count, fun s k hlit hidle hnew hpower => ?idle, fun s arr p k m => exec_testVectorComplete⟩
  case count => exact exec_testDueMvmCount hcount hnew hlit (State.testsRun_iff.2 hpower)
  case idle => exact exec_testDueIdle hlit hidle hnew (State.testsRun_iff.2 hpower)

/-! ### Stratum writes (R81, R83, R90) -/

/-- A command of the control cores runs at once where `Claims.Up` holds of it. -/
theorem whenUp_of_up {s : State} {i : Instr} {r : Res} (hup : Claims.Up s i) : s.whenUp i r = r := by
  obtain ⟨hpowered, hholds⟩ := hup
  exact whenUp_runs hpowered hholds

/-- WRITE_SLOT_GRANT of the write that is granted next on the die. -/
theorem exec_writeSlotGrant {s : State} {k : Nat} {r : WriteReq} (hup : Claims.Up s (.writeSlotGrant k)) (hnext : s.nextWrite (dieOf k) = some r)
    (hstratum : r.stratum = k) (hlisted : writeListed (s.stratum k) r.kind = true) : exec (.writeSlotGrant k) s = .next (s.beginWrite r) := by
  change execWriteSlotGrant k s = _
  rw [execWriteSlotGrant, whenUp_of_up hup, hnext]
  exact listed_true (by simp [hstratum, hlisted])

/-- A stratum in a state of a write, which its array writes. -/
theorem State.writes_iff {s : State} {k : Nat} {st : StratumState} :
    s.writes k st = true ↔ (s.stratum k).state = st ∧ (s.array (arrayOf k)).writing = some k := by simp [State.writes]

/-- ERASE_DONE of a stratum that is being erased. -/
theorem exec_eraseDone {s : State} {k : Nat} (hstate : (s.stratum k).state = .erasing) (hwriting : (s.array (arrayOf k)).writing = some k) :
    exec (.eraseDone k) s = .next (s.eraseDone k) :=
  listed_true (State.writes_iff.2 ⟨hstate, hwriting⟩)

/-- PROGRAM_DONE of a stratum that is being programmed with content `w`. -/
theorem exec_programDone {s : State} {k : Nat} {w : WContent} (hstate : (s.stratum k).state = .programming)
    (hwriting : (s.array (arrayOf k)).writing = some k) (htarget : (s.stratum k).target = some w) :
    exec (.programDone k) s =
      .next (s.modStratum k fun x => { x with state := .verifying, programs := x.programs + 1, enc := (s.copyOf w).enc, cells := (s.copyOf w).cells, scales := (s.copyOf w).scales, check := checkTable (s.copyOf w).cells }) := by
  change execProgramDone k s = _
  simp only [execProgramDone, htarget]
  exact listed_true (State.writes_iff.2 ⟨hstate, hwriting⟩)

/-- VERIFY_DONE of a stratum that is being verified. -/
theorem exec_verifyDone {s : State} {k : Nat} (ok : Bool) (hstate : (s.stratum k).state = .verifying) (hwriting : (s.array (arrayOf k)).writing = some k) :
    exec (.verifyDone k ok) s = .next (if ok then (s.verifyTests k ok).nowLit k else (s.verifyTests k ok).verifyFailed k) :=
  listed_true (State.writes_iff.2 ⟨hstate, hwriting⟩)

/-- DIE_ERASE_DONE of a die that is being erased. -/
theorem exec_dieEraseDone {s : State} {die : Nat} (bad : List Nat) (herase : (s.die die).dieErase = true) :
    exec (.dieEraseDone die bad) s =
      .next ((s.endDieErase die bad).modRemoval (s.dieOwner die) fun o => o.map fun (r : Removal) => r.dieDone die (s.retiring die bad).length) :=
  listed_true herase

/-! ### Copies and shadow operations (R86..R88) -/

/-- COPY_LOAD_DONE of a copy that is being loaded. -/
theorem exec_copyLoadDone {s s1 : State} {k : Nat} (hup : Claims.Up s (.copyLoadDone k)) (hloading : (s.stratum k).copyLoading = true)
    (hs1 : s1 = (s.modStratum k fun x => { x with copyIn := true, copyLoading := false, copyAge := s.now, copyAt := x.copyAt.map fun c => { c with addr := k, gen := (x.anyContent.getD WContent.init).gen } })) :
    exec (.copyLoadDone k) s =
      .next (({ s1 with vault := { s1.vault with shadows := s.vault.shadows.map fun o => if o.stratum = k then { o with arrived := true } else o } } : State).repin k) := by
  subst hs1
  change execCopyLoadDone k s = _
  rw [execCopyLoadDone, whenUp_of_up hup]
  exact listed_true hloading

/-- SHADOW_OP_COMPLETE of a shadow operation `x` on its pod, with the vault parts written and sets free for its vectors. -/
theorem exec_shadowOpComplete {s : State} {op k pod : Nat} {o : Op} {x : ShadowOp} (ho : s.opIn op .vmvm .started = some o)
    (hx : s.vault.shadows.find? (fun x => decide (x.op = op ∧ x.stratum = k) && x.pod.isSome) = some x) (hpod : x.pod = some pod)
    (hready : s.shadowReady op x.content.cb x.vecs = true) (hstreamed : s.copyStreamed op k = true) (hsets : x.vecs.length ≤ (s.pod pod).freeSets.length) :
    exec (.shadowOpComplete op k) s =
      .next ((((x.vecs.foldl (fun s v => s.shadowAdd op o x.content v) (s.runShadow x pod o.d.tenant)).dropShadow x o.d.tenant).keepHot x pod o.d.tenant).placeShadows.vmvmCheck op) := by
  change execShadowOpComplete op k s = _
  simp only [execShadowOpComplete, ho, hx, hpod, Option.getD_some]
  exact listed_true (by simp [hready, hstreamed, hsets])

/-- Settles O5: each command by its equation above. -/
theorem vaultWriteCommandsRun : Obligations.VaultWriteCommandsRun := by
  exact ⟨fun s k r => exec_writeSlotGrant, fun s k => exec_eraseDone, fun s k w => exec_programDone, fun s k => exec_verifyDone,
    fun s die => exec_dieEraseDone, fun s s1 k => exec_copyLoadDone, fun s op k pod o x => exec_shadowOpComplete⟩

end Sys2Proof.Machine
end

section
/-! The matrix fabric: what starting a pod and counting key tiles leave of the plans, what each command answers where its conditions hold, and the obligation about them. -/

namespace Sys2Proof.Machine

/-! ### What a pod's start and its counters leave -/

/-- The plan that an operation runs depends on the models alone (R261). -/
theorem State.opPlan_congr {s t : State} (hmodels : t.models = s.models) (o : Op) : t.opPlan o = s.opPlan o := by
  simp only [State.opPlan, State.opImage, State.mslot, State.slot, hmodels]

/-- The matrix of an adapter FGEMM depends on the models alone. -/
theorem State.adapterTensor_congr {s t : State} (hmodels : t.models = s.models) (o : Op) (ad : Nat) : t.adapterTensor o ad = s.adapterTensor o ad := by
  have hplan := State.opPlan_congr hmodels o
  have htemplate : t.opTemplate o = s.opTemplate o := by rw [State.opTemplate, State.opTemplate, hplan]
  have hadapter : t.adapter (o.d.tenant * 16 + ad) = s.adapter (o.d.tenant * 16 + ad) := by rw [State.adapter, State.adapter, hmodels]
  rw [State.adapterTensor, State.adapterTensor, hplan, htemplate, hadapter]

/-- A scratch tensor's descriptor depends on the step runs and the models alone. -/
theorem State.scratchTensor_congr {s t : State} (hops : t.ops = s.ops) (hmodels : t.models = s.models) (o : Op) (k : Nat) :
    t.scratchTensor o k = s.scratchTensor o k := by
  simp only [State.scratchTensor, State.opPlan_congr hmodels, State.run, hops]

/-- The descriptor that a handle names depends on the step runs and the models alone (R171). -/
theorem State.tensor_congr {s t : State} (hops : t.ops = s.ops) (hmodels : t.models = s.models) (o : Op) (h : Handle) : t.tensor o h = s.tensor o h := by
  simp only [State.tensor, State.adapterTensor_congr hmodels, State.scratchTensor_congr hops hmodels, State.opPlan_congr hmodels]

@[simp] theorem State.ocount_ops (s : State) (o : Op) (base sub n : Nat) : (s.ocount o base sub n).ops = s.ops := by
  unfold State.ocount
  split
  · rfl
  · exact tcount_ops ..

@[simp] theorem State.ocount_models (s : State) (o : Op) (base sub n : Nat) : (s.ocount o base sub n).models = s.models := by
  unfold State.ocount
  split
  · rfl
  · exact tcount_models ..

@[simp] theorem State.wakePod_ops (s : State) (pod t : Nat) : (s.wakePod pod t).ops = s.ops := by
  unfold State.wakePod
  split <;> simp

@[simp] theorem State.wakePod_models (s : State) (pod t : Nat) : (s.wakePod pod t).models = s.models := by
  unfold State.wakePod
  split <;> simp

@[simp] theorem State.countAtt_ops (s : State) (o : Op) (run : StepRun) (g : Nat) (keys : List Nat) (extra : Nat) (rows : List AttRow) :
    (s.countAtt o run g keys extra rows).ops = s.ops := by
  simp [State.countAtt]

@[simp] theorem State.countAtt_models (s : State) (o : Op) (run : StepRun) (g : Nat) (keys : List Nat) (extra : Nat) (rows : List AttRow) :
    (s.countAtt o run g keys extra rows).models = s.models := by
  simp [State.countAtt]

/-! ### FGEMM, the drain and an idle pod (R99, R104..R106) -/

/-- FGEMM of a dispatched operation whose pod can take it and whose operands have places. -/
theorem exec_fgemm {s : State} {slot m n k i : Nat} {o : Op} {sh : Shape} {accIn back : Bool} (ho : s.opIn slot .fgemm .dispatched = some o)
    (hk : o.d.k.gemm = some (m, n, k, sh, i, accIn, back)) (hopen : s.podOpen o = true)
    (hplaced : Claims.Placed s o [(o.d.opA, 1), (o.d.opB, 1), (o.d.opC, 1)]) :
    exec (.fgemm slot) s = .next (((((s.startOp slot).joinPod slot o (passesOf sh i m n)).meetBlocks slot o).runPod o.podOf).fabCheck slot o) := by
  change execFgemm slot s = _
  simp only [execFgemm, ho, hk, hopen, if_true]
  exact withPlaces_of_placed _ hplaced

/-- DRAIN_SET of a full set that an FGEMM holds. -/
theorem exec_drainSet {s : State} {pod set m n k i : Nat} {o : Op} {sh : Shape} {accIn back : Bool} (ho : s.op (mget 0 (s.pod pod).setOwner set - 1) = some o)
    (hk : o.d.k.gemm = some (m, n, k, sh, i, accIn, back)) (hfull : mget .free (s.pod pod).setState set = .full) :
    exec (.drainSet pod set) s =
      .next (((((s.writeSet o (mget false (s.pod pod).setInt set) accIn (s.setWords pod set m n sh i)).modPod pod fun q => q.drop set).drawn).runPod pod).fabCheck
        (mget 0 (s.pod pod).setOwner set - 1) o) := by
  change execDrainSet pod set s = _
  simp only [execDrainSet, ho, hk]
  exact listed_true (decide_eq_true hfull)

/-- POD_IDLE of a pod whose cores have stopped. -/
theorem exec_podIdle {s : State} {pod : Nat} (hpod : pod < 256) (hstopped : (s.pod pod).stopped = true) (hidle : (s.pod pod).idle = false) :
    exec (.podIdle pod) s = .next (s.modPod pod fun q => { q with idle := true }) :=
  listed_true (by simp [hpod, hstopped, hidle])

/-! ### FATTN (R131) -/

/-- FATTN of a dispatched operation whose pod can take it, with places for Q and for the results up to its own range (log entry 27). -/
theorem exec_fattn {s : State} {slot head g first keys pre : Nat} {o : Op} {run : StepRun} (ho : s.opIn slot .fattn .dispatched = some o)
    (hk : o.d.k = .fattn head g first keys pre) (hrun : s.run o.run = some run) (hopen : s.podOpen o = true)
    (hplaced : Claims.Placed s o [(o.d.opA, 1), (o.d.opC, attOffset o.member (o.range + 1) (run.attRows g) (s.kvShape o.d.session).2.2)]) :
    exec (.fattn slot) s =
      .next (((((s.startOp slot).joinPod slot o 1).holdPages slot o.d.session (s.opTemplate o).layer
        (s.rangePages o.d.session (s.opTemplate o).layer (s.opKeys o run))).meetBlocks slot o).runPod o.podOf) := by
  change execFattn slot s = _
  simp only [execFattn, ho, hk, hrun, hopen, if_true]
  exact withPlaces_of_placed _ hplaced

/-- The key tiles of a FATTN whose result has a descriptor: starting the pod and counting leave that descriptor, so the rows are written to it. -/
theorem State.runTiles_of_tensor {s : State} {o : Op} {td : TDesc} (htd : s.tensor o o.d.opC = some td) (slot : Nat) (run : StepRun) (head g pre : Nat) :
    s.runTiles slot o run head g pre =
      ((((s.wakePod o.podOf o.d.tenant).countAtt o run g (s.opKeys o run) (s.valueClamps o (s.opTemplate o).layer head (s.opKeys o run))
        ((List.range (run.attRows g)).map (s.attRow o (s.opTemplate o) run head g pre (s.opKeys o run)))).putWords o o.d.opC td
          (attOffset o.member o.range (run.attRows g) (s.kvShape o.d.session).2.2)
          (((List.range (run.attRows g)).map (s.attRow o (s.opTemplate o) run head g pre (s.opKeys o run))).flatMap AttRow.words)).modPod o.podOf
            fun q => { q with ops := q.ops.map fun f => if f.slot = slot then { f with passes := f.total } else f }) := by
  have hkept : ∀ (keys : List Nat) (extra : Nat) (rows : List AttRow),
      ((s.wakePod o.podOf o.d.tenant).countAtt o run g keys extra rows).tensor o o.d.opC = some td :=
    fun keys extra rows => (State.tensor_congr (by simp) (by simp) o o.d.opC).trans htd
  simp only [State.runTiles, hkept]

/-- A FATTN on its pod runs its tiles and is checked, where it is neither poisoned nor done, sets are free for its interleave and no block of it is being recovered. -/
theorem State.runAtt_of_ready {s : State} {slot head g first keys pre : Nat} {o : Op} {run : StepRun} {f : FabOp} (hk : o.d.k = .fattn head g first keys pre)
    (hrun : s.run o.run = some run) (hf : (s.pod o.podOf).ops.find? (fun f => decide (f.slot = slot)) = some f) (hclean : f.poisoned = false)
    (hleft : f.passes < f.total) (hsets : max 1 (s.opTemplate o).inter ≤ (s.pod o.podOf).freeSets.length) (hblocks : ∀ r ∈ s.exp.recovering, r.slot ≠ slot) :
    s.runAtt slot o = (s.runTiles slot o run head g pre).fabCheck slot o := by
  have hready : f.poisoned = false ∧ f.passes < f.total ∧ max 1 (s.opTemplate o).inter ≤ (s.pod o.podOf).freeSets.length ∧
      (s.exp.recovering.all fun r => decide (r.slot ≠ slot)) = true :=
    ⟨hclean, hleft, hsets, by simpa using hblocks⟩
  simp only [State.runAtt, hf, hk, hrun]
  exact if_pos hready

/-- What a pod runs of a FATTN in a slot. -/
theorem State.runOne_of_fattn {s : State} {slot : Nat} {o : Op} (ho : s.op slot = some o) (hkind : o.d.kind = .fattn) : s.runOne slot = s.runAtt slot o := by
  simp only [State.runOne, ho, hkind, if_true]

/-! ### The obligation -/

/-- Settles O6: each command by its equation above; the place and the order of a FATTN's results are those of log entry 27. -/
theorem fabricCommandsRun : Obligations.FabricCommandsRun := by
  refine ⟨fun s slot o m n k sh i accIn back => exec_fgemm, fun s pod set o m n k sh i accIn back => exec_drainSet, fun s pod => exec_podIdle,
    fun s slot o head g first keys pre run => exec_fattn, ?tiles⟩
  case tiles =>
    intro s slot o head g first keys pre run f td ho hkind hk hrun hf hclean hleft hsets hblocks htd
    rw [State.runOne_of_fattn ho hkind, State.runAtt_of_ready hk hrun hf hclean hleft hsets hblocks, State.runTiles_of_tensor htd]
    rfl

end Sys2Proof.Machine
end

section
/-! What accumulator sets that are freed let happen leaves of the vector engine: no pass, and no check of an operation's work, touches a vector unit (R104, R105, R118). -/

namespace Sys2Proof.Machine

/-- What each step of a fold keeps, the fold keeps. -/
theorem foldl_kept {α β γ : Type} (p : α → γ) {f : α → β → α} (hf : ∀ a b, p (f a b) = p a) : ∀ (l : List β) (a : α), p (l.foldl f a) = p a
  | [], _ => rfl
  | b :: l, a => (foldl_kept p hf l (f a b)).trans (hf a b)

/-- A unit depends on the vector engine alone. -/
theorem State.unit_congr {s t : State} (hvec : t.vec = s.vec) (v : Nat) : t.unit v = s.unit v := by rw [State.unit, State.unit, hvec]

/-! ### Engine writes and counts -/

@[simp] theorem State.ocount_vec (s : State) (o : Op) (base sub n : Nat) : (s.ocount o base sub n).vec = s.vec := by
  unfold State.ocount
  split
  · rfl
  · exact tcount_vec ..

@[simp] theorem State.discardXfer_vec (s : State) (t a : Nat) : (s.discardXfer t a).vec = s.vec := raise_vec ..

@[simp] theorem State.writeTensor_vec (o : Op) (h : Handle) (d : TDesc) : ∀ (bs : Bytes) (s : State) (off : Nat), (s.writeTensor o h d off bs).vec = s.vec
  | [], _, _ => rfl
  | b :: bs, s, off => by
    unfold State.writeTensor
    split
    · exact writeTensor_vec o h d bs s (off + 1)
    · exact writeTensor_vec o h d bs _ (off + 1)

@[simp] theorem State.putTensor_vec (s : State) (o : Op) (h : Handle) (d : TDesc) (off : Nat) (bs : Bytes) : (s.putTensor o h d off bs).vec = s.vec := by
  unfold State.putTensor
  split <;> simp

@[simp] theorem State.putWords_vec (s : State) (o : Op) (h : Handle) (d : TDesc) (off : Nat) (ws : List (BitVec 32)) : (s.putWords o h d off ws).vec = s.vec :=
  putTensor_vec ..

/-! ### The end of an operation's work -/

@[simp] theorem State.writePlace_vec (s : State) (o : Op) (h : Handle) (d : TDesc) (table : Option Nat) (b : Nat) (es : List Nat) :
    (s.writePlace o h d table b es).1.vec = s.vec := by
  unfold State.writePlace
  dsimp only
  split <;> simp

@[simp] theorem State.encodePlace_vec (s : State) (o : Op) (h : Handle) (d : TDesc) (tab : Option Nat) (b : Nat) : (s.encodePlace o h d tab b).vec = s.vec := by
  unfold State.encodePlace
  dsimp only
  split <;> simp

@[simp] theorem State.encodeTensor_vec (s : State) (o : Op) (h : Handle) (d : TDesc) : (s.encodeTensor o h d).vec = s.vec := by
  unfold State.encodeTensor
  exact foldl_kept State.vec (fun s b => encodePlace_vec s o h d _ b) _ s

@[simp] theorem State.encodeOutputs_vec (s : State) (o : Op) : (s.encodeOutputs o).vec = s.vec := by
  unfold State.encodeOutputs
  refine foldl_kept State.vec (fun t x => ?_) _ s
  exact encodeTensor_vec ..

@[simp] theorem State.fabCheck_vec (s : State) (slot : Nat) (o : Op) : (s.fabCheck slot o).vec = s.vec := by
  unfold State.fabCheck
  split
  · rfl
  · split
    · exact encodeOutputs_vec s o
    · rfl

/-! ### Passes -/

@[simp] theorem State.wakePod_vec (s : State) (pod t : Nat) : (s.wakePod pod t).vec = s.vec := by
  unfold State.wakePod
  split <;> simp

@[simp] theorem State.countAtt_vec (s : State) (o : Op) (run : StepRun) (g : Nat) (keys : List Nat) (extra : Nat) (rows : List AttRow) :
    (s.countAtt o run g keys extra rows).vec = s.vec := by
  simp [State.countAtt]

@[simp] theorem State.runTiles_vec (s : State) (slot : Nat) (o : Op) (run : StepRun) (head g pre : Nat) : (s.runTiles slot o run head g pre).vec = s.vec := by
  unfold State.runTiles
  dsimp only
  split <;> simp

@[simp] theorem State.runAtt_vec (s : State) (slot : Nat) (o : Op) : (s.runAtt slot o).vec = s.vec := by
  unfold State.runAtt
  dsimp only
  split
  · split <;> simp
  · rfl

@[simp] theorem State.onePass_vec (s : State) (slot : Nat) (o : Op) (m n K : Nat) (sh : Shape) (i : Nat) (backward : Bool) (k : Nat) :
    (s.onePass slot o m n K sh i backward k).vec = s.vec := by
  unfold State.onePass
  dsimp only
  rw [ocount_vec, ocount_vec, modPod_vec, foldl_kept State.vec fun _ _ => modPod_vec .., wakePod_vec]

@[simp] theorem State.runPasses_vec (slot : Nat) (o : Op) : ∀ (n : Nat) (s : State), (s.runPasses slot o n).vec = s.vec
  | 0, _ => rfl
  | n + 1, s => by
    unfold State.runPasses
    dsimp only
    split
    · split
      · exact (runPasses_vec slot o n _).trans (onePass_vec ..)
      · rfl
    · rfl

@[simp] theorem State.runOne_vec (s : State) (slot : Nat) : (s.runOne slot).vec = s.vec := by
  unfold State.runOne
  split
  · rfl
  · split <;> simp

@[simp] theorem State.runPod_vec (s : State) (pod : Nat) : (s.runPod pod).vec = s.vec := foldl_kept State.vec runOne_vec _ s

/-- A set that is freed touches no vector unit, whatever passes it lets run. -/
@[simp] theorem State.releaseSet_vec (s : State) (unit set : Nat) : (s.releaseSet unit set).vec = s.vec := by
  unfold State.releaseSet
  dsimp only
  split
  · split <;> simp
  · rfl

end Sys2Proof.Machine
end

section
/-! How a vector instruction is issued (R113, R117, R118): what its issue leaves behind its effect, and the two facts that every statement about an instruction takes from it, that it completes and what it changes. -/

namespace Sys2Proof.Machine

/-! ### A program that goes on -/

/-- A unit whose program goes on one word. -/
def VecUnit.goOn (u : VecUnit) : VecUnit := { u with running := u.running.map fun q => { q with pc := q.pc + 1 } }

@[simp] theorem VecUnit.goOn_buf (u : VecUnit) : u.goOn.buf = u.buf := rfl
@[simp] theorem VecUnit.goOn_sc (u : VecUnit) : u.goOn.sc = u.sc := rfl
@[simp] theorem VecUnit.goOn_word (u : VecUnit) (a : Nat) : u.goOn.word a = u.word a := rfl

theorem VecUnit.goOn_pc {u : VecUnit} {k : Nat} (h : u.running.map (·.pc) = some k) : u.goOn.running.map (·.pc) = some (k + 1) := by
  obtain ⟨r, hr, rfl⟩ := Option.map_eq_some_iff.1 h
  simp [goOn, hr]

theorem State.running_of_nextWord {s : State} {unit : Nat} {w : BitVec 64} {r : Running} (hw : s.nextWord unit w = some r) : (s.unit unit).running = some r := by
  unfold State.nextWord at hw
  split at hw
  · rename_i hr
    split at hw <;> simp_all
  · cases hw

/-! ### Counting -/

/-- A state that differs from another only in the counters and what they report. -/
def Counted (s t : State) : Prop := ∃ f, t = { s with faults := f }

theorem Counted.refl (s : State) : Counted s s := ⟨s.faults, rfl⟩

theorem Counted.tcount {s t : State} (h : Counted s t) (k base sub n : Nat) : Counted s (t.tcount k base sub n) := by
  obtain ⟨_, rfl⟩ := h
  exact tcount_changes ..

theorem Counted.ite {s t u : State} {c : Prop} [Decidable c] (ht : Counted s t) (hu : Counted s u) : Counted s (if c then t else u) := by
  split <;> assumption

theorem Counted.countClamps {s t : State} (h : Counted s t) (k n : Nat) : Counted s (t.countClamps k n) := .ite h (h.tcount ..)

theorem Counted.countOor {s t : State} (h : Counted s t) (k n : Nat) : Counted s (t.countOor k n) := .ite h (h.tcount ..)

theorem Counted.countNarrow {s t : State} (h : Counted s t) (k : Nat) (ns : List Narrow) : Counted s (t.countNarrow k ns) :=
  have hclamps : Counted s (if (ns.map (·.clamp)).sum = 0 then t else t.tcount k 0xA100 1 (ns.map (·.clamp)).sum) := .ite h (h.tcount ..)
  .ite hclamps (hclamps.tcount ..)

/-! ### What follows an effect -/

/-- What an issue does behind its effect: the sets that it releases are freed, and the program goes on. -/
def State.issued (s : State) (unit : Nat) (f : VF) (sets : List Nat) (release : Bool) : State :=
  (if release && f.mbit 5 then sets.foldl (fun s k => s.releaseSet unit k) s else s).modUnit unit VecUnit.goOn

section Issued

variable (s : State) (unit : Nat) (f : VF) (sets : List Nat) (release : Bool)

/-- The sets that are freed leave every unit, so a unit stands as the effect left it. -/
theorem State.unit_released (v : Nat) : (if release && f.mbit 5 then sets.foldl (fun s k => s.releaseSet unit k) s else s).unit v = s.unit v := by
  split
  · exact State.unit_congr (foldl_kept State.vec (fun s k => releaseSet_vec s unit k) sets s) v
  · rfl

theorem State.unit_issued_self : (s.issued unit f sets release).unit unit = (s.unit unit).goOn := by
  rw [issued, unit_modUnit_self, unit_released]

theorem State.unit_issued_ne {v : Nat} (hv : v ≠ unit) : (s.issued unit f sets release).unit v = s.unit v := by
  rw [issued, unit_modUnit_ne _ _ _ _ hv, unit_released]

variable {f release} in
theorem State.issued_of_kept (hkept : (release && f.mbit 5) = false) : s.issued unit f sets release = s.modUnit unit VecUnit.goOn := by
  simp only [issued, hkept]
  rfl

end Issued

/-- A unit that stands as some unit with the program counter of before goes on has gone on one word. -/
theorem advanced_of_goOn {s t : State} {unit : Nat} {w : BitVec 64} {r : Running} {u : VecUnit} (hw : s.nextWord unit w = some r) (hunit : t.unit unit = u.goOn)
    (hpc : u.running.map (·.pc) = (s.unit unit).running.map (·.pc)) (hother : ∀ v, v ≠ unit → t.unit v = s.unit v) : Claims.Advanced s t unit r := by
  refine ⟨?_, hother⟩
  rw [hunit]
  exact VecUnit.goOn_pc (by rw [hpc, State.running_of_nextWord hw]; rfl)

/-- Behind an effect that leaves the program counter and the other units, the program has gone on one word. -/
theorem advanced_issued {s s1 : State} {unit : Nat} {w : BitVec 64} {r : Running} (f : VF) (sets : List Nat) (release : Bool) (hw : s.nextWord unit w = some r)
    (hpc : (s1.unit unit).running.map (·.pc) = (s.unit unit).running.map (·.pc)) (hother : ∀ v, v ≠ unit → s1.unit v = s.unit v) :
    Claims.Advanced s (s1.issued unit f sets release) unit r :=
  advanced_of_goOn hw (State.unit_issued_self ..) hpc fun v hv => (State.unit_issued_ne _ _ _ _ _ hv).trans (hother v hv)

/-! ### Issue -/

theorem ready_nil (s : State) (unit : Nat) : Claims.Ready s unit [] := fun _ h => nomatch h

/-- An instruction that is the next word of its unit, and reads no set that a pass fills, is issued. -/
theorem vecIssue_of_ready {s : State} {unit opc : Nat} {f : VF} {sets : List Nat} {r : Running} (lanes : Nat) (release : Bool) (eff : Running → State → State)
    (hw : s.nextWord unit (f.encode opc) = some r) (hready : Claims.Ready s unit sets) :
    vecIssue unit opc lanes f sets release s eff = .next ((eff r (s.tcount r.tenant 0xA500 2 (cdiv f.n lanes))).issued unit f sets release) := by
  have hfree : ¬ (sets.any fun k => decide (mget .free (s.pod unit).setState k = .filling)) = true := by
    simpa [Claims.Ready] using hready
  simp only [vecIssue, hw, if_neg hfree]
  rfl

/-- What an instruction answers where it is not refused: it is no listed event, or its effect and what follows it. -/
theorem vecIssue_next {s t : State} {unit opc lanes : Nat} {f : VF} {sets : List Nat} {release : Bool} {eff : Running → State → State}
    (h : vecIssue unit opc lanes f sets release s eff = .next t) :
    t = s.unlisted ∨ ∃ r, t = (eff r (s.tcount r.tenant 0xA500 2 (cdiv f.n lanes))).issued unit f sets release := by
  unfold vecIssue at h
  split at h
  · exact .inl (Host.Outcome.next.inj h).symm
  · split at h
    · exact .inl (Host.Outcome.next.inj h).symm
    · exact .inr ⟨_, (Host.Outcome.next.inj h).symm⟩

/-- A command that issues an instruction with opcode `opc`: its effect counts, and leaves its unit as `post` says. -/
structure Issues (run : State → Res) (unit opc : Nat) (f : VF) (sets : List Nat) (release : Bool) (post : State → VecUnit → VecUnit) : Prop where
  issue : ∃ lanes eff, (∀ s, run s = vecIssue unit opc lanes f sets release s eff) ∧
    ∀ s s1 r, Counted s s1 → ∃ s2, Counted s s2 ∧ eff r s1 = s2.modUnit unit (post s)
  pc : ∀ s, (post s (s.unit unit)).running.map (·.pc) = (s.unit unit).running.map (·.pc)

/-- The next state differs from the one before only in unit `u`, and in the counters with what they report. -/
def OnlyUnit (s t : State) (u : Nat) : Prop := t = { s with vec := t.vec, faults := t.faults } ∧ ∀ v, v ≠ u → t.unit v = s.unit v

theorem Counted.onlyUnit {s t : State} (h : Counted s t) (u : Nat) : OnlyUnit s t u := by
  obtain ⟨_, rfl⟩ := h
  exact ⟨rfl, fun _ _ => rfl⟩

theorem OnlyUnit.modUnit {s t : State} {u : Nat} (h : OnlyUnit s t u) (g : VecUnit → VecUnit) : OnlyUnit s (t.modUnit u g) u := by
  obtain ⟨hstate, hunits⟩ := h
  refine ⟨?_, fun v hv => (unit_modUnit_ne _ _ _ _ hv).trans (hunits v hv)⟩
  rw [hstate]
  rfl

theorem unlisted_onlyUnit (s : State) (u : Nat) : OnlyUnit s s.unlisted u := ⟨rfl, fun _ _ => rfl⟩

namespace Issues

variable {run : State → Res} {unit opc : Nat} {f : VF} {sets : List Nat} {release : Bool} {post : State → VecUnit → VecUnit} {s t : State} {r : Running}

/-- Where the unit's next word is the instruction and the sets that it reads are ready, it completes and leaves its unit as `post` says. -/
theorem completes (h : Issues run unit opc f sets release post) (hw : s.nextWord unit (f.encode opc) = some r) (hready : Claims.Ready s unit sets) :
    ∃ t, run s = .next t ∧ Claims.Advanced s t unit r ∧ t.unit unit = (post s (s.unit unit)).goOn := by
  obtain ⟨⟨lanes, eff, hrun, heff⟩, hpc⟩ := h
  obtain ⟨_, ⟨F, rfl⟩, hs2⟩ := heff s _ r ((Counted.refl s).tcount r.tenant 0xA500 2 (cdiv f.n lanes))
  have hunit := unit_modUnit_self { s with faults := F } unit (post s)
  refine ⟨_, (hrun s).trans (vecIssue_of_ready lanes release eff hw hready), ?_, ?_⟩
  · rw [hs2]
    exact advanced_issued f sets release hw ((congrArg (fun u => u.running.map (·.pc)) hunit).trans (hpc s)) fun v hv => unit_modUnit_ne _ _ _ _ hv
  · rw [hs2, State.unit_issued_self, hunit]
    rfl

/-- A command that answers the same issues the same. -/
theorem congr {run' : State → Res} (h : Issues run unit opc f sets release post) (heq : ∀ s, run' s = run s) : Issues run' unit opc f sets release post :=
  (funext heq : run' = run) ▸ h

/-- Where it releases no set, nothing but its unit and what counters report changes. -/
theorem onlyUnit (h : Issues run unit opc f sets release post) (hkept : (release && f.mbit 5) = false) (hnext : run s = .next t) : OnlyUnit s t unit := by
  obtain ⟨⟨lanes, eff, hrun, heff⟩, -⟩ := h
  rcases vecIssue_next ((hrun s).symm.trans hnext) with rfl | ⟨r, rfl⟩
  · exact unlisted_onlyUnit s unit
  · obtain ⟨s2, hcounted, hs2⟩ := heff s _ r ((Counted.refl s).tcount r.tenant 0xA500 2 (cdiv f.n lanes))
    rw [hs2, State.issued_of_kept _ _ _ hkept]
    exact ((hcounted.onlyUnit unit).modUnit _).modUnit _

end Issues

/-! ### Runs of words and codes in the buffer (R112) -/

theorem Fmt.bits_pos (fm : Fmt) : 0 < fm.bits := by cases fm <;> decide
theorem Fmt.bits_le (fm : Fmt) : fm.bits ≤ 32 := by cases fm <;> decide

theorem fmtBits_pos (c : Nat) : 0 < fmtBits c := by
  unfold fmtBits
  split
  · exact Fmt.bits_pos _
  · decide
theorem fmtBits_le (c : Nat) : fmtBits c ≤ 32 := by
  unfold fmtBits
  split
  · exact Fmt.bits_le _
  · decide

/-- A bit of the buffer, as the statements number it. -/
theorem claims_bit_eq {u v : VecUnit} {k : Nat} (h : u.bitAt k = v.bitAt k) : Claims.bit u k = Claims.bit v k := by
  apply Nat.eq_of_testBit_eq
  intro i
  rw [Claims.bit, Claims.bit, testBit_bits _ _ _ _ _ (by decide), testBit_bits _ _ _ _ _ (by decide)]
  rcases Nat.eq_zero_or_pos i with rfl | hi
  · simpa using h
  · simp [show ¬ i < 1 by omega]

theorem runIs_goOn {u v : VecUnit} {dst bits n : Nat} {code : Nat → Nat} (h : Claims.RunIs u v dst bits n code) : Claims.RunIs u v.goOn dst bits n code := ⟨h.1, h.2⟩

theorem wordsAre_goOn {u v : VecUnit} {dst : Nat} {ws : List (BitVec 32)} (h : Claims.WordsAre u v dst ws) : Claims.WordsAre u v.goOn dst ws := ⟨h.1, h.2⟩

/-- A packed run that is written, and fits the buffer, stands there and leaves every other bit. -/
theorem runIs_putCodes (u : VecUnit) {dst bits n : Nat} {codes : List Nat} {code : Nat → Nat} (hbits : bits ≤ 32) (hpos : 0 < bits) (hfit : dst * 32 + n * bits ≤ 131072)
    (hcodes : codes = (List.range n).map code) : Claims.RunIs u (u.putCodes dst bits 0 codes) dst bits n code := by
  subst hcodes
  refine ⟨fun i hi => ?_, fun k _ hk => claims_bit_eq ?_⟩
  · have hlen : i < ((List.range n).map code).length := by simpa using hi
    have hread := bits_putCodes_in dst bits hbits hpos _ u 0 i hlen (by simpa using hfit)
    rwa [Nat.zero_add, List.getElem_map, List.getElem_range] at hread
  · exact bitAt_putCodes_out dst bits hbits hpos _ u 0 k (by simpa using hfit) (by simpa using hk)

/-- Words that are written, and fit the buffer, stand there and leave every other word. -/
theorem wordsAre_puts (u : VecUnit) {dst : Nat} {ws : List (BitVec 32)} (hfit : dst + ws.length ≤ 4096) : Claims.WordsAre u (u.puts dst ws) dst ws :=
  ⟨fun i hi => word_puts_in ws u dst i hi hfit, fun a ha => word_puts_out ws u dst a ha⟩

end Sys2Proof.Machine
end

section
/-! Element-wise arithmetic and functions of the vector engine (R116, R121..R123): what each issues, and the obligations about their results. -/

namespace Sys2Proof.Machine

/-! ### Element-wise arithmetic (R116) -/

/-- A packed run written at DST counts what its narrowing clamps and drops. -/
theorem putRun_eq {s s1 : State} (hs : Counted s s1) (unit : Nat) (f : VF) (r : Running) (bits : Nat) (ns : List Narrow) :
    ∃ s2, Counted s s2 ∧ s1.putRun unit f r bits ns = s2.modUnit unit fun u => u.putCodes f.dst bits 0 (ns.map (·.code)) :=
  ⟨_, hs.countNarrow r.tenant ns, rfl⟩

/-- Element `i` of the result of an element-wise instruction. -/
def State.ewElem (s : State) (unit : Nat) (f : VF) (g : Val → Val → Val → Val) (b : Nat → Val) (i : Nat) : Narrow :=
  narrow f.ewFmt (g (s.srcVal unit f f.ewFmt i) (b i) (s.dstVal unit f i))

theorem vecEw_issues (unit opc : Nat) (f : VF) (g : Val → Val → Val → Val) : Issues (vecEw unit opc f g) unit opc f f.setsRead true
    fun s u => u.putCodes f.dst f.ewFmt.bits 0 (((List.range f.n).map (s.ewElem unit f g (s.srcB unit f))).map (·.code)) where
  issue := ⟨_, _, fun _ => rfl, by
    rintro s _ r ⟨F, rfl⟩
    exact putRun_eq ⟨F, rfl⟩ ..⟩
  pc s := by rw [putCodes_running]

theorem vecEwS_issues (unit opc : Nat) (f : VF) (g : Val → Val → Val → Val) : Issues (vecEwS unit opc f g) unit opc f f.setsRead true
    fun s u => u.putCodes f.dst f.ewFmt.bits 0 (((List.range f.n).map (s.ewElem unit f g fun _ => f32 ((s.unit unit).scalar f.scB))).map (·.code)) where
  issue := ⟨_, _, fun _ => rfl, by
    rintro s _ r ⟨F, rfl⟩
    exact putRun_eq ⟨F, rfl⟩ ..⟩
  pc s := by rw [putCodes_running]

/-- An instruction that issues a packed run of `n` codes at DST completes with that run, and leaves the scalars. -/
theorem Issues.writesRun {run : State → Res} {unit opc bits n : Nat} {f : VF} {sets : List Nat} {release : Bool} {codes : State → List Nat} {code : Nat → Nat}
    {s : State} {r : Running} (h : Issues run unit opc f sets release fun s u => u.putCodes f.dst bits 0 (codes s)) (hw : s.nextWord unit (f.encode opc) = some r)
    (hready : Claims.Ready s unit sets) (hbits : bits ≤ 32) (hpos : 0 < bits) (hfit : f.dst * 32 + n * bits ≤ 131072) (hcodes : codes s = (List.range n).map code) :
    ∃ t, run s = .next t ∧ Claims.Advanced s t unit r ∧ (t.unit unit).sc = (s.unit unit).sc ∧ Claims.RunIs (s.unit unit) (t.unit unit) f.dst bits n code := by
  obtain ⟨t, hnext, hadvanced, hunit⟩ := h.completes hw hready
  refine ⟨t, hnext, hadvanced, ?_, ?_⟩
  · rw [hunit, VecUnit.goOn_sc, putCodes_sc]
  · rw [hunit]
    exact runIs_goOn (runIs_putCodes _ hbits hpos hfit hcodes)

theorem ewRuns_of_vecEw {c : Instr} {unit opc : Nat} {f : VF} {g : Val → Val → Val → Val} (hc : ∀ s, exec c s = vecEw unit opc f g s) : Claims.EwRuns c unit opc f g := by
  intro s r hw hready hfit
  rw [hc]
  exact (vecEw_issues unit opc f g).writesRun hw hready (Fmt.bits_le _) (Fmt.bits_pos _) hfit (List.map_map ..)

theorem ewScalarRuns_of_vecEwS {c : Instr} {unit opc : Nat} {f : VF} {g : Val → Val → Val → Val} (hc : ∀ s, exec c s = vecEwS unit opc f g s) :
    Claims.EwScalarRuns c unit opc f g := by
  intro s r hw hready hfit
  rw [hc]
  exact (vecEwS_issues unit opc f g).writesRun hw hready (Fmt.bits_le _) (Fmt.bits_pos _) hfit (List.map_map ..)

/-- Settles O7: each instruction is the shared element-wise one with its own function; the scalar forms read SC[SRCB] as FP32 with either format of MOD bit 0 (log entry 65). -/
theorem vectorArithmeticResult : Obligations.VectorArithmeticResult :=
  have ew {c : Nat → VF → Instr} {opc : Nat} {g : Val → Val → Val → Val} (hc : ∀ unit f s, exec (c unit f) s = vecEw unit opc f g s) (unit : Nat) (f : VF) :
      Claims.EwRuns (c unit f) unit opc f g := ewRuns_of_vecEw (hc unit f)
  have ewS {c : Nat → VF → Instr} {opc : Nat} {g : Val → Val → Val → Val} (hc : ∀ unit f s, exec (c unit f) s = vecEwS unit opc f g s) (unit : Nat) (f : VF) :
      Claims.EwScalarRuns (c unit f) unit opc f g := ewScalarRuns_of_vecEwS (hc unit f)
  ⟨ew fun _ _ _ => rfl, ew fun _ _ _ => rfl, ew fun _ _ _ => rfl, ew fun _ _ _ => rfl, ew fun _ _ _ => rfl, ew fun _ _ _ => rfl, ew fun _ _ _ => rfl, ew fun _ _ _ => rfl,
    ew fun _ _ _ => rfl, ewS fun _ _ _ => rfl, ewS fun _ _ _ => rfl, ewS fun _ _ _ => rfl, ewS fun _ _ _ => rfl, ewS fun _ _ _ => rfl, ewS fun _ _ _ => rfl⟩

/-! ### Functions, NORM and ROPE (R121..R123) -/

/-- An instruction that issues words at DST completes with them, and leaves the scalars. -/
theorem writesWords_of_issues {c : Instr} {unit opc : Nat} {f : VF} {sets : List Nat} {release : Bool} {ws ws' : State → List (BitVec 32)}
    (h : Issues (exec c) unit opc f sets release fun s u => u.puts f.dst (ws' s)) (hws : ∀ s, ws' s = ws s) : Claims.WritesWords c unit opc f sets ws := by
  intro s r hw hready hfit
  obtain ⟨t, hnext, hadvanced, hunit⟩ := h.completes hw hready
  refine ⟨t, hnext, hadvanced, ?_, ?_⟩
  · rw [hunit, VecUnit.goOn_sc, puts_sc]
  · rw [hunit, hws]
    exact wordsAre_goOn (wordsAre_puts _ hfit)

theorem vecFnC_issues (unit opc : Nat) (f : VF) (clamp : BitVec 32 → Nat) (g : BitVec 32 → BitVec 32) : Issues (vecFnC unit opc f clamp g) unit opc f f.setsRead true
    fun s u => u.puts f.dst ((s.srcWords unit f).map fun x => g x.2) where
  issue := ⟨_, _, fun _ => rfl, by
    rintro s _ r ⟨F, rfl⟩
    exact ⟨_, .countClamps ⟨F, rfl⟩ .., rfl⟩⟩
  pc s := by rw [puts_running]

theorem vecFn_issues (unit opc : Nat) (f : VF) (g : BitVec 32 → BitVec 32) : Issues (vecFn unit opc f g) unit opc f f.setsRead true
    fun s u => u.puts f.dst ((s.srcWords unit f).map fun x => g x.2) := vecFnC_issues unit opc f (fun _ => 0) g

/-- The elements of a NORM with their clamps (R122). -/
def State.normElems (s : State) (unit : Nat) (f : VF) : List Fw :=
  let u := s.unit unit
  let k := nbits f.mod 1 4
  let mr := normR (f.mbit 0) (u.scalar k) (u.scalar (k + 1)) (u.scalar (k + 2)) (u.scalar (k + 3))
  (s.srcWords unit f).map fun x => normYF (f.mbit 0) mr.1 mr.2 x.2 (u.word (f.srcb + x.1)) (if f.mbit 0 then u.word (f.srcb + f.n + x.1) else 0)

theorem vNorm_issues (unit : Nat) (f : VF) : Issues (execVNorm unit f) unit 0x31 f f.setsRead true
    fun s u => u.puts f.dst ((s.normElems unit f).map (·.w)) where
  issue := ⟨_, _, fun _ => rfl, by
    rintro s _ r ⟨F, rfl⟩
    exact ⟨_, .countClamps ⟨F, rfl⟩ .., rfl⟩⟩
  pc s := by rw [puts_running]

/-- The rotated pairs of a ROPE with their clamps (R123). -/
def State.ropeElems (s : State) (unit : Nat) (f : VF) : List Fw :=
  (List.range (f.n / 2)).flatMap fun j =>
    rotateF ((s.unit unit).scalar (f.mod % 16)) ((s.unit unit).word (f.srcb + j)) (s.srcA unit f (2 * j)) (s.srcA unit f (2 * j + 1))

theorem vRope_issues (unit : Nat) (f : VF) : Issues (execVRope unit f) unit 0x32 f f.setsRead true
    fun s u => u.puts f.dst ((s.ropeElems unit f).map (·.w)) where
  issue := ⟨_, _, fun _ => rfl, by
    rintro s _ r ⟨F, rfl⟩
    exact ⟨_, .countClamps ⟨F, rfl⟩ .., rfl⟩⟩
  pc s := by rw [puts_running]

/-- A transcendental instruction writes the function of every element. -/
theorem writesWords_of_vecFn {c : Nat → VF → Instr} {opc : Nat} (g : BitVec 32 → BitVec 32) (hc : ∀ unit f s, exec (c unit f) s = vecFn unit opc f g s) (unit : Nat)
    (f : VF) : Claims.WritesWords (c unit f) unit opc f f.setsRead fun s => (s.srcWords unit f).map fun x => g x.2 :=
  writesWords_of_issues ((vecFn_issues unit opc f g).congr (hc unit f)) fun _ => rfl

/-- Settles O8: the transcendental functions are the shared one, whose words are the function of every element; NORM and ROPE write the words of their own elements. -/
theorem vectorFunctionResult : Obligations.VectorFunctionResult := by
  refine ⟨writesWords_of_vecFn vexp fun _ _ _ => rfl, writesWords_of_vecFn vlog fun _ _ _ => rfl,
    fun unit f => writesWords_of_issues ((vecFnC_issues unit 0x23 f rcpClamp vrcp).congr fun _ => rfl) fun _ => rfl,
    writesWords_of_vecFn vrsq fun _ _ _ => rfl, writesWords_of_vecFn vsig fun _ _ _ => rfl, writesWords_of_vecFn vtanh fun _ _ _ => rfl,
    writesWords_of_vecFn vgelu fun _ _ _ => rfl, writesWords_of_vecFn vsilu fun _ _ _ => rfl,
    fun unit f => writesWords_of_issues ((vNorm_issues unit f).congr fun _ => rfl) fun s => ?norm,
    fun unit f => writesWords_of_issues ((vRope_issues unit f).congr fun _ => rfl) fun s => ?rope⟩
  case norm => exact List.map_map ..
  case rope => exact List.map_flatMap ..

end Sys2Proof.Machine
end

section
/-! Conversions and corrections of the vector engine (R37, R42, R116, R125, R126): what each issues, and the obligation about their results. -/

namespace Sys2Proof.Machine

/-! ### QNT and DQT (R116) -/

/-- The quotients of a QNT, each narrowed to its format. -/
def State.qntElems (s : State) (unit : Nat) (f : VF) : List Narrow :=
  (s.srcWords unit f).map fun x => qntElem (f.mod % 16) ((f32 x.2).div (f32 ((s.unit unit).scalar f.scB)))

theorem vQnt_issues (unit : Nat) (f : VF) : Issues (execVQnt unit f) unit 0x40 f f.setsRead true
    fun s u => u.putCodes f.dst (fmtBits (f.mod % 16)) 0 ((s.qntElems unit f).map (·.code)) where
  issue := ⟨_, _, fun _ => rfl, by
    rintro s _ r ⟨F, rfl⟩
    exact putRun_eq ⟨F, rfl⟩ ..⟩
  pc s := by rw [putCodes_running]

/-- The products of a DQT in FP32. -/
def State.dqtElems (s : State) (unit : Nat) (f : VF) : List Narrow :=
  (List.range f.n).map fun i => narrow .fp32 ((s.srcVal unit f ((fmtOf (f.mod % 16)).getD .fp32) i).mul (f32 ((s.unit unit).scalar f.scB)))

theorem vDqt_issues (unit : Nat) (f : VF) : Issues (execVDqt unit f) unit 0x41 f f.setsRead true
    fun s u => u.putCodes f.dst 32 0 ((s.dqtElems unit f).map (·.code)) where
  issue := ⟨_, _, fun _ => rfl, by
    rintro s _ r ⟨F, rfl⟩
    exact putRun_eq ⟨F, rfl⟩ ..⟩
  pc s := by rw [putCodes_running]

/-- A microscaling format takes a quotient into its element format, a NaN into code 0 (R39; log entry 65). -/
theorem qntElem_of_fmtOf {code : Nat} {fm : Fmt} (hfm : fmtOf code = some fm) (v : Val) :
    qntElem code v = if isMx code ∧ v = .nan then { code := 0, drop := 1 } else narrow fm v := by
  rw [qntElem, hfm]
  by_cases hmx : isMx code = true
  · cases v <;> simp [hmx, narrowMx]
  · simp [hmx]

/-! ### MXQ (R37) -/

/-- Block `b` of an MXQ. -/
def State.mxBlock (s : State) (unit : Nat) (f : VF) (fm : Fmt) (emax : Int) (b : Nat) : MxBlock :=
  mxEncode fm emax ((List.range 32).map fun i => f32 (s.srcA unit f (32 * b + i)))

theorem mxEncode_length (fm : Fmt) (emax : Int) (xs : List Val) : (mxEncode fm emax xs).elems.length = xs.length := by
  unfold mxEncode
  split
  · simp
  · dsimp only
    split <;> simp

/-- Lists of one length one after another, by their places. -/
theorem flatMap_range_of_length {n : Nat} (hn : 0 < n) {g : Nat → List Nat} (hg : ∀ b, (g b).length = n) : ∀ m : Nat,
    (List.range m).flatMap g = (List.range (m * n)).map fun j => ((g (j / n))[j % n]?).getD 0
  | 0 => by simp
  | m + 1 => by
    have hlast : g m = (List.range n).map fun i => ((g ((m * n + i) / n))[(m * n + i) % n]?).getD 0 := by
      refine List.ext_getElem (by simp [hg]) fun i hi _ => ?_
      have hlt : i < n := hg m ▸ hi
      rw [List.getElem_map, List.getElem_range, Nat.mul_comm m n, Nat.mul_add_div hn, Nat.div_eq_of_lt hlt, Nat.mul_add_mod, Nat.mod_eq_of_lt hlt, Nat.add_zero,
        List.getElem?_eq_getElem hi, Option.getD_some]
    rw [List.range_succ, List.flatMap_append, flatMap_range_of_length hn hg m, Nat.add_mul, Nat.one_mul, List.range_add, List.map_append, List.map_map]
    exact congrArg _ ((List.flatMap_singleton ..).trans hlast)

/-- An MXQ writes the elements of its blocks at DST and then their scales at SRCB. -/
theorem vMxq_issues (unit : Nat) {f : VF} {fm : Fmt} {emax : Int} (hfm : mxElem (f.mod % 16) = some (fm, emax)) : Issues (execVMxq unit f) unit 0x42 f f.setsRead true
    fun s u => (u.putCodes f.dst fm.bits 0 (((List.range (f.n / 32)).map (s.mxBlock unit f fm emax)).flatMap (·.elems))).putCodes f.srcb 8 0
      (((List.range (f.n / 32)).map (s.mxBlock unit f fm emax)).map (·.scale)) where
  issue := by
    refine ⟨?lanes, ?eff, fun s => ?run, ?counted⟩
    case run =>
      rw [execVMxq, hfm]
    case counted =>
      rintro s _ r ⟨F, rfl⟩
      exact ⟨_, .countNarrow ⟨F, rfl⟩ .., rfl⟩
  pc s := by rw [putCodes_running, putCodes_running]

/-- A read of a run whose bits are those of another unit. -/
theorem bits_congr {u v : VecUnit} {a bit n : Nat} (hn : n ≤ 32) (h : ∀ j, a * 32 + bit ≤ j → j < a * 32 + bit + n → u.bitAt j = v.bitAt j) :
    u.bits a bit n = v.bits a bit n := by
  apply Nat.eq_of_testBit_eq
  intro i
  rw [testBit_bits _ _ _ _ _ hn, testBit_bits _ _ _ _ _ hn]
  by_cases hi : i < n
  · rw [h _ (by omega) (by omega)]
  · simp [hi]

/-- Two packed runs written one after the other: the second stands, the first where the two are apart, and every bit outside the two stays. -/
theorem putCodes_putCodes {u : VecUnit} {a b m n k l : Nat} {code scale : Nat → Nat} (hm : m ≤ 32) (hmpos : 0 < m) (hn : n ≤ 32) (hnpos : 0 < n)
    (hafit : a * 32 + k * m ≤ 131072) (hbfit : b * 32 + l * n ≤ 131072) {v : VecUnit}
    (hv : v = (u.putCodes a m 0 ((List.range k).map code)).putCodes b n 0 ((List.range l).map scale)) :
    (∀ i, i < l → v.bits b (i * n) n = scale i % 2 ^ n) ∧
    ((b * 32 + l * n ≤ a * 32 ∨ a * 32 + k * m ≤ b * 32) → ∀ i, i < k → v.bits a (i * m) m = code i % 2 ^ m) ∧
    ∀ j, j < 131072 → (j < a * 32 ∨ a * 32 + k * m ≤ j) → (j < b * 32 ∨ b * 32 + l * n ≤ j) → Claims.bit v j = Claims.bit u j := by
  subst hv
  obtain ⟨hfirst, hfirstOut⟩ := runIs_putCodes u hm hmpos hafit (codes := (List.range k).map code) rfl
  obtain ⟨hsecond, hsecondOut⟩ := runIs_putCodes (u.putCodes a m 0 ((List.range k).map code)) hn hnpos hbfit (codes := (List.range l).map scale) rfl
  refine ⟨hsecond, fun hapart i hi => ?_, fun j hj hja hjb => (hsecondOut j hj hjb).trans (hfirstOut j hj hja)⟩
  have hend : i * m + m ≤ k * m := by
    rw [← Nat.succ_mul]
    exact Nat.mul_le_mul_right m hi
  rw [← hfirst i hi]
  refine bits_congr hm fun j hlo hhi => bitAt_putCodes_out b n hn hnpos _ _ 0 j ?_ ?_
  · simpa using hbfit
  · simp only [List.length_map, List.length_range, Nat.zero_add]
    omega

theorem vMxq_result {s : State} {unit : Nat} {f : VF} {r : Running} {fm : Fmt} {emax : Int} (hw : s.nextWord unit (f.encode 0x42) = some r)
    (hready : Claims.Ready s unit f.setsRead) (hfm : mxElem (f.mod % 16) = some (fm, emax)) (hfit : f.dst * 32 + f.n / 32 * 32 * fm.bits ≤ 131072)
    (hscales : f.srcb * 32 + f.n / 32 * 8 ≤ 131072) :
    ∃ t, execVMxq unit f s = .next t ∧ Claims.Advanced s t unit r ∧ (t.unit unit).sc = (s.unit unit).sc ∧
      (∀ b, b < f.n / 32 → (t.unit unit).bits f.srcb (b * 8) 8 = (s.mxBlock unit f fm emax b).scale % 256) ∧
      (f.srcb * 32 + f.n / 32 * 8 ≤ f.dst * 32 ∨ f.dst * 32 + f.n / 32 * 32 * fm.bits ≤ f.srcb * 32 →
        ∀ b i, b < f.n / 32 → i < 32 → (t.unit unit).bits f.dst ((32 * b + i) * fm.bits) fm.bits = ((s.mxBlock unit f fm emax b).elems[i]?).getD 0 % 2 ^ fm.bits) ∧
      ∀ k, k < 131072 → (k < f.dst * 32 ∨ f.dst * 32 + f.n / 32 * 32 * fm.bits ≤ k) → (k < f.srcb * 32 ∨ f.srcb * 32 + f.n / 32 * 8 ≤ k) →
        Claims.bit (t.unit unit) k = Claims.bit (s.unit unit) k := by
  obtain ⟨t, hnext, hadvanced, hunit⟩ := (vMxq_issues unit hfm).completes hw hready
  have hlength : ∀ b, (s.mxBlock unit f fm emax b).elems.length = 32 := fun b => (mxEncode_length ..).trans (by simp)
  rw [List.flatMap_map, flatMap_range_of_length (by decide) hlength, List.map_map] at hunit
  obtain ⟨hscale, helem, hout⟩ := putCodes_putCodes (u := s.unit unit) (Fmt.bits_le fm) (Fmt.bits_pos fm) (by decide) (by decide) hfit hscales rfl
  refine ⟨t, hnext, hadvanced, ?_, fun b hb => ?_, fun hapart b i hb hi => ?_, fun k hk hdst hsrc => ?_⟩
  · rw [hunit, VecUnit.goOn_sc, putCodes_sc, putCodes_sc]
  · rw [hunit]
    exact hscale b hb
  · rw [hunit]
    have hread := helem hapart (32 * b + i) (by omega)
    rwa [show (32 * b + i) / 32 = b by omega, show (32 * b + i) % 32 = i by omega] at hread
  · rw [hunit]
    exact hout k hk hdst hsrc

/-! ### QSITE (R42) -/

/-- The elements of a QSITE for an operation: the codes of its scale, the listed positions as 0. -/
def State.qsiteElems (s : State) (unit : Nat) (f : VF) (o : Op) : List Narrow :=
  let u := s.unit unit
  (s.srcWords unit f).map fun x => quantSite f.q (f32 (s.opScale o f.q)) (f32 x.2)
    (((List.range (u.scalar 12).toNat).map fun i => (u.word (f.srcb + 2 * i)).toNat).contains ((u.scalar 13).toNat + x.1))

/-- The effect of a QSITE. -/
def State.qsite (s : State) (unit : Nat) (f : VF) (r : Running) : State :=
  match s.runningOp r with
  | none => s
  | some o => (s.putRun unit f r (if f.mbit 4 then 4 else 8) (s.qsiteElems unit f o)).sendScale o (s.opScale o f.q)

theorem execVQsite_eq (unit : Nat) (f : VF) (s : State) : execVQsite unit f s = vecIssue unit 0x46 32 f f.setsRead true s fun r s => s.qsite unit f r := rfl

theorem State.qsite_of_none {s s1 : State} (hs : Counted s s1) (unit : Nat) (f : VF) {r : Running} (hr : s.runningOp r = none) : s1.qsite unit f r = s1 := by
  obtain ⟨F, rfl⟩ := hs
  have hr' : ({ s with faults := F } : State).runningOp r = none := hr
  rw [qsite, hr']

theorem State.qsite_of_op {s s1 : State} (hs : Counted s s1) (unit : Nat) (f : VF) {r : Running} {o : Op} (hr : s.runningOp r = some o) :
    ∃ s2, Counted s s2 ∧ s1.qsite unit f r =
      (s2.modUnit unit fun u => u.putCodes f.dst (if f.mbit 4 then 4 else 8) 0 ((s.qsiteElems unit f o).map (·.code))).sendScale o (s.opScale o f.q) := by
  obtain ⟨F, rfl⟩ := hs
  have hr' : ({ s with faults := F } : State).runningOp r = some o := hr
  obtain ⟨s2, hs2, hput⟩ := putRun_eq (s := s) ⟨F, rfl⟩ unit f r (if f.mbit 4 then 4 else 8) (s.qsiteElems unit f o)
  exact ⟨s2, hs2, by rw [qsite, hr', ← hput]; rfl⟩

@[simp] theorem State.sendScale_vec (s : State) (o : Op) (sc : BitVec 32) : (s.sendScale o sc).vec = s.vec := by
  unfold State.sendScale
  split <;> rfl

@[simp] theorem State.sendScale_unit (s : State) (o : Op) (sc : BitVec 32) (v : Nat) : (s.sendScale o sc).unit v = s.unit v :=
  State.unit_congr (sendScale_vec ..) v

/-- The scale goes to the step run alone. -/
theorem State.sendScale_ops_congr {s t : State} (hops : t.ops = s.ops) (hmodels : t.models = s.models) (o : Op) (sc : BitVec 32) :
    (t.sendScale o sc).ops = (s.sendScale o sc).ops := by
  have htemplate : t.opTemplate o = s.opTemplate o := by rw [State.opTemplate, State.opTemplate, State.opPlan_congr hmodels]
  simp only [State.sendScale, htemplate]
  split
  · simp only [State.modRun, hops]
  · exact hops

theorem vQsite_result {s : State} {unit : Nat} {f : VF} {r : Running} (hw : s.nextWord unit (f.encode 0x46) = some r) (hready : Claims.Ready s unit f.setsRead)
    (hfit : f.dst * 32 + f.n * (if f.mbit 4 then 4 else 8) ≤ 131072) :
    ∃ t, execVQsite unit f s = .next t ∧ Claims.Advanced s t unit r ∧ (t.unit unit).sc = (s.unit unit).sc ∧
      ∀ o, s.runningOp r = some o → (f.mbit 5 = false → t.ops = (s.sendScale o (s.opScale o f.q)).ops) ∧
        Claims.RunIs (s.unit unit) (t.unit unit) f.dst (if f.mbit 4 then 4 else 8) f.n
          (fun i => (quantSite f.q (f32 (s.opScale o f.q)) (f32 (s.srcA unit f i))
            (((List.range ((s.unit unit).scalar 12).toNat).map fun j => ((s.unit unit).word (f.srcb + 2 * j)).toNat).contains (((s.unit unit).scalar 13).toNat + i))).code) := by
  have hcounted := (Counted.refl s).tcount r.tenant 0xA500 2 (cdiv f.n 32)
  refine ⟨_, (execVQsite_eq unit f s).trans (vecIssue_of_ready 32 true _ hw hready), ?_⟩
  cases hr : s.runningOp r with
  | none =>
    rw [State.qsite_of_none hcounted unit f hr]
    obtain ⟨F, hF⟩ := hcounted
    rw [hF]
    refine ⟨advanced_issued f _ _ hw rfl fun _ _ => rfl, ?_, fun o ho => nomatch ho⟩
    rw [State.unit_issued_self]
    rfl
  | some o =>
    obtain ⟨_, ⟨F, rfl⟩, hs2⟩ := State.qsite_of_op hcounted unit f hr
    rw [hs2]
    refine ⟨advanced_issued f _ _ hw ?pc fun v hv => ?other, ?sc, fun o' ho' => ?result⟩
    case pc => rw [State.sendScale_unit, unit_modUnit_self, putCodes_running]; rfl
    case other => rw [State.sendScale_unit, unit_modUnit_ne _ _ _ _ hv]; rfl
    case sc => rw [State.unit_issued_self, State.sendScale_unit, unit_modUnit_self, VecUnit.goOn_sc, putCodes_sc]; rfl
    case result =>
      obtain rfl := Option.some.inj ho'
      refine ⟨fun hkept => ?ops, ?run⟩
      case ops =>
        rw [State.issued_of_kept _ _ _ (by simpa using hkept), modUnit_ops]
        exact State.sendScale_ops_congr (s := s) (modUnit_ops { s with faults := F } _ _) (modUnit_models { s with faults := F } _ _) o _
      case run =>
        rw [State.unit_issued_self, State.sendScale_unit, unit_modUnit_self]
        refine runIs_goOn (runIs_putCodes _ ?_ ?_ hfit ?_)
        · split <;> decide
        · split <;> decide
        · simp [State.qsiteElems, State.srcWords]

/-! ### CORR and WCORR (R125, R126) -/

/-- The weights of a CORR's row. -/
def State.corrRow (s : State) (unit : Nat) (f : VF) : List Val :=
  let u := s.unit unit
  let bits := if f.mbit 4 then 8 else 4
  let codes := (List.range f.n).map fun i => u.bits (f.addra % 4096) (i * bits) bits
  rowWeights bits ((List.range (codes.filter fun c => decide (bits = 4 ∧ c = 8)).length).map fun j => bf16 (BitVec.ofNat 16 (u.bits f.srcb ((f.n + j) * 16) 16))) codes

/-- The word of a CORR's result for one weight and its place. -/
def State.corrElem (s : State) (unit : Nat) (f : VF) (w : Val × Nat) : Narrow :=
  let u := s.unit unit
  narrow .fp32 ((f32 (u.word (f.dst + w.2))).add ((bf16 ((u.scalar (f.mod % 16)).setWidth 16)).mul
    (f32 (toF32 (w.1.mul (bf16 (BitVec.ofNat 16 (u.bits f.srcb (w.2 * 16) 16))))))))

theorem vCorr_issues (unit : Nat) (f : VF) : Issues (execVCorr unit f) unit 0x48 f f.setsRead true
    fun s u => u.putCodes f.dst 32 0 (((s.corrRow unit f).zipIdx.map (s.corrElem unit f)).map (·.code)) where
  issue := ⟨_, _, fun _ => rfl, by
    rintro s _ r ⟨F, rfl⟩
    exact putRun_eq (.countClamps ⟨F, rfl⟩ ..) ..⟩
  pc s := by rw [putCodes_running]

theorem rowWeights_length (bits : Nat) : ∀ (codes : List Nat) (side : List Val), (rowWeights bits side codes).length = codes.length
  | [], _ => rfl
  | c :: codes, side => by
    unfold rowWeights
    split <;> simp [rowWeights_length bits codes]

/-- A list with its places, by its places. -/
theorem zipIdx_eq_range_map {α : Type} (d : α) (l : List α) : l.zipIdx = (List.range l.length).map fun i => ((l[i]?).getD d, i) :=
  List.ext_getElem (by simp) fun i hi _ => by
    have hlt : i < l.length := by simpa using hi
    simp [hlt]

theorem State.corrRow_length (s : State) (unit : Nat) (f : VF) : (s.corrRow unit f).length = f.n := by
  simp [corrRow, rowWeights_length]

@[simp] theorem wcorrEntry_sc (f : VF) (u : VecUnit) (e : Nat) : (wcorrEntry f u e).1.sc = u.sc := by
  unfold wcorrEntry
  dsimp only
  split
  · rfl
  · exact put_sc ..

@[simp] theorem wcorrEntry_running (f : VF) (u : VecUnit) (e : Nat) : (wcorrEntry f u e).1.running = u.running := by
  unfold wcorrEntry
  dsimp only
  split
  · rfl
  · exact put_running ..

theorem wcorrAll_sc (f : VF) : ∀ (es : List Nat) (u : VecUnit), (wcorrAll f u es).1.sc = u.sc
  | [], _ => rfl
  | e :: es, u => (wcorrAll_sc f es _).trans (wcorrEntry_sc f u e)

theorem wcorrAll_running (f : VF) : ∀ (es : List Nat) (u : VecUnit), (wcorrAll f u es).1.running = u.running
  | [], _ => rfl
  | e :: es, u => (wcorrAll_running f es _).trans (wcorrEntry_running f u e)

/-- The entries of a WCORR's table. -/
def State.wcorrTable (s : State) (unit : Nat) (f : VF) : List Nat :=
  (List.range f.n).map fun i => (s.srcA unit f (2 * i)).toNat + 2 ^ 32 * (s.srcA unit f (2 * i + 1)).toNat

theorem vWcorr_issues (unit : Nat) (f : VF) : Issues (execVWcorr unit f) unit 0x49 f (f.setsOf (2 * f.n)) true
    fun s _ => (wcorrAll f (s.unit unit) (s.wcorrTable unit f)).1 where
  issue := ⟨_, _, fun _ => rfl, by
    rintro s _ r ⟨F, rfl⟩
    exact ⟨_, .countClamps (.ite ⟨F, rfl⟩ (.tcount ⟨F, rfl⟩ ..)) .., rfl⟩⟩
  pc s := by rw [wcorrAll_running]

/-! ### The obligation -/

/-- Settles O9: each instruction leaves its unit as its issue says. QNT and DQT with microscaling codes, and the mask of a WCORR target beyond word 4,095, are those of log entry 65. -/
theorem vectorConversionResult : Obligations.VectorConversionResult := by
  refine ⟨?qnt, ?dqt, ?mxq, fun s unit f r hw hready hfit => vQsite_result hw hready hfit, ?corr, ?wcorr⟩
  case qnt =>
    intro s unit f r hw hready hfit
    obtain ⟨t, hnext, hadvanced, hsc, hrun⟩ := (vQnt_issues unit f).writesRun hw hready (fmtBits_le _) (fmtBits_pos _) hfit
      (by simp only [State.qntElems, State.srcWords, List.map_map]; rfl)
    exact ⟨t, hnext, hadvanced, hsc, hrun, fun fm v hfm => qntElem_of_fmtOf hfm v⟩
  case dqt =>
    intro s unit f r hw hready hfit
    exact (vDqt_issues unit f).writesRun hw hready (by decide) (by decide) (by omega) (List.map_map ..)
  case mxq =>
    rintro s unit f r fm emax _ hw hready hfm hfit hscales rfl
    exact vMxq_result hw hready hfm hfit hscales
  case corr =>
    rintro s unit f r _ _ _ hw hready hfit rfl rfl rfl
    refine (vCorr_issues unit f).writesRun hw hready (by decide) (by decide) (by omega) ?_
    rw [zipIdx_eq_range_map (Val.fin false 0 0), State.corrRow_length, List.map_map, List.map_map]
    rfl
  case wcorr =>
    intro s unit f r hw hready
    obtain ⟨t, hnext, hadvanced, hunit⟩ := (vWcorr_issues unit f).completes hw hready
    refine ⟨t, hnext, hadvanced, ?_, ?_⟩
    · rw [hunit, VecUnit.goOn_sc, wcorrAll_sc]
    · rw [hunit, VecUnit.goOn_buf]
      rfl

end Sys2Proof.Machine
end

section
/-! Reductions, selections and the escape state of the vector engine (R48, R119, R120, R124): what each issues, and the obligations about their results. -/

namespace Sys2Proof.Machine

@[simp] theorem VecUnit.setScalar_buf (u : VecUnit) (k : Nat) (w : BitVec 32) : (u.setScalar k w).buf = u.buf := rfl
@[simp] theorem VecUnit.scalar_setScalar_self (u : VecUnit) (k : Nat) (w : BitVec 32) : (u.setScalar k w).scalar k = w := mget_mset_self ..

/-! ### Sums and reductions (R119) -/

/-- An instruction whose issue leaves the buffer completes with its scalars. -/
theorem writesScalars_of_issues {c : Instr} {unit opc : Nat} {f : VF} {sets : List Nat} {release : Bool} {post : State → VecUnit → VecUnit} {sc : State → SMap (BitVec 32)}
    (h : Issues (exec c) unit opc f sets release post) (hsc : ∀ s, (post s (s.unit unit)).sc = sc s) (hbuf : ∀ s, (post s (s.unit unit)).buf = (s.unit unit).buf) :
    Claims.WritesScalars c unit opc f sets sc := by
  intro s r hw hready
  obtain ⟨t, hnext, hadvanced, hunit⟩ := h.completes hw hready
  refine ⟨t, hnext, hadvanced, ?_, ?_⟩
  · rw [hunit, VecUnit.goOn_sc, hsc]
  · rw [hunit, VecUnit.goOn_buf, hbuf]

theorem vStat_issues (unit : Nat) (f : VF) : Issues (execVStat unit f) unit 0x30 f f.setsRead true
    fun s u => (u.setScalar f.scD (addF32 ((s.unit unit).scalar f.scD) (laneSum (s.srcWords unit f)))).setScalar (f.scD + 1)
      (addF32 ((s.unit unit).scalar (f.scD + 1)) (squareSum (s.srcWords unit f))) where
  issue := ⟨_, _, fun _ => rfl, by
    rintro s _ r ⟨F, rfl⟩
    exact ⟨_, .countClamps ⟨F, rfl⟩ .., rfl⟩⟩
  pc _ := rfl

theorem axisGroups_whole (n : Nat) (xs : List (Nat × BitVec 32)) : axisGroups 2 n xs = [xs] := rfl

section Axis

variable (unit : Nat) {f : VF}

/-- A reduction along the whole run leaves its result in SC[DST]. -/
theorem vecRed_issues_whole (opc : Nat) (g : List (Nat × BitVec 32) → Fw) (haxis : f.mod % 4 = 2) : Issues (vecRed unit opc f g) unit opc f f.setsRead true
    fun s u => u.setScalar f.scD (g (s.srcWords unit f)).w where
  issue := by
    refine ⟨?lanes, ?eff, fun s => ?run, ?counted⟩
    case run =>
      simp only [vecRed, haxis, show ¬ 2 = 3 by decide, if_true, if_false, axisGroups_whole]
      rfl
    case counted =>
      rintro s _ r ⟨F, rfl⟩
      exact ⟨_, .countClamps ⟨F, rfl⟩ .., rfl⟩
  pc _ := rfl

/-- A reduction along a tile's axis leaves one word for each group. -/
theorem vecRed_issues_tile (opc : Nat) (g : List (Nat × BitVec 32) → Fw) (haxis : f.mod % 4 < 2) : Issues (vecRed unit opc f g) unit opc f f.setsRead true
    fun s u => u.puts f.dst (((axisGroups (f.mod % 4) f.n (s.srcWords unit f)).map g).map (·.w)) where
  issue := by
    refine ⟨?lanes, ?eff, fun s => ?run, ?counted⟩
    case run =>
      simp only [vecRed, show ¬ f.mod % 4 = 3 by omega, show ¬ f.mod % 4 = 2 by omega, if_false]
      rfl
    case counted =>
      rintro s _ r ⟨F, rfl⟩
      exact ⟨_, .countClamps ⟨F, rfl⟩ .., rfl⟩
  pc s := by rw [puts_running]

/-- A RAMX along the whole run leaves the value and the index of the greatest element. -/
theorem vRamx_issues_whole (haxis : f.mod % 4 = 2) : Issues (execVRamx unit f) unit 0x53 f f.setsRead true
    fun s u => (u.setScalar f.scD (ramx (s.srcWords unit f)).2).setScalar (f.scD + 1) (BitVec.ofNat 32 (ramx (s.srcWords unit f)).1) where
  issue := by
    refine ⟨?lanes, ?eff, fun s => ?run, ?counted⟩
    case run =>
      simp only [execVRamx, haxis, show ¬ 2 = 3 by decide, if_true, if_false, axisGroups_whole]
      rfl
    case counted =>
      rintro s _ r ⟨F, rfl⟩
      exact ⟨_, ⟨F, rfl⟩, rfl⟩
  pc _ := rfl

/-- A RAMX along a tile's axis leaves the values of its groups, and no indices (log entry 65). -/
theorem vRamx_issues_tile (haxis : f.mod % 4 < 2) : Issues (execVRamx unit f) unit 0x53 f f.setsRead true
    fun s u => u.puts f.dst (((axisGroups (f.mod % 4) f.n (s.srcWords unit f)).map ramx).map (·.2)) where
  issue := by
    refine ⟨?lanes, ?eff, fun s => ?run, ?counted⟩
    case run =>
      simp only [execVRamx, show ¬ f.mod % 4 = 3 by omega, show ¬ f.mod % 4 = 2 by omega, if_false]
      rfl
    case counted =>
      rintro s _ r ⟨F, rfl⟩
      exact ⟨_, ⟨F, rfl⟩, rfl⟩
  pc s := by rw [puts_running]

end Axis

theorem reduces_of_vecRed {c : Instr} {unit opc : Nat} {f : VF} (g : List (Nat × BitVec 32) → Fw) (hc : ∀ s, exec c s = vecRed unit opc f g s) :
    Claims.Reduces c unit opc f fun xs => (g xs).w :=
  ⟨fun haxis => writesScalars_of_issues ((vecRed_issues_whole unit opc g haxis).congr hc) (fun _ => rfl) fun _ => rfl,
    fun haxis => writesWords_of_issues ((vecRed_issues_tile unit opc g haxis).congr hc) fun _ => List.map_map ..⟩

/-! ### Selections (R120) -/

/-- A selection of `k` has `k` elements: where there are fewer, the rest is filled up. -/
theorem topK_length (k : Nat) (xs : List (Nat × BitVec 32)) : (topK k xs).length = k := by
  have hle : ∀ (xs l : List (Nat × BitVec 32)), l.length ≤ k → (xs.foldl (fun l x => (rankInsert x l).take k) l).length ≤ k := by
    intro xs
    induction xs with
    | nil => exact fun l hl => hl
    | cons x xs ih => exact fun l _ => ih _ (by simp)
  have hkept := hle xs [] (Nat.zero_le k)
  simp only [topK, List.length_append, List.length_map, List.length_replicate]
  omega

/-- The selected values at DST and their indices behind them. -/
def VecUnit.putTop (u : VecUnit) (f : VF) (top : List (Nat × BitVec 32)) : VecUnit :=
  (u.puts f.dst (top.map (·.2))).puts (f.dst + f.mod + 1) (top.map fun x => BitVec.ofNat 32 x.1)

theorem VecUnit.putTop_running (u : VecUnit) (f : VF) (top : List (Nat × BitVec 32)) : (u.putTop f top).running = u.running :=
  (puts_running ..).trans (puts_running ..)
theorem VecUnit.putTop_sc (u : VecUnit) (f : VF) (top : List (Nat × BitVec 32)) : (u.putTop f top).sc = u.sc := (puts_sc ..).trans (puts_sc ..)

theorem VecUnit.putTop_words (u : VecUnit) {f : VF} {top : List (Nat × BitVec 32)} (htop : top.length = f.mod + 1) (hfit : f.dst + 2 * (f.mod + 1) ≤ 4096) :
    (∀ i (h : i < top.length), (u.putTop f top).word (f.dst + i) = top[i].2 ∧ (u.putTop f top).word (f.dst + f.mod + 1 + i) = BitVec.ofNat 32 top[i].1) ∧
    ∀ a, (a < f.dst ∨ f.dst + 2 * (f.mod + 1) ≤ a) → (u.putTop f top).word a = u.word a := by
  have hvalues : (top.map (·.2)).length = f.mod + 1 := by simpa using htop
  have hindices : (top.map fun x => BitVec.ofNat 32 x.1).length = f.mod + 1 := by simpa using htop
  obtain ⟨hin, hout⟩ := wordsAre_puts u (dst := f.dst) (ws := top.map (·.2)) (by omega)
  obtain ⟨hin', hout'⟩ := wordsAre_puts (u.puts f.dst (top.map (·.2))) (dst := f.dst + f.mod + 1) (ws := top.map fun x => BitVec.ofNat 32 x.1) (by omega)
  refine ⟨fun i hi => ⟨?value, ?index⟩, fun a ha => (hout' a (by omega)).trans (hout a (by omega))⟩
  case value => exact (hout' _ (by omega)).trans ((hin i (by omega)).trans (List.getElem_map ..))
  case index => exact (hin' i (by omega)).trans (List.getElem_map ..)

theorem vTopk_issues (unit : Nat) (f : VF) : Issues (execVTopk unit f) unit 0x54 f f.setsRead false
    fun s u => u.putTop f (topK (f.mod + 1) ((s.srcWords unit f).map fun x => (((s.unit unit).scalar 15).toNat + x.1, x.2))) where
  issue := ⟨_, _, fun _ => rfl, by
    rintro s _ r ⟨F, rfl⟩
    exact ⟨_, ⟨F, rfl⟩, rfl⟩⟩
  pc s := by rw [VecUnit.putTop_running]

theorem vTopki_issues (unit : Nat) (f : VF) : Issues (execVTopki unit f) unit 0x55 f f.setsRead false
    fun s u => u.putTop f (topK (f.mod + 1) ((s.srcWords unit f).map fun x => (((s.unit unit).word (f.srcb + x.1)).toNat, x.2))) where
  issue := ⟨_, _, fun _ => rfl, by
    rintro s _ r ⟨F, rfl⟩
    exact ⟨_, ⟨F, rfl⟩, rfl⟩⟩
  pc s := by rw [VecUnit.putTop_running]

theorem selects_of_issues {c : Instr} {unit opc : Nat} {f : VF} {xs : State → List (Nat × BitVec 32)}
    (h : Issues (exec c) unit opc f f.setsRead false fun s u => u.putTop f (topK (f.mod + 1) (xs s))) : Claims.Selects c unit opc f xs := by
  intro s r hw hready hfit
  obtain ⟨t, hnext, hadvanced, hunit⟩ := h.completes hw hready
  obtain ⟨hselected, hout⟩ := (s.unit unit).putTop_words (topK_length (f.mod + 1) (xs s)) hfit
  refine ⟨t, hnext, hadvanced, ?_, ?_, ?_⟩
  · rw [hunit, VecUnit.goOn_sc, VecUnit.putTop_sc]
  · rw [hunit]
    exact hselected
  · rw [hunit]
    exact hout

/-- Settles O10: STAT and the reductions along the whole run write scalars, the tile axes and the selections write words; RAMX along a tile's axis writes values and no indices (log entry 65). -/
theorem vectorReductionResult : Obligations.VectorReductionResult :=
  ⟨fun unit f => writesScalars_of_issues ((vStat_issues unit f).congr fun _ => rfl) (fun _ => rfl) fun _ => rfl,
    fun _ _ => reduces_of_vecRed laneSumF fun _ => rfl,
    fun _ _ => reduces_of_vecRed (fun xs => { w := toF32 ((xs.map fun x => f32 x.2).foldl Val.max (f32 ninfF)) }) fun _ => rfl,
    fun _ _ => reduces_of_vecRed (fun xs => { w := toF32 ((xs.map fun x => f32 x.2).foldl Val.min (f32 infF)) }) fun _ => rfl,
    fun unit _ haxis => writesScalars_of_issues ((vRamx_issues_whole unit haxis).congr fun _ => rfl) (fun _ => rfl) fun _ => rfl,
    fun unit _ haxis => writesWords_of_issues ((vRamx_issues_tile unit haxis).congr fun _ => rfl) fun _ => List.map_map ..,
    fun unit f => selects_of_issues ((vTopk_issues unit f).congr fun _ => rfl), fun unit f => selects_of_issues ((vTopki_issues unit f).congr fun _ => rfl)⟩

/-! ### The escape state (R124) -/

theorem vEmap_issues (unit : Nat) (f : VF) : Issues (execVEmap unit f) unit 0x45 f f.setsRead true
    fun s u => { (u.setScalar 11 0) with mapRows := (List.range f.n).map fun i => (s.srcA unit f i).toNat, cands := [] } where
  issue := ⟨_, _, fun _ => rfl, by
    rintro s _ r ⟨F, rfl⟩
    exact ⟨_, ⟨F, rfl⟩, rfl⟩⟩
  pc _ := rfl

/-- The elements of an OSCAN that are outliers. -/
def State.outliers (s : State) (unit : Nat) (f : VF) : List (Nat × BitVec 32) :=
  (s.srcWords unit f).filter fun x => isOutlier f.q (f32 x.2) (f32 ((s.unit unit).scalar f.scB))

/-- The outliers of an OSCAN that stand on the map. -/
def State.outliersOn (s : State) (unit : Nat) (f : VF) : List (Nat × BitVec 32) :=
  (s.outliers unit f).filter fun x => (s.unit unit).mapRows.contains (((s.unit unit).scalar 13).toNat + x.1)

/-- What an OSCAN leaves (R124). -/
def State.oscanned (s : State) (unit : Nat) (f : VF) (u : VecUnit) : VecUnit :=
  let pos := ((s.unit unit).scalar 13).toNat
  let xs := s.srcWords unit f
  let top := xs.foldl (fun a x => let v := f32 x.2; if v.finite then toF32 ((f32 a).max v.abs) else a) ((s.unit unit).scalar 14)
  let u := ((u.setScalar 14 top).setScalar 11 (u.scalar 11 + BitVec.ofNat 32 ((s.outliers unit f).length - (s.outliersOn unit f).length))).setScalar 13 (BitVec.ofNat 32 (pos + f.n))
  { u with
    cands := u.cands ++ (s.outliersOn unit f).map fun x =>
      { pos := pos + x.1, value := BitVec.ofNat 16 (escValue f.q (f32 ((s.unit unit).scalar f.scB)) (f32 x.2)).code }
    running := u.running.map fun r => { r with finite := r.finite || xs.any fun x => (f32 x.2).finite } }

theorem vOscan_issues (unit : Nat) (f : VF) : Issues (execVOscan unit f) unit 0x43 f f.setsRead true fun s => s.oscanned unit f where
  issue := ⟨_, _, fun _ => rfl, by
    rintro s _ r ⟨F, rfl⟩
    exact ⟨_, .countNarrow ⟨F, rfl⟩ .., rfl⟩⟩
  pc _ := Option.map_map ..

/-- The position and value words of the candidates that an ESCF keeps. -/
def escWords (cands : List Cand) : List (BitVec 32) := (keep8 cands).flatMap fun c => [BitVec.ofNat 32 c.pos, c.value.setWidth 32]

theorem vEscf_issues (unit : Nat) (f : VF) : Issues (execVEscf unit f) unit 0x44 f [] false
    fun s u => (u.puts f.dst (escWords (s.unit unit).cands)).setScalar 12 (BitVec.ofNat 32 (keep8 (s.unit unit).cands).length) where
  issue := ⟨_, _, fun _ => rfl, by
    rintro s _ r ⟨F, rfl⟩
    have hescaped : Counted s (if keep8 (s.unit unit).cands = [] then { s with faults := F }
      else ({ s with faults := F } : State).tcount r.tenant 0xA100 2 (keep8 (s.unit unit).cands).length) := .ite ⟨F, rfl⟩ (.tcount ⟨F, rfl⟩ ..)
    exact ⟨_, .ite (hescaped.tcount ..) hescaped, rfl⟩⟩
  pc s := congrArg _ (puts_running ..)

theorem escWords_length (cands : List Cand) : (escWords cands).length = 2 * (keep8 cands).length := by
  simp [escWords, List.length_flatMap, Nat.mul_comm]

theorem puts_cands : ∀ (ws : List (BitVec 32)) (u : VecUnit) (a : Nat), (u.puts a ws).cands = u.cands
  | [], _, _ => rfl
  | w :: ws, u, a => (puts_cands ws _ _).trans (by unfold VecUnit.put; split <;> rfl)

/-- Settles O11: each instruction leaves its unit as its issue says. -/
theorem vectorEscapeResult : Obligations.VectorEscapeResult := by
  refine ⟨fun s unit f r hw hready => ?emap, fun s unit f r hw hready => ?oscan, fun s unit f r hw hfit => ?escf⟩
  case emap =>
    obtain ⟨t, hnext, hadvanced, hunit⟩ := (vEmap_issues unit f).completes hw hready
    refine ⟨t, hnext, hadvanced, ?_, ?_, ?_, ?_⟩
    all_goals
      rw [hunit]
      rfl
  case oscan =>
    obtain ⟨t, hnext, hadvanced, hunit⟩ := (vOscan_issues unit f).completes hw hready
    refine ⟨t, hnext, hadvanced, ?_, ?_, ?_, ?_⟩
    · rw [hunit]; rfl
    · rw [hunit]; rfl
    · rw [hunit]; exact VecUnit.scalar_setScalar_self ..
    · rw [hunit]; rfl
  case escf =>
    obtain ⟨t, hnext, hadvanced, hunit⟩ := (vEscf_issues unit f).completes hw (ready_nil s unit)
    have hwords := wordsAre_puts (s.unit unit) (dst := f.dst) (ws := escWords (s.unit unit).cands) (by rwa [escWords_length])
    refine ⟨t, hnext, hadvanced, ?_, ?_, ?_⟩
    · rw [hunit]; exact puts_cands ..
    · rw [hunit]; exact VecUnit.scalar_setScalar_self ..
    · rw [hunit]; exact ⟨hwords.1, hwords.2⟩

end Sys2Proof.Machine
end

section
/-! Loads, stores, scalar operations, and the begin and end of a vector program (R111, R115, R116, R128): what each answers, and the obligations about them. -/

namespace Sys2Proof.Machine

/-! ### Loads and stores (R128) -/

/-- A load or store whose place exists is issued: its effect at the flat address where the unit's tenant owns it, else the discard of R22. -/
theorem vecMem_of_placed {s : State} {unit opc : Nat} {f : VF} {sets : List Nat} {r : Running} {p : Place} {a e : Nat} (eff : Nat → State → State)
    (hw : s.nextWord unit (f.encode opc) = some r) (hp : s.lsPlace unit f = some p) (ha : p.flat = some a) (he : (p.plus (4 * f.n - 1)).flat = some e)
    (hready : Claims.Ready s unit sets) :
    ∃ s1, Counted s s1 ∧ vecMem unit opc f sets s eff = .next ((if s.ownerAt a = r.tenant then eff a s1 else s1.discardXfer r.tenant a).issued unit f sets true) := by
  obtain ⟨F, hF⟩ := tcount_changes s r.tenant 0xA500 2 (cdiv f.n 16)
  refine ⟨{ s with faults := F }, ⟨F, rfl⟩, ?_⟩
  simp only [vecMem, hp, hw, ha, he]
  rw [vecIssue_of_ready 16 true _ hw hready, hF]
  rfl

/-- An instruction that reads no set releases none. -/
theorem State.issued_nil (s : State) (unit : Nat) (f : VF) (release : Bool) : s.issued unit f [] release = s.modUnit unit VecUnit.goOn := by
  simp [issued]

/-- The words that an LD reads at a flat address. -/
def State.ldWords (s : State) (f : VF) (a : Nat) : List (BitVec 32) := (List.range f.n).map fun i => BitVec.ofNat 32 (s.word (a + 4 * i) 4)

theorem vLd_result {s : State} {unit : Nat} {f : VF} {r : Running} {p : Place} {a e : Nat} (hw : s.nextWord unit (f.encode 0x68) = some r)
    (hp : s.lsPlace unit f = some p) (ha : p.flat = some a) (he : (p.plus (4 * f.n - 1)).flat = some e) (hfit : f.dst + f.n ≤ 4096) :
    ∃ t, execVLd unit f s = .next t ∧ Claims.Advanced s t unit r ∧ (t.unit unit).sc = (s.unit unit).sc ∧ t.mem = s.mem ∧
      Claims.WordsAre (s.unit unit) (t.unit unit) f.dst (if s.ownerAt a = r.tenant then s.ldWords f a else []) := by
  obtain ⟨_, ⟨F, rfl⟩, hnext⟩ := vecMem_of_placed (fun a s => s.modUnit unit fun u => u.puts f.dst (s.ldWords f a)) hw hp ha he (ready_nil s unit)
  refine ⟨_, hnext, ?_⟩
  rw [State.issued_nil]
  by_cases hown : s.ownerAt a = r.tenant
  · rw [if_pos hown, if_pos hown]
    have hunit := unit_modUnit_self { s with faults := F } unit fun u => u.puts f.dst (s.ldWords f a)
    have hgone := (unit_modUnit_self _ unit VecUnit.goOn).trans (congrArg VecUnit.goOn hunit)
    refine ⟨advanced_of_goOn hw hgone (congrArg _ (puts_running ..)) fun v hv => ?_, ?_, rfl, ?_⟩
    · rw [unit_modUnit_ne _ _ _ _ hv, unit_modUnit_ne _ _ _ _ hv]
      rfl
    · exact (congrArg VecUnit.sc hgone).trans (puts_sc ..)
    · exact hgone ▸ wordsAre_goOn (wordsAre_puts _ (by simpa [State.ldWords] using hfit))
  · rw [if_neg hown, if_neg hown]
    have hkept : ∀ v, (State.discardXfer { s with faults := F } r.tenant a).unit v = s.unit v := State.unit_congr (State.discardXfer_vec ..)
    have hgone := (unit_modUnit_self _ unit VecUnit.goOn).trans (congrArg VecUnit.goOn (hkept unit))
    refine ⟨advanced_of_goOn hw hgone rfl fun v hv => ?_, ?_, ?_, ?_⟩
    · rw [unit_modUnit_ne _ _ _ _ hv, hkept]
    · rw [hgone, VecUnit.goOn_sc]
    · exact raise_mem ..
    · exact hgone ▸ ⟨fun i hi => absurd hi (Nat.not_lt_zero i), fun _ _ => rfl⟩

theorem le_length : ∀ n v : Nat, (le n v).length = n
  | 0, _ => rfl
  | n + 1, v => congrArg (· + 1) (le_length n (v / 256))

/-- Octet `k` of a number. -/
theorem le_getElem? : ∀ {n k : Nat} (v : Nat), k < n → (le n v)[k]? = some (v / 256 ^ k % 256)
  | n + 1, 0, v, _ => by simp [le]
  | n + 1, k + 1, v, h => by
    rw [le, List.getElem?_cons_succ, le_getElem? _ (Nat.lt_of_succ_lt_succ h), Nat.div_div_eq_div_mul, Nat.pow_succ']

/-- The octets that an ST writes. -/
def State.stBytes (s : State) (unit : Nat) (f : VF) : Bytes := (s.srcWords unit f).flatMap fun x => le 4 x.2.toNat

theorem State.stBytes_eq (s : State) (unit : Nat) (f : VF) :
    s.stBytes unit f = (List.range (f.n * 4)).map fun j => ((le 4 (s.srcA unit f (j / 4)).toNat)[j % 4]?).getD 0 := by
  rw [stBytes, srcWords, List.flatMap_map, ← flatMap_range_of_length (by decide) (g := fun i => le 4 (s.srcA unit f i).toNat) fun _ => le_length ..]

/-- An ST's octets stand at its place, and every other byte stays. -/
theorem byte_setBytes_stBytes (s t : State) (unit : Nat) (f : VF) (a : Nat) :
    (∀ i k, i < f.n → k < 4 → (t.setBytes a (s.stBytes unit f)).byte (a + 4 * i + k) = (s.srcA unit f i).toNat / 256 ^ k % 256) ∧
    ∀ x, (x < a ∨ a + 4 * f.n ≤ x) → (t.setBytes a (s.stBytes unit f)).byte x = t.byte x := by
  have hlength : (s.stBytes unit f).length = f.n * 4 := by simp [State.stBytes_eq]
  refine ⟨fun i k hi hk => ?_, fun x hx => byte_setBytes_out t a x _ (by omega)⟩
  have hoctet : (s.stBytes unit f)[4 * i + k]'(by omega) = (s.srcA unit f i).toNat / 256 ^ k % 256 := by
    simp only [State.stBytes_eq, List.getElem_map, List.getElem_range]
    rw [show (4 * i + k) / 4 = i by omega, show (4 * i + k) % 4 = k by omega, le_getElem? _ hk, Option.getD_some]
  rw [Nat.add_assoc, byte_setBytes_in t a (4 * i + k) _ (by omega), hoctet, Nat.mod_mod]

theorem vSt_result {s : State} {unit : Nat} {f : VF} {r : Running} {p : Place} {a e : Nat} (hw : s.nextWord unit (f.encode 0x69) = some r)
    (hp : s.lsPlace unit f = some p) (hready : Claims.Ready s unit f.setsRead) (ha : p.flat = some a) (he : (p.plus (4 * f.n - 1)).flat = some e) :
    ∃ t, execVSt unit f s = .next t ∧ Claims.Advanced s t unit r ∧ (t.unit unit).sc = (s.unit unit).sc ∧ (t.unit unit).buf = (s.unit unit).buf ∧
      (f.mbit 5 = false → s.ownerAt a = r.tenant →
        (∀ i k, i < f.n → k < 4 → t.byte (a + 4 * i + k) = (s.srcA unit f i).toNat / 256 ^ k % 256) ∧ ∀ x, (x < a ∨ a + 4 * f.n ≤ x) → t.byte x = s.byte x) ∧
      (f.mbit 5 = false → s.ownerAt a ≠ r.tenant → t.mem = s.mem) := by
  obtain ⟨_, ⟨F, rfl⟩, hnext⟩ := vecMem_of_placed (fun a s => s.setBytes a (s.stBytes unit f)) hw hp ha he hready
  refine ⟨_, hnext, ?_⟩
  generalize hs1 : (if s.ownerAt a = r.tenant then State.setBytes { s with faults := F } a (State.stBytes { s with faults := F } unit f)
    else State.discardXfer { s with faults := F } r.tenant a) = s1
  have hvec : s1.vec = s.vec := by
    subst hs1
    split
    · rfl
    · exact State.discardXfer_vec ..
  have hunits : ∀ v, s1.unit v = s.unit v := State.unit_congr hvec
  have hgone := (State.unit_issued_self s1 unit f f.setsRead true).trans (congrArg VecUnit.goOn (hunits unit))
  refine ⟨advanced_of_goOn hw hgone rfl fun v hv => ?_, ?_, ?_, fun hkept hown => ?_, fun hkept hown => ?_⟩
  · rw [State.unit_issued_ne _ _ _ _ _ hv, hunits]
  · rw [hgone, VecUnit.goOn_sc]
  · rw [hgone, VecUnit.goOn_buf]
  · rw [State.issued_of_kept _ _ _ (by simpa using hkept), ← hs1, if_pos hown]
    exact byte_setBytes_stBytes s { s with faults := F } unit f a
  · rw [State.issued_of_kept _ _ _ (by simpa using hkept), ← hs1, if_neg hown, modUnit_mem]
    exact raise_mem ..

/-! ### Scalars (R115, R116) -/

theorem execVSet_of_nextWord {s : State} {unit dst : Nat} {imm : BitVec 32} {r : Running}
    (hw : s.nextWord unit (BitVec.ofNat 64 (0x70 * 2 ^ 56 + dst * 2 ^ 32 + imm.toNat)) = some r) :
    execVSet unit dst imm s = .next ((s.tcount r.tenant 0xA500 2 1).modUnit unit fun u => (u.setScalar (dst % 16) imm).goOn) := by
  rw [execVSet, hw]
  rfl

theorem vSet_result {s : State} {unit dst : Nat} {imm : BitVec 32} {r : Running}
    (hw : s.nextWord unit (BitVec.ofNat 64 (0x70 * 2 ^ 56 + dst * 2 ^ 32 + imm.toNat)) = some r) :
    ∃ t, execVSet unit dst imm s = .next t ∧ Claims.Advanced s t unit r ∧ t.unit unit = ((s.unit unit).setScalar (dst % 16) imm).goOn := by
  obtain ⟨F, hF⟩ := tcount_changes s r.tenant 0xA500 2 1
  have hunit := unit_modUnit_self { s with faults := F } unit fun u => (u.setScalar (dst % 16) imm).goOn
  refine ⟨_, (execVSet_of_nextWord hw).trans (by rw [hF]), advanced_of_goOn hw hunit rfl fun v hv => unit_modUnit_ne _ _ _ _ hv, hunit⟩

theorem vecSop_issues (unit : Nat) {code : Nat} {f : VF} (hcode : f.mod = code) (g : BitVec 32 → BitVec 32 → Fw) : Issues (vecSop unit code f g) unit 0x71 f [] false
    fun s u => u.setScalar f.scD (g ((s.unit unit).scalar f.scD) ((s.unit unit).scalar f.scB)).w where
  issue := by
    refine ⟨?lanes, ?eff, fun s => ?run, ?counted⟩
    case run => rw [vecSop, if_pos hcode]
    case counted =>
      rintro s _ r ⟨F, rfl⟩
      exact ⟨_, .countClamps ⟨F, rfl⟩ .., rfl⟩
  pc _ := rfl

theorem scalarOp_of_vecSop {c : Nat → VF → Instr} {code : Nat} (g : BitVec 32 → BitVec 32 → Fw) (hc : ∀ unit f s, exec (c unit f) s = vecSop unit code f g s)
    (unit : Nat) (f : VF) : Claims.ScalarOp (c unit f) unit code f fun a b => (g a b).w :=
  fun hcode => writesScalars_of_issues ((vecSop_issues unit hcode g).congr (hc unit f)) (fun _ => rfl) fun _ => rfl

/-- Settles O12: LD and ST by what their place's owner lets them do, SET by its equation, the scalar operations by the shared one. -/
theorem vectorMoveResult : Obligations.VectorMoveResult := by
  refine ⟨fun s unit f r p a e hw hp ha he hfit => vLd_result hw hp ha he hfit, fun s unit f r p a e hw hp hready ha he => vSt_result hw hp hready ha he, ?set,
    scalarOp_of_vecSop addF fun _ _ _ => rfl, scalarOp_of_vecSop subF fun _ _ _ => rfl, scalarOp_of_vecSop mulF fun _ _ _ => rfl,
    scalarOp_of_vecSop (fun a b => { w := toF32 ((f32 a).max (f32 b)) }) fun _ _ _ => rfl, scalarOp_of_vecSop (fun a _ => { w := vrcp a, clamps := rcpClamp a }) fun _ _ _ => rfl,
    scalarOp_of_vecSop (fun a _ => { w := vrsq a }) fun _ _ _ => rfl⟩
  case set =>
    intro s unit dst imm r hw
    obtain ⟨t, hnext, hadvanced, hunit⟩ := vSet_result hw
    exact ⟨t, hnext, hadvanced, by rw [hunit, VecUnit.goOn_sc], by rw [hunit, VecUnit.goOn_buf, VecUnit.setScalar_buf]⟩

/-! ### Programs (R111, R116) -/

/-- VPROG of a dispatched operation whose unit runs no program. -/
theorem exec_vprog {s : State} {slot : Nat} {o : Op} (ho : s.opIn slot .vprog .dispatched = some o) (hidle : (s.unit o.podOf).running = none) :
    exec (.vprog slot) s = .next ((s.startUnit slot o (s.opProgram o)).loadScalars o) := by
  change execVprog slot s = _
  simp only [execVprog, ho]
  exact listed_true (decide_eq_true hidle)

/-- END of a unit whose next word is an END. -/
theorem exec_vEnd {s : State} {unit : Nat} {r : Running} (hr : (s.unit unit).running = some r) (hend : ((r.words[r.pc]?).getD 0).toNat / 2 ^ 56 = 0x7F) :
    exec (.vEnd unit) s = .next ((s.tcount r.tenant 0xA500 2 1).endProgram unit r) := by
  change execVEnd unit s = _
  simp only [execVEnd, hr, if_pos hend]

/-- Settles O13: each command by its equation above. -/
theorem vectorProgramsRun : Obligations.VectorProgramsRun :=
  ⟨fun _ _ _ => exec_vprog, fun _ _ _ => exec_vEnd⟩

end Sys2Proof.Machine
end

section
/-! Indexed moves of the vector engine (R112, R127): what GATH and SCAT write and count, and the obligation about them. -/

namespace Sys2Proof.Machine

/-! ### What GATH and SCAT write -/

/-- The words of `u` that the indices name, put from word `dst` of `v` on; a masked one keeps its contents. -/
def VecUnit.gathered (u v : VecUnit) (dst : Nat) (idx : Nat → Nat) (n : Nat) : VecUnit :=
  (List.range n).foldl (fun v i => if 4095 < idx i then v else v.put (dst + i) (u.word (idx i))) v

theorem VecUnit.gathered_succ (u v : VecUnit) (dst : Nat) (idx : Nat → Nat) (n : Nat) :
    u.gathered v dst idx (n + 1) = if 4095 < idx n then u.gathered v dst idx n else (u.gathered v dst idx n).put (dst + n) (u.word (idx n)) := by
  simp [gathered, List.range_succ]

/-- Elements put where their indices name a word, in ascending order; a masked one is put nowhere. -/
def VecUnit.scattered (v : VecUnit) (key : Nat × BitVec 32 → Nat) (xs : List (Nat × BitVec 32)) : VecUnit :=
  xs.foldl (fun v x => if 4095 < key x then v else v.put (key x) x.2) v

theorem VecUnit.gathered_sc (u v : VecUnit) (dst : Nat) (idx : Nat → Nat) (n : Nat) : (u.gathered v dst idx n).sc = v.sc :=
  foldl_kept VecUnit.sc (fun v i => by split <;> simp only [put_sc]) _ v

theorem VecUnit.gathered_running (u v : VecUnit) (dst : Nat) (idx : Nat → Nat) (n : Nat) : (u.gathered v dst idx n).running = v.running :=
  foldl_kept VecUnit.running (fun v i => by split <;> simp only [put_running]) _ v

theorem VecUnit.gathered_word (u v : VecUnit) (dst : Nat) (idx : Nat → Nat) (a : Nat) : ∀ n, dst + n ≤ 4096 →
    (u.gathered v dst idx n).word a = if (dst ≤ a ∧ a < dst + n) ∧ idx (a - dst) ≤ 4095 then u.word (idx (a - dst)) else v.word a
  | 0, _ => by
    rw [if_neg (by omega)]
    rfl
  | n + 1, hfit => by
    have ih := gathered_word u v dst idx a n (by omega)
    rw [gathered_succ]
    by_cases ha : a = dst + n
    · subst ha
      rw [if_neg (by omega)] at ih
      by_cases hmasked : 4095 < idx n
      · rw [if_pos hmasked, ih, Nat.add_sub_cancel_left, if_neg (by omega)]
      · rw [if_neg hmasked, word_put_self (by omega), Nat.add_sub_cancel_left, if_pos (by omega)]
    · have hput : (if 4095 < idx n then u.gathered v dst idx n else (u.gathered v dst idx n).put (dst + n) (u.word (idx n))).word a = (u.gathered v dst idx n).word a := by
        split
        · rfl
        · exact word_put_ne ha _
      have hrange : dst ≤ a ∧ a < dst + (n + 1) ↔ dst ≤ a ∧ a < dst + n := by omega
      rw [hput, ih]
      simp only [hrange]

/-- A gathered run, by its words. -/
theorem wordsAre_gathered (u : VecUnit) {dst n : Nat} (idx : Nat → Nat) (hfit : dst + n ≤ 4096) :
    Claims.WordsAre u (u.gathered u dst idx n) dst ((List.range n).map fun i => if 4095 < idx i then u.word (dst + i) else u.word (idx i)) := by
  refine ⟨fun i hi => ?_, fun a ha => ?_⟩
  · have hlt : i < n := by simpa using hi
    rw [VecUnit.gathered_word _ _ _ _ _ _ hfit, List.getElem_map, List.getElem_range, Nat.add_sub_cancel_left]
    by_cases hmasked : 4095 < idx i
    · rw [if_neg (by omega), if_pos hmasked]
    · rw [if_pos (by omega), if_neg hmasked]
  · rw [List.length_map, List.length_range] at ha
    rw [VecUnit.gathered_word _ _ _ _ _ _ hfit, if_neg (by omega)]

theorem VecUnit.scattered_append (v : VecUnit) (key : Nat × BitVec 32 → Nat) (xs : List (Nat × BitVec 32)) (x : Nat × BitVec 32) :
    v.scattered key (xs ++ [x]) = if 4095 < key x then v.scattered key xs else (v.scattered key xs).put (key x) x.2 := by
  simp [scattered]

theorem VecUnit.scattered_sc (v : VecUnit) (key : Nat × BitVec 32 → Nat) (xs : List (Nat × BitVec 32)) : (v.scattered key xs).sc = v.sc :=
  foldl_kept VecUnit.sc (fun v x => by split <;> simp only [put_sc]) xs v

theorem VecUnit.scattered_running (v : VecUnit) (key : Nat × BitVec 32 → Nat) (xs : List (Nat × BitVec 32)) : (v.scattered key xs).running = v.running :=
  foldl_kept VecUnit.running (fun v x => by split <;> simp only [put_running]) xs v

/-- A word after a scatter is the last element whose index names it. -/
theorem VecUnit.scattered_word (v : VecUnit) (key : Nat × BitVec 32 → Nat) (a : Nat) (xs : List (Nat × BitVec 32)) :
    (v.scattered key xs).word a = ((xs.reverse.find? fun x => decide (key x = a ∧ a < 4096)).map (·.2)).getD (v.word a) := by
  induction xs using List.reverseRecOn with
  | nil => rfl
  | append_singleton xs x ih =>
    rw [scattered_append, List.reverse_append, List.reverse_singleton, List.singleton_append, List.find?_cons]
    by_cases hnamed : key x = a ∧ a < 4096
    · obtain ⟨rfl, hlt⟩ := hnamed
      simp [hlt, show ¬ 4095 < key x by omega]
    · rw [decide_eq_false hnamed, ← ih]
      by_cases hmasked : 4095 < key x
      · rw [if_pos hmasked]
      · rw [if_neg hmasked, word_put_ne (by omega)]

/-! ### What they issue -/

/-- The index that a GATH or SCAT takes for its element `i`. -/
def State.indexAt (s : State) (unit : Nat) (f : VF) (i : Nat) : Nat := ((s.unit unit).word (f.srcb + i)).toNat

theorem execVGath_eq (unit : Nat) (f : VF) (s : State) : execVGath unit f s = vecIssue unit 0x60 16 f [] false s fun r s =>
    (s.countOor r.tenant ((List.range f.n).filter fun i => decide (4095 < s.indexAt unit f i)).length).modUnit unit fun v =>
      (s.unit unit).gathered v f.dst (s.indexAt unit f) f.n := by
  unfold execVGath
  simp only [List.filter_map, List.length_map, List.foldl_map]
  rfl

theorem execVScat_eq (unit : Nat) (f : VF) (s : State) : execVScat unit f s = vecIssue unit 0x61 16 f f.setsRead true s fun r s =>
    (s.countOor r.tenant ((s.srcWords unit f).filter fun x => decide (4095 < s.indexAt unit f x.1)).length).modUnit unit fun v =>
      v.scattered (fun x => s.indexAt unit f x.1) (s.srcWords unit f) := by
  unfold execVScat
  simp only [List.filter_map, List.length_map, List.foldl_map]
  rfl

theorem vGath_issues (unit : Nat) (f : VF) : Issues (execVGath unit f) unit 0x60 f [] false
    fun s v => (s.unit unit).gathered v f.dst (s.indexAt unit f) f.n where
  issue := ⟨_, _, execVGath_eq unit f, by
    rintro s _ r ⟨F, rfl⟩
    exact ⟨_, .countOor ⟨F, rfl⟩ .., rfl⟩⟩
  pc s := by rw [VecUnit.gathered_running]

theorem vScat_issues (unit : Nat) (f : VF) : Issues (execVScat unit f) unit 0x61 f f.setsRead true
    fun s v => v.scattered (fun x => s.indexAt unit f x.1) (s.srcWords unit f) where
  issue := ⟨_, _, execVScat_eq unit f, by
    rintro s _ r ⟨F, rfl⟩
    exact ⟨_, .countOor ⟨F, rfl⟩ .., rfl⟩⟩
  pc s := by rw [VecUnit.scattered_running]

/-! ### What they count (R127) -/

theorem ite_length_eq_zero {α β : Type} (l : List α) (a b : β) : (if l.length = 0 then a else b) = if l = [] then a else b := by cases l <;> rfl

/-- VEC_IDX_OOR of a tenant after its masked indices are counted. -/
theorem counter_countOor (s : State) {t : Nat} (ht : t ≠ 0) (n : Nat) :
    (s.countOor t n).counter (0xA500 + t) 5 = if n = 0 then s.counter (0xA500 + t) 5 else min (s.counter (0xA500 + t) 5 + n) counterMax := by
  unfold State.countOor
  split
  · rfl
  · rw [State.tcount, if_neg ht]
    exact State.counter_count s n (by simp only [entryCode]; omega) (by simp only [entryCode]; omega)

/-- The beats of an instruction are no VEC_IDX_OOR. -/
theorem counter_beats (s : State) (t n : Nat) : (s.tcount t 0xA500 2 n).counter (0xA500 + t) 5 = s.counter (0xA500 + t) 5 := by
  unfold State.tcount
  split
  · rfl
  · exact State.counter_count_ne s n (by simp only [entryCode]; omega) (by simp only [entryCode]; omega) (by simp only [entryCode]; omega)

/-- VEC_IDX_OOR after an instruction that counts `m` masked indices and releases no set. -/
theorem counter_issued {s s1 : State} {r : Running} (hr : r.tenant ≠ 0) (unit : Nat) {f : VF} (sets : List Nat) {release : Bool} (hkept : (release && f.mbit 5) = false)
    (n m : Nat) (g : VecUnit → VecUnit) (hs1 : s1 = s.tcount r.tenant 0xA500 2 n) :
    (((s1.countOor r.tenant m).modUnit unit g).issued unit f sets release).counter (0xA500 + r.tenant) 5 =
      if m = 0 then s.counter (0xA500 + r.tenant) 5 else min (s.counter (0xA500 + r.tenant) 5 + m) counterMax := by
  subst hs1
  rw [State.issued_of_kept _ _ _ hkept, ← counter_beats s r.tenant n, ← counter_countOor _ hr]
  rfl

theorem counter_vGath {s t : State} {unit : Nat} {f : VF} {r : Running} (hw : s.nextWord unit (f.encode 0x60) = some r) (hnext : execVGath unit f s = .next t)
    (hr : r.tenant ≠ 0) :
    t.counter (0xA500 + r.tenant) 5 =
      if ((List.range f.n).filter fun i => decide (4095 < s.indexAt unit f i)).length = 0 then s.counter (0xA500 + r.tenant) 5
      else min (s.counter (0xA500 + r.tenant) 5 + ((List.range f.n).filter fun i => decide (4095 < s.indexAt unit f i)).length) counterMax := by
  rw [execVGath_eq, vecIssue_of_ready 16 false _ hw (ready_nil s unit)] at hnext
  obtain rfl := Host.Outcome.next.inj hnext
  obtain ⟨F, hF⟩ := tcount_changes s r.tenant 0xA500 2 (cdiv f.n 16)
  exact (counter_issued hr unit [] rfl (cdiv f.n 16) _ _ rfl).trans (by rw [hF]; rfl)

theorem counter_vScat {s t : State} {unit : Nat} {f : VF} {r : Running} (hw : s.nextWord unit (f.encode 0x61) = some r) (hready : Claims.Ready s unit f.setsRead)
    (hnext : execVScat unit f s = .next t) (hkept : f.mbit 5 = false) (hr : r.tenant ≠ 0) :
    t.counter (0xA500 + r.tenant) 5 =
      if ((s.srcWords unit f).filter fun x => decide (4095 < s.indexAt unit f x.1)).length = 0 then s.counter (0xA500 + r.tenant) 5
      else min (s.counter (0xA500 + r.tenant) 5 + ((s.srcWords unit f).filter fun x => decide (4095 < s.indexAt unit f x.1)).length) counterMax := by
  rw [execVScat_eq, vecIssue_of_ready 16 true _ hw hready] at hnext
  obtain rfl := Host.Outcome.next.inj hnext
  obtain ⟨F, hF⟩ := tcount_changes s r.tenant 0xA500 2 (cdiv f.n 16)
  exact (counter_issued hr unit _ (release := true) hkept (cdiv f.n 16) _ _ rfl).trans (by rw [hF]; rfl)

/-! ### The obligation -/

/-- Settles O59: GATH and SCAT read all their operands before they write (log entry 65), so each word is what its index or its last element names. -/
theorem indexedMoves : Obligations.IndexedMoves := by
  refine ⟨fun s unit f r hw hfit => ?gath, fun s unit f r hw hready => ?scat⟩
  case gath =>
    obtain ⟨t, hnext, hadvanced, hunit⟩ := (vGath_issues unit f).completes hw (ready_nil s unit)
    refine ⟨t, hnext, hadvanced, ?_, ?_, fun hr => ?_⟩
    · rw [hunit, VecUnit.goOn_sc, VecUnit.gathered_sc]
    · rw [hunit]
      exact wordsAre_goOn (wordsAre_gathered _ _ hfit)
    · exact (counter_vGath hw hnext hr).trans (ite_length_eq_zero ..)
  case scat =>
    obtain ⟨t, hnext, hadvanced, hunit⟩ := (vScat_issues unit f).completes hw hready
    refine ⟨t, hnext, hadvanced, ?_, fun a => ?_, fun hkept hr => ?_⟩
    · rw [hunit, VecUnit.goOn_sc, VecUnit.scattered_sc]
    · rw [hunit, VecUnit.goOn_word]
      refine (VecUnit.scattered_word ..).trans ?_
      split
      all_goals
        rename_i hfind
        exact congrArg (fun o => (Option.map Prod.snd o).getD ((s.unit unit).word a)) hfind
    · exact (counter_vScat hw hready hnext hkept hr).trans (ite_length_eq_zero ..)

end Sys2Proof.Machine
end

section
/-! The frame of the vector instructions that release no accumulator set (R111, R113, R117), and the obligation about it. -/

namespace Sys2Proof.Machine

/-! ### Instructions with a refused form -/

section Refused

variable {s t : State} {unit : Nat} {f : VF}

theorem onlyUnit_of_unlisted {u : Nat} (hnext : Host.Outcome.next s.unlisted = (.next t : Res)) : OnlyUnit s t u :=
  Host.Outcome.next.inj hnext ▸ unlisted_onlyUnit s u

theorem vMxq_onlyUnit (hkept : f.mbit 5 = false) (hnext : execVMxq unit f s = .next t) : OnlyUnit s t unit := by
  cases hfm : mxElem (f.mod % 16) with
  | none =>
    rw [execVMxq, hfm] at hnext
    exact onlyUnit_of_unlisted hnext
  | some fm => exact (vMxq_issues unit hfm).onlyUnit hkept hnext

theorem vecRed_onlyUnit {opc : Nat} {g : List (Nat × BitVec 32) → Fw} (hkept : f.mbit 5 = false) (hnext : vecRed unit opc f g s = .next t) : OnlyUnit s t unit := by
  obtain hreserved | hwhole | htile : f.mod % 4 = 3 ∨ f.mod % 4 = 2 ∨ f.mod % 4 < 2 := by omega
  · rw [vecRed, if_pos hreserved] at hnext
    exact onlyUnit_of_unlisted hnext
  · exact (vecRed_issues_whole unit opc g hwhole).onlyUnit hkept hnext
  · exact (vecRed_issues_tile unit opc g htile).onlyUnit hkept hnext

theorem vRamx_onlyUnit (hkept : f.mbit 5 = false) (hnext : execVRamx unit f s = .next t) : OnlyUnit s t unit := by
  obtain hreserved | hwhole | htile : f.mod % 4 = 3 ∨ f.mod % 4 = 2 ∨ f.mod % 4 < 2 := by omega
  · rw [execVRamx, if_pos hreserved] at hnext
    exact onlyUnit_of_unlisted hnext
  · exact (vRamx_issues_whole unit hwhole).onlyUnit hkept hnext
  · exact (vRamx_issues_tile unit htile).onlyUnit hkept hnext

theorem vecSop_onlyUnit {code : Nat} {g : BitVec 32 → BitVec 32 → Fw} (hnext : vecSop unit code f g s = .next t) : OnlyUnit s t unit := by
  by_cases hcode : f.mod = code
  · exact (vecSop_issues unit hcode g).onlyUnit rfl hnext
  · rw [vecSop, if_neg hcode] at hnext
    exact onlyUnit_of_unlisted hnext

theorem vSet_onlyUnit {dst : Nat} {imm : BitVec 32} (hnext : execVSet unit dst imm s = .next t) : OnlyUnit s t unit := by
  cases hw : s.nextWord unit (BitVec.ofNat 64 (0x70 * 2 ^ 56 + dst * 2 ^ 32 + imm.toNat)) with
  | none =>
    rw [execVSet, hw] at hnext
    exact onlyUnit_of_unlisted hnext
  | some r =>
    obtain rfl := Host.Outcome.next.inj ((execVSet_of_nextWord hw).symm.trans hnext)
    exact (((Counted.refl s).tcount ..).onlyUnit unit).modUnit _

end Refused

/-! ### All instructions -/

/-- Every vector instruction of the frame but QSITE, where it releases no set, changes its unit and what counters report alone. -/
theorem onlyUnit_of_vecOf {c : Instr} {u : Nat} {b : Bool} {s t : State} (hc : Claims.vecOf c = some (u, b)) (hb : b = false) (hsite : ∀ f, c ≠ .vQsite u f)
    (hnext : exec c s = .next t) : OnlyUnit s t u := by
  cases c
  case vAdd | vSub | vMul | vFma | vMax | vMin | vAbs | vNeg | vMov => cases hc; dsimp only [exec] at hnext; exact (vecEw_issues ..).onlyUnit hb hnext
  case vAdds | vSubs | vMuls | vFmas | vMaxs | vMins => cases hc; dsimp only [exec] at hnext; exact (vecEwS_issues ..).onlyUnit hb hnext
  case vExp | vLog | vRsq | vSig | vTanh | vGelu | vSilu => cases hc; dsimp only [exec] at hnext; exact (vecFn_issues ..).onlyUnit hb hnext
  case vRcp => cases hc; dsimp only [exec] at hnext; exact (vecFnC_issues ..).onlyUnit hb hnext
  case vStat => cases hc; dsimp only [exec] at hnext; exact (vStat_issues ..).onlyUnit hb hnext
  case vNorm => cases hc; dsimp only [exec] at hnext; exact (vNorm_issues ..).onlyUnit hb hnext
  case vRope => cases hc; dsimp only [exec] at hnext; exact (vRope_issues ..).onlyUnit hb hnext
  case vQnt => cases hc; dsimp only [exec] at hnext; exact (vQnt_issues ..).onlyUnit hb hnext
  case vDqt => cases hc; dsimp only [exec] at hnext; exact (vDqt_issues ..).onlyUnit hb hnext
  case vMxq => cases hc; dsimp only [exec] at hnext; exact vMxq_onlyUnit hb hnext
  case vOscan => cases hc; dsimp only [exec] at hnext; exact (vOscan_issues ..).onlyUnit hb hnext
  case vEmap => cases hc; dsimp only [exec] at hnext; exact (vEmap_issues ..).onlyUnit hb hnext
  case vEscf => cases hc; dsimp only [exec] at hnext; exact (vEscf_issues ..).onlyUnit rfl hnext
  case vQsite => cases hc; exact absurd rfl (hsite _)
  case vCorr => cases hc; dsimp only [exec] at hnext; exact (vCorr_issues ..).onlyUnit hb hnext
  case vWcorr => cases hc; dsimp only [exec] at hnext; exact (vWcorr_issues ..).onlyUnit hb hnext
  case vRsum | vRmax | vRmin => cases hc; dsimp only [exec] at hnext; exact vecRed_onlyUnit hb hnext
  case vRamx => cases hc; dsimp only [exec] at hnext; exact vRamx_onlyUnit hb hnext
  case vTopk => cases hc; dsimp only [exec] at hnext; exact (vTopk_issues ..).onlyUnit rfl hnext
  case vTopki => cases hc; dsimp only [exec] at hnext; exact (vTopki_issues ..).onlyUnit rfl hnext
  case vGath => cases hc; dsimp only [exec] at hnext; exact (vGath_issues ..).onlyUnit rfl hnext
  case vScat => cases hc; dsimp only [exec] at hnext; exact (vScat_issues ..).onlyUnit hb hnext
  case vSet => cases hc; dsimp only [exec] at hnext; exact vSet_onlyUnit hnext
  case vSopAdd | vSopSub | vSopMul | vSopMax | vSopRcp | vSopRsqrt => cases hc; dsimp only [exec] at hnext; exact vecSop_onlyUnit hnext
  all_goals exact nomatch hc

/-! ### QSITE -/

/-- A step run without the scales that it carries. -/
def StepRun.unscaled (r : StepRun) : StepRun := { r with scales := [] }

/-- What a vector instruction that releases no set may change: its unit, the counters with what they report, and the scales that step runs carry. -/
structure VecFrame (s t : State) (u : Nat) : Prop where
  state : t = { s with vec := t.vec, faults := t.faults, ops := { s.ops with runs := t.ops.runs } }
  units : ∀ v, v ≠ u → t.unit v = s.unit v
  runs : ∀ k, (t.run k).map StepRun.unscaled = (s.run k).map StepRun.unscaled

theorem OnlyUnit.ops {s t : State} {u : Nat} (h : OnlyUnit s t u) : t.ops = s.ops := by
  rw [h.1]

theorem OnlyUnit.vecFrame {s t : State} {u : Nat} (h : OnlyUnit s t u) : VecFrame s t u where
  state := by
    rw [h.ops]
    exact h.1
  units := h.2
  runs k := by rw [State.run, State.run, h.ops]

theorem VecFrame.modUnit {s t : State} {u : Nat} (h : VecFrame s t u) (g : VecUnit → VecUnit) : VecFrame s (t.modUnit u g) u where
  state := by
    rw [h.state]
    rfl
  units v hv := (unit_modUnit_ne _ _ _ _ hv).trans (h.units v hv)
  runs := h.runs

/-- The scale that goes with a vector is all that its step run takes. -/
theorem OnlyUnit.sendScale {s t : State} {u : Nat} (h : OnlyUnit s t u) (o : Op) (sc : BitVec 32) : VecFrame s (t.sendScale o sc) u := by
  cases hsite : (t.opTemplate o).site with
  | none =>
    rw [State.sendScale, hsite]
    exact h.vecFrame
  | some site =>
    rw [State.sendScale, hsite]
    refine ⟨?_, h.2, fun k => ?_⟩
    · rw [h.1]
      rfl
    · rw [← h.vecFrame.runs k]
      by_cases hk : k = o.run
      · subst hk
        rw [run_modRun_self, Option.map_map]
        rfl
      · rw [run_modRun_ne _ _ _ _ hk]

theorem vQsite_frame {s t : State} {unit : Nat} {f : VF} (hkept : f.mbit 5 = false) (hnext : execVQsite unit f s = .next t) : VecFrame s t unit := by
  rcases vecIssue_next ((execVQsite_eq unit f s).symm.trans hnext) with rfl | ⟨r, rfl⟩
  · exact (unlisted_onlyUnit s unit).vecFrame
  · have hcounted := (Counted.refl s).tcount r.tenant 0xA500 2 (cdiv f.n 32)
    rw [State.issued_of_kept _ _ _ (by simpa using hkept)]
    cases hr : s.runningOp r with
    | none =>
      rw [State.qsite_of_none hcounted unit f hr]
      exact (hcounted.onlyUnit unit).vecFrame.modUnit _
    | some o =>
      obtain ⟨s2, hs2, heffect⟩ := State.qsite_of_op hcounted unit f hr
      rw [heffect]
      exact (((hs2.onlyUnit unit).modUnit _).sendScale ..).modUnit _

/-! ### The obligation -/

/-- Settles O14: QSITE by its own frame, every other instruction by the one of its issue. -/
theorem vectorFrame : Obligations.VectorFrame := by
  intro c u s t hc hnext
  have hframe : VecFrame s t u ∧ ((∀ f, c ≠ .vQsite u f) → t.ops = s.ops) := by
    by_cases hsite : ∃ f, c = .vQsite u f
    · obtain ⟨f, rfl⟩ := hsite
      have hkept : f.mbit 5 = false := congrArg Prod.snd (Option.some.inj hc)
      exact ⟨vQsite_frame hkept hnext, fun hne => absurd rfl (hne f)⟩
    · have honly := onlyUnit_of_vecOf hc rfl (fun f h => hsite ⟨f, h⟩) hnext
      exact ⟨honly.vecFrame, fun _ => honly.ops⟩
  obtain ⟨⟨hstate, hunits, hruns⟩, hops⟩ := hframe
  refine ⟨?_, hunits, hops, hruns⟩
  have htrust : t.trust = s.trust := by rw [hstate]
  rw [htrust]
  exact hstate

end Sys2Proof.Machine
end

section
/-! The KV cache: what KVSCAT, KVFLUSH, promotion, preemption and page moves answer where their conditions hold, and the obligation about them. -/

namespace Sys2Proof.Machine

/-! ### KVSCAT (R142, R144) -/

/-- KVSCAT that may write, with no earlier one of its session and layer incomplete. -/
theorem exec_kvscat {s : State} {slot layer pos count : Nat} {staged : Bool} {o : Op} (hready : s.scatReady slot = some o)
    (hk : o.d.k = .kvscat layer pos count staged) (hfirst : s.scatBehind slot o layer pos = false) (hplaced : Claims.Placed s o [(o.d.opA, 1)]) :
    exec (.kvscat slot) s = .next (State.scatLoop slot o layer pos count staged (count - o.scatDone) (s.scatBegin slot o)) := by
  change execKvscat slot s = _
  simp only [execKvscat, hready, hk, hfirst]
  exact withPlaces_of_placed _ hplaced

section Loop
variable {s : State} {slot layer pos count n : Nat} {staged : Bool} {o : Op}

/-- A position whose page takes it is written there, and the KVSCAT goes on. -/
theorem State.scatLoop_succ_page (hpage : s.scatStaged o layer (pos + (count - (n + 1))) staged = false) :
    State.scatLoop slot o layer pos count staged (n + 1) s =
      State.scatLoop slot o layer pos count staged n ((s.scatPage o layer (pos + (count - (n + 1))) (o.member * count + (count - (n + 1)))).setOp slot fun x =>
        { x with scatDone := count - (n + 1) + 1 }) := by
  rw [State.scatLoop]
  exact if_neg (by simp [hpage])

/-- A position of a moving page is staged while the buffer has room, and the KVSCAT goes on. -/
theorem State.scatLoop_succ_stage (hstaged : s.scatStaged o layer (pos + (count - (n + 1))) staged = true)
    (hroom : (s.stagingOf o.d.session).length < s.stageCap o.d.session) :
    State.scatLoop slot o layer pos count staged (n + 1) s =
      State.scatLoop slot o layer pos count staged n ((s.scatStage o layer (pos + (count - (n + 1))) (o.member * count + (count - (n + 1)))).setOp slot fun x =>
        { x with scatDone := count - (n + 1) + 1 }) := by
  rw [State.scatLoop]
  exact (if_pos hstaged).trans (if_neg (Nat.not_le.2 hroom))

/-- A position of a moving page waits where the staging buffer is full. -/
theorem State.scatLoop_succ_full (hstaged : s.scatStaged o layer (pos + (count - (n + 1))) staged = true)
    (hfull : s.stageCap o.d.session ≤ (s.stagingOf o.d.session).length) :
    State.scatLoop slot o layer pos count staged (n + 1) s = s.setOp slot fun x => { x with waitAt := max 1 s.now } := by
  rw [State.scatLoop]
  exact (if_pos hstaged).trans (if_pos hfull)

end Loop

/-! ### KVFLUSH (R144, R145) -/

/-- KVFLUSH of a page whose staged entries no read holds. -/
theorem exec_kvflush {s : State} {slot : Nat} {o : Op} (ho : s.opIn slot .kvflush .dispatched = some o)
    (hunread : ∀ e ∈ s.stagedFor o.d.session (o.pages.headD 0), e.readers = 0) :
    exec (.kvflush slot) s =
      .next ((((s.setPage (o.pages.headD 0) fun p =>
        { (((s.stagedFor o.d.session (o.pages.headD 0)).mergeSort fun a b => decide (a.pos ≤ b.pos)).foldl
            (fun p e => p.flushEntry (kvRecord (s.kvShape o.d.session).1 (s.kvShape o.d.session).2.1 (s.kvShape o.d.session).2.2) e) p) with lastUse := s.now }).modStagingOf o.d.session
          fun l => l.filter fun e => decide (e.page ≠ o.pages.headD 0)).startOp slot).workDone slot) := by
  change execKvflush slot s = _
  rw [execKvflush, ho]
  exact listed_true (by simpa [List.mem_mergeSort] using hunread)

/-! ### Page moves (R143, R146) -/

/-- A page may begin a move when none is under way, its last source is released and no KVSCAT writes to it. -/
theorem Page.movable_iff {p : Page} : p.movable = true ↔ p.moving = none ∧ p.srcHeld = false ∧ p.writesOut = 0 := by
  simp [Page.movable, and_assoc]

/-- PAGE_MOVE_START of a page that may move to another place, which has room. -/
theorem exec_pageMoveStart {s : State} {page : Nat} {toHot : Option Nat} {p : Page} (hup : Claims.Up s (.pageMoveStart page toHot))
    (hp : s.page page = some p) (hmovable : p.movable = true) (hplace : p.hot ≠ toHot) (hroom : s.takesPage p.tenant toHot = true) :
    exec (.pageMoveStart page toHot) s = .next (s.setPage page fun p => { p with moving := some toHot }) := by
  change execPageMoveStart page toHot s = _
  rw [execPageMoveStart, whenUp_of_up hup, hp]
  exact listed_true (by simp [hmovable, hplace, hroom])

/-- PAGE_MOVE_SWITCH of a page that is MOVING. -/
theorem exec_pageMoveSwitch {s : State} {page : Nat} {p : Page} {dst : Option Nat} (hup : Claims.Up s (.pageMoveSwitch page))
    (hp : s.page page = some p) (hmoving : p.moving = some dst) :
    exec (.pageMoveSwitch page) s =
      .next (((({ s with ops := { s.ops with slots := mmap none (fun _ (o : Option Op) => o.map fun (x : Op) => x.moved page) s.ops.slots } } : State).setPage page
        fun p => { p with hot := dst, moving := none, srcHeld := true, src := p.hot, srcReaders := p.readers, readers := 0 }).countMove p.tenant p.hot dst).queueFlush page) := by
  change execPageMoveSwitch page s = _
  simp only [execPageMoveSwitch, whenUp_of_up hup, hp, hmoving]

/-- A switch from a cluster store to DRAM counts an eviction, one from DRAM to a cluster store a promotion, any other none (R152). -/
theorem State.countMove_eq (s : State) (t : Nat) (src dst : Option Nat) :
    s.countMove t src dst = if src.isSome ∧ dst = none then s.tcount t 0xA600 1 1 else if src = none ∧ dst.isSome then s.tcount t 0xA600 2 1 else s := by
  cases src <;> cases dst <;> rfl

/-- PAGE_SOURCE_RELEASE of a source that no read holds any longer. -/
theorem exec_pageSourceRelease {s : State} {page : Nat} {p : Page} (hp : s.page page = some p) (hheld : p.srcHeld = true) (hunread : p.srcReaders = 0) :
    exec (.pageSourceRelease page) s = .next (s.setPage page fun p => { p with srcHeld := false, src := none }) := by
  change execPageSourceRelease page s = _
  rw [execPageSourceRelease, hp]
  exact listed_true (by simp [hheld, hunread])

/-! ### Promotion and preemption (R146, R148) -/

/-- KV_PROMOTE of the promotable page that is newest by FIRST_POS, to a cluster with room. -/
theorem exec_kvPromote {s : State} {tenant page cluster : Nat} {e : Nat × Page} (hup : Claims.Up s (.kvPromote tenant page cluster))
    (he : (s.promotable tenant).find? (fun e => decide (e.1 = page)) = some e) (hnewest : ∀ x ∈ s.promotable tenant, x.2.firstPos ≤ e.2.firstPos)
    (hroom : s.takesPage tenant (some cluster) = true) :
    exec (.kvPromote tenant page cluster) s = .next (s.setPage page fun p => { p with moving := some (some cluster) }) := by
  have hall : ((s.promotable tenant).all fun x => decide (x.2.firstPos ≤ e.2.firstPos)) = true :=
    List.all_eq_true.2 fun x hx => decide_eq_true (hnewest x hx)
  change execKvPromote tenant page cluster s = _
  rw [execKvPromote, whenUp_of_up hup, he]
  exact listed_true (by rw [hall, hroom]; rfl)

/-- KV_PREEMPT of a tenant whose ACTIVE sessions all wait for a page, outside a pinned replay. -/
theorem exec_kvPreempt {s : State} {tenant x : Nat} (hup : Claims.Up s (.kvPreempt tenant)) (hstuck : s.kvStuck tenant = true)
    (hunpinned : s.pinned tenant = false) (hx : s.preemptee tenant = some x) :
    exec (.kvPreempt tenant) s =
      .next ((((s.leaveRun x).makeCold x 1).tcount tenant 0xA600 6 1).modSession x fun q => { q with preemptedCold := true }) := by
  change execKvPreempt tenant s = _
  rw [execKvPreempt, whenUp_of_up hup, if_pos ⟨hstuck, hunpinned⟩, hx]

/-! ### The obligation -/

/-- Settles O15: each command by its equation above, the loop of KVSCAT by the four forms of its next position. -/
theorem kvCommandsRun : Obligations.KvCommandsRun := by
  refine ⟨fun s slot o layer pos count staged => exec_kvscat, fun s slot o layer pos count n staged => ?loop, fun s slot o => exec_kvflush, ?moveStart,
    fun s page p dst => exec_pageMoveSwitch, State.countMove_eq, fun s page p => exec_pageSourceRelease,
    fun s tenant page cluster e => exec_kvPromote, fun s tenant x => exec_kvPreempt⟩
  case loop => exact ⟨rfl, State.scatLoop_succ_page, State.scatLoop_succ_stage, State.scatLoop_succ_full⟩
  case moveStart =>
    intro s page toHot p hup hp hstill hreleased hquiet
    exact exec_pageMoveStart hup hp (Page.movable_iff.2 ⟨hstill, hreleased, hquiet⟩)

end Sys2Proof.Machine
end

section
/-! Exponent compression: bits and octets, the canonical code, sub-streams, blocks, and the obligation that no bit is lost. -/

namespace Sys2Proof.Machine

/-! ### Bits -/

@[simp] theorem bitsOf_length : ∀ n v : Nat, (bitsOf n v).length = n
  | 0, _ => rfl
  | n + 1, v => congrArg (· + 1) (bitsOf_length n v)

/-- The high bits of a number stand before its low ones. -/
theorem bitsOf_add (v b : Nat) : ∀ a : Nat, bitsOf (a + b) v = bitsOf a (v / 2 ^ b) ++ bitsOf b v
  | 0 => by simp [bitsOf]
  | a + 1 => by
    rw [Nat.succ_add, bitsOf, bitsOf_add v b a, bitsOf, List.cons_append, nbit, nbit, Nat.div_div_eq_div_mul, Nat.add_comm a b, Nat.pow_add]

theorem ofBits_concat (bs : List Bool) (b : Bool) : ofBits (bs ++ [b]) = 2 * ofBits bs + b.toNat := by
  cases b <;> simp [ofBits]

@[simp] theorem ofBits_bitsOf (n v : Nat) : ofBits (bitsOf n v) = v % 2 ^ n := by
  induction n generalizing v with
  | zero => simp [bitsOf, ofBits, Nat.mod_one]
  | succ n ih =>
    have hlow : bitsOf 1 v = [nbit v 0] := rfl
    have hbit : (nbit v 0).toNat = v % 2 := by rcases Nat.mod_two_eq_zero_or_one v with h | h <;> simp [nbit, h]
    rw [bitsOf_add v 1 n, hlow, ofBits_concat, ih, hbit, Nat.pow_succ' (n := n), Nat.mod_mul, Nat.pow_one, Nat.add_comm]

/-- The bits of the number that bits spell are those bits. -/
theorem bitsOf_ofBits (bs : List Bool) : bitsOf bs.length (ofBits bs) = bs := by
  induction bs using List.reverseRecOn with
  | nil => rfl
  | append_singleton bs b ih =>
    have hbit : bitsOf 1 (2 * ofBits bs + b.toNat) = [b] := by cases b <;> simp [bitsOf, nbit]
    have hhigh : (2 * ofBits bs + b.toNat) / 2 ^ 1 = ofBits bs := by have := b.toNat_lt; omega
    rw [List.length_append, List.length_singleton, ofBits_concat, bitsOf_add, hhigh, hbit, ih]

/-! ### Bits in octets (R157) -/

theorem unpackBits_append (a b : Bytes) : unpackBits (a ++ b) = unpackBits a ++ unpackBits b := List.flatMap_append

@[simp] theorem unpackBits_length (bs : Bytes) : (unpackBits bs).length = 8 * bs.length := by
  simp [unpackBits, List.length_flatMap, Nat.mul_comm]

/-- The first octet holds 8 bits, or the last bits and zero bits after them. -/
theorem packBits_succ (k : Nat) {bs : List Bool} (h : bs ≠ []) :
    packBits (k + 1) bs = ofBits ((bs.take 8 ++ List.replicate 8 false).take 8) :: packBits k (bs.drop 8) := by
  cases bs with
  | nil => exact absurd rfl h
  | cons b bs => rfl

/-- Bits fill as many octets as hold them. -/
theorem packBits_length : ∀ {k : Nat} {bs : List Bool}, bs.length < k → (packBits k bs).length = (bs.length + 7) / 8
  | k + 1, bs, h => by
    by_cases hne : bs = []
    · rw [hne]; rfl
    · have hpos := List.length_pos_iff.2 hne
      have hrest : (bs.drop 8).length < k := by rw [List.length_drop]; omega
      rw [packBits_succ k hne, List.length_cons, packBits_length hrest, List.length_drop]
      omega

/-- The bits packed stand in the octets, zero bits after them. -/
theorem unpackBits_packBits : ∀ {k : Nat} {bs : List Bool}, bs.length < k →
    unpackBits (packBits k bs) = bs ++ List.replicate (8 * ((bs.length + 7) / 8) - bs.length) false
  | k + 1, bs, h => by
    by_cases hne : bs = []
    · rw [hne]; rfl
    · have hpos := List.length_pos_iff.2 hne
      have hrest : (bs.drop 8).length < k := by rw [List.length_drop]; omega
      have hfirst := bitsOf_ofBits ((bs.take 8 ++ List.replicate 8 false).take 8)
      rw [List.length_take_of_le (by simp)] at hfirst
      rw [packBits_succ k hne, unpackBits, List.flatMap_cons, hfirst]
      refine (congrArg _ (unpackBits_packBits hrest)).trans ?_
      by_cases hfull : 8 ≤ bs.length
      · rw [List.take_append_of_le_length (by simp [hfull]), List.take_take, Nat.min_self, ← List.append_assoc, List.take_append_drop, List.length_drop]
        congr 2
        omega
      · rw [List.take_of_length_le (by omega : bs.length ≤ 8), List.drop_of_length_le (by omega), List.take_append, List.take_of_length_le (by omega : bs.length ≤ 8),
          List.take_replicate, show (bs.length + 7) / 8 = 1 by omega, Nat.min_eq_left (by omega)]
        simp

/-! ### The canonical code (R158) -/

/-- A code that stands before another in canonical order: it is no longer, and its successor, lengthened, is at most the other. -/
def CodeBefore (a b : Nat × Nat × Nat) : Prop := a.1 ≤ b.1 ∧ (a.2.1 + 1) * 2 ^ (b.1 - a.1) ≤ b.2.1

/-- The values of a length. -/
def valuesOfLength (lens : SMap Nat) (alphabet len : Nat) : List Nat := (List.range alphabet).filter fun e => mget 0 lens e == len

/-- What the values of lengths `len` to `len + n - 1` take of the codes of length `len + n`. -/
def codeMass (lens : SMap Nat) (alphabet n len : Nat) : Nat :=
  ((List.range alphabet).map fun e => if len ≤ mget 0 lens e ∧ mget 0 lens e < len + n then 2 ^ (len + n - mget 0 lens e) else 0).sum

/-- The codes of a level are numbered from its first on; those of the next begin at twice the one after the last. -/
theorem canonFrom_succ (lens : SMap Nat) (alphabet n len code : Nat) :
    canonFrom lens alphabet (n + 1) len code =
      ((List.range (valuesOfLength lens alphabet len).length).map fun i => (len, code + i, ((valuesOfLength lens alphabet len)[i]?).getD 0)) ++
        canonFrom lens alphabet n (len + 1) ((code + (valuesOfLength lens alphabet len).length) * 2) := rfl

theorem mem_canonFrom_succ {lens : SMap Nat} {alphabet n len code : Nat} {x : Nat × Nat × Nat} :
    x ∈ canonFrom lens alphabet (n + 1) len code ↔
      (∃ i, i < (valuesOfLength lens alphabet len).length ∧ (len, code + i, ((valuesOfLength lens alphabet len)[i]?).getD 0) = x) ∨
        x ∈ canonFrom lens alphabet n (len + 1) ((code + (valuesOfLength lens alphabet len).length) * 2) := by
  simp [canonFrom_succ]

/-- A code that moves a level down doubles. -/
theorem mul_two_pow_le {a b len l : Nat} (hl : len + 1 ≤ l) (hab : a ≤ b) : a * 2 ^ (l - len) ≤ b * 2 * 2 ^ (l - (len + 1)) := by
  rw [show l - len = l - (len + 1) + 1 by omega, Nat.pow_succ', ← Nat.mul_assoc]
  exact Nat.mul_le_mul_right _ (Nat.mul_le_mul_right 2 hab)

/-- Every code is at least the first of its level, lengthened. -/
theorem canonFrom_ge {lens : SMap Nat} {alphabet : Nat} : ∀ {n len code : Nat} {x : Nat × Nat × Nat}, x ∈ canonFrom lens alphabet n len code →
    len ≤ x.1 ∧ code * 2 ^ (x.1 - len) ≤ x.2.1
  | 0, _, _, _, h => absurd h List.not_mem_nil
  | n + 1, len, code, x, h => by
    obtain ⟨i, -, rfl⟩ | hnext := mem_canonFrom_succ.1 h
    · simp
    · obtain ⟨hlen, hcode⟩ := canonFrom_ge hnext
      exact ⟨by omega, (mul_two_pow_le hlen (Nat.le_add_right ..)).trans hcode⟩

/-- Canonical codes stand in canonical order. -/
theorem canonFrom_pairwise (lens : SMap Nat) (alphabet : Nat) : ∀ n len code : Nat, (canonFrom lens alphabet n len code).Pairwise CodeBefore
  | 0, _, _ => List.Pairwise.nil
  | n + 1, len, code => by
    rw [canonFrom_succ, List.pairwise_append]
    refine ⟨?_, canonFrom_pairwise lens alphabet n _ _, ?_⟩
    · refine List.pairwise_map.2 (List.pairwise_lt_range.imp fun {i j} hij => ⟨le_rfl, ?_⟩)
      simp only [Nat.sub_self, Nat.pow_zero]
      omega
    · intro a ha b hb
      obtain ⟨i, hi, rfl⟩ := List.mem_map.1 ha
      obtain ⟨hlen, hcode⟩ := canonFrom_ge hb
      exact ⟨Nat.le_of_succ_le hlen, (mul_two_pow_le hlen (Nat.add_le_add_left (List.mem_range.1 hi) code)).trans hcode⟩

/-- The mass of the levels from `len` on is that of the values of length `len` and that of the levels after. -/
theorem codeMass_succ (lens : SMap Nat) (alphabet n len : Nat) :
    codeMass lens alphabet (n + 1) len = (valuesOfLength lens alphabet len).length * 2 ^ (n + 1) + codeMass lens alphabet n (len + 1) := by
  unfold codeMass valuesOfLength
  induction List.range alphabet with
  | nil => simp
  | cons e es ih =>
    rw [List.map_cons, List.map_cons, List.sum_cons, List.sum_cons, ih]
    by_cases he : mget 0 lens e = len
    · rw [List.filter_cons_of_pos (by simpa using he), List.length_cons, if_pos (by omega), if_neg (by omega), he, Nat.add_sub_cancel_left, Nat.succ_mul]
      omega
    · rw [List.filter_cons_of_neg (by simpa using he), show len + 1 + n = len + (n + 1) by omega]
      have hiff : (len ≤ mget 0 lens e ∧ mget 0 lens e < len + (n + 1)) ↔ (len + 1 ≤ mget 0 lens e ∧ mget 0 lens e < len + (n + 1)) := by omega
      simp only [hiff]
      omega

/-- Codes of lengths that have room fit their lengths. -/
theorem canonFrom_lt {lens : SMap Nat} {alphabet : Nat} : ∀ {n len code : Nat} {x : Nat × Nat × Nat},
    code * 2 ^ n + codeMass lens alphabet n len ≤ 2 ^ (len + n) → x ∈ canonFrom lens alphabet n len code → x.2.1 < 2 ^ x.1
  | 0, _, _, _, _, h => absurd h List.not_mem_nil
  | n + 1, len, code, x, hroom, h => by
    rw [codeMass_succ, ← Nat.add_assoc, ← Nat.add_mul] at hroom
    obtain ⟨i, hi, rfl⟩ | hnext := mem_canonFrom_succ.1 h
    · have hlevel := Nat.le_of_mul_le_mul_right ((Nat.le_add_right _ _).trans (hroom.trans_eq (Nat.pow_add ..))) (Nat.two_pow_pos (n + 1))
      simp only
      omega
    · refine canonFrom_lt ?_ hnext
      rwa [Nat.mul_assoc, ← Nat.pow_succ', show len + 1 + n = len + (n + 1) by omega]

/-- Every value whose length is in the range of levels has a code. -/
theorem exists_mem_canonFrom {lens : SMap Nat} {alphabet e : Nat} (he : e < alphabet) : ∀ {n len : Nat} (code : Nat),
    len ≤ mget 0 lens e → mget 0 lens e < len + n → ∃ x ∈ canonFrom lens alphabet n len code, x.2.2 = e
  | 0, _, _, hlo, hhi => absurd hhi (Nat.not_lt.2 hlo)
  | n + 1, len, code, hlo, hhi => by
    by_cases hlen : mget 0 lens e = len
    · have hmem : e ∈ valuesOfLength lens alphabet len := by simp [valuesOfLength, he, hlen]
      obtain ⟨i, hi, hget⟩ := List.getElem_of_mem hmem
      exact ⟨_, mem_canonFrom_succ.2 (.inl ⟨i, hi, rfl⟩), by simp [hi, hget]⟩
    · have hlo' : len + 1 ≤ mget 0 lens e := by omega
      have hhi' : mget 0 lens e < len + 1 + n := by omega
      obtain ⟨x, hx, hval⟩ := exists_mem_canonFrom he ((code + (valuesOfLength lens alphabet len).length) * 2) hlo' hhi'
      exact ⟨x, mem_canonFrom_succ.2 (.inr hx), hval⟩

theorem completeCode_iff {fmt : Nat} {lens : SMap Nat} :
    completeCode fmt lens = true ↔ (∀ e < 2 ^ expBits fmt, 1 ≤ mget 0 lens e ∧ mget 0 lens e ≤ 12) ∧
      ((List.range (2 ^ expBits fmt)).map fun e => 2 ^ (12 - mget 0 lens e)).sum = 4096 := by
  simp [completeCode, Function.comp_def]

/-- A complete code takes all the codes of 13 bits. -/
theorem codeMass_of_complete {fmt : Nat} {lens : SMap Nat} (h : completeCode fmt lens = true) : codeMass lens (2 ^ expBits fmt) 12 1 = 2 ^ 13 := by
  obtain ⟨hlens, hsum⟩ := completeCode_iff.1 h
  have hmap : ((List.range (2 ^ expBits fmt)).map fun e => if 1 ≤ mget 0 lens e ∧ mget 0 lens e < 1 + 12 then 2 ^ (1 + 12 - mget 0 lens e) else 0) =
      (List.range (2 ^ expBits fmt)).map fun e => 2 * 2 ^ (12 - mget 0 lens e) := by
    refine List.map_congr_left fun e he => ?_
    obtain ⟨hlo, hhi⟩ := hlens e (List.mem_range.1 he)
    rw [if_pos (by omega), ← Nat.pow_succ', show 1 + 12 - mget 0 lens e = (12 - mget 0 lens e).succ by omega]
  rw [codeMass, hmap, List.sum_map_mul_left, hsum]
  rfl

/-- A list of codes that the decoders can read: in canonical order, each a number of its length. -/
structure PrefixFree (code : List (Nat × Nat × Nat)) : Prop where
  ordered : code.Pairwise CodeBefore
  fits : ∀ c ∈ code, c.2.1 < 2 ^ c.1

theorem canon_prefixFree {fmt : Nat} {lens : SMap Nat} (h : completeCode fmt lens = true) : PrefixFree (canon fmt lens) :=
  ⟨canonFrom_pairwise .., fun _ hc => canonFrom_lt (by rw [codeMass_of_complete h]; simp) hc⟩

/-- Every exponent has a code in a complete table. -/
theorem exists_mem_canon {fmt e : Nat} {lens : SMap Nat} (h : completeCode fmt lens = true) (he : e < 2 ^ expBits fmt) :
    ∃ c ∈ canon fmt lens, c.2.2 = e := by
  obtain ⟨hlo, hhi⟩ := (completeCode_iff.1 h).1 e he
  exact exists_mem_canonFrom he 0 hlo (by omega)

/-- No code that stands before another begins its bits, and the code's own bits are found: bits that begin with a code decode to it. -/
theorem PrefixFree.find_bits {code : List (Nat × Nat × Nat)} (h : PrefixFree code) {c : Nat × Nat × Nat} (hc : c ∈ code) (rest : List Bool) :
    (code.find? fun x => decide (x.1 ≤ (bitsOf c.1 c.2.1 ++ rest).length) && ofBits ((bitsOf c.1 c.2.1 ++ rest).take x.1) == x.2.1) = some c := by
  obtain ⟨before, after, hsplit⟩ := List.append_of_mem hc
  refine List.find?_eq_some_iff_append.2 ⟨?_, before, after, hsplit, fun x hx => ?_⟩
  · rw [List.take_left' (bitsOf_length ..), ofBits_bitsOf, Nat.mod_eq_of_lt (h.fits c hc)]
    simp
  · obtain ⟨hlen, hcode⟩ : CodeBefore x c := (List.pairwise_append.1 (hsplit ▸ h.ordered)).2.2 x hx c List.mem_cons_self
    have hbits : (bitsOf c.1 c.2.1 ++ rest).take x.1 = bitsOf x.1 (c.2.1 / 2 ^ (c.1 - x.1)) := by
      have hadd := bitsOf_add c.2.1 (c.1 - x.1) x.1
      rw [Nat.add_sub_of_le hlen] at hadd
      rw [hadd, List.append_assoc, List.take_left' (bitsOf_length ..)]
    have hpos := Nat.two_pow_pos (c.1 - x.1)
    have habove : x.2.1 < c.2.1 / 2 ^ (c.1 - x.1) := (Nat.le_div_iff_mul_le hpos).2 hcode
    have hfits : c.2.1 / 2 ^ (c.1 - x.1) < 2 ^ x.1 := by
      rw [Nat.div_lt_iff_lt_mul hpos, ← Nat.pow_add, Nat.add_sub_of_le hlen]
      exact h.fits c hc
    rw [hbits, ofBits_bitsOf, Nat.mod_eq_of_lt hfits]
    simp [habove.ne']

/-! ### Sub-streams (R157) -/

/-- The bits of an exponent's code. -/
def codeBits (code : List (Nat × Nat × Nat)) (e : Nat) : List Bool :=
  match code.find? fun c => c.2.2 == e with
  | some c => bitsOf c.1 c.2.1
  | none => []

/-- An exponent that has a code is written as one of its codes. -/
theorem exists_codeBits {code : List (Nat × Nat × Nat)} {e : Nat} (h : ∃ c ∈ code, c.2.2 = e) :
    ∃ c ∈ code, c.2.2 = e ∧ codeBits code e = bitsOf c.1 c.2.1 := by
  obtain ⟨c, hc, hval⟩ := h
  obtain ⟨d, hd⟩ := Option.isSome_iff_exists.1 (List.find?_isSome (p := fun c : Nat × Nat × Nat => c.2.2 == e).2 ⟨c, hc, beq_iff_eq.2 hval⟩)
  exact ⟨d, List.mem_of_find?_eq_some hd, by simpa using List.find?_some hd, by rw [codeBits, hd]⟩

/-- Codes written one after another are read back, and what follows them is left. -/
theorem decodeCodes_codeBits {code : List (Nat × Nat × Nat)} (h : PrefixFree code) (rest : List Bool) : ∀ {es : List Nat},
    (∀ e ∈ es, ∃ c ∈ code, c.2.2 = e) → decodeCodes code es.length (es.flatMap (codeBits code) ++ rest) = some (es, rest)
  | [], _ => rfl
  | e :: es, hes => by
    obtain ⟨c, hc, hval, hbits⟩ := exists_codeBits (hes e List.mem_cons_self)
    have hmore := decodeCodes_codeBits h rest fun x hx => hes x (List.mem_cons_of_mem e hx)
    rw [List.length_cons, List.flatMap_cons, hbits, List.append_assoc, decodeCodes, h.find_bits hc]
    simp only [List.drop_left' (bitsOf_length ..), hmore, hval]

/-- The bits of a section of a sub-stream, in octets of its own. -/
def packed (bs : List Bool) : Bytes := packBits (bs.length + 1) bs

theorem packed_length (bs : List Bool) : (packed bs).length = (bs.length + 7) / 8 := packBits_length (Nat.lt_succ_self _)

/-- A section in octets is its bits and fewer than 8 zero bits. -/
theorem unpackBits_packed (bs : List Bool) : ∃ pad, pad < 8 ∧ unpackBits (packed bs) = bs ++ List.replicate pad false :=
  ⟨_, by omega, unpackBits_packBits (Nat.lt_succ_self bs.length)⟩

/-- The tails of elements, in element order. -/
def tailSection (fmt : Nat) (elems : List Nat) : List Bool := elems.flatMap fun v => bitsOf (tailBits fmt) (splitElem fmt v).2

/-- The exponents of elements. -/
def exponents (fmt : Nat) (elems : List Nat) : List Nat := elems.map fun v => (splitElem fmt v).1

theorem encodeSub_eq (fmt : Nat) (code : List (Nat × Nat × Nat)) (elems : List Nat) :
    encodeSub fmt code elems = packed (tailSection fmt elems) ++ packed ((exponents fmt elems).flatMap (codeBits code)) := by
  rw [exponents, List.flatMap_map]
  rfl

theorem tailSection_length (fmt : Nat) (elems : List Nat) : (tailSection fmt elems).length = elems.length * tailBits fmt := by
  simp [tailSection, List.length_flatMap]

/-- Piece `i` of pieces of one length, one after another. -/
theorem take_drop_flatMap {α β : Type} {n : Nat} {f : α → List β} (hf : ∀ a, (f a).length = n) (rest : List β) : ∀ {l : List α} {i : Nat} (h : i < l.length),
    ((l.flatMap f ++ rest).drop (i * n)).take n = f l[i]
  | a :: l, 0, _ => by rw [Nat.zero_mul, List.drop_zero, List.flatMap_cons, List.append_assoc, List.take_left' (hf a)]; rfl
  | a :: l, i + 1, h => by
    rw [List.flatMap_cons, List.append_assoc, Nat.succ_mul, Nat.add_comm, ← List.drop_drop, List.drop_left' (hf a), take_drop_flatMap hf rest (Nat.lt_of_succ_lt_succ h)]
    rfl

theorem splitElem_exponent_lt (fmt v : Nat) : (splitElem fmt v).1 < 2 ^ expBits fmt := Nat.mod_lt _ (Nat.two_pow_pos _)

/-- Sign and mantissa fit the tail. -/
theorem splitElem_tail_lt (fmt v : Nat) : (splitElem fmt v).2 < 2 ^ tailBits fmt := by
  have hbits : tailBits fmt = tailBits fmt - 1 + 1 := by unfold tailBits; split_ifs <;> rfl
  have hmantissa := Nat.mod_lt v (Nat.two_pow_pos (tailBits fmt - 1))
  have hsign : v / 2 ^ (tailBits fmt - 1 + expBits fmt) % 2 ≤ 1 := Nat.le_of_lt_succ (Nat.mod_lt _ Nat.zero_lt_two)
  calc (splitElem fmt v).2 < 1 * 2 ^ (tailBits fmt - 1) + 2 ^ (tailBits fmt - 1) := Nat.add_lt_add_of_le_of_lt (Nat.mul_le_mul_right _ hsign) hmantissa
    _ = 2 ^ (tailBits fmt - 1 + 1) := by rw [Nat.pow_succ]; omega
    _ = 2 ^ tailBits fmt := by rw [← hbits]

/-- Sign, exponent and mantissa give back every bit pattern of an element. -/
theorem joinElem_splitElem {fmt v : Nat} (hfmt : fmt < 3) (hv : v < 2 ^ (8 * elemBytes fmt)) :
    joinElem fmt (splitElem fmt v).1 (splitElem fmt v).2 = v := by
  obtain rfl | rfl | rfl : fmt = 0 ∨ fmt = 1 ∨ fmt = 2 := by omega
  all_goals
    simp only [elemBytes, joinElem, splitElem, tailBits, expBits, nbits] at hv ⊢
    norm_num at hv ⊢
    omega

/-- The elements joined from their exponents and the tails read bit for bit. -/
theorem map_joinElem {fmt : Nat} {elems : List Nat} (hfmt : fmt < 3) (hv : ∀ v ∈ elems, v < 2 ^ (8 * elemBytes fmt)) (rest : List Bool) :
    ((List.range elems.length).map fun i => joinElem fmt (((exponents fmt elems)[i]?).getD 0)
      (ofBits (((tailSection fmt elems ++ rest).drop (i * tailBits fmt)).take (tailBits fmt)))) = elems := by
  refine List.ext_getElem (by simp) fun i _ hi => ?_
  rw [List.getElem_map, List.getElem_range, tailSection, take_drop_flatMap (fun _ => bitsOf_length ..) rest hi, ofBits_bitsOf,
    Nat.mod_eq_of_lt (splitElem_tail_lt ..), exponents, List.getElem?_map, List.getElem?_eq_getElem hi]
  exact joinElem_splitElem hfmt (hv _ (List.getElem_mem hi))

/-- A sub-stream decodes to the elements encoded, and leaves the octets after it. -/
theorem decodeSub_encodeSub {fmt : Nat} {lens : SMap Nat} {elems : List Nat} (hfmt : fmt < 3) (hcomplete : completeCode fmt lens = true)
    (hv : ∀ v ∈ elems, v < 2 ^ (8 * elemBytes fmt)) (rest : Bytes) :
    decodeSub fmt (canon fmt lens) elems.length (encodeSub fmt (canon fmt lens) elems ++ rest) = some (elems, rest) := by
  have hexp : ∀ e ∈ exponents fmt elems, ∃ c ∈ canon fmt lens, c.2.2 = e := by
    intro e he
    obtain ⟨v, -, rfl⟩ := List.mem_map.1 he
    exact exists_mem_canon hcomplete (splitElem_exponent_lt fmt v)
  have hlen : (exponents fmt elems).length = elems.length := List.length_map ..
  have htails := packed_length (tailSection fmt elems)
  rw [tailSection_length] at htails
  obtain ⟨tailPad, -, htailBits⟩ := unpackBits_packed (tailSection fmt elems)
  obtain ⟨pad, hpad, hcodeBits⟩ := unpackBits_packed ((exponents fmt elems).flatMap (codeBits (canon fmt lens)))
  have hcodes := decodeCodes_codeBits (canon_prefixFree hcomplete) (List.replicate pad false ++ unpackBits rest) hexp
  rw [hlen, ← List.append_assoc, ← hcodeBits, ← unpackBits_append] at hcodes
  have hleft : (List.replicate pad false ++ unpackBits rest).length = 8 * rest.length + pad := by simp [Nat.add_comm]
  have hzeros : ((tailSection fmt elems ++ List.replicate tailPad false).drop (elems.length * tailBits fmt)).all (!·) = true ∧
      ((List.replicate pad false ++ unpackBits rest).take pad).all (!·) = true := by
    rw [List.drop_left' (tailSection_length ..), List.take_left' List.length_replicate]
    simp
  have hrest : (packed (tailSection fmt elems) ++ (packed ((exponents fmt elems).flatMap (codeBits (canon fmt lens))) ++ rest)).drop
      ((packed (tailSection fmt elems) ++ (packed ((exponents fmt elems).flatMap (codeBits (canon fmt lens))) ++ rest)).length - rest.length) = rest := by
    rw [← List.append_assoc]
    exact List.drop_left' (by simp only [List.length_append]; omega)
  simp only [decodeSub, encodeSub_eq, List.append_assoc, List.take_left' htails, List.drop_left' htails, hcodes, htailBits, hleft,
    Nat.mul_add_mod, Nat.mod_eq_of_lt hpad, show (8 * rest.length + pad) / 8 = rest.length by omega, map_joinElem hfmt hv, hrest]
  rw [if_neg (by rw [List.length_append, htails]; omega), hzeros.1, hzeros.2]
  rfl

/-! ### The sub-streams of a block (R157) -/

/-- The elements of sub-stream `j` of a place. -/
def subChunk (fmt : Nat) (elems : List Nat) (j : Nat) : List Nat := (elems.drop (subElems fmt * j)).take (subElems fmt)

theorem subChunk_length (fmt : Nat) (elems : List Nat) (j : Nat) : (subChunk fmt elems j).length = subCount fmt elems.length j := by
  simp [subChunk, subCount]

/-- The first `n` sub-streams hold the elements in order. -/
theorem flatMap_subChunk (fmt : Nat) (elems : List Nat) (n : Nat) : (List.range n).flatMap (subChunk fmt elems) = elems.take (subElems fmt * n) := by
  induction n with
  | zero => rfl
  | succ n ih => rw [List.range_succ, List.flatMap_append, ih, List.flatMap_singleton, subChunk, Nat.mul_succ, List.take_add]

/-- The 16 sub-streams hold a whole place. -/
theorem placeBytes_div_elemBytes (fmt : Nat) : placeBytes / elemBytes fmt = subElems fmt * 16 := by
  unfold subElems elemBytes
  split_ifs <;> rfl

theorem flatMap_subChunk_all {fmt : Nat} {elems : List Nat} (h : elems.length ≤ placeBytes / elemBytes fmt) : (List.range 16).flatMap (subChunk fmt elems) = elems := by
  rw [flatMap_subChunk, List.take_of_length_le (h.trans_eq (placeBytes_div_elemBytes fmt))]

section Block
variable {fmt table : Nat} {lens : SMap Nat} {elems : List Nat}

/-- A sub-stream of a place decodes to its elements, and leaves the octets after it. -/
theorem decodeSub_subChunk (hfmt : fmt < 3) (hcomplete : completeCode fmt lens = true) (hv : ∀ v ∈ elems, v < 2 ^ (8 * elemBytes fmt)) (j : Nat) (rest : Bytes) :
    decodeSub fmt (canon fmt lens) (subCount fmt elems.length j) (encodeSub fmt (canon fmt lens) (subChunk fmt elems j) ++ rest) =
      some (subChunk fmt elems j, rest) := by
  rw [← subChunk_length]
  exact decodeSub_encodeSub hfmt hcomplete (fun v hmem => hv v (List.mem_of_mem_drop (List.mem_of_mem_take hmem))) rest

/-- The serial decoder reads `n` sub-streams from sub-stream `j` on, one after another, to the zero octets that pad the block. -/
theorem decodeSerial_subChunks (hfmt : fmt < 3) (hcomplete : completeCode fmt lens = true) (hv : ∀ v ∈ elems, v < 2 ^ (8 * elemBytes fmt)) {pad : Nat} (hpad : pad < 16) :
    ∀ n j : Nat, decodeSerial fmt elems.length (canon fmt lens) n j
      ((List.range' j n).flatMap (fun i => encodeSub fmt (canon fmt lens) (subChunk fmt elems i)) ++ List.replicate pad 0) =
        some ((List.range' j n).flatMap (subChunk fmt elems))
  | 0, j => by
    simp only [List.range'_zero, List.flatMap_nil, List.nil_append, decodeSerial]
    exact if_pos (by simp; omega)
  | n + 1, j => by
    simp only [List.range'_succ, List.flatMap_cons, List.append_assoc, decodeSerial, decodeSub_subChunk hfmt hcomplete hv,
      decodeSerial_subChunks hfmt hcomplete hv hpad n (j + 1)]

/-- The 16 sub-streams of a block. -/
def subStreams (fmt : Nat) (lens : SMap Nat) (elems : List Nat) : List Bytes := (List.range 16).map fun j => encodeSub fmt (canon fmt lens) (subChunk fmt elems j)

@[simp] theorem subStreams_length : (subStreams fmt lens elems).length = 16 := by simp [subStreams]

/-- Each sub-stream's offset is the first offset and the octets of the sub-streams before it. -/
theorem subOffsets_getElem? : ∀ {subs : List Bytes} {j : Nat} (first : Nat), j < subs.length →
    (subOffsets first subs)[j]? = some (first + (subs.take j).flatten.length)
  | _ :: _, 0, _, _ => rfl
  | b :: subs, j + 1, first, h => by
    rw [subOffsets, List.getElem?_cons_succ, subOffsets_getElem? _ (Nat.lt_of_succ_lt_succ h)]
    simp [Nat.add_assoc]

@[simp] theorem subOffsets_length : ∀ (first : Nat) (subs : List Bytes), (subOffsets first subs).length = subs.length
  | _, [] => rfl
  | first, b :: subs => congrArg (· + 1) (subOffsets_length (first + b.length) subs)

/-- No offset is beyond the end of the sub-streams. -/
theorem subOffsets_le {first x : Nat} {subs : List Bytes} (hx : x ∈ subOffsets first subs) : x ≤ first + subs.flatten.length := by
  obtain ⟨j, hj, rfl⟩ := List.getElem_of_mem hx
  have hget := subOffsets_getElem? (j := j) first (by simpa using hj)
  rw [List.getElem?_eq_getElem hj, Option.some.injEq] at hget
  have hsplit := congrArg List.length (congrArg List.flatten (List.take_append_drop j subs))
  rw [List.flatten_append, List.length_append] at hsplit
  omega

/-! ### The header (R156) -/

theorem unle_le : ∀ n v : Nat, unle (le n v) = v % 256 ^ n
  | 0, v => (Nat.mod_one v).symm
  | n + 1, v => by rw [le, unle, unle_le n, Nat.pow_succ', Nat.mod_mul]

theorem unle_le_two {v : Nat} (h : v < 65536) : unle (le 2 v) = v := (unle_le 2 v).trans (Nat.mod_eq_of_lt h)

theorem crcShift_lt (c : Nat) : crcShift c < 2 ^ 16 := by
  have hshift : c * 2 % 65536 < 2 ^ 16 := Nat.mod_lt _ (by decide)
  unfold crcShift
  split_ifs
  · exact Nat.xor_lt_two_pow hshift (by decide)
  · exact hshift

/-- A CRC-16 fits its field. -/
theorem crc16_lt (bs : Bytes) : crc16 bs < 65536 := by
  induction bs using List.reverseRecOn with
  | nil => decide
  | append_singleton bs b ih =>
    rw [crc16, List.foldl_append]
    exact crcShift_lt _

/-- The header's octets before the offsets, with a value of HCHK. -/
def headerHead (fmt table count chk : Nat) : Bytes := le 1 fmt ++ [0] ++ le 2 table ++ le 2 count ++ le 2 chk

/-- The header's octets from the offsets on. -/
def headerTail (offs : List Nat) : Bytes := (offs.flatMap fun o => le 2 o) ++ List.replicate 8 0

theorem blockHeader_eq (count : Nat) (offs : List Nat) :
    blockHeader fmt table count offs = headerHead fmt table count (crc16 (headerHead fmt table count 0 ++ headerTail offs)) ++ headerTail offs := by
  simp only [blockHeader, headerHead, headerTail, List.append_assoc]

theorem headerHead_length (count chk : Nat) : (headerHead fmt table count chk).length = 8 := by simp [headerHead, le_length]

theorem headerTail_length {offs : List Nat} (h : offs.length = 16) : (headerTail offs).length = 40 := by
  simp [headerTail, List.length_flatMap, le_length, h]

/-- The offsets read from a block are those of its header. -/
theorem read_offsets {offs : List Nat} (h16 : offs.length = 16) (hfit : ∀ x ∈ offs, x < 65536) {head : Bytes} (hhead : head.length = 8) (rest : Bytes) :
    ((List.range 16).map fun j => unle (((head ++ (headerTail offs ++ rest)).drop (8 + 2 * j)).take 2)) = offs := by
  refine List.ext_getElem (by simp [h16]) fun j _ hj => ?_
  rw [List.getElem_map, List.getElem_range, ← List.drop_drop, List.drop_left' hhead, headerTail, List.append_assoc, Nat.mul_comm,
    take_drop_flatMap (fun o => le_length 2 o) _ hj, unle_le_two (hfit _ (List.getElem_mem hj))]

/-- HCHK of a block with its own header is the check of the header with HCHK taken as 0. -/
theorem header_check (count : Nat) {offs : List Nat} (h16 : offs.length = 16) (rest : Bytes) :
    crc16 ((blockHeader fmt table count offs ++ rest).take 6 ++ [0, 0] ++ ((blockHeader fmt table count offs ++ rest).take 0x30).drop 8) =
      unle (((blockHeader fmt table count offs ++ rest).drop 6).take 2) := by
  have htail := headerTail_length h16
  have hall : (blockHeader fmt table count offs ++ rest).take 0x30 = blockHeader fmt table count offs :=
    List.take_left' (by rw [blockHeader_eq, List.length_append, headerHead_length, htail])
  rw [hall, blockHeader_eq, List.drop_left' (headerHead_length ..)]
  generalize hchk : crc16 (headerHead fmt table count 0 ++ headerTail offs) = chk
  have hlt : chk < 65536 := hchk ▸ crc16_lt _
  have hread : unle (((headerHead fmt table count chk ++ headerTail offs ++ rest).drop 6).take 2) = unle (le 2 chk) := rfl
  rw [hread, unle_le_two hlt, ← hchk]
  rfl

/-! ### Blocks (R155, R164, R165) -/

/-- A block of the sub-streams of elements, with `pad` zero octets at its end. -/
def codedBlock (fmt table : Nat) (lens : SMap Nat) (elems : List Nat) (pad : Nat) : Bytes :=
  blockHeader fmt table elems.length (subOffsets 0x30 (subStreams fmt lens elems)) ++ ((subStreams fmt lens elems).flatten ++ List.replicate pad 0)

/-- Where sub-stream `j` begins; sub-stream 16 would begin after the last. -/
def subStart (fmt : Nat) (lens : SMap Nat) (elems : List Nat) (j : Nat) : Nat := 0x30 + ((subStreams fmt lens elems).take j).flatten.length

/-- The padding octets that stand after a sub-stream: only the last has any. -/
def padAfter (pad j : Nat) : Nat := if j = 15 then pad else 0

theorem padAfter_le {pad : Nat} (hpad : pad < 16) (j : Nat) : padAfter pad j ≤ if j = 15 then 15 else 0 := by
  unfold padAfter
  split_ifs <;> omega

theorem blockHeader_length (count : Nat) {offs : List Nat} (h16 : offs.length = 16) : (blockHeader fmt table count offs).length = 48 := by
  rw [blockHeader_eq, List.length_append, headerHead_length, headerTail_length h16]

theorem blockOffsets_length : (subOffsets 0x30 (subStreams fmt lens elems)).length = 16 := (subOffsets_length ..).trans subStreams_length

/-- What the encoder forms is a block padded to 16 octets, of fewer than 4,096. -/
theorem encodeBlock_eq_some {bs : Bytes} (h : encodeBlock fmt table lens elems = some bs) :
    ∃ pad, pad < 16 ∧ bs = codedBlock fmt table lens elems pad ∧ bs.length < 4096 ∧ bs.length % 16 = 0 := by
  have hform : encodeBlock fmt table lens elems =
      let len := ((codedBlock fmt table lens elems 0).length + 15) / 16 * 16
      if placeBytes ≤ len then none else some (codedBlock fmt table lens elems 0 ++ List.replicate (len - (codedBlock fmt table lens elems 0).length) 0) := by
    simp only [codedBlock, List.replicate_zero, List.append_nil]
    rfl
  rw [hform] at h
  obtain ⟨hshort, hbs⟩ := Option.ite_none_left_eq_some.1 h
  rw [Option.some.injEq] at hbs
  unfold placeBytes at hshort
  refine ⟨((codedBlock fmt table lens elems 0).length + 15) / 16 * 16 - (codedBlock fmt table lens elems 0).length, by omega, ?_, ?_⟩
  · rw [← hbs]
    simp only [codedBlock, List.replicate_zero, List.append_nil, List.append_assoc]
  · rw [← hbs, List.length_append, List.length_replicate]
    omega

theorem subStart_succ {j : Nat} (hj : j < 16) : subStart fmt lens elems (j + 1) = subStart fmt lens elems j + (encodeSub fmt (canon fmt lens) (subChunk fmt elems j)).length := by
  have hget : (subStreams fmt lens elems)[j]? = some (encodeSub fmt (canon fmt lens) (subChunk fmt elems j)) := by simp [subStreams, hj]
  rw [subStart, subStart, List.take_add_one, hget]
  simp [Nat.add_assoc]

theorem codedBlock_length (pad : Nat) : (codedBlock fmt table lens elems pad).length = subStart fmt lens elems 16 + pad := by
  rw [codedBlock, List.length_append, blockHeader_length _ blockOffsets_length, subStart, List.take_of_length_le (by simp)]
  simp [Nat.add_assoc]

/-- The offset of each sub-stream is where it begins. -/
theorem blockOffsets_getD {j : Nat} (hj : j < 16) (d : Nat) : ((subOffsets 0x30 (subStreams fmt lens elems))[j]?).getD d = subStart fmt lens elems j := by
  rw [subOffsets_getElem? _ (by simpa using hj)]
  rfl

/-- Each sub-stream ends where the next begins, the last at the block's end. -/
theorem blockOffsets_next {j : Nat} (hj : j < 16) (pad : Nat) :
    ((subOffsets 0x30 (subStreams fmt lens elems))[j + 1]?).getD (codedBlock fmt table lens elems pad).length =
      subStart fmt lens elems j + ((encodeSub fmt (canon fmt lens) (subChunk fmt elems j)).length + padAfter pad j) := by
  rw [← Nat.add_assoc, ← subStart_succ hj, padAfter]
  by_cases hlast : j = 15
  · rw [if_pos hlast, List.getElem?_eq_none (by rw [blockOffsets_length]; omega), Option.getD_none, codedBlock_length, hlast]
  · rw [if_neg hlast, blockOffsets_getD (by omega)]
    rfl

/-- Between its offsets stands the sub-stream, the padding after the last. -/
theorem codedBlock_slice {j : Nat} (hj : j < 16) (pad : Nat) :
    ((codedBlock fmt table lens elems pad).drop (subStart fmt lens elems j)).take ((encodeSub fmt (canon fmt lens) (subChunk fmt elems j)).length + padAfter pad j) =
      encodeSub fmt (canon fmt lens) (subChunk fmt elems j) ++ List.replicate (padAfter pad j) 0 := by
  have hget : (subStreams fmt lens elems)[j]'(by simpa using hj) = encodeSub fmt (canon fmt lens) (subChunk fmt elems j) := by simp [subStreams]
  have hsplit : (subStreams fmt lens elems).flatten = ((subStreams fmt lens elems).take j).flatten ++
      (encodeSub fmt (canon fmt lens) (subChunk fmt elems j) ++ ((subStreams fmt lens elems).drop (j + 1)).flatten) := by
    rw [← hget, ← List.flatten_cons, ← List.drop_eq_getElem_cons, ← List.flatten_append, List.take_append_drop]
  rw [codedBlock, subStart, ← List.drop_drop, List.drop_left' (blockHeader_length _ blockOffsets_length), hsplit, List.append_assoc, List.drop_left' rfl,
    List.append_assoc, List.take_length_add_append, padAfter]
  by_cases hlast : j = 15
  · rw [if_pos hlast, List.drop_of_length_le (by simp [hlast])]
    simp
  · simp [if_neg hlast]

/-- Every offset fits its field. -/
theorem blockOffsets_lt {pad x : Nat} (hlen : (codedBlock fmt table lens elems pad).length < 4096) (hx : x ∈ subOffsets 0x30 (subStreams fmt lens elems)) : x < 65536 := by
  have hle := subOffsets_le hx
  rw [codedBlock_length, subStart, List.take_of_length_le (by simp)] at hlen
  omega

/-- The offsets that a reader finds in the block. -/
theorem codedBlock_offsets {pad : Nat} (hlen : (codedBlock fmt table lens elems pad).length < 4096) :
    ((List.range 16).map fun j => unle (((codedBlock fmt table lens elems pad).drop (8 + 2 * j)).take 2)) = subOffsets 0x30 (subStreams fmt lens elems) := by
  simp only [codedBlock, blockHeader_eq, List.append_assoc]
  exact read_offsets blockOffsets_length (fun _ => blockOffsets_lt hlen) (headerHead_length ..) _

/-- The header of a block agrees with the descriptor and with R156. -/
theorem headerOk_codedBlock {pad : Nat} (hfmt : fmt < 3) (htable : table < 65536) (hcount : elems.length < 65536) (hlen : (codedBlock fmt table lens elems pad).length < 4096) :
    headerOk fmt table elems.length (codedBlock fmt table lens elems pad) = true := by
  have hformat : unle ((codedBlock fmt table lens elems pad).take 1) = fmt := (unle_le 1 fmt).trans (Nat.mod_eq_of_lt (by omega))
  have hreserved : ((codedBlock fmt table lens elems pad)[1]?).getD 0 = 0 := rfl
  have htab : unle (((codedBlock fmt table lens elems pad).drop 2).take 2) = table := unle_le_two htable
  have hcnt : unle (((codedBlock fmt table lens elems pad).drop 4).take 2) = elems.length := unle_le_two hcount
  have hzeros : ((codedBlock fmt table lens elems pad).drop 0x28).take 8 = List.replicate 8 0 := by
    have hoffs : ((subOffsets 0x30 (subStreams fmt lens elems)).flatMap fun o => le 2 o).length = 32 := by
      simp [List.length_flatMap, le_length]
    rw [codedBlock, blockHeader_eq, headerTail, List.append_assoc, show 0x28 = 8 + 32 from rfl, ← List.drop_drop, List.drop_left' (headerHead_length ..),
      List.append_assoc, List.drop_left' hoffs, List.take_left' List.length_replicate]
  have hrise : ∀ j < 16, ((subOffsets 0x30 (subStreams fmt lens elems))[j]?).getD 0 ≤
      ((subOffsets 0x30 (subStreams fmt lens elems))[j + 1]?).getD (codedBlock fmt table lens elems pad).length := by
    intro j hj
    rw [blockOffsets_getD hj, blockOffsets_next hj]
    exact Nat.le_add_right ..
  simp only [headerOk, codedBlock_offsets hlen, hformat, hreserved, htab, hcnt, hzeros, blockOffsets_getD (by decide : 0 < 16)]
  simpa [subStart] using hrise

/-- What parallel decoder `j` reads between its offsets (R161, R165). -/
def parallelSub (fmt count : Nat) (code : List (Nat × Nat × Nat)) (offs : List Nat) (bs : Bytes) (j : Nat) : Option (List Nat) :=
  match decodeSub fmt code (subCount fmt count j) ((bs.drop ((offs[j]?).getD 0)).take ((offs[j + 1]?).getD bs.length - (offs[j]?).getD 0)) with
  | none => none
  | some (es, rest) => if rest.all (· == 0) && decide (rest.length ≤ if j = 15 then 15 else 0) then some es else none

/-- Where each decoder reads its elements, the block is the elements of all 16. -/
theorem decodeParallel_of_subs {count : Nat} {code : List (Nat × Nat × Nat)} {offs : List Nat} {bs : Bytes} {part : Nat → List Nat}
    (h : ∀ j < 16, parallelSub fmt count code offs bs j = some (part j)) : decodeParallel fmt count code offs bs = some ((List.range 16).flatMap part) := by
  have hsubs : (List.range 16).map (parallelSub fmt count code offs bs) = (List.range 16).map fun j => some (part j) :=
    List.map_congr_left fun j hj => h j (List.mem_range.1 hj)
  have hform : decodeParallel fmt count code offs bs =
      if ((List.range 16).map (parallelSub fmt count code offs bs)).all (·.isSome) then
        some (((List.range 16).map (parallelSub fmt count code offs bs)).flatMap fun x => x.getD []) else none := rfl
  rw [hform, hsubs, if_pos (by simp), List.flatMap_map]
  rfl

/-- The parallel decoders give back the elements of a block. -/
theorem decodeParallel_codedBlock {pad : Nat} (hfmt : fmt < 3) (hcomplete : completeCode fmt lens = true) (hv : ∀ v ∈ elems, v < 2 ^ (8 * elemBytes fmt))
    (hfull : elems.length ≤ placeBytes / elemBytes fmt) (hpad : pad < 16) :
    decodeParallel fmt elems.length (canon fmt lens) (subOffsets 0x30 (subStreams fmt lens elems)) (codedBlock fmt table lens elems pad) = some elems := by
  refine (decodeParallel_of_subs fun j hj => ?_).trans (congrArg some (flatMap_subChunk_all hfull))
  simp only [parallelSub, blockOffsets_getD hj, blockOffsets_next hj, Nat.add_sub_cancel_left, codedBlock_slice hj, decodeSub_subChunk hfmt hcomplete hv]
  exact if_pos (by simpa using padAfter_le hpad j)

/-- The serial decoder gives back the elements of a block. -/
theorem decodeSerial_codedBlock {pad : Nat} (hfmt : fmt < 3) (hcomplete : completeCode fmt lens = true) (hv : ∀ v ∈ elems, v < 2 ^ (8 * elemBytes fmt))
    (hfull : elems.length ≤ placeBytes / elemBytes fmt) (hpad : pad < 16) :
    decodeSerial fmt elems.length (canon fmt lens) 16 0 ((codedBlock fmt table lens elems pad).drop 0x30) = some elems := by
  rw [codedBlock, List.drop_left' (blockHeader_length _ blockOffsets_length), subStreams, ← List.flatMap_def, List.range_eq_range',
    decodeSerial_subChunks hfmt hcomplete hv hpad, ← List.range_eq_range', flatMap_subChunk_all hfull]

/-- A compressed place whose header passes its check and agrees is read by the decoders, the serial one in the self-test. -/
theorem readBlock_good {selfTest : Bool} {count n : Nat} {bs : Bytes} (hlo : 3 ≤ n) (hhi : n ≤ 255) (hlen : bs.length = n * 16)
    (hcheck : crc16 (bs.take 6 ++ [0, 0] ++ (bs.take 0x30).drop 8) = unle ((bs.drop 6).take 2)) (hheader : headerOk fmt table count bs = true)
    (hserial : decodeSerial fmt count (canon fmt lens) 16 0 (bs.drop 0x30) = some elems)
    (hparallel : decodeParallel fmt count (canon fmt lens) ((List.range 16).map fun j => unle ((bs.drop (8 + 2 * j)).take 2)) bs = some elems) :
    readBlock selfTest fmt table count n lens bs = .good elems := by
  have hraw : nbit n 15 = false := by rw [nbit, Nat.div_eq_of_lt (by omega)]; rfl
  have hresv : nbits n 9 6 = 0 := by rw [nbits, Nat.div_eq_of_lt (by omega)]; rfl
  have hn : n % 512 = n := Nat.mod_eq_of_lt (by omega)
  simp only [readBlock, hraw, hresv, hn, List.take_of_length_le hlen.le, hcheck, hheader, hserial, hparallel]
  rw [if_neg (by simp [hlo, hhi])]
  cases selfTest <;> simp

/-- A raw place is read without the decoders. -/
theorem readBlock_raw (selfTest : Bool) (count : Nat) (bs : Bytes) : readBlock selfTest fmt table count (2 ^ 15 + 256) lens bs = .raw (rawElems fmt count bs) := by
  simp [readBlock, nbit, nbits]

/-- Elements stored raw are read back. -/
theorem rawElems_le (hv : ∀ v ∈ elems, v < 2 ^ (8 * elemBytes fmt)) : rawElems fmt elems.length (elems.flatMap fun v => le (elemBytes fmt) v) = elems := by
  refine List.ext_getElem (by simp [rawElems]) fun i _ hi => ?_
  have hget := take_drop_flatMap (f := fun v => le (elemBytes fmt) v) (fun v => le_length (elemBytes fmt) v) [] hi
  rw [List.append_nil] at hget
  have hlt := hv _ (List.getElem_mem hi)
  rw [Nat.pow_mul] at hlt
  simp only [rawElems, List.getElem_map, List.getElem_range, hget, unle_le, Nat.mod_eq_of_lt hlt]

end Block

/-- Settles O50: no canonical code begins another (`PrefixFree.find_bits`), so each sub-stream gives back its elements and the octets after it (`decodeSub_encodeSub`); the offsets cut a block into its sub-streams, and the serial decoder finds them one after another. -/
theorem losslessCompression : Obligations.LosslessCompression := by
  intro fmt table lens elems selfTest hfmt htable hcomplete hfull hv
  refine ⟨fun bs hbs => ?_, ?raw⟩
  case raw => rw [readBlock_raw, rawElems_le hv]
  obtain ⟨pad, hpad, rfl, hlen, hunits⟩ := encodeBlock_eq_some hbs
  have hmin : 48 ≤ (codedBlock fmt table lens elems pad).length := by
    rw [codedBlock_length, subStart]
    omega
  have hcount : elems.length < 65536 := hfull.trans_lt ((Nat.div_le_self ..).trans_lt (by decide))
  have hserial := decodeSerial_codedBlock (table := table) hfmt hcomplete hv hfull hpad
  refine ⟨readBlock_good (by omega) (by omega) (by omega) (header_check _ blockOffsets_length _) (headerOk_codedBlock hfmt htable hcount hlen) hserial ?_, hserial⟩
  rw [codedBlock_offsets hlen]
  exact decodeParallel_codedBlock hfmt hcomplete hv hfull hpad

end Sys2Proof.Machine
end

section
/-! The operand expanders: what their commands answer where their conditions hold, and the obligation about them. -/

namespace Sys2Proof.Machine

/-! ### Tables (R158, R159, R160) -/

section Table
variable {s : State} {tenant slot tensor k : Nat}

/-- TABLE_BUILD of an occurrence without a table whose producers have completed, with an identifier free. -/
theorem exec_tableBuild {id : Nat} (hk : k = actKey tenant slot tensor) (hoccurred : (s.act k).occurred = true) (hnone : (s.act k).table = none)
    (hdone : s.producing tenant slot tensor = false) (hid : s.freeActTable tenant = some id) :
    exec (.tableBuild tenant slot tensor) s =
      .next ((s.addTable tenant slot tensor id (s.act k).fmt (s.act k).counts false).modAct k fun a => { a with table := some id, occurred := false, counts := [] }) := by
  change execTableBuild tenant slot tensor s = _
  simp only [execTableBuild, ← hk, hoccurred, hnone, hdone, hid]
  rfl

/-- TABLE_BUILD with no identifier free: the tensor stays raw. -/
theorem exec_tableBuild_full (hk : k = actKey tenant slot tensor) (hoccurred : (s.act k).occurred = true) (hnone : (s.act k).table = none)
    (hdone : s.producing tenant slot tensor = false) (hfull : s.freeActTable tenant = none) :
    exec (.tableBuild tenant slot tensor) s = .next ((s.modAct k fun a => { a with occurred := false, counts := [] }).tcount tenant 0xA700 8 1) := by
  change execTableBuild tenant slot tensor s = _
  simp only [execTableBuild, ← hk, hoccurred, hnone, hdone, hfull]
  rfl

/-- TABLE_REBUILD of a counted occurrence whose producers have completed, with an identifier free. -/
theorem exec_tableRebuild {old id : Nat} (hk : k = actKey tenant slot tensor) (hold : (s.act k).table = some old) (hrebuild : (s.act k).rebuild = true)
    (hoccurred : (s.act k).occurred = true) (hdone : s.producing tenant slot tensor = false) (hid : s.freeActTable tenant = some id) :
    exec (.tableRebuild tenant slot tensor) s =
      .next ((((s.modTable (tenant * 4096 + old) fun o => o.map fun x => { x with retiring := true, waitOps := s.ordersInFlight tenant }).addTable tenant slot tensor id
        (s.act k).fmt (s.act k).counts false).modAct k fun a => { a with table := some id, rebuild := false, occurred := false, counts := [] }).tcount tenant 0xA700 9 1) := by
  change execTableRebuild tenant slot tensor s = _
  simp only [execTableRebuild, ← hk, hold, hrebuild, hoccurred, hdone, hid]
  rfl

/-- TABLE_REBUILD with no identifier free: the table is kept. -/
theorem exec_tableRebuild_full {old : Nat} (hk : k = actKey tenant slot tensor) (hold : (s.act k).table = some old) (hrebuild : (s.act k).rebuild = true)
    (hoccurred : (s.act k).occurred = true) (hdone : s.producing tenant slot tensor = false) (hfull : s.freeActTable tenant = none) :
    exec (.tableRebuild tenant slot tensor) s = .next (s.modAct k fun a => { a with rebuild := false, occurred := false, counts := [] }) := by
  change execTableRebuild tenant slot tensor s = _
  simp only [execTableRebuild, ← hk, hold, hrebuild, hoccurred, hdone, hfull]
  rfl

/-- TABLE_ID_FREE of a retired table whose operations have completed. -/
theorem exec_tableIdFree {table : Nat} {x : ExpTable} (hx : s.table (tenant * 4096 + table) = some x) (hretiring : x.retiring = true)
    (hdone : ∀ k ∈ x.waitOps, k ∉ s.ordersInFlight tenant) :
    exec (.tableIdFree tenant table) s = .next (s.modTable (tenant * 4096 + table) fun _ => none) := by
  change execTableIdFree tenant table s = _
  rw [execTableIdFree, hx]
  exact listed_true (by simpa [hretiring] using hdone)

end Table

/-! ### Poisoned weights and the self-test (R164, R166) -/

/-- BLOCK_REENCODE of a poisoned block of a weight tensor of the current image. -/
theorem exec_blockReencode {s : State} {tenant slot tensor block : Nat} {i : Image} {d : TDesc} (hup : Claims.Up s (.blockReencode tenant slot tensor block))
    (hi : (s.mslot tenant slot).current = some i) (hd : i.plan.tensors[tensor]? = some d)
    (hpoisoned : ({ slot := tenant * 4 + slot, tensor := tensor, block := block } : Recovering) ∈ s.exp.poisonedWeights) :
    exec (.blockReencode tenant slot tensor block) s =
      .next { (s.encodeWeight i tenant slot tensor d block) with exp := { (s.encodeWeight i tenant slot tensor d block).exp with
        poisonedWeights := s.exp.poisonedWeights.filter fun x => decide (x ≠ { slot := tenant * 4 + slot, tensor := tensor, block := block }) } } := by
  change execBlockReencode tenant slot tensor block s = _
  simp only [execBlockReencode, whenUp_of_up hup, hi, hd]
  exact listed_true (List.contains_iff_mem.2 hpoisoned)

/-- EXPANDER_SELFTEST_END during start-up. -/
theorem exec_expanderSelftestEnd {s : State} (l : List Nat) (hstarting : s.clk.starting = true) (htesting : s.exp.selfTesting = true) :
    exec (.expanderSelftestEnd l) s =
      .next (((l.filter fun p => decide (p < 256)).dedup).foldl (fun s p => s.raise Ev.expanderFault (s.clusterOwner (p / 16)) Locus.pod p 0)
        { s with exp := { s.exp with selfTesting := false, withdrawn := (l.filter fun p => decide (p < 256)).dedup } }) := by
  change execExpanderSelftestEnd l s = _
  exact listed_true (by rw [hstarting, htesting]; rfl)

/-! ### The obligation -/

/-- Settles O16: each command by its equation above; SERIAL_RECOVERY of a block that stands in recovery is its definition, read at the operation and the tensor named. -/
theorem expanderCommandsRun : Obligations.ExpanderCommandsRun := by
  refine ⟨?build, ?rebuild, fun s tenant table x => exec_tableIdFree, ?recovery, fun s tenant slot tensor block i d => exec_blockReencode,
    fun s l => exec_expanderSelftestEnd l⟩
  case build => exact fun s tenant slot tensor k hk hoccurred hnone hdone =>
    ⟨fun id => exec_tableBuild hk hoccurred hnone hdone, exec_tableBuild_full hk hoccurred hnone hdone⟩
  case rebuild => exact fun s tenant slot tensor old k hk hold hrebuild hoccurred hdone =>
    ⟨fun id => exec_tableRebuild hk hold hrebuild hoccurred hdone, exec_tableRebuild_full hk hold hrebuild hoccurred hdone⟩
  case recovery =>
    rintro s _ slot tensor block o d0 _ _ _ rfl rfl hr ho hd0 rfl rfl
    change execSerialRecovery slot tensor block s = _
    rw [execSerialRecovery, if_pos (List.contains_iff_mem.2 hr), ho]
    simp only [hd0] <;> rfl

end Sys2Proof.Machine
end

section
/-! Execution plans: what the commands of steps and the operations without an engine of their own answer where their conditions hold, and the obligations about them. -/

namespace Sys2Proof.Machine

/-! ### STEP_INSTANTIATE (R151, R192, R297) -/

section Batch
variable {s : State} {l : List Nat}

/-- STEP_INSTANTIATE of a batch that may begin: what follows turns on the sessions above a lowered KV limit alone. -/
theorem exec_stepInstantiate (hup : Claims.Up s (.stepInstantiate l)) (hrun : s.power.state = .run) (hbatch : s.batchOk l = true)
    (hdue : ∀ i ∈ l, s.stepDue i = true) (hallowed : s.batchAllowed (s.session (l.headD 0)).tenant l = true)
    (hrecord : l.length ≤ 1 ∨ s.freeBatch.isSome = true) :
    exec (.stepInstantiate l) s =
      .next (if s.overLimit l = [] then s.beginStep l else (s.overLimit l).foldl (fun x e => x.endReq e.1 e.2.id 4 Asx.ok) s) := by
  change execStepInstantiate l s = _
  rw [execStepInstantiate, whenUp_of_up hup]
  refine (if_pos ⟨hrun, hbatch, List.all_eq_true.2 hdue, hallowed, hrecord⟩).trans ?_
  cases hover : s.overLimit l with
  | nil => rw [if_pos rfl]
  | cons e es => rw [if_neg (List.cons_ne_nil e es)]

/-- A step begins: the replay's record is used up, the Mirror record captured, the run entered with its batch record, and the sessions join it (R172, R192, R425). -/
theorem State.beginStep_eq {s1 s2 : State} {r : StepRun} (hs1 : s1 = s.batchTaken (s.session (l.headD 0)).tenant) (hr : r = s1.newRun l)
    (hs2 : s2 = s1.capture r.tenant (s1.stepRecord r)) :
    s.beginStep l = l.foldl (fun x j => x.enterRun s1.ops.nextRun j) { s2 with ops := { s2.ops with
      runs := mset none s2.ops.runs s1.ops.nextRun (some r), nextRun := s1.ops.nextRun + 1,
      batches := match r.batch with | some b => mset [] s2.ops.batches b l | none => s2.ops.batches } } := by
  subst hs1 hr hs2
  rfl

end Batch

/-! ### GROUP_INSTANTIATE and OP_DISPATCH (R182, R185, R192, R193) -/

/-- GROUP_INSTANTIATE of a run whose next group lies within its lookahead, with no IMM work ahead. -/
theorem exec_groupInstantiate {s : State} {run : Nat} {r : StepRun} {g : Group} (hup : Claims.Up s (.groupInstantiate run)) (hr : s.run run = some r)
    (hg : s.nextGroupOf r = some g) (hlook : s.mayLook run r = true) (himm : s.immAhead r = false) :
    exec (.groupInstantiate run) s =
      .next (if (s.reserveScratch run r).2 then (State.writeBatch 130 64 run g (s.reserveScratch run r).1).lateWaits else (s.reserveScratch run r).1) := by
  change execGroupInstantiate run s = _
  simp only [execGroupInstantiate, whenUp_of_up hup, hr, hg]
  exact if_pos (by simp [hlook, himm])

/-- OP_DISPATCH of the waiting operation that its free unit takes next. -/
theorem exec_opDispatch {s : State} {slot c : Nat} {o : Op} (ho : s.op slot = some o) (hnext : s.nextFor o.unit o.d.tenant = some (slot, c))
    (hwaiting : o.phase = .waiting) (hfree : s.unitFree o = true) :
    exec (.opDispatch slot) s = .next (((s.setOp slot fun x => { x with phase := .dispatched }).modCredit o.unit fun _ => c).noteStart o) := by
  change execOpDispatch slot s = _
  simp only [execOpDispatch, ho, hnext]
  exact listed_true (by simp [hwaiting, hfree])

/-! ### Completion, acceptance and timeout (R181, R186, R190) -/

/-- OP_COMPLETE of an operation at its end, which ends with a failure or whose streams have all arrived. -/
theorem exec_opComplete {s : State} {slot : Nat} {o : Op} (heldHs : Nat) (ho : s.op slot = some o) (hend : s.atEnd o = true)
    (hstreams : s.endStatus o ≠ .none ∨ s.streamed slot = true) :
    exec (.opComplete slot heldHs) s = .next (s.complete slot o (s.endStatus o) heldHs).lateWaits := by
  change execOpComplete slot heldHs s = _
  rw [execOpComplete, ho]
  exact listed_true (by simp [hend, hstreams])

/-- COMPLETION_ACCEPT of a posted record: its step ends where this record was the last. -/
theorem exec_completionAccept {s : State} {slot : Nat} {o : Op} (hup : Claims.Up s (.completionAccept slot)) (ho : s.op slot = some o)
    (hposted : slot ∈ s.ops.records) :
    exec (.completionAccept slot) s =
      (let s1 := s.modOp slot fun _ => none
       let s2 := ({ s1 with ops := { s1.ops with records := s.ops.records.filter fun k => decide (k ≠ slot) } } : State).sweepObjs
       let s3 := match s2.run o.run with
         | some r => if s2.runOver o.run r then s2.endRun o.run r else s2
         | none => s2
       .next ((mkeys s3.kv.pages).foldl State.queueFlush s3)) := by
  change execCompletionAccept slot s = _
  rw [execCompletionAccept, whenUp_of_up hup, ho]
  exact if_pos (List.contains_iff_mem.2 hposted)

/-- OP_TIMEOUT of an operation that started a millisecond ago, that no retry holds and that is not to stop yet. -/
theorem exec_opTimeout {s : State} {slot : Nat} {o : Op} (ho : s.op slot = some o) (hstarted : o.phase = .started) (hrunning : o.timerHeld = false)
    (hstopping : o.stopping = .none) (hlate : o.startAt + 1000000 ≤ s.now) :
    exec (.opTimeout slot) s = .next ((s.stopOp slot .timeout).raise Ev.opTimeout o.d.tenant Locus.slot slot o.d.req) := by
  change execOpTimeout slot s = _
  rw [execOpTimeout, ho]
  exact listed_true (by simp [hstarted, hrunning, hstopping, hlate])

/-- Settles O17: STEP_INSTANTIATE by its equation, read where no session lies above a lowered KV limit and where one does; every other command by its equation above. -/
theorem stepCommandsRun : Obligations.StepCommandsRun := by
  refine ⟨?instantiate, fun s run r g => exec_groupInstantiate, fun s slot c o => exec_opDispatch, fun s slot heldHs o => exec_opComplete heldHs,
    fun s slot o => exec_completionAccept, fun s slot o => exec_opTimeout⟩
  intro s s1 s2 l r hup hrun hbatch hdue hallowed hrecord
  have hexec := exec_stepInstantiate hup hrun hbatch hdue hallowed hrecord
  refine ⟨fun hunder hs1 hr hs2 => ?begins, fun hover => ?ends⟩
  case begins => exact hexec.trans (congrArg _ ((if_pos hunder).trans (State.beginStep_eq hs1 hr hs2)))
  case ends => rw [hexec, if_neg hover]

/-! ### MOVE, ROUTE, CORR and SYNC (R177, R178, R179, R201) -/

section Dispatched
variable {s : State} {slot : Nat} {o : Op} {a c : TDesc}

/-- MOVE of a dispatched operation whose tensors have places for the tiles moved. -/
theorem exec_moveOp {first tiles : Nat} (ho : s.opIn slot .move .dispatched = some o) (hk : o.d.k = .move first tiles)
    (ha : s.tensor o o.d.opA = some a) (hc : s.tensor o o.d.opC = some c)
    (hplaced : Claims.Placed s o [(o.d.opA, (first + tiles) * a.tileOctets), (o.d.opC, (first + tiles) * a.tileOctets)]) :
    exec (.moveOp slot) s = .next ((((s.startOp slot).moveTiles o a c first tiles).moveTable o a).workDone slot) := by
  change execMoveOp slot s = _
  simp only [execMoveOp, ho, hk, ha, hc]
  exact withPlaces_of_placed _ hplaced

/-- ROUTE of a dispatched operation whose tensors have places for the logits and for the route record. -/
theorem exec_routeOp {experts k tokens mode : Nat} (ho : s.opIn slot .route .dispatched = some o) (hk : o.d.k = .route experts k tokens mode)
    (ha : s.tensor o o.d.opA = some a) (hc : s.tensor o o.d.opC = some c)
    (hplaced : Claims.Placed s o [(o.d.opA, tokens * (if experts = 0 then 256 else experts) * 4), (o.d.opC, tokens * k * 8)]) :
    exec (.routeOp slot) s =
      (let n := if experts = 0 then 256 else experts
       let sel := (List.range tokens).map fun v => routeToken k mode ((List.range n).map fun i => toF32 (s.runElem o o.d.opA a n v i))
       .next ((((s.startOp slot).putTensor o o.d.opC c 0 (sel.flatMap fun l => l.flatMap fun e => [e.1 % 256, 0, 0, 0] ++ le 4 e.2.toNat)).modPopular
         (popKey o.d.tenant o.slotModel (s.opTemplate o).layer) fun p => p.select (sel.flatMap fun l => l.map (·.1))).workDone slot)) := by
  change execRouteOp slot s = _
  simp only [execRouteOp, ho, hk, ha, hc]
  exact withPlaces_of_placed _ hplaced

/-- CORR of a dispatched operation whose operands have places: the escapes of a vector take 68 octets, and the first 2,048 words of the contribution are staged from word 2,048 of the unit's buffer (log entry 29). -/
theorem exec_corrOp (ho : s.opIn slot .corr .dispatched = some o) (hplaced : Claims.Placed s o [(o.d.opA, 68), (o.d.opC, 4)]) :
    exec (.corrOp slot) s =
      .next ((s.startOp slot).modUnit o.podOf fun u => u.puts 2048 (((s.corrSpan o).take 2048).map fun x => (s.corrWord o x.1 x.2.1 x.2.2).w)) := by
  change execCorrOp slot s = _
  rw [execCorrOp, ho]
  exact withPlaces_of_placed _ hplaced

/-- CORR_ADD of a started CORR whose gate is satisfied and which has not added its contribution. -/
theorem exec_corrAdd {d : TDesc} (ho : s.opIn slot .corr .started = some o) (hd : s.tensor o o.d.opC = some d) (hgate : s.waitOk o.d.wait1 = true)
    (hundone : o.workDone = false) :
    exec (.corrAdd slot) s = .next (((s.corrSpan o).foldl (fun s x => s.corrPut o d x) s).workDone slot) := by
  change execCorrAdd slot s = _
  simp only [execCorrAdd, ho, hd]
  exact listed_true (by simp [hgate, hundone])

/-- SYNC of a dispatched operation. -/
theorem exec_syncOp (ho : s.opIn slot .sync .dispatched = some o) : exec (.syncOp slot) s = .next ((s.startOp slot).workDone slot) := by
  change execSyncOp slot s = _
  rw [execSyncOp, ho]

end Dispatched

/-- Settles O18: each command by its equation above. -/
theorem planOperationsRun : Obligations.PlanOperationsRun := by
  exact ⟨fun s slot o first tiles a c => exec_moveOp, fun s slot o experts k tokens mode a c => exec_routeOp, fun s slot o => exec_corrOp,
    fun s slot o d => exec_corrAdd, fun s slot o => exec_syncOp⟩

end Sys2Proof.Machine
end

section
/-! The step and the form of memory: the three cases of a step, what every step keeps, and the obligation about memory. -/

namespace Sys2Proof.Machine

section Cases
variable {s : State}

/-! ### The cases of a step (R305, R450; log entry 3) -/

/-- A command at the front of the queue runs. -/
theorem step_front {c : Instr} {rest : List Instr} (hqueue : s.pending = c :: rest) : step s = exec c { s with pending := rest } := by
  rw [step, hqueue]

/-- On an empty queue the oldest held command that need not wait any longer runs. -/
theorem step_held {i : Nat} (hqueue : s.pending = []) (hready : s.readyAt = some i) : step s = s.runHeld i := by
  rw [step, hqueue]
  simp only [hready]

/-- On an empty queue with no held command that may run, a nanosecond passes. -/
theorem step_idle (hqueue : s.pending = []) (hready : s.readyAt = none) : step s = .next s.tick := by
  rw [step, hqueue]
  simp only [hready]

end Cases

/-! ### What every step keeps -/

/-- Every step keeps what `exec` keeps, counted from the state without the front command: the rest of the queue, and the canonical form of memory. -/
theorem step_keeps (s : State) : KeepsR { s with pending := s.pending.drop 1 } (step s) := by
  cases hqueue : s.pending with
  | cons c rest =>
    rw [step_front hqueue]
    exact exec_keeps (Keeps.refl _) c
  | nil =>
    have hstart : Keeps { s with pending := List.drop 1 [] } s := ⟨hqueue, id⟩
    cases hready : s.readyAt with
    | some i =>
      rw [step_held hqueue hready]
      exact State.runHeld_keeps hstart (fun c _ hu => exec_keeps hu c) i
    | none =>
      rw [step_idle hqueue hready]
      exact KeepsR.next (State.tick_keeps hstart)

/-- Settles O49: the state without its front command has the same memory, and every step keeps the form from there. -/
theorem memoryKeepsForm : Obligations.MemoryKeepsForm := by
  intro s t hwf hstep
  exact (step_keeps s t hstep).mem hwf

end Sys2Proof.Machine
end

section
/-! Memory tiers: what a write of one entry answers once it reaches the entry's own rule, the rules of the quotas of 10_tiers_and_placement.md, and the obligation about them. -/

namespace Sys2Proof.Machine

section Commands
variable {s : State} {rq : Rq} {c : Conn}

/-- A write of one entry that reaches the entry's own rule, where that rule gives OK or PENDING and leaves `t`, is accepted with `t` as its effect (R351, R352). -/
theorem accepts_of_reaches {i : Instr} {code value status : Nat} {t : State} {body : State → Nat × State} (hreach : Claims.Reaches s i rq c code)
    (hexec : exec i s = bdpCmd i rq code value body s) (hbody : body s = (status, t)) (hstatus : status = Bdp.ok ∨ status = Bdp.pending) :
    Claims.Accepts s i rq c code status value t := by
  obtain ⟨hconn, hkind, hphase, ⟨hpowered, hholds⟩, hlease, hitem⟩ := hreach
  rw [Claims.Accepts, hexec, bdpCmd_runs hconn hkind hphase hpowered hholds hlease hitem, hbody]
  exact congrArg _ (if_pos hstatus)

/-! ### The rules of the quotas (R199, R202, R203, R208) -/

/-- CACHE_WAYS from 2 to 30, within the slices' ways and the envelope, of a FORMING or ACTIVE tenant. -/
theorem cacheWaysBody_ok {t v : Nat} (hlo : 2 ≤ v) (hhi : v ≤ 30) (hfit : (s.setStored (0x8100 + t) 3 2 v).waysFit = true)
    (hopen : s.tenState t = .forming ∨ s.tenState t = .active) (henvelope : v ≤ (s.envOf t).maxWays) :
    cacheWaysBody t v s = (Bdp.ok, (s.setStored (0x8100 + t) 3 2 v).assignWays) := by
  have hrange : ¬ (v < 2 ∨ 30 < v ∨ (s.setStored (0x8100 + t) 3 2 v).waysFit = false) :=
    not_or.2 ⟨Nat.not_lt.2 hlo, not_or.2 ⟨Nat.not_lt.2 hhi, by simp [hfit]⟩⟩
  have hquota : s.quotaOpen t = true := by
    simpa [State.quotaOpen] using hopen
  unfold cacheWaysBody
  dsimp only
  rw [if_neg hrange, if_neg (by simp [hquota]), if_neg (Nat.not_lt.2 henvelope)]

/-- CS_KV_PAGES that leaves the window's stream regions and 2 more. -/
theorem csKvPagesBody_ok {t v : Nat} (hmax : v ≤ 88) (hwindow : s.sv (0x8130 + t) 1 6 + 2 ≤ 96 - v) :
    csKvPagesBody t v s = (Bdp.ok, (s.setStored (0x8100 + t) 4 80 v).trimHot t) :=
  if_neg (not_or.2 ⟨Nat.not_lt.2 hmax, Nat.not_lt.2 hwindow⟩)

/-- A sub-quota of a FORMING tenant; SHADOW is 9 MiB or more. -/
theorem dramSubQuotaBody_forming {t which v : Nat} (hshadow : which = 4 → 9 ≤ v) (hforming : s.tenState t = .forming) :
    dramSubQuotaBody t which v s = (Bdp.ok, s.setStored (0x8110 + t) which (subDefault which) v) :=
  (if_neg fun hsmall => Nat.not_lt.2 (hshadow hsmall.1) hsmall.2).trans (if_pos hforming)

/-! ### Ways and experts (R209, R212) -/

/-- WAY_HANDOVER of a way that waits for its new owner. -/
theorem exec_wayHandover {slice way : Nat} (hslice : slice < 8) (hway : way < 32) (hwaiting : s.wayNext (slice * 32 + way) ≠ 0) :
    exec (.wayHandover slice way) s =
      .next ((({ s with tiers := { s.tiers with lines := s.tiers.lines.filter fun e => !decide (e.1 / 1024 = slice * 32 + way) } } : State).modWayOwner (slice * 32 + way)
        fun _ => if s.wayNext (slice * 32 + way) = 10 then 0 else s.wayNext (slice * 32 + way)).modWayNext (slice * 32 + way) fun _ => 0) :=
  listed_true (by simp [hslice, hway, hwaiting])

/-- EXPERT_REBALANCE_CHECK of a layer whose check is due. -/
theorem exec_expertRebalanceCheck {t slot layer : Nat} (hup : Claims.Up s (.expertRebalanceCheck t slot layer))
    (hdue : (s.popular (popKey t slot layer)).checkDue = true) : exec (.expertRebalanceCheck t slot layer) s = .next (s.expertCheck t slot layer) := by
  change execExpertRebalanceCheck t slot layer s = _
  rw [execExpertRebalanceCheck, whenUp_of_up hup]
  exact listed_true hdue

end Commands

/-! ### The obligation -/

/-- Settles O19: each quota by what its entry's rule gives, the hand-over of a way and the check of a layer by their equations above. -/
theorem tierCommandsRun : Obligations.TierCommandsRun := by
  refine ⟨?cacheWays, ?csKvPages, ?dramSubQuota, fun s slice way => exec_wayHandover, fun s t slot layer => exec_expertRebalanceCheck⟩
  case cacheWays =>
    intro s rq c t v hreach hlo hhi hfit hopen henvelope
    exact accepts_of_reaches hreach rfl (cacheWaysBody_ok hlo hhi hfit hopen henvelope) (.inl rfl)
  case csKvPages =>
    intro s rq c t v hreach hmax hwindow
    exact accepts_of_reaches hreach rfl (csKvPagesBody_ok hmax hwindow) (.inl rfl)
  case dramSubQuota =>
    intro s rq c t w v hreach hshadow hforming
    exact accepts_of_reaches hreach rfl (dramSubQuotaBody_forming hshadow hforming) (.inl rfl)

end Sys2Proof.Machine
end

section
/-! Weight streaming: an equation for each command of 11_weight_streaming.md and the obligation about them. -/

namespace Sys2Proof.Machine

section Commands
variable {s : State} {pod slot operand entry : Nat} {x : Stream} {t : Xfer}

/-! ### Issue (R220, R221) -/

/-- STREAM_ISSUE with fewer than 6 transfers outstanding and room for the next entry's credits. -/
theorem exec_streamIssue {e : SEntry} (hnext : (s.engine pod).nextStream = some x) (hentry : x.list[x.next]? = some e) (hout : (s.engine pod).outstanding < 6)
    (hcredits : (s.engine pod).held + e.credits ≤ s.creditCap (pod / 16)) : exec (.streamIssue pod) s = .next (s.issueEntry pod x e) := by
  change execStreamIssue pod s = _
  simp only [execStreamIssue, hnext, hentry]
  exact listed_true (by simp [hout, hcredits])

/-! ### Landing (R225, R227) -/

section Outstanding
variable (hxfer : (s.engine pod).xfers.find? (fun t => decide (t.slot = slot ∧ t.operand = operand ∧ t.entry = entry) && !t.landed) = some t)
  (hmay : (s.engine pod).mayLand t = true)
include hxfer hmay

/-- TRANSFER_LAND of a block that an operation will read, with the tag of the tenant that owns the pod. -/
theorem exec_transferLand_landBlock (hread : t.discard = false)
    (hstream : (s.engine pod).streams.find? (fun x => decide (x.slot = slot ∧ x.operand = operand)) = some x) :
    exec (.transferLand pod slot operand entry (s.clusterOwner (pod / 16))) s = .next (s.landBlock pod x t) := by
  change execTransferLand pod slot operand entry (s.clusterOwner (pod / 16)) s = _
  simp only [execTransferLand, hxfer]
  rw [if_neg (by simp [hmay]), if_neg (not_not.2 rfl), if_neg (by simp [hread])]
  simp only [hstream]

/-- TRANSFER_LAND of a block that no operation will read, with the tag of the tenant that owns the pod. -/
theorem exec_transferLand_discardBlock (hunread : t.discard = true) :
    exec (.transferLand pod slot operand entry (s.clusterOwner (pod / 16))) s = .next (s.discardBlock pod t (s.clusterOwner (pod / 16))) := by
  change execTransferLand pod slot operand entry (s.clusterOwner (pod / 16)) s = _
  simp only [execTransferLand, hxfer]
  rw [if_neg (by simp [hmay]), if_neg (not_not.2 rfl), if_pos hunread]

end Outstanding

/-! ### Late streams (R226) -/

/-- STREAM_LATE of a wait of 20 us that has not been counted. -/
theorem exec_streamLate {l : Late} (hlate : s.streams.lates.find? (fun l => decide (l.slot = slot)) = some l) (huncounted : l.counted = false)
    (hwaited : 20000 ≤ s.now - l.since) :
    exec (.streamLate slot) s =
      .next (({ s with streams := { s.streams with lates := s.streams.lates.map fun y => if y.slot = slot then { y with counted := true } else y } } : State).tcount
        (match s.op slot with | some o => o.d.tenant | none => 0) 0xAA00 3 1) := by
  change execStreamLate slot s = _
  simp only [execStreamLate, hlate]
  exact listed_true (by simp [huncounted, hwaited])

end Commands

/-! ### The obligation -/

/-- Settles O20: each command by its equation above, a landing by whether an operation will read its block. -/
theorem streamCommandsRun : Obligations.StreamCommandsRun := by
  refine ⟨?issue, ?land, ?discard, ?late⟩
  case issue => exact fun s pod x e => exec_streamIssue
  case land => exact fun s pod slot operand entry t x => exec_transferLand_landBlock
  case discard => exact fun s pod slot operand entry t => exec_transferLand_discardBlock
  case late => exact fun s slot l => exec_streamLate

end Sys2Proof.Machine
end

section
/-! The DRAM controller: an equation for each command of 12_dram_controller.md, and the obligations about them. -/

namespace Sys2Proof.Machine

/-! ### Requests that a channel admits (R22, R232, R246, R251) -/

/-- A request to a unit that exists goes on (R231, R234). -/
theorem withUnit_of_lt {ch unit : Nat} (r : Res) (hch : ch < 32) (hunit : unit < unitCount) : withUnit ch unit r = r := if_pos ⟨hch, hunit⟩

section Requests
variable {s : State} {ch unit t : Nat}

/-- A channel that takes requests and has room in a queue of 64 does not refuse (R22, R246). -/
theorem not_refused_of_open {queued : Nat} (hopen : s.chanOpen ch = true) (hroom : queued < 64) : ¬ (!s.chanOpen ch || decide (64 ≤ queued)) = true := by
  simp [hopen, hroom]

section Admitted
variable (hch : ch < 32) (hunit : unit < unitCount) (hopen : s.chanOpen ch = true) (hmay : s.mayAccess ch unit t = true)
include hch hunit hopen hmay

/-- DRAM_READ that the channel admits: a hit is served in the tenant's ways, a miss joins the queue behind the writes it must follow (R207, R238, R239). -/
theorem exec_dramRead {imm : Bool} {op : Option Nat} {id : Nat} {flaw : ReadFlaw} (hroom : (s.chan ch).reads.length < 64) :
    exec (.dramRead ch unit t imm op id flaw) s =
      (let r := if t = 0 then (s, false) else s.cacheAccess t ch (unit * 64) (s.allocates t (unit * 64)) false
       if r.2 then .next (r.1.modChan ch fun c => { c with lastRead := some id, lastData := r.1.unitData ch unit })
       else .next (((r.1.wakeChan ch).drainFor ch unit t).modChan ch fun c =>
         { c with reads := c.reads ++ [{ id := id, unit := unit, tenant := t, imm := imm, op := op, flaw := flaw }] })) := by
  change execDramRead ch unit t imm op id flaw s = _
  rw [execDramRead, withUnit_of_lt _ hch hunit, if_neg (not_refused_of_open hopen hroom), if_neg (by simp [hmay])]

/-- DRAM_WRITE that the channel admits, under a key that is not being zeroised (R237, R238; log entry 35). -/
theorem exec_dramWrite {data : List Nat} (hroom : (s.chan ch).writes.length < 64) (hkey : (s.keySlot t).zeroising = false) :
    exec (.dramWrite ch unit t data) s = .next (s.acceptWrite ch unit t data) := by
  change execDramWrite ch unit t data s = _
  rw [execDramWrite, withUnit_of_lt _ hch hunit, if_neg (not_refused_of_open hopen hroom), if_neg (by simp [hmay]), if_neg (by simp [hkey])]

end Admitted

/-! ### Drains (R238) -/

/-- WRITE_DRAIN of a channel with no read queued: every write it holds. -/
theorem exec_writeDrain_idle (hwrites : (s.chan ch).writes ≠ []) (hreads : (s.chan ch).reads = []) :
    exec (.writeDrain ch) s = .next (s.issueWrites ch (s.chan ch).writes.length) :=
  (if_neg hwrites).trans (if_pos hreads)

/-- WRITE_DRAIN of a channel with reads queued and 48 writes or more: down to 16. -/
theorem exec_writeDrain_busy (hfull : 48 ≤ (s.chan ch).writes.length) (hreads : (s.chan ch).reads ≠ []) :
    exec (.writeDrain ch) s = .next (s.issueWrites ch ((s.chan ch).writes.length - 16)) := by
  have hwrites : (s.chan ch).writes ≠ [] := List.ne_nil_of_length_pos (by omega)
  exact (if_neg hwrites).trans ((if_neg hreads).trans (listed_true (decide_eq_true hfull)))

/-! ### Retries (R242) -/

/-- READ_RETRY of a queued read, with no other retry on the channel. -/
theorem exec_readRetry {id : Nat} {r : RdReq} (hread : (s.chan ch).reads.find? (fun r => decide (r.id = id)) = some r) (hidle : (s.chan ch).retrying = none)
    (hactive : (s.chan ch).state = .active) :
    exec (.readRetry ch id) s =
      .next ((s.modChan ch fun c => { c with reads := dropFirst (fun x => decide (x = r)) c.reads, retrying := some r }).holdTimer r.op true) := by
  change execReadRetry ch id s = _
  simp only [execReadRetry, hread]
  exact listed_true (by simp [hidle, hactive])

/-- READ_RETRY_RETURN: the timer of the operation that reads runs again, then the read is delivered or has failed. -/
theorem exec_readRetryReturn {good : Bool} {r : RdReq} {s1 : State} (hretry : (s.chan ch).retrying = some r)
    (hs1 : s1 = (s.modChan ch fun c => { c with retrying := none }).holdTimer r.op false) :
    exec (.readRetryReturn ch good) s =
      .next (if good then ((s1.deliverRead ch r).tcount r.tenant 0xAB00 1 1).raise Ev.dramRetryOk (s1.clusterOwner (ch / 2)) Locus.channel ch (r.unit * 64)
        else s1.readFailed ch r) := by
  subst hs1
  change execReadRetryReturn ch good s = _
  rw [execReadRetryReturn, hretry]

end Requests

/-- Settles O21: each command by its equation above, a drain by whether the channel has reads queued. -/
theorem dramRequestsRun : Obligations.DramRequestsRun := by
  refine ⟨?read, ?write, fun s ch => exec_writeDrain_idle, fun s ch => exec_writeDrain_busy, fun s ch id r => exec_readRetry, ?retryReturn⟩
  case read =>
    intro s ch u t imm op id flaw hch hunit hopen hroom hmay
    exact exec_dramRead hch hunit hopen hmay hroom
  case write =>
    intro s ch u t data hch hunit hopen hroom hmay
    exact exec_dramWrite hch hunit hopen hmay hroom
  case retryReturn =>
    intro s ch good r hretry
    exact exec_readRetryReturn hretry rfl

section Upkeep
variable {s : State} {ch t : Nat}

/-! ### Refresh (R243) -/

section Refresh
variable {pair : Nat} (hactive : (s.chan ch).state = .active) (hpair : pair < 16)
include hactive hpair

/-- REFRESH of a bank pair of an active channel: only a pair in use with fewer than 7 refreshes postponed postpones another. -/
theorem exec_refresh {busy : Bool} :
    exec (.refresh ch pair busy) s =
      .next (s.modChan ch fun c => if busy = true ∧ mget 0 c.postponed pair < 7 then { c with postponed := mmod 0 c.postponed pair (· + 1) } else c.refreshed pair) :=
  listed_true (by simp [hactive, hpair])

/-- REFRESH of a free pair. -/
theorem exec_refresh_free : exec (.refresh ch pair false) s = .next (s.modChan ch fun c => c.refreshed pair) := by
  simp [exec_refresh hactive hpair]

/-- REFRESH of a pair in use. -/
theorem exec_refresh_busy :
    exec (.refresh ch pair true) s =
      .next (s.modChan ch fun c => if mget 0 c.postponed pair < 7 then { c with postponed := mmod 0 c.postponed pair (· + 1) } else c.refreshed pair) := by
  simp [exec_refresh hactive hpair]

end Refresh

/-! ### Self-refresh (R244) -/

/-- SELF_REFRESH_ENTRY of an active channel with no request for its idle limit. -/
theorem exec_selfRefreshEntry (hch : ch < 32) (hactive : (s.chan ch).state = .active) (hreads : (s.chan ch).reads = []) (hwrites : (s.chan ch).writes = [])
    (hretry : (s.chan ch).retrying = none) (hidle : (s.chan ch).idleLimit ≤ s.now - (s.chan ch).lastBusy) :
    exec (.selfRefreshEntry ch) s = .next ((s.modChan ch fun c => { c with state := .selfRefresh, openRow := [] }).count 0xAC04 (ch + 1) 1) :=
  listed_true (by simp [hch, hactive, hreads, hwrites, hretry, hidle])

/-- SELF_REFRESH_EXIT of a channel that takes requests. -/
theorem exec_selfRefreshExit (hasleep : (s.chan ch).state = .selfRefresh) (hopen : s.chanOpen ch = true) :
    exec (.selfRefreshExit ch) s = .next (s.wakeChan ch) :=
  listed_true (by simp [hasleep, hopen])

/-! ### Scrub and retraining (R245, R250) -/

/-- PATROL_SCRUB of a row with nothing to correct. -/
theorem exec_patrolScrub_clean (hch : ch < 32) (hactive : (s.chan ch).state = .active) (hopen : s.chanOpen ch = true) :
    exec (.patrolScrub ch none) s = .next ((s.modChan ch fun c => { c with scrubRow := (c.scrubRow + 1) % scrubRows }).count 0xAC03 (ch + 1) 1) :=
  listed_true (by simp [hch, hactive, hopen])

/-- RETRAIN of an active channel 100 ms after the last one, or after a move of 5 degrees. -/
theorem exec_retrain {temp : Int} (hch : ch < 32) (hactive : (s.chan ch).state = .active)
    (hdue : 100000000 ≤ s.now - (s.chan ch).lastRetrain ∨ 5000 ≤ (temp - (s.chan ch).oscTemp).natAbs) :
    exec (.retrain ch temp) s = .next (s.modChan ch fun c => { c with oscTemp := temp, lastRetrain := s.now }) :=
  listed_true (by simpa [hch, hactive] using hdue)

/-! ### Key zeroisation (R237, R374) -/

/-- A write of a key slot leaves the removals as they are. -/
@[simp] theorem State.removal_modKeySlot (k : Nat) (f : KeySlot → KeySlot) : (s.modKeySlot k f).removal t = s.removal t := rfl

section Zeroise
variable (hzeroising : (s.keySlot t).zeroising = true) (hdrained : s.keyWrites t = 0)
include hzeroising hdrained

/-- KEY_ZEROISE that no removal asked for, with no write left under the key. -/
theorem exec_keyZeroise_alone (hremoval : s.removal t = none) : exec (.keyZeroise t) s = .next (s.modKeySlot t fun _ => {}) := by
  refine (listed_true (by simp [hzeroising, hdrained])).trans ?_
  simp only [State.removal_modKeySlot, hremoval]

/-- KEY_ZEROISE that a removal at step 5 waits for, with no write left under the key: the removal goes on. -/
theorem exec_keyZeroise_removal {r : Removal} (hremoval : s.removal t = some r) (hstep : r.step = 5) :
    exec (.keyZeroise t) s = .next ((s.modKeySlot t fun _ => {}).beginScrub t) := by
  refine (listed_true (by simp [hzeroising, hdrained])).trans ?_
  simp only [State.removal_modKeySlot, hremoval]
  rw [if_pos hstep]

end Zeroise

end Upkeep

/-- Settles O22: each command by its equation above; a retraining is due by the time passed, a zeroisation goes by whether a removal asked for it. -/
theorem dramUpkeepRuns : Obligations.DramUpkeepRuns := by
  exact ⟨fun s ch pair => exec_refresh_free, fun s ch pair => exec_refresh_busy, fun s ch => exec_selfRefreshEntry, fun s ch => exec_selfRefreshExit,
    fun s ch => exec_patrolScrub_clean, fun s ch temp hch hactive hdue => exec_retrain hch hactive (.inl hdue), fun s t => exec_keyZeroise_alone,
    fun s t r hzeroising hdrained => exec_keyZeroise_removal hzeroising hdrained⟩

end Sys2Proof.Machine
end

section
/-! The step's queue and the state at reset: what a step does with the queue of waiting commands, what the machine as delivered holds, and the obligations about them. -/

namespace Sys2Proof.Machine

/-- Settles O1: the first case of a step. -/
theorem stepFront : Obligations.StepFront :=
  fun _ _ _ hqueue => step_front hqueue

/-- Settles O47: the two cases of a step on an empty queue. -/
theorem idleStep : Obligations.IdleStep :=
  fun _ hqueue => ⟨fun _ hready => step_held hqueue hready, fun hready => step_idle hqueue hready⟩

/-- Settles O48: every step keeps the queue of the state without the front command. -/
theorem stepTakesOneCommand : Obligations.StepTakesOneCommand :=
  fun s t hstep => (step_keeps s t hstep).pending

/-- The delivered values of MACSEC_REQUIRED and MKA_CAK of both host ports (R327). -/
theorem reset_macsec {p : Nat} (hport : p < 2) : State.reset.setting (0x3100 + p) 12 = 1 ∧ State.reset.setting (0x3100 + p) 13 = 0 := by
  interval_cases p
  · decide +kernel
  · decide +kernel

/-- Settles O46: the fields of the state at reset, and the delivered values of the ports' entries. -/
theorem resetState : Obligations.ResetState :=
  ⟨rfl, rfl, rfl, rfl, by decide +kernel, rfl, rfl, rfl, fun _ => reset_macsec, fun _ => rfl⟩

end Sys2Proof.Machine
end

section
/-! Uploads, model slots, adapters and training jobs: what each entry's rule of 13_model_lifecycle.md gives, an equation for each event, and the obligations about them. -/

namespace Sys2Proof.Machine

/-- An event of the control cores that the state lists answers its effect, when the device is on and nothing makes it wait (R14, R305). -/
theorem listed_of_up {s r : State} {i : Instr} {g : Bool} (hup : Claims.Up s i) (hlisted : g = true) : s.whenUp i (s.listed g r) = .next r :=
  (whenUp_of_up hup).trans (listed_true hlisted)

section Bodies
variable {s : State}

/-! ### Uploads (R254, R271) -/

/-- UPLOAD_BEGIN of a valid kind, slot and length that UFS fits, in an ACTIVE tenant with no upload open. -/
theorem uploadBeginBody_ok {t kind slot bytes : Nat} (hkind : kind ≤ 2) (hslot : slot < (if kind = 1 then 16 else 4)) (hlen : 0 < bytes) (hpages : bytes % 4096 = 0)
    (hactive : s.tenState t = .active) (hnone : s.upload t = none) (htakes : s.slotTakes t kind slot = true) (hunused : kind = 2 → s.datasetInUse t slot = false)
    (hfits : s.ufsFits t bytes = true) :
    uploadBeginBody t kind slot bytes false s = (Bdp.ok, s.modUpload t fun _ => some { kind := kind, slot := slot, bytes := bytes }) := by
  have hrange : ¬ (2 < kind ∨ (if kind = 1 then 16 else 4) ≤ slot ∨ bytes = 0 ∨ bytes % 4096 ≠ 0) := by omega
  unfold uploadBeginBody
  rw [if_neg Bool.false_ne_true, if_neg hrange, if_neg (by simp [hactive, hnone]), if_neg (by simp [htakes]),
    if_neg fun hused => by simp [hunused hused.1] at hused, if_neg (by simp [hfits])]

/-- UPLOAD_DATA within the length of the open upload. -/
theorem uploadDataBody_ok {t offset len : Nat} {img : Option Image} {u : Upload} (hopen : s.upload t = some u) (hwithin : offset + len ≤ u.bytes) :
    uploadDataBody t offset len img s =
      (Bdp.ok, s.modUpload t fun o => o.map fun u => { u with written := if len = 0 then u.written else u.written ++ [(offset, offset + len)], img := img }) := by
  simp only [uploadDataBody, hopen]
  exact if_neg (Nat.not_lt.2 hwithin)

/-- UPLOAD_END of a whole upload whose image passes its checks and whose slot takes it. -/
theorem uploadEndBody_ok {t : Nat} {u : Upload} (hopen : s.upload t = some u) (hpasses : u.endStatus = Bdp.ok) (htakes : s.slotTakes t u.kind u.slot = true) :
    uploadEndBody t s = (Bdp.pending, ((s.handOver t u).modUpload t fun _ => none).finish (entryCode (0x5300 + t) 4) Bdp.ok) := by
  simp only [uploadEndBody, hopen]
  rw [if_neg (not_not.2 hpasses), if_neg (by simp [htakes])]

/-- UPLOAD_ABORT of an open upload. -/
theorem uploadAbortBody_ok {t : Nat} {u : Upload} (hopen : s.upload t = some u) : uploadAbortBody t s = (Bdp.ok, s.modUpload t fun _ => none) :=
  if_pos (by simp [hopen])

/-- DATASET_DELETE of a dataset that no training job names. -/
theorem datasetDeleteBody_ok {t slot : Nat} {i : Image} (hslot : slot < 4) (hset : s.dataset (t * 4 + slot) = some i) (hunused : s.datasetInUse t slot = false) :
    datasetDeleteBody t slot s = (Bdp.ok, s.modDataset (t * 4 + slot) fun _ => none) := by
  unfold datasetDeleteBody
  rw [if_neg (Nat.not_le.2 hslot), if_neg (by simp [hset]), if_neg (by simp [hunused])]

/-! ### Model slots (R256..R268) -/

section Slots
variable {t slot : Nat}

/-- INSTALL of a STAGED slot. -/
theorem installBody_staged (hactive : s.tenState t = .active) (hstaged : (s.mslot t slot).state = .staged) :
    installBody t slot s = (Bdp.pending, s.modSlot (t * 4 + slot) fun m => { m with state := .checking, fromReady := false }) :=
  if_pos ⟨hactive, hstaged⟩

/-- SWAP of a READY slot with a pending image. -/
theorem swapBody_ready {mode context : Nat} {i : Image} (hmode : mode ≤ 1) (hcontext : context ≤ 1) (hactive : s.tenState t = .active)
    (hready : (s.mslot t slot).state = .ready) (hpending : (s.mslot t slot).pending = some i) :
    swapBody t slot mode context false s =
      (Bdp.pending, s.modSlot (t * 4 + slot) fun m => { m with state := .checking, fromReady := true, held := decide (mode = 1), replay := decide (context = 1) }) := by
  unfold swapBody
  rw [if_neg Bool.false_ne_true, if_neg (by omega), if_pos ⟨hactive, hready, by simp [hpending]⟩]

/-- REMOVE of a STAGED slot: its image goes. -/
theorem removeBody_staged {v : Nat} (hvalue : v ≤ 1) (hactive : s.tenState t = .active) (hstaged : (s.mslot t slot).state = .staged) :
    removeBody t slot v s = (Bdp.ok, s.modSlot (t * 4 + slot) fun _ => .init) := by
  unfold removeBody
  dsimp only
  rw [if_neg (Nat.not_lt.2 hvalue), if_neg (not_not.2 hactive), hstaged]

/-- REMOVE of a slot whose model is installed, with FORCE or without sessions: the removal begins. -/
theorem removeBody_begins {v : Nat} (hactive : s.tenState t = .active)
    (hstate : (s.mslot t slot).state = .ready ∨ (s.mslot t slot).state = .installing ∨ (s.mslot t slot).state = .swapping)
    (hforce : v = 1 ∨ v = 0 ∧ s.slotSessions t slot = []) : removeBody t slot v s = (Bdp.pending, s.beginRemove t slot) := by
  have hfree : ¬ (v = 0 ∧ s.slotSessions t slot ≠ []) := fun hused => hforce.elim (by omega) fun hnone => hused.2 hnone.2
  unfold removeBody
  dsimp only
  rw [if_neg (by omega), if_neg (not_not.2 hactive)]
  rcases hstate with hstate | hstate | hstate <;> rw [hstate] <;> exact if_neg hfree

end Slots

/-- CHECK_PASS_END of a check pass that ends OK: the swap or the install begins. -/
theorem exec_checkPassEnd_ok {t slot : Nat} {i : Image} (hup : Claims.Up s (.checkPassEnd t slot)) (hpending : (s.mslot t slot).pending = some i)
    (hchecking : (s.mslot t slot).state = .checking) (hpasses : (s.checkPass t slot i).1 = Bdp.ok) :
    exec (.checkPassEnd t slot) s =
      .next (if (s.mslot t slot).fromReady then (s.checkPass t slot i).2.2.beginSwap t slot i (s.checkPass t slot i).2.1
        else (s.checkPass t slot i).2.2.beginInstall t slot i (s.checkPass t slot i).2.1) := by
  change execCheckPassEnd t slot s = _
  rw [execCheckPassEnd, whenUp_of_up hup]
  simp only [hpending]
  rw [if_pos hchecking, if_neg (not_not.2 hpasses)]

/-- INSTALL_READY with no stratum left to write. -/
theorem exec_installReady {t slot : Nat} (hup : Claims.Up s (.installReady t slot)) (hinstalling : (s.mslot t slot).state = .installing)
    (hwritten : s.unwritten t slot = false) :
    exec (.installReady t slot) s =
      .next ((((((s.buildTables t slot).modSlot (t * 4 + slot) fun m => { m with state := .ready }).tcount t 0xAD00 1 1).raise Ev.modelReady t Locus.none 0 slot).finish
        (entryCode (slotIndex t slot) 4) Bdp.ok).noteSlots t) :=
  listed_of_up hup (by simp [hinstalling, hwritten])

/-- SWAP_DRAIN_DONE with no step of the slot in flight. -/
theorem exec_swapDrainDone {t slot : Nat} {i : Image} (hup : Claims.Up s (.swapDrainDone t slot)) (hpending : (s.mslot t slot).pending = some i)
    (hswapping : (s.mslot t slot).state = .swapping) (hunflipped : (s.mslot t slot).flipped = false) (hidle : s.slotBusy t slot = false)
    (hjob : (s.job t).state ≠ .running) : exec (.swapDrainDone t slot) s = .next ((s.flip t slot i).afterFlip t slot) := by
  change execSwapDrainDone t slot s = _
  rw [execSwapDrainDone, whenUp_of_up hup]
  simp only [hpending]
  exact listed_true (by simp [hswapping, hunflipped, hidle, hjob])

/-- SWAP_COMPLETE of a flipped swap with no stratum left to write and no old one left. -/
theorem exec_swapComplete {t slot : Nat} (hup : Claims.Up s (.swapComplete t slot)) (hswapping : (s.mslot t slot).state = .swapping)
    (hflipped : (s.mslot t slot).flipped = true) (hwritten : s.unwritten t slot = false)
    (hreleased : s.strataWhere (fun x => isContent t slot (s.mslot t slot).oldStamp x.content) = []) :
    exec (.swapComplete t slot) s =
      .next (((((((s.dropBarrier t slot).freeExtents t .modelC (slot + 8)).modSlot (t * 4 + slot)
        fun m => { m with state := .ready, old := none, oldStamp := 0, flipped := false }).tcount t 0xAD00 2 1).raise
          Ev.swapDone t Locus.none 0 slot).finish (entryCode (slotIndex t slot) 5) Bdp.ok).noteSlots t) :=
  listed_of_up hup (by simp [hswapping, hflipped, hwritten, hreleased])

/-- REMOVE_COMPLETE with no step in flight and no stratum of the slot left. -/
theorem exec_removeComplete {t slot : Nat} (hup : Claims.Up s (.removeComplete t slot)) (hremoving : (s.mslot t slot).state = .removing)
    (hidle : s.slotBusy t slot = false) (hreleased : s.strataWhere (fun x => x.ofSlot t slot) = []) :
    exec (.removeComplete t slot) s =
      .next ((((((((s.freeExtents t .modelC slot).freeExtents t .modelC (slot + 4)).freeExtents t .modelC (slot + 8)).dropTables t slot).modSlot (t * 4 + slot)
        fun _ => .init).raise Ev.modelRemoved t Locus.none 0 slot).finish (entryCode (slotIndex t slot) 6) Bdp.ok).noteSlots t) :=
  listed_of_up hup (by simp [hremoving, hidle, hreleased])

/-- MODEL_RELOAD_DONE of a model outside a swap that was not loaded. -/
theorem exec_modelReloadDone {t slot : Nat} {i : Image} (hup : Claims.Up s (.modelReloadDone t slot)) (hcurrent : (s.mslot t slot).current = some i)
    (hunloaded : (s.mslot t slot).loaded = false) (hunswapped : (s.mslot t slot).state ≠ .swapping) :
    exec (.modelReloadDone t slot) s =
      .next ((((s.reload t slot (some i)).buildTables t slot).reloadAdapters t slot).modSlot (t * 4 + slot) fun m => { m with loaded := true }) := by
  refine (listed_of_up hup (by simp [hcurrent, hunloaded])).trans ?_
  simp only [hcurrent, if_neg hunswapped]

/-! ### Adapters (R269, R270) -/

/-- ADAPTER_LOAD of a STORED adapter whose load passes its checks and whose space is given. -/
theorem adapterLoadBody_ok {s' : State} {t ad slot : Nat} (hslot : slot < 4) (hactive : s.tenState t = .active) (hstored : (s.adapter (t * 16 + ad)).state = .stored)
    (hidle : (s.adapter (t * 16 + ad)).loading = none) (hpasses : s.loadStatus t ad slot = Bdp.ok)
    (hspace : s.allocExtent t .adapterC ad none (Image.adapterOctets ((s.adapter (t * 16 + ad)).img.getD Image.init)) = some s') :
    adapterLoadBody t ad slot s = (Bdp.pending, s'.modAdapter (t * 16 + ad) fun a => { a with loading := some slot }) := by
  unfold adapterLoadBody
  dsimp only
  rw [if_neg (Nat.not_le.2 hslot), if_neg (by simp [hactive, hstored, hidle]), if_neg (not_not.2 hpasses), hspace]

/-- ADAPTER_LOAD_DONE of a load in progress. -/
theorem exec_adapterLoadDone {t ad slot : Nat} (hup : Claims.Up s (.adapterLoadDone t ad)) (hloading : (s.adapter (t * 16 + ad)).loading = some slot) :
    exec (.adapterLoadDone t ad) s =
      .next ((((s.modAdapter (t * 16 + ad) fun a => { a with state := .resident, binding := a.loading, loading := none, loaded := true }).fillAdapter t ad).finish
        (entryCode (adapterIndex t ad) 3) Bdp.ok).noteSlots t) :=
  listed_of_up hup (by simp [hloading])

/-- ADAPTER_UNLOAD of a RESIDENT adapter that nothing uses. -/
theorem adapterUnloadBody_ok {t ad : Nat} (hresident : (s.adapter (t * 16 + ad)).state = .resident) (hunused : s.adapterUsed t ad = false) :
    adapterUnloadBody t ad s = (Bdp.ok, s.unloadAdapter t ad) := by
  unfold adapterUnloadBody
  rw [if_neg (not_not.2 hresident), if_neg (by simp [hunused])]

/-- ADAPTER_DELETE of an adapter that nothing uses, with no load in progress. -/
theorem adapterDeleteBody_ok {t ad : Nat} (hstate : (s.adapter (t * 16 + ad)).state = .resident ∨ (s.adapter (t * 16 + ad)).state = .stored)
    (hidle : (s.adapter (t * 16 + ad)).loading = none) (hunused : s.adapterUsed t ad = false) :
    adapterDeleteBody t ad s = (Bdp.ok, ((s.freeExtents t .adapterC ad).modAdapter (t * 16 + ad) fun _ => .init).noteSlots t) := by
  unfold adapterDeleteBody
  dsimp only
  rw [if_neg (by rcases hstate with hstate | hstate <;> simp [hstate, hidle]), if_neg (by simp [hunused])]

/-! ### Training jobs (R273..R278) -/

/-- TRAIN_START of a configuration that passes its checks. -/
theorem trainBody_new {t : Nat} (hpasses : s.trainStatus t (s.setting (0x5500 + t) 1) = Bdp.ok) :
    trainBody t false s = (Bdp.pending, (s.startJob t (s.setting (0x5500 + t) 1) false).finish (entryCode (0x5500 + t) 2) Bdp.ok) := by
  unfold trainBody
  dsimp only
  rw [if_neg (not_not.2 hpasses)]
  exact if_neg Bool.false_ne_true

/-- TRAIN_RESUME of a configuration that passes its checks, with a checkpoint of the same adapter (log entry 63). -/
theorem trainBody_resume {t : Nat} {k : Ckpt} (hpasses : s.trainStatus t (s.setting (0x5500 + t) 1) = Bdp.ok) (hfile : (s.job t).checkpoint = some k)
    (hsame : cfgField k.config 0 1 = cfgField (s.setting (0x5500 + t) 1) 0 1) :
    trainBody t true s = (Bdp.pending, (s.startJob t (s.setting (0x5500 + t) 1) true).finish (entryCode (0x5500 + t) 2) Bdp.ok) := by
  unfold trainBody
  dsimp only
  rw [if_neg (not_not.2 hpasses), hfile]
  exact if_neg (by simp [hsame])

/-- TRAIN_STOP of a running job. -/
theorem trainStopBody_running {t : Nat} (hrunning : (s.job t).state = .running) :
    trainStopBody t s = (Bdp.pending, s.modJob t fun j => { j with stopAt := some .idle, stopCmd := true }) :=
  if_pos hrunning

/-- TRAIN_STEP of a running job of an ACTIVE tenant in RUN that writes no checkpoint. -/
theorem exec_trainStep {t : Nat} {ok : Bool} {loss : BitVec 32} {g : List (List (BitVec 32))} (hrunning : (s.job t).state = .running)
    (hwriting : (s.job t).writing = none) (hrun : s.power.state = .run) (hactive : s.tenState t = .active) :
    exec (.trainStep t ok loss g) s = .next (if ok then (s.optimise t loss g).afterStep t else s.failedStep t) :=
  listed_true (by simp [hrunning, hwriting, hrun, hactive])

/-- CHECKPOINT_LANDED of a checkpoint that is being written. -/
theorem exec_checkpointLanded {t w : Nat} (hwriting : (s.job t).writing = some w) :
    exec (.checkpointLanded t) s =
      .next (((s.modJob t fun j => { j with files := mset none j.files (j.writing.getD 0) j.wrote, newest := j.writing, writing := none, wrote := none }).tcount t 0xAD00 5 1).enterStop t) :=
  listed_true (by simp [hwriting])

end Bodies

/-! ### The obligations -/

/-- Settles O23: each command by what its entry's rule gives. UPLOAD_END answers PENDING with its record OK at once (log entry 62, R358). -/
theorem uploadCommandsRun : Obligations.UploadCommandsRun := by
  refine ⟨?begin, ?data, ?endd, ?abort, ?delete⟩
  case begin =>
    intro s rq c t kind slot bytes hreach hkind hslot hlen hpages hactive hnone htakes hunused hfits
    exact accepts_of_reaches hreach rfl (uploadBeginBody_ok hkind hslot hlen hpages hactive hnone htakes hunused hfits) (.inl rfl)
  case data =>
    intro s rq c t offset data img u hreach hopen hwithin
    exact accepts_of_reaches hreach rfl (uploadDataBody_ok hopen hwithin) (.inl rfl)
  case endd =>
    intro s rq c t u hreach hopen hpasses htakes
    exact accepts_of_reaches hreach rfl (uploadEndBody_ok hopen hpasses htakes) (.inr rfl)
  case abort =>
    intro s rq c t u hreach hopen
    exact accepts_of_reaches hreach rfl (uploadAbortBody_ok hopen) (.inl rfl)
  case delete =>
    intro s rq c t slot i hreach hslot hset hunused
    exact accepts_of_reaches hreach rfl (datasetDeleteBody_ok hslot hset hunused) (.inl rfl)

/-- Settles O24: INSTALL, SWAP and REMOVE by what their entries' rules give, each event by its equation above. -/
theorem modelSlotCommandsRun : Obligations.ModelSlotCommandsRun := by
  refine ⟨?install, ?swap, ?removeStaged, ?removeBegins, fun s t slot i => exec_checkPassEnd_ok, fun s t slot => exec_installReady,
    fun s t slot i => exec_swapDrainDone, fun s t slot => exec_swapComplete, fun s t slot => exec_removeComplete, fun s t slot i => exec_modelReloadDone⟩
  case install =>
    intro s rq c t slot hreach hactive hstaged
    exact accepts_of_reaches hreach rfl (installBody_staged hactive hstaged) (.inr rfl)
  case swap =>
    intro s rq c t slot mode context i hreach hmode hcontext hactive hready hpending
    exact accepts_of_reaches hreach rfl (swapBody_ready hmode hcontext hactive hready hpending) (.inr rfl)
  case removeStaged =>
    intro s rq c t slot v hreach hvalue hactive hstaged
    exact accepts_of_reaches hreach rfl (removeBody_staged hvalue hactive hstaged) (.inl rfl)
  case removeBegins =>
    intro s rq c t slot v hreach hactive hstate hforce
    exact accepts_of_reaches hreach rfl (removeBody_begins hactive hstate hforce) (.inr rfl)

/-- Settles O25: each command by what its entry's rule gives, the end of a load by its equation above. -/
theorem adapterCommandsRun : Obligations.AdapterCommandsRun := by
  refine ⟨?load, fun s t ad slot => exec_adapterLoadDone, ?unload, ?delete⟩
  case load =>
    intro s s' rq c t ad slot hreach hslot hactive hstored hidle hpasses hspace
    exact accepts_of_reaches hreach rfl (adapterLoadBody_ok hslot hactive hstored hidle hpasses hspace) (.inr rfl)
  case unload =>
    intro s rq c t ad hreach hresident hunused
    exact accepts_of_reaches hreach rfl (adapterUnloadBody_ok hresident hunused) (.inl rfl)
  case delete =>
    intro s rq c t ad hreach hstate hidle hunused
    exact accepts_of_reaches hreach rfl (adapterDeleteBody_ok hstate hidle hunused) (.inl rfl)

/-- Settles O26: each command by what its entry's rule gives, each event by its equation above. -/
theorem trainingCommandsRun : Obligations.TrainingCommandsRun := by
  refine ⟨?start, ?resume, ?stop, fun s t ok loss g => exec_trainStep, fun s t w => exec_checkpointLanded⟩
  case start =>
    intro s rq c t hreach hpasses
    exact accepts_of_reaches hreach rfl (trainBody_new hpasses) (.inr rfl)
  case resume =>
    intro s rq c t k hreach hpasses hfile hsame
    exact accepts_of_reaches hreach rfl (trainBody_resume hpasses hfile hsame) (.inr rfl)
  case stop =>
    intro s rq c t hreach hrunning
    exact accepts_of_reaches hreach rfl (trainStopBody_running hrunning) (.inr rfl)

end Sys2Proof.Machine
end

section
/-! The Asbaxa service: what a message that goes out leaves of its connection, an equation for each command of 14_sessions_and_service.md, and the obligations about them. -/

namespace Sys2Proof.Machine

/-! ### Connections and their output (R284) -/

/-- A connection whose frames are queued keeps everything but its waiting frames. -/
theorem conn_fillConn_self {s : State} {conn : Nat} {k : Conn} (hconn : s.conn conn = some k) :
    ∃ frames, (s.fillConn conn).conn conn = some { k with toQueue := frames } := by
  simp only [State.fillConn, hconn, conn_modConn_self]
  exact ⟨_, congrArg (Option.map _) hconn⟩

/-- What a connection that is sent a message keeps: everything but its output and its numbers. -/
theorem conn_post_self {s : State} {conn : Nat} {k : Conn} (hconn : s.conn conn = some k) (msg : OutMsg) (pcp : Nat) (dgram : Bool) :
    ∃ out dgOut outBytes txSeq dgTx unacked frames, (s.post conn msg pcp dgram).conn conn =
      some { k with out := out, dgOut := dgOut, outBytes := outBytes, txSeq := txSeq, dgTx := dgTx, unacked := unacked, toQueue := frames } := by
  unfold State.post
  obtain ⟨frames, hfilled⟩ := conn_fillConn_self ((conn_modConn_self s conn _).trans (congrArg (Option.map _) hconn))
  exact ⟨_, _, _, _, _, _, frames, hfilled⟩

/-- A connection that is written and sent a message keeps what holds of it whatever its output and its numbers are. -/
theorem exists_conn_send (s : State) (conn : Nat) (k : Conn) (msg : OutMsg) (i j n : Nat) {P : Conn → Prop}
    (hkept : ∀ out dgOut outBytes txSeq dgTx unacked frames,
      P { k with out := out, dgOut := dgOut, outBytes := outBytes, txSeq := txSeq, dgTx := dgTx, unacked := unacked, toQueue := frames }) :
    ∃ x, (((s.modConn conn fun _ => some k).send conn msg).count i j n).conn conn = some x ∧ P x := by
  obtain ⟨out, dgOut, outBytes, txSeq, dgTx, unacked, frames, hsent⟩ :=
    conn_post_self (conn_modConn_self s conn fun _ => some k) msg ((s.modConn conn fun _ => some k).msgPcp msg) false
  exact ⟨_, hsent, hkept out dgOut outBytes txSeq dgTx unacked frames⟩

/-- A message sent changes no handshake that waits for the trust block. -/
@[simp] theorem waiting_send (s : State) (conn : Nat) (msg : OutMsg) : (s.send conn msg).svc.waiting = s.svc.waiting := by
  obtain ⟨ports, conns, hpost⟩ := post_changes s conn msg (s.msgPcp msg) false
  rw [State.send, hpost]

/-- A message sent changes no handshake that the trust block works on. -/
@[simp] theorem working_send (s : State) (conn : Nat) (msg : OutMsg) : (s.send conn msg).svc.working = s.svc.working := by
  obtain ⟨ports, conns, hpost⟩ := post_changes s conn msg (s.msgPcp msg) false
  rw [State.send, hpost]

/-- The Mirror record of an inbound message leaves the states of the tenants. -/
@[simp] theorem tenState_inbound (s : State) (t conn msg : Nat) (body : Bytes) (j : Nat) : (s.inbound t conn msg body).tenState j = s.tenState j := by
  rw [State.tenState, inbound_tenants]
  rfl

/-! ### Connections and channels (R280..R284) -/

section Channels
variable {s : State} {conn : Nat} {k : Conn}

/-- TCP_CONNECT for the ASX stream service, with places free. -/
theorem exec_tcpConnect {port : Nat} (hup : Claims.Up s (.tcpConnect conn port (s.serviceNumber 1))) (hnew : s.conn conn = none) (hport : port < 2)
    (hservice : nbit (s.servicesOf port) 1 = true) (hstack : s.tcpCount true < 1088) (hplace : s.places .asx < 1024) :
    exec (.tcpConnect conn port (s.serviceNumber 1)) s =
      .next (s.modConn conn fun _ => some { kind := .asx, port := port, phase := .tcp, tcpPort := s.serviceNumber 1, idleSince := s.now }) := by
  change execTcpConnect conn port (s.serviceNumber 1) s = _
  rw [execTcpConnect, whenUp_of_up hup]
  dsimp only
  rw [if_neg (by simp [hnew, hservice]; omega), if_neg (by simp [hplace])]

/-- The state in which an accepted CLIENT_HELLO has joined the trust block's queue. -/
def State.queueHello (s : State) (k : Conn) (conn version who nonce : Nat) : State :=
  let t := s.modConn conn fun _ => some (s.hello k version who nonce)
  { t with svc := { t.svc with waiting := s.svc.waiting ++ [conn] } }

/-- The connection of an accepted CLIENT_HELLO. -/
theorem conn_queueHello (s : State) (k : Conn) (conn version who nonce : Nat) :
    (s.queueHello k conn version who nonce).conn conn = some (s.hello k version who nonce) :=
  conn_modConn_self s conn fun _ => some (s.hello k version who nonce)

section Hello
variable {version who nonce : Nat} (hup : Claims.Up s (.clientHello conn version who ⟨nonce, false⟩)) (hconn : s.conn conn = some k) (hphase : k.phase = .tcp)
  (hok : s.helloOk k version who = true) (hroom : s.svc.waiting.length < handshakeQueue)
include hup hconn hphase hok hroom

/-- CLIENT_HELLO of a connection of another service, accepted: it joins the trust block's queue. -/
theorem exec_clientHello (hkind : k.kind ≠ .asx) :
    exec (.clientHello conn version who ⟨nonce, false⟩) s = .next (s.queueHello k conn version who nonce) := by
  change execClientHello conn version who ⟨nonce, false⟩ s = _
  rw [execClientHello, whenUp_of_up hup]
  simp only [hconn]
  rw [if_neg (not_not.2 hphase), if_neg Bool.false_ne_true, if_neg (by simp [hok]), if_neg hkind, if_neg (Nat.not_le.2 hroom)]
  rfl

/-- CLIENT_HELLO of an ASX connection, accepted: it is recorded and joins the trust block's queue. -/
theorem exec_clientHello_asx (hkind : k.kind = .asx) :
    exec (.clientHello conn version who ⟨nonce, false⟩) s =
      .next ((s.inbound who 0 1 (helloBody version who nonce)).queueHello k conn version who nonce) := by
  have hrecorded : ¬ handshakeQueue ≤ (s.inbound who 0 1 (helloBody version who nonce)).svc.waiting.length := by
    rw [inbound_svc]
    exact Nat.not_le.2 hroom
  change execClientHello conn version who ⟨nonce, false⟩ s = _
  rw [execClientHello, whenUp_of_up hup]
  simp only [hconn]
  rw [if_neg (not_not.2 hphase), if_neg Bool.false_ne_true, if_neg (by simp [hok]), if_pos hkind, if_neg hrecorded]
  rfl

end Hello

/-- What an accepted CLIENT_HELLO of an ASX connection leaves. -/
theorem queueHello_asx (hkind : k.kind = .asx) (version who nonce : Nat) :
    ((s.inbound who 0 1 (helloBody version who nonce)).queueHello k conn version who nonce).svc.waiting = s.svc.waiting ++ [conn] ∧
      ∃ x, ((s.inbound who 0 1 (helloBody version who nonce)).queueHello k conn version who nonce).conn conn = some x ∧
        x.phase = .helloQueued ∧ x.tenant = who ∧ x.nonceC = nonce := by
  refine ⟨?_, _, conn_queueHello _ k conn version who nonce, rfl, if_pos hkind, rfl⟩
  rw [State.queueHello, inbound_svc]

/-- HANDSHAKE_JOB_START of the oldest queued handshake with fewer than 8 worked on. -/
theorem exec_handshakeJobStart {l : List Nat} (hup : Claims.Up s (.handshakeJobStart conn)) (hconn : s.conn conn = some k) (holdest : s.svc.waiting = conn :: l)
    (hfree : s.svc.working.length < 8) :
    ∃ t, exec (.handshakeJobStart conn) s = .next t ∧ t.svc.waiting = l ∧ t.svc.working = s.svc.working ++ [conn] ∧ t.trust.counter = counterNext s.trust.counter ∧
      ∃ x, t.conn conn = some x ∧ x.phase = .shareWait ∧ x.deadline = some (s.now + 5 * 10 ^ 9) := by
  have htakes : ¬ (s.svc.waiting.head? ≠ some conn ∨ handshakesAtOnce ≤ s.svc.working.length) := by
    rw [holdest]
    exact not_or.2 ⟨not_not.2 rfl, Nat.not_le.2 hfree⟩
  change ∃ t, execHandshakeJobStart conn s = _ ∧ _
  rw [execHandshakeJobStart, whenUp_of_up hup]
  simp only [hconn]
  rw [if_neg htakes]
  refine ⟨_, rfl, ?waiting, ?working, ?counter, ?connection⟩
  case waiting => exact (waiting_send _ _ _).trans (congrArg (List.drop 1) holdest)
  case working => exact working_send _ _ _
  case counter => exact congrArg Trust.counter (send_trust _ _ _)
  case connection => exact exists_conn_send _ conn _ _ _ _ _ fun _ _ _ _ _ _ _ => ⟨rfl, rfl⟩

/-- KEY_SHARE of a ciphertext of the right length: the channel's keys are derived. -/
theorem exec_keyShare {ct : Nat} (hup : Claims.Up s (.keyShare conn ⟨ct, false⟩)) (hconn : s.conn conn = some k) (hphase : k.phase = .shareWait) (hct : ct < 2 ^ 12544) :
    ∃ t, exec (.keyShare conn ⟨ct, false⟩) s = .next t ∧ ∃ x, t.conn conn = some x ∧ x.phase = .authWait ∧ x.kem = 0 ∧ x.deadline = some (s.now + 5 * 10 ^ 9) ∧
      x.keys = ({ k with transcript := k.transcript ++ le 1568 ct } : Conn).recordKeys (Config.kemSecret k.kem ct) := by
  have hnow : (if k.kind = .asx then s.inbound k.tenant 0 3 (le 1568 ct) else s).now = s.now := by
    split
    · exact congrArg Clk.mono (inbound_clk s k.tenant 0 3 (le 1568 ct))
    · rfl
  change ∃ t, execKeyShare conn ⟨ct, false⟩ s = _ ∧ _
  rw [execKeyShare, whenUp_of_up hup]
  simp only [hconn]
  rw [if_neg (not_not.2 hphase), if_neg Bool.false_ne_true, if_neg (Nat.not_le.2 hct)]
  exact ⟨_, rfl, _, conn_modConn_self _ conn _, rfl, rfl, congrArg (fun n => some (n + handshakeStep)) hnow, rfl⟩

/-- CLIENT_HELLO with a reserved field set is answered RESERVED_SET (R13; log entry 75). -/
theorem exec_clientHello_resv {version who nonce : Nat} (hup : Claims.Up s (.clientHello conn version who ⟨nonce, true⟩)) (hconn : s.conn conn = some k)
    (hphase : k.phase = .tcp) : exec (.clientHello conn version who ⟨nonce, true⟩) s = .next (s.answerResv k conn) := by
  change execClientHello conn version who ⟨nonce, true⟩ s = _
  rw [execClientHello, whenUp_of_up hup]
  simp only [hconn]
  rw [if_neg (not_not.2 hphase), if_pos trivial]

/-- KEY_SHARE with a reserved field set is answered RESERVED_SET (R13; log entry 75). -/
theorem exec_keyShare_resv {ct : Nat} (hup : Claims.Up s (.keyShare conn ⟨ct, true⟩)) (hconn : s.conn conn = some k) (hphase : k.phase = .shareWait) :
    exec (.keyShare conn ⟨ct, true⟩) s = .next (s.answerResv k conn) := by
  change execKeyShare conn ⟨ct, true⟩ s = _
  rw [execKeyShare, whenUp_of_up hup]
  simp only [hconn]
  rw [if_neg (not_not.2 hphase), if_pos trivial]

/-- AUTH of an accepted ticket of an ACTIVE tenant: the channel is established. -/
theorem exec_auth {clientId maxClass expiry resv : Nat} {tag : BitVec 128} (hup : Claims.Up s (.auth conn true clientId maxClass expiry tag resv))
    (hconn : s.conn conn = some k) (hphase : k.phase = .authWait) (hkind : k.kind = .asx) (hticket : s.ticketOk k clientId maxClass expiry tag resv = true)
    (hactive : s.tenState k.tenant = .active) :
    ∃ t, exec (.auth conn true clientId maxClass expiry tag resv) s = .next t ∧
      ∃ x, t.conn conn = some x ∧ x.phase = .up ∧ x.clientId = clientId ∧ x.maxClass = maxClass ∧ x.deadline = none := by
  let recorded := s.inbound k.tenant 0 4 (ticketHead clientId maxClass resv expiry ++ le 16 tag.toNat)
  have hclk : recorded.clk = s.clk := inbound_clk s _ _ _ _
  have hunreserved : resv = 0 := by
    simp only [State.ticketOk, Bool.and_eq_true, decide_eq_true_eq] at hticket
    tauto
  have hpasses : recorded.ticketOk k clientId maxClass expiry tag resv = true ∧ recorded.tenState k.tenant = .active := by
    refine ⟨?_, (tenState_inbound s _ _ _ _ _).trans hactive⟩
    rw [State.ticketOk, hclk]
    exact hticket
  change ∃ t, execAuth conn true clientId maxClass expiry tag resv s = _ ∧ _
  rw [execAuth, whenUp_of_up hup]
  simp only [hconn]
  rw [if_neg (by simp [hphase, hkind]), if_neg (by decide), if_neg (not_not.2 hunreserved), if_pos hpasses]
  exact ⟨_, rfl, exists_conn_send _ conn _ _ _ _ _ fun _ _ _ _ _ _ _ => ⟨rfl, rfl, rfl, rfl⟩⟩

/-- HANDSHAKE_DEADLINE that has passed while a message of the handshake is awaited. -/
theorem exec_handshakeDeadline {d : Nat} (hup : Claims.Up s (.handshakeDeadline conn)) (hconn : s.conn conn = some k) (hdeadline : k.deadline = some d)
    (hpassed : d ≤ s.now) (hphase : k.phase = .shareWait ∨ k.phase = .authWait) : exec (.handshakeDeadline conn) s = .next (s.failHandshake conn) := by
  change execHandshakeDeadline conn s = _
  rw [execHandshakeDeadline, whenUp_of_up hup]
  simp only [hconn]
  exact listed_true (by simp [hdeadline, hpassed, hphase])

/-- CHANNEL_IDLE_EXPIRY of a channel with no record for 60 s. -/
theorem exec_channelIdleExpiry (hup : Claims.Up s (.channelIdleExpiry conn)) (hconn : s.conn conn = some k) (hruns : s.countsRun = true) (hphase : k.phase = .up)
    (hidle : 60000000000 ≤ s.now - k.idleSince) : exec (.channelIdleExpiry conn) s = .next (s.closeConn conn) := by
  change execChannelIdleExpiry conn s = _
  rw [execChannelIdleExpiry, whenUp_of_up hup]
  simp only [hconn]
  exact listed_true (by simp [hruns, hphase, hidle])

/-- TCP_CONNECTION_END of a connection that stands. -/
theorem exec_tcpConnectionEnd (hup : Claims.Up s (.tcpConnectionEnd conn)) (hconn : s.conn conn = some k) :
    exec (.tcpConnectionEnd conn) s = .next (s.closeConn conn) :=
  listed_of_up hup (by simp [hconn])

/-- OUTPUT_BUFFER_DRAIN of a part of the buffer. -/
theorem exec_outputBufferDrain {n : Nat} (hup : Claims.Up s (.outputBufferDrain conn n)) (hconn : s.conn conn = some k) (hsome : 1 ≤ n) (hpart : n < k.outBytes) :
    exec (.outputBufferDrain conn n) s =
      .next (s.modConn conn fun _ => some { k with outBytes := k.outBytes - n, out := ackedOut (k.outBytes - n) k.out, unacked := some s.now }) := by
  have hleft : k.outBytes - n ≠ 0 := by omega
  change execOutputBufferDrain conn n s = _
  rw [execOutputBufferDrain, whenUp_of_up hup]
  simp only [hconn]
  rw [listed_true (by simp [hsome, hpart.le]), if_neg fun hempty => hleft hempty.1]
  simp only [if_neg hleft]

end Channels

/-! ### Sessions (R285, R289, R290) -/

section Sessions
variable {s s1 : State} {conn : Nat} {dgram : Bool} {k : Conn}

/-- OPEN that passes its checks opens a session on the lowest free index. -/
theorem exec_openSession {slot adapter ctag i : Nat} {persistent : Bool} (hup : Claims.Up s (.openSession conn dgram 0 slot adapter persistent ctag))
    (hchannel : s.channel conn = some k) (hrecorded : s1 = s.inbound k.tenant conn 0x10 (openBody slot adapter persistent 0 ctag))
    (hpasses : s1.openStatus k 0 slot adapter = Asx.ok) (hfree : (List.range 4096).find? (fun j => decide ((s1.session j).state = .free)) = some i) :
    exec (.openSession conn dgram 0 slot adapter persistent ctag) s =
      .next ((s1.openOn k i slot adapter persistent).reply conn dgram (.opened ctag Asx.ok ((s1.openOn k i slot adapter persistent).handleOf i)
        ((s1.openOn k i slot adapter persistent).session i).ctxMax ((s1.openOn k i slot adapter persistent).sessionImage i).plan.vocab)) := by
  subst hrecorded
  change execOpenSession conn dgram 0 slot adapter persistent ctag s = _
  rw [execOpenSession, whenUp_of_up hup]
  simp only [hchannel, State.takeOpen]
  rw [if_neg (not_not.2 hpasses), hfree]
  rfl

/-- ADAPT of a session that is not ACTIVE to an adapter that is resident for it. -/
theorem exec_adapt {session adapter i : Nat} (hup : Claims.Up s (.adapt conn dgram 0 session adapter)) (hchannel : s.channel conn = some k)
    (hrecorded : s1 = s.inbound k.tenant conn 0x12 (namedBody session (le 1 adapter) 3 0)) (hform : handleResv session = false) (hadapter : adapter ≤ 15 ∨ adapter = 0xFF)
    (hfound : s1.findSession k session = (Asx.ok, i)) (hactive : s1.tenState (s1.session i).tenant = .active) (hidle : (s1.session i).state ≠ .active)
    (hresident : s1.adapterOk (s1.session i).tenant (s1.session i).slot adapter = true) :
    exec (.adapt conn dgram 0 session adapter) s =
      .next ((if (s1.session i).adapter ≠ adapterOf adapter then s1.modSession i fun y => { y with adapter := adapterOf adapter, scales := [] } else s1).replyStatus conn dgram 0 session Asx.ok 0) := by
  have hrange : ¬ (15 < adapter ∧ adapter ≠ 0xFF) := by omega
  change execAdapt conn dgram 0 session adapter s = _
  rw [execAdapt, whenUp_of_up hup]
  simp only [hchannel, State.takeAdapt, ← hrecorded, hfound]
  simp [hform, hrange, hactive, hidle, hresident]

/-- CLOSE of an open session of the channel's client. -/
theorem exec_closeSession {session i : Nat} (hup : Claims.Up s (.closeSession conn dgram 0 session)) (hchannel : s.channel conn = some k)
    (hrecorded : s1 = s.inbound k.tenant conn 0x13 (namedBody session [] 4 0)) (hform : handleResv session = false) (hfound : s1.findSession k session = (Asx.ok, i)) :
    exec (.closeSession conn dgram 0 session) s = .next ((s1.closeSess i 7).replyStatus conn dgram 0 session Asx.ok 0) := by
  change execCloseSession conn dgram 0 session s = _
  rw [execCloseSession, whenUp_of_up hup]
  simp only [hchannel, State.takeClose, ← hrecorded, hfound]
  simp [hform]

/-- PING is answered with its value, or RESERVED_SET. -/
theorem exec_ping {value : Nat} {resv : Bool} (hup : Claims.Up s (.ping conn dgram ⟨value, resv⟩)) (hchannel : s.channel conn = some k) :
    exec (.ping conn dgram ⟨value, resv⟩) s = .next (if resv then s.replyStatus conn dgram 0 0 Asx.reservedSet 0 else s.reply conn dgram (.pong value)) :=
  listed_of_up hup (by simp [hchannel])

/-- An unknown message is answered with OUT_OF_RANGE, or RESERVED_SET. -/
theorem exec_unknownMsg {msg : Nat} {resv : Bool} (hup : Claims.Up s (.unknownMsg conn dgram ⟨msg, resv⟩)) (hchannel : s.channel conn = some k) :
    exec (.unknownMsg conn dgram ⟨msg, resv⟩) s = .next (s.replyStatus conn dgram 0 0 (if resv then Asx.reservedSet else Asx.outOfRange) 0) :=
  listed_of_up hup (by simp [hchannel])

/-- IDLE_CLOSE of an open session that had no request for its time. -/
theorem exec_idleClose {i : Nat} (hup : Claims.Up s (.idleClose i)) (hruns : s.countsRun = true) (hopen : (s.session i).isOpen = true) (hnone : (s.session i).live = none)
    (hset : s.sv (0x6100 + (s.session i).tenant) 4 3600000000000 ≠ 0)
    (hpassed : s.sv (0x6100 + (s.session i).tenant) 4 3600000000000 ≤ s.now - (s.session i).openedAt) : exec (.idleClose i) s = .next (s.closeSess i 7) :=
  listed_of_up hup (by simp only [hruns, hopen, hnone, Option.isNone_none, hset, hpassed, ne_eq, not_false_eq_true, decide_true, Bool.and_self])

/-- SESSION_INDEX_FREE 60 s after the session closed. -/
theorem exec_sessionIndexFree {i : Nat} (hup : Claims.Up s (.sessionIndexFree i)) (hclosed : (s.session i).state = .closed)
    (hpassed : 60000000000 ≤ s.now - (s.session i).closedAt) :
    exec (.sessionIndexFree i) s = .next (s.modSession i fun _ => { used := true, incarn := (s.session i).incarn }) :=
  listed_of_up hup (by simp [hclosed, hpassed])

/-! ### Requests (R286, R293..R297, R302) -/

/-- A new request that the checks of R296 admit. -/
theorem admitReq_ok {i : Nat} {r : ReqBody} (hadmitted : (s.admitStatus k i r).1 = Asx.ok) :
    s.admitReq k conn dgram i r =
      ((((s.keepReq i { (s.newReq conn dgram i r (s.admitStatus k i r).2) with state := .queued, status := Asx.queued }).modQueue
        (queueKey (s.session i).tenant (clsOf r.cls)) fun l => l ++ [{ session := i, req := r.reqId }]).tcount (s.session i).tenant 0xAE00 1 1).replyStatus
          conn dgram r.reqId r.session Asx.queued 0) :=
  if_pos hadmitted

/-- REQUEST with a new number whose form and session are right is admitted where the checks of R296 pass. -/
theorem exec_request {i : Nat} {r : ReqBody} (hup : Claims.Up s (.request conn dgram r)) (hchannel : s.channel conn = some k)
    (hrecorded : s1 = s.inbound k.tenant conn 0x14 r.bytes) (hform : r.formStatus = Asx.ok) (hfound : s1.findSession k r.session = (Asx.ok, i))
    (hnew : (s1.session i).req r.reqId = none) (hhigher : (s1.session i).highest < r.reqId) :
    exec (.request conn dgram r) s = .next (s1.admitReq k conn dgram i r) := by
  subst hrecorded
  change execRequest conn dgram r s = _
  rw [execRequest, whenUp_of_up hup]
  simp only [hchannel, State.takeRequest, hfound]
  rw [if_neg (not_not.2 hform), if_neg (not_not.2 rfl)]
  simp only [hnew]
  rw [if_neg (Nat.not_le.2 hhigher)]

/-- CANCEL of the request in flight. -/
theorem exec_cancel {session req i : Nat} {q : Req} (hup : Claims.Up s (.cancel conn dgram 0 session req)) (hchannel : s.channel conn = some k)
    (hrecorded : s1 = s.inbound k.tenant conn 0x15 (le 4 session ++ le 4 0 ++ le 8 req)) (hform : handleResv session = false)
    (hfound : s1.findSession k session = (Asx.ok, i)) (hlive : (s1.session i).live = some q) (hsame : q.id = req) :
    exec (.cancel conn dgram 0 session req) s = .next (s1.cancelReq i 5 Asx.cancelled) := by
  subst hrecorded
  change execCancel conn dgram 0 session req s = _
  rw [execCancel, whenUp_of_up hup]
  simp only [hchannel, State.takeCancel, hfound]
  rw [if_neg (not_not.2 (if_neg (by simp [hform])))]
  simp only [hlive, if_pos hsame]

/-- REQUEST_DEQUEUE of the oldest request of the class whose turn it is. -/
theorem exec_requestDequeue {t turn : Nat} {cls : Cls} {e : QEntry} (hup : Claims.Up s (.requestDequeue t cls)) (hturn : s.nextClass t = some (cls, turn))
    (holdest : s.queueHead t cls = some e) (hruns : s.countsRun = true)
    (hstarted : s1 = ((s.modQueue (queueKey t cls) fun l => l.filter fun x => decide (x ≠ e)).modServed t fun _ => turn).startReq e) :
    exec (.requestDequeue t cls) s =
      .next (match (s1.session e.session).running with
        | some r => if r.noGenerate = true ∧ (s1.session e.session).due = 0 then s1.endReq e.session r.id 10 Asx.ok else s1
        | none => s1) := by
  subst hstarted
  change execRequestDequeue t cls s = _
  rw [execRequestDequeue, whenUp_of_up hup]
  simp only [hturn, holdest]
  exact if_pos ⟨trivial, hruns⟩

/-- QUEUE_TIMEOUT of a request queued for its class's time, outside a HELD swap. -/
theorem exec_queueTimeout {i req : Nat} {r : Req} (hup : Claims.Up s (.queueTimeout i req)) (hreq : (s.session i).req req = some r) (hruns : s.countsRun = true)
    (hqueued : r.state = .queued) (hset : s.queueTimeoutOf (s.session i).tenant r.cls ≠ 0)
    (hpassed : s.queueTimeoutOf (s.session i).tenant r.cls ≤ s.now - r.queuedAt - r.heldNs) (hunheld : (s.mslot (s.session i).tenant (s.session i).slot).held = false) :
    exec (.queueTimeout i req) s = .next ((s.endReq i req 11 Asx.queueTimeout).tcount (s.session i).tenant 0xAE00 6 1) := by
  change execQueueTimeout i req s = _
  rw [execQueueTimeout, whenUp_of_up hup]
  simp only [hreq]
  exact listed_true (by simp only [hruns, hqueued, hset, hpassed, hunheld, ne_eq, not_false_eq_true, decide_true, Bool.and_self, Bool.false_and, Bool.not_false])

section Sample
variable {i : Nat} {cands : List (Nat × BitVec 32)} {r : Req}

/-- SAMPLE at the end of a session's step. -/
theorem exec_sample_step {n : Nat} {st : FailSt} {q : StepRun} (hup : Claims.Up s (.sample i cands st)) (hrunning : (s.session i).running = some r)
    (hrun : (s.session i).run = some n) (hstep : s.run n = some q) (hover : s.runOver n q = true) :
    exec (.sample i cands st) s = .next ((s.quitRun i n).stepEnd i r cands (if q.failed = .none then st else q.failed)) := by
  change execSample i cands st s = _
  rw [execSample, whenUp_of_up hup]
  simp only [hrunning, hrun, hstep]
  exact listed_true hover

/-- SAMPLE of a request that has no step to run: its first token comes from the candidates of the last step (log entry 41). -/
theorem exec_sample_due (hup : Claims.Up s (.sample i cands .none)) (hrunning : (s.session i).running = some r) (hrun : (s.session i).run = none)
    (hactive : (s.session i).state = .active) (hdue : (s.session i).due = 0) (hhistory : (s.session i).history ≠ []) :
    exec (.sample i cands .none) s = .next (s.stepEnd i r cands .none) := by
  change execSample i cands .none s = _
  rw [execSample, whenUp_of_up hup]
  simp only [hrunning, hrun]
  exact listed_true (by simp [hactive, hdue, hhistory])

end Sample

end Sessions

/-! ### The obligations -/

/-- Settles O27: each command by its equation above. The message that answers a reserved field set in a handshake is that of log entry 75 (R13). -/
theorem channelCommandsRun : Obligations.ChannelCommandsRun := by
  refine ⟨fun s conn port => exec_tcpConnect, fun s conn version who nonce k hup hconn hphase hkind hok hroom => exec_clientHello hup hconn hphase hok hroom hkind, ?asx,
    fun s conn l k => exec_handshakeJobStart, fun s conn ct k => exec_keyShare, ?reserved, fun s conn clientId maxClass expiry resv tag k => exec_auth,
    fun s conn d k => exec_handshakeDeadline, fun s conn k => exec_channelIdleExpiry, fun s conn k => exec_tcpConnectionEnd, fun s conn n k => exec_outputBufferDrain⟩
  case asx =>
    intro s conn version who nonce k hup hconn hphase hkind hok hroom
    exact ⟨_, exec_clientHello_asx hup hconn hphase hok hroom hkind, queueHello_asx hkind version who nonce⟩
  case reserved =>
    intro s conn version who nonce ct k hconn
    exact ⟨fun hup hphase => exec_clientHello_resv hup hconn hphase, fun hup hphase => exec_keyShare_resv hup hconn hphase⟩

/-- Settles O28: each command by its equation above. -/
theorem sessionCommandsRun : Obligations.SessionCommandsRun := by
  exact ⟨fun s s1 conn slot adapter ctag i dgram persistent k => exec_openSession, fun s s1 conn session adapter i dgram k => exec_adapt,
    fun s s1 conn session i dgram k => exec_closeSession, fun s conn value dgram resv k => exec_ping, fun s conn msg dgram resv k => exec_unknownMsg,
    fun s i => exec_idleClose, fun s i => exec_sessionIndexFree⟩

/-- Settles O29: each command by its equation above, a request by what its admission gives. A SAMPLE without a run takes the last candidates (log entry 41). -/
theorem requestCommandsRun : Obligations.RequestCommandsRun := by
  refine ⟨?request, fun s s1 conn session req i dgram k q => exec_cancel, fun s s1 t turn cls e => exec_requestDequeue, fun s i req r => exec_queueTimeout,
    fun s i n cands st r q => exec_sample_step, fun s i cands r => exec_sample_due⟩
  intro s s1 conn i dgram r k hup hchannel hrecorded hform hfound hnew hhigher hadmitted
  rw [exec_request hup hchannel hrecorded hform hfound hnew hhigher, admitReq_ok hadmitted]

end Sys2Proof.Machine
end

section
/-! The control complex: what each entry's rule of 15_control_complex.md gives, an equation for each event, and the obligations about them. -/

namespace Sys2Proof.Machine

section Cores
variable {s : State} {k : Nat}

/-! ### Restarts of control cores (R304, R306) -/

/-- The firings of a core's watchdog within the last 60 s. -/
def State.recentFirings (s : State) (k : Nat) : List Nat := (s.core k).firings.filter fun t => decide (s.now < t + 60000000000)

/-- WATCHDOG_EXPIRE for the first or second time in 60 s, where no update is rolled back: the core restarts. -/
theorem exec_watchdogExpire_restarts (hcore : k < 8) (hup : s.coreUp k = true) (hfew : (s.recentFirings k).length < 2) (hkept : s.rollsBack k = false) :
    exec (.watchdogExpire k) s = .next ((s.modCore k fun c => { c with firings := s.recentFirings k ++ [s.now] }).restartFailed k) := by
  change execWatchdogExpire k s = _
  unfold execWatchdogExpire
  dsimp only
  rw [if_pos ⟨hcore, hup⟩]
  exact (if_neg (Nat.not_le.2 hfew)).trans (congrArg _ (if_neg (by simp [hkept])))

/-- WATCHDOG_EXPIRE for the third time in 60 s: the device fails. -/
theorem exec_watchdogExpire_fails (hcore : k < 8) (hup : s.coreUp k = true) (hmany : 2 ≤ (s.recentFirings k).length) :
    exec (.watchdogExpire k) s = .next (s.raise Ev.ccFail 0 Locus.core k 0) := by
  change execWatchdogExpire k s = _
  unfold execWatchdogExpire
  dsimp only
  rw [if_pos ⟨hcore, hup⟩]
  exact if_pos hmany

/-- CC_RESTART while no core restarts. -/
theorem ccRestartBody_ok (hcore : k ≤ 7) (hnone : s.restartRuns = false) :
    ccRestartBody k s = (Bdp.pending, (s.modCore k fun c => { c with cmd := true }).startRestart k 1) := by
  unfold ccRestartBody
  rw [if_neg (Nat.not_lt.2 hcore), if_neg (by simp [hnone])]

/-- CC_RESTART_DONE of a core that started: it runs, and the next restart begins. -/
theorem exec_ccRestartDone_runs (hcore : k < 8) (hrestarting : (s.core k).state = .restarting) :
    exec (.ccRestartDone k true) s = .next (s.coreRuns k).nextRestart :=
  (if_pos ⟨hcore, hrestarting, rfl⟩).trans (if_pos rfl)

/-- CC_RESTART_DONE of a new image that fails its start check: the update is rolled back (log entry 64). -/
theorem exec_ccRestartDone_rollsBack (hcore : k < 8) (hrestarting : (s.core k).state = .restarting) (hnew : s.rollsBack k = true) :
    exec (.ccRestartDone k false) s = .next ((s.modCore k fun c => { c with state := .running, cmd := false, onNew := true }).rollBack) :=
  (if_pos ⟨hcore, hrestarting, by simp [hnew]⟩).trans (if_neg Bool.false_ne_true)

/-! ### Firmware update (R307, R308, R389) -/

/-- FW_BEGIN with no upload open and no update under way. -/
theorem fwBeginBody_ok {n : Nat} (hnone : s.ctl.fwUpload = none) (hstate : s.ctl.fwState = .committed ∨ s.ctl.fwState = .staged) :
    fwBeginBody n s = (Bdp.ok, (s.modFwSlot s.fwInactive fun _ => .init).modCtl fun c => { c with fwUpload := some { length := n }, fwState := .committed }) :=
  if_neg (by rcases hstate with hstate | hstate <;> simp [hnone, hstate])

/-- FW_DATA within the length of the open upload. -/
theorem fwDataBody_ok {off len : Nat} {u : FwUpload} (hopen : s.ctl.fwUpload = some u) (hwithin : off + len ≤ u.length) :
    fwDataBody off len s =
      (Bdp.ok, s.modCtl fun c => { c with fwUpload := some { u with written := if len = 0 then u.written else u.written ++ [(off, off + len)] } }) := by
  simp only [fwDataBody, hopen]
  exact if_neg (Nat.not_lt.2 hwithin)

/-- FW_END of an image that verifies: it is staged. -/
theorem fwEndBody_staged {v : Bool} {i : FwImage} {u : FwUpload} (hopen : s.ctl.fwUpload = some u) (hverified : s.fwStatus u v i = Bdp.ok) :
    fwEndBody v i s =
      (Bdp.pending, (((s.modCtl fun c => { c with fwUpload := none }).modFwSlot s.fwInactive fun _ => { i with present := true }).modCtl
        fun c => { c with fwState := .staged }).finish (entryCode 0x7402 3) Bdp.ok) := by
  simp only [fwEndBody, hopen, hverified, if_true]
  rfl

/-- FW_ACTIVATE in mode 0 of a staged image that the active one may run beside. -/
theorem fwRollingBody_ok (hstaged : s.ctl.fwState = .staged) (hcompatible : (s.fwSlot s.fwInactive).compatMin ≤ (s.fwSlot s.ctl.fwActive).version) :
    fwRollingBody s = (Bdp.pending, (s.modCtl fun c => { c with fwState := .activating, rolling := rollingOrder }).nextRestart) := by
  unfold fwRollingBody
  rw [if_neg (not_not.2 hstaged), if_neg (Nat.not_lt.2 hcompatible)]

/-- FW_ACTIVATE in mode 1 of a staged image. -/
theorem fwResetBody_ok (hstaged : s.ctl.fwState = .staged) :
    fwResetBody s = (Bdp.pending, (s.modCtl fun c => { c with fwState := .trial, fwActive := s.fwInactive, trialOver := false }).toReset 3) :=
  if_neg (not_not.2 hstaged)

/-- FW_COMMIT after the trial's window. -/
theorem fwCommitBody_ok (htrial : s.ctl.fwState = .trial) (hover : s.ctl.trialOver = true) :
    fwCommitBody s = (Bdp.ok, (List.range 8).foldl (fun s k => s.modCore k fun c => { c with onNew := false })
      (({ s with trust := s.trust.commit (s.fwSlot s.ctl.fwActive) } : State).modCtl fun c => { c with fwState := .committed, trialOver := false })) :=
  if_neg (by simp [htrial, hover])

/-- FW_REVERT within the trial's window. -/
theorem fwRevertBody_ok (htrial : s.ctl.fwState = .trial) (hwithin : s.ctl.trialOver = false) :
    fwRevertBody s = (Bdp.pending, (s.modCtl fun c => { c with revertCmd := true }).rollBack) :=
  if_neg (by simp [htrial, hwithin])

/-- FW_TRIAL_WINDOW_END once the 60 s of the trial have passed. -/
theorem exec_fwTrialWindowEnd (htrial : s.ctl.fwState = .trial) (hwithin : s.ctl.trialOver = false) (hpassed : s.ctl.trialLeft = 0) :
    exec .fwTrialWindowEnd s = .next (s.modCtl fun c => { c with trialOver := true }) :=
  listed_true (by simp [htrial, hwithin, hpassed])

/-! ### The driver lease (R309, R310, R312) -/

/-- An epoch that a renewal or a release names passes where the lease stands and the epoch is its own. -/
theorem epochStatus_ok {e : Nat} (hlease : s.ctl.lease.state ≠ .unattended) (hnonzero : e ≠ 0) (hcurrent : e = s.ctl.lease.epoch) : s.epochStatus e = Bdp.ok := by
  unfold State.epochStatus
  rw [if_neg hlease, if_neg (not_or.2 ⟨hnonzero, not_not.2 hcurrent⟩)]

/-- LEASE_RENEW in the right epoch. -/
theorem leaseRenewBody_ok {e : Nat} (hlease : s.ctl.lease.state ≠ .unattended) (hnonzero : e ≠ 0) (hcurrent : e = s.ctl.lease.epoch) :
    leaseRenewBody e s = (Bdp.ok, s.modLease fun l => { l with state := .held, holder := true, remaining := s.leaseTime }) :=
  if_neg (not_not.2 (epochStatus_ok hlease hnonzero hcurrent))

/-- LEASE_RELEASE in the right epoch. -/
theorem leaseReleaseBody_ok {e : Nat} (hlease : s.ctl.lease.state ≠ .unattended) (hnonzero : e ≠ 0) (hcurrent : e = s.ctl.lease.epoch) :
    leaseReleaseBody e s = (Bdp.ok, s.enterUnattended) :=
  if_neg (not_not.2 (epochStatus_ok hlease hnonzero hcurrent))

/-- The state after a claim, before the takeover from another holder is reported. -/
def State.claimed (s : State) : State :=
  (s.modLease fun _ => { state := .held, holder := true, epoch := nextEpoch s.ctl.lease.epoch, remaining := s.leaseTime }).modCtl fun c => { c with policies := [] }

/-- LEASE_CLAIM always succeeds. -/
theorem leaseClaimBody_eq (s : State) :
    leaseClaimBody s = (Bdp.ok, if s.ctl.lease.holder = true ∧ s.ctl.lease.state ≠ .unattended then
      s.claimed.raise Ev.leaseTakeover 0 Locus.none 0 (nextEpoch s.ctl.lease.epoch) else s.claimed) := by
  simp only [leaseClaimBody, Bool.and_eq_true, decide_eq_true_eq]
  rfl

/-- LEASE_EXPIRY of a held lease whose time has run out. -/
theorem exec_leaseExpiry (hruns : s.countsRun = true) (hheld : s.ctl.lease.state = .held) (hover : s.ctl.lease.remaining = 0) :
    exec .leaseExpiry s =
      .next (((s.modLease fun l => { l with state := .grace, remaining := 1000000000 }).count 0xAF01 1 1).raise Ev.leaseExpired 0 Locus.none 0 s.ctl.lease.epoch) :=
  listed_true (by simp [hruns, hheld, hover])

/-- GRACE_EXPIRY of a grace whose second has run out. -/
theorem exec_graceExpiry (hruns : s.countsRun = true) (hgrace : s.ctl.lease.state = .grace) (hover : s.ctl.lease.remaining = 0) :
    exec .graceExpiry s = .next s.enterUnattended :=
  listed_true (by simp [hruns, hgrace, hover])

end Cores

/-! ### The obligations -/

/-- Settles O30: each command by what its entry's rule gives, each event by its equation above. FW_END answers PENDING with its record, and a failed start check during an activation rolls it back (log entry 64). -/
theorem coreCommandsRun : Obligations.CoreCommandsRun := by
  refine ⟨fun s k => exec_watchdogExpire_restarts, fun s k => exec_watchdogExpire_fails, ?restart, fun s k => exec_ccRestartDone_runs,
    fun s k => exec_ccRestartDone_rollsBack, ?begin, ?data, ?verify, ?rolling, ?reset, ?commit, ?revert, fun s => exec_fwTrialWindowEnd⟩
  case restart =>
    intro s rq c k hreach hcore hnone
    exact accepts_of_reaches hreach rfl (ccRestartBody_ok hcore hnone) (.inr rfl)
  case begin =>
    intro s rq c n hreach hnone hstate
    exact accepts_of_reaches hreach rfl (fwBeginBody_ok hnone hstate) (.inl rfl)
  case data =>
    intro s rq c off data u hreach hopen hwithin
    exact accepts_of_reaches hreach rfl (fwDataBody_ok hopen hwithin) (.inl rfl)
  case verify =>
    intro s rq c v i u hreach hopen hverified
    exact accepts_of_reaches hreach rfl (fwEndBody_staged hopen hverified) (.inr rfl)
  case rolling =>
    intro s rq c hreach hstaged hcompatible
    exact accepts_of_reaches hreach rfl (fwRollingBody_ok hstaged hcompatible) (.inr rfl)
  case reset =>
    intro s rq c hreach hstaged
    exact accepts_of_reaches hreach rfl (fwResetBody_ok hstaged) (.inr rfl)
  case commit =>
    intro s rq c hreach htrial hover
    exact accepts_of_reaches hreach rfl (fwCommitBody_ok htrial hover) (.inl rfl)
  case revert =>
    intro s rq c hreach htrial hwithin
    exact accepts_of_reaches hreach rfl (fwRevertBody_ok htrial hwithin) (.inr rfl)

/-- Settles O31: each command by what its entry's rule gives, each expiry by its equation above. -/
theorem leaseCommandsRun : Obligations.LeaseCommandsRun := by
  refine ⟨?claim, ?renew, ?release, fun s => exec_leaseExpiry, fun s => exec_graceExpiry⟩
  case claim =>
    intro s rq c hreach
    exact accepts_of_reaches hreach rfl (leaseClaimBody_eq s) (.inl rfl)
  case renew =>
    intro s rq c e hreach hlease hnonzero hcurrent
    exact accepts_of_reaches hreach rfl (leaseRenewBody_ok hlease hnonzero hcurrent) (.inl rfl)
  case release =>
    intro s rq c e hreach hlease hnonzero hcurrent
    exact accepts_of_reaches hreach rfl (leaseReleaseBody_ok hlease hnonzero hcurrent) (.inl rfl)

end Sys2Proof.Machine
end

section
/-! The host and management ports: what each entry's rule of 16_network_ports.md gives, an equation for each event, and the obligations about them. -/

namespace Sys2Proof.Machine

section Ports
variable {s : State} {p : Nat}

/-! ### Settings, links and cable tests (R322, R323, R331) -/

/-- PORT_ENABLE of 1: a port that is off is enabled. -/
theorem portEnableBody_on (s : State) (p : Nat) :
    portEnableBody p true s = (Bdp.ok, if (s.port p).on then s.setStored (portIndex p) 1 1 1 else (s.setStored (portIndex p) 1 1 1).enablePort p) := rfl

/-- PORT_ENABLE of 0 with the link up: the link is lost. -/
theorem portEnableBody_off_up (hlink : (s.port p).link = .up) :
    portEnableBody p false s =
      (Bdp.ok, ((s.setStored (portIndex p) 1 1 0).linkLoss p .down).modPort p fun x => { x with on := false, link := .down, speed := 0, beacon := false }) := by
  have hloses : ((s.setStored (portIndex p) 1 1 0).port p).link = .up ∨ ((s.setStored (portIndex p) 1 1 0).port p).link = .sleep := .inl hlink
  unfold portEnableBody
  dsimp only [Bool.toNat_false]
  rw [if_neg Bool.false_ne_true, if_pos hloses]

/-- PORT_ENABLE of 0 with the link neither up nor asleep. -/
theorem portEnableBody_off_down (hup : (s.port p).link ≠ .up) (hsleep : (s.port p).link ≠ .sleep) :
    portEnableBody p false s =
      (Bdp.ok, (s.setStored (portIndex p) 1 1 0).modPort p fun x => { x with on := false, link := .down, speed := 0, beacon := false }) := by
  have hkeeps : ¬ (((s.setStored (portIndex p) 1 1 0).port p).link = .up ∨ ((s.setStored (portIndex p) 1 1 0).port p).link = .sleep) := not_or.2 ⟨hup, hsleep⟩
  unfold portEnableBody
  dsimp only [Bool.toNat_false]
  rw [if_neg Bool.false_ne_true, if_neg hkeeps]

/-- MEDIA that may stand beside SPEEDS. -/
theorem mediaBody_ok {v : Nat} (hvalue : v ≤ 1) (hfits : mediaSpeedsOk v (s.setting (portIndex p) 3) = true) :
    mediaBody p v s = (Bdp.ok, s.setStored (portIndex p) 2 0 v) :=
  if_neg (not_or.2 ⟨Nat.not_lt.2 hvalue, by simp [hfits]⟩)

/-- SPEEDS that may stand beside MEDIA. -/
theorem speedsBody_ok {v : Nat} (hvalue : v ≤ 15) (hfits : mediaSpeedsOk (s.setting (portIndex p) 2) v = true) :
    speedsBody p v s = (Bdp.ok, s.setStored (portIndex p) 3 15 v) := by
  unfold speedsBody
  rw [if_neg (Nat.not_lt.2 hvalue), if_neg (by simp [hfits])]

/-- GCL of a list in range. -/
theorem gclBody_ok {l : GclList} (hrange : l.inRange = true) :
    gclBody p l false s = (Bdp.ok, (s.setStored (portIndex p) 10 (2 ^ 192) (varValue l.bytes)).modPort p fun x => { x with gclNext := some l }) := by
  unfold gclBody
  rw [if_neg Bool.false_ne_true, if_neg (by simp [hrange])]

/-- CABLE_TEST while the link is not up. -/
theorem cableTestBody_ok (hdown : (s.port p).link ≠ .up) : cableTestBody p s = (Bdp.pending, s.modPort p fun x => { x with cableBusy := true }) :=
  if_neg hdown

/-- LINK_UP of an enabled link that trains, at one of its speeds. -/
theorem exec_linkUp {speed sqi : Nat} {leader : Bool} (hport : p < 2) (hon : (s.port p).on = true) (htrains : (s.port p).link = .training)
    (hspeed : speed = 1 ∨ speed = 2 ∨ speed = 4 ∨ speed = 8) (hallowed : s.eff p 3 &&& speed ≠ 0) (hsqi : sqi < 8) :
    exec (.linkUp p speed leader sqi) s =
      .next (s.modPort p fun x => { x with link := .up, speed := speed, leader := s.roleOf p leader, sqi := sqi, verified := false }) :=
  listed_true (by simp [hport, hon, htrains, hspeed, hallowed, hsqi])

/-- LINK_DOWN of a link that is up. -/
theorem exec_linkDown (hport : p < 2) (hlink : (s.port p).link = .up) : exec (.linkDown p) s = .next (s.linkLoss p .training) :=
  listed_true (by simp [hport, hlink])

/-- CABLE_TEST_DONE of a test that runs. -/
theorem exec_cableTestDone {result dm : Nat} (hport : p < 2) (hruns : (s.port p).cableBusy = true) (hresult : result < 3) :
    exec (.cableTestDone p result dm) s =
      .next ((s.modPort p fun x => { x with cable := result, cableDm := dm % 65536, cableBusy := false }).finish (entryCode (portIndex p) 0x15) Bdp.ok) :=
  listed_true (by simp [hport, hruns, hresult])

/-- GCL_SWITCH of a written list at or after its base time (log entry 46). -/
theorem exec_gclSwitch {l : GclList} (hport : p < 2) (hnext : (s.port p).gclNext = some l) (hbase : l.base ≤ s.clk.cal) :
    exec (.gclSwitch p) s =
      .next (s.modPort p fun x => { x with gcl := l, gclNext := none, gateIdx := 0, gateLeft := (l.entries.headD Gate.init).interval }) := by
  change execGclSwitch p s = _
  simp only [execGclSwitch, hnext]
  exact listed_true (by simp [hport, hbase])

/-! ### Frames (R324..R332) -/

/-- FRAME_RECEIVE of a good frame that MACsec and the VLAN let pass. -/
theorem exec_frameReceive {f : RxFrame} (hport : p < 3) (hlink : (s.port p).link = .up) (hlong : f.len ≤ 1522) (hshort : 64 ≤ f.len) (hfcs : f.fcsOk = true)
    (hmacsec : s.macsecPass p f = true) (hvlan : (s.macsecSeen p f).vlanPass p f = true) :
    exec (.frameReceive p f) s = .next (((s.macsecSeen p f).bufferFrame p f).frameWake p) := by
  have hgood : ¬ (1522 < f.len ∨ f.len < 64 ∨ f.fcsOk = false) := not_or.2 ⟨Nat.not_lt.2 hlong, not_or.2 ⟨Nat.not_lt.2 hshort, by simp [hfcs]⟩⟩
  change execFrameReceive p f s = _
  unfold execFrameReceive
  rw [if_pos ⟨hport, hlink⟩, if_neg hgood, if_neg (by simp [hmacsec])]
  exact if_neg (by simp [hvlan])

section Transmit
variable {q : Nat} (hport : p < 3) (hsends : s.sends p = true)
include hport hsends

/-- FRAME_TRANSMIT with no frame begun: the next queue's frame leaves, or begins as a preemptable one (log entry 45). -/
theorem exec_frameTransmit_next (hnone : (s.port p).fragment = none) (hnext : s.nextQueue p false = some q) :
    exec (.frameTransmit p) s = .next (if s.preemptable p q then s.modPort p fun x => { x with fragment := some q } else s.sentFrame p q) := by
  change execFrameTransmit p s = _
  unfold execFrameTransmit
  rw [if_pos ⟨hport, hsends⟩]
  simp only [hnone, hnext]

/-- FRAME_TRANSMIT with a frame begun and no express frame before its end: it ends. -/
theorem exec_frameTransmit_ends (hbegun : (s.port p).fragment = some q) (hnone : s.nextQueue p true = none) (hmay : s.mayStart p q = true) :
    exec (.frameTransmit p) s = .next (s.sentFrame p q) := by
  change execFrameTransmit p s = _
  unfold execFrameTransmit
  rw [if_pos ⟨hport, hsends⟩]
  simp only [hbegun, hnone]
  exact listed_true hmay

end Transmit

/-- DATAGRAM_TX_DROP of the first connection's datagram that found no room for 1 ms. -/
theorem exec_datagramTxDrop {pcp c : Nat} {l : List Nat} {k : Conn} {f : TxFrame}
    (hlate : s.connsWhere (fun k => decide (k.port = p) && (match k.waitingDatagram pcp with | some f => decide (f.since + 1000000 ≤ s.now) && !(s.port p).takes f | none => false)) = c :: l)
    (hconn : s.conn c = some k) (hwaits : k.waitingDatagram pcp = some f) :
    exec (.datagramTxDrop p pcp) s =
      .next (((s.modConn c fun o => o.map fun k => { k with toQueue := k.toQueue.erase f }).dropDatagrams [f]).count 0xA005 (p + 1) 1) := by
  change execDatagramTxDrop p pcp s = _
  unfold execDatagramTxDrop
  dsimp only
  erw [hlate]
  simp only [List.head?_cons, hconn, Option.bind_some, hwaits]

/-! ### MACsec key agreement and MAC merge (R326, R327, R330) -/

/-- MKA_HELLO of a live peer: its session takes the key as it stands (log entry 45). -/
theorem exec_mkaHello (hport : p < 2) (hlink : (s.port p).link = .up) (hkey : s.sv (0x3100 + p) 13 0 ≠ 0) (hnew : (s.port p).peerLive = false) :
    exec (.mkaHello p true) s = .next (s.modPort p fun x => { x with peerLive := true, cak := s.sv (0x3100 + p) 13 0, ckn := s.sv (0x3100 + p) 14 0 }) :=
  (listed_true (by simp [hport, hlink, hkey])).trans (congrArg _ (if_pos ⟨rfl, hnew⟩))

/-- SAK_INSTALL of a live peer. -/
theorem exec_sakInstall {an key : Nat} (hport : p < 2) (hlink : (s.port p).link = .up) (hlive : (s.port p).peerLive = true) (han : an < 4) :
    exec (.sakInstall p an key) s =
      .next (s.modPort p fun x => { x with
        txSa := mset .init (mfilter (fun k _ => decide (k = x.txAn)) x.txSa) an { installed := true, key := key % 2 ^ 256 },
        rxSa := mset .init (mfilter (fun k _ => decide (k = x.txAn)) x.rxSa) an { installed := true, key := key % 2 ^ 256 },
        txAn := an, mode := s.setting (0x3100 + p) 11, sakAsked := false }) :=
  listed_true (by simp [hport, hlink, hlive, han])

/-- MKA_PEER_LOST of a live peer. -/
theorem exec_mkaPeerLost (hport : p < 2) (hlive : (s.port p).peerLive = true) :
    exec (.mkaPeerLost p) s =
      (let s1 := s.modPort p fun x => { x with peerLive := false, txSa := [], rxSa := [], sakAsked := false }
       .next (if s1.macsecRequired p then s1.raise Ev.mkaPeerLost 0 Locus.port p 0 else s1)) :=
  listed_true (by simp [hport, hlive])

/-- MAC_MERGE_VERIFIED of a link with preemption on. -/
theorem exec_macMergeVerified (hport : p < 2) (hlink : (s.port p).link = .up) (hpreempt : s.eff p 9 = 1) :
    exec (.macMergeVerified p) s = .next (s.modPort p fun x => { x with verified := true }) :=
  listed_true (by simp [hport, hlink, hpreempt])

/-! ### TCP and PLCA (R335, R337) -/

/-- TCP_USER_TIMEOUT of sent data that stayed unacknowledged. -/
theorem exec_tcpUserTimeout {conn t : Nat} {k : Conn} (hup : Claims.Up s (.tcpUserTimeout conn)) (hconn : s.conn conn = some k) (hsent : k.unacked = some t)
    (hpassed : t + s.setting 0x3000 3 ≤ s.now) : exec (.tcpUserTimeout conn) s = .next (s.closeConn conn) := by
  change execTcpUserTimeout conn s = _
  rw [execTcpUserTimeout, whenUp_of_up hup]
  simp only [hconn, Option.bind_some, hsent]
  exact listed_true (by simp [hpassed])

/-- TCP_RETRANSMISSION_TIMEOUT of sent data that stayed unacknowledged for 10 ms. -/
theorem exec_tcpRetransmissionTimeout {conn t : Nat} {k : Conn} (hup : Claims.Up s (.tcpRetransmissionTimeout conn)) (hconn : s.conn conn = some k)
    (hsent : k.unacked = some t) (hpassed : t + 10000000 ≤ s.now) (houtput : 0 < k.outBytes) :
    exec (.tcpRetransmissionTimeout conn) s = .next (s.retransmit conn k) := by
  change execTcpRetransmissionTimeout conn s = _
  rw [execTcpRetransmissionTimeout, whenUp_of_up hup]
  simp only [hconn]
  exact listed_true (by simp [hsent, hpassed, houtput])

/-- PLCA_BEACON: a follower's from the coordinator, the coordinator's own. -/
theorem exec_plcaBeacon {received : Bool} (hon : (s.port 2).on = true) (hplca : s.eff 2 2 ≠ 255) (hrole : received = true ↔ s.eff 2 2 ≠ 0) :
    exec (.plcaBeacon received) s = .next (s.modPort 2 fun x => { x with beacon := true }) := by
  have hmatches : received = decide (s.eff 2 2 ≠ 0) := Bool.eq_iff_iff.2 (hrole.trans decide_eq_true_iff.symm)
  exact listed_true (by simp [hon, hplca, ← hmatches])

/-! ### gPTP and TC10 (R333, R334, R451) -/

/-- PEER_DELAY of a link that is up (log entry 46). -/
theorem exec_peerDelay {d : Int} (hport : p < 2) (hlink : (s.port p).link = .up) :
    exec (.peerDelay p d) s = .next (s.modPort p fun x => { x with peerDelay := d - s.tsOffset p }) :=
  listed_true (by simp [hport, hlink])

section Sync
variable {s1 : State} {time : Nat} {bmca : Bool} (hport : p < 2) (hlink : (s.port p).link = .up)
  (hseen : s1 = s.modPort p fun x => { x with syncLive := true, bmca := bmca })
include hport hlink hseen

/-- GPTP_SYNC of the port that supplies time, without a change of the UTC offset: it disciplines the clock (log entry 46). -/
theorem exec_gptpSync_supplies (hup : Claims.Up s (.gptpSync p time bmca none)) (hsupplies : s1.supplies p = true) :
    exec (.gptpSync p time bmca none) s = .next (s1.discipline p ((s1.clk.cal : Int) - s1.tsOffset p - (time + (s1.port p).peerDelay))) := by
  subst hseen
  change execGptpSync p time bmca none s = _
  rw [execGptpSync, whenUp_of_up hup, if_pos ⟨hport, hlink⟩]
  exact if_pos hsupplies

/-- GPTP_SYNC of the other port: it is noted. -/
theorem exec_gptpSync_noted {utc : Option Int} (hup : Claims.Up s (.gptpSync p time bmca utc)) (hother : s1.supplies p = false) :
    exec (.gptpSync p time bmca utc) s = .next s1 := by
  subst hseen
  change execGptpSync p time bmca utc s = _
  rw [execGptpSync, whenUp_of_up hup, if_pos ⟨hport, hlink⟩]
  exact if_neg (by simp [hother])

end Sync

/-- DISCIPLINE_LOSS after 3 s without Sync. -/
theorem exec_disciplineLoss (hdisciplined : s.clk.disciplined = true) (hpassed : s.clk.lastSync + 3000000000 ≤ s.now) :
    exec .disciplineLoss s =
      .next ((({ s with clk := { s.clk with disciplined := false, source := 0, slew := 0 } } : State).modPort 0 fun x => { x with syncLive := false }).modPort 1 fun x => { x with syncLive := false }) :=
  listed_true (by simp [hdisciplined, hpassed])

/-- TC10_SLEEP_REQUEST that answers the device's request. -/
theorem exec_tc10SleepRequest_answer {accepted : Bool} (hawaits : s.awaitsPort p = true) :
    exec (.tc10SleepRequest p false accepted) s = .next (s.tc10Answer p accepted) :=
  listed_true hawaits

/-- TC10_SLEEP_REQUEST of the partner during an entry that does not await the port. -/
theorem exec_tc10SleepRequest_partner {accepted : Bool} (hport : p < 2) (hlink : (s.port p).link = .up) (htc10 : s.tc10 p = true)
    (hentering : s.power.state = .entering) (hawaits : s.awaitsPort p = false) : exec (.tc10SleepRequest p true accepted) s = .next (s.sleepPorts [p]) := by
  refine (listed_true (by simp [hport, hlink, htc10])).trans ?_
  rw [if_pos hentering, if_neg (by simp [hawaits])]

/-- TC10_ACK_TIMEOUT of an acknowledgement that is awaited. -/
theorem exec_tc10AckTimeout (hawaits : s.awaitsPort p = true) : exec (.tc10AckTimeout p) s = .next (s.tc10Answer p false) :=
  listed_true hawaits

/-- TC10_WAKE of a host port in PHY mode. -/
theorem exec_tc10Wake (hport : p < 2) (htc10 : s.tc10 p = true) : exec (.tc10Wake p) s = .next (s.wake (2 + p)) :=
  listed_true (by simp [hport, htc10])

end Ports

/-! ### The obligations -/

/-- Settles O32: each command by what its entry's rule gives, each event by its equation above. A written gate list becomes the operating one at any calendar time at or after its base (log entry 46). -/
theorem portCommandsRun : Obligations.PortCommandsRun := by
  refine ⟨?enable, ?disableUp, ?disableDown, ?media, ?speeds, ?gcl, ?cable, fun s p speed sqi leader => exec_linkUp, fun s p => exec_linkDown,
    fun s p result dm => exec_cableTestDone, fun s p l => exec_gclSwitch⟩
  case enable =>
    intro s rq c p hreach
    exact accepts_of_reaches hreach rfl (portEnableBody_on s p) (.inl rfl)
  case disableUp =>
    intro s rq c p hreach hlink
    exact accepts_of_reaches hreach rfl (portEnableBody_off_up hlink) (.inl rfl)
  case disableDown =>
    intro s rq c p hreach hup hsleep
    exact accepts_of_reaches hreach rfl (portEnableBody_off_down hup hsleep) (.inl rfl)
  case media =>
    intro s rq c p v hreach hvalue hfits
    exact accepts_of_reaches hreach rfl (mediaBody_ok hvalue hfits) (.inl rfl)
  case speeds =>
    intro s rq c p v hreach hvalue hfits
    exact accepts_of_reaches hreach rfl (speedsBody_ok hvalue hfits) (.inl rfl)
  case gcl =>
    intro s rq c p l hreach hrange
    exact accepts_of_reaches hreach rfl (gclBody_ok hrange) (.inl rfl)
  case cable =>
    intro s rq c p hreach hdown
    exact accepts_of_reaches hreach rfl (cableTestBody_ok hdown) (.inr rfl)

/-- Settles O33: each command by its equation above. An MKA session is live at its first hello, and a preemptable frame takes two commands (log entry 45). -/
theorem frameCommandsRun : Obligations.FrameCommandsRun := by
  exact ⟨fun s p f => exec_frameReceive, fun s p q => exec_frameTransmit_next, fun s p q => exec_frameTransmit_ends, fun s p pcp c l k f => exec_datagramTxDrop,
    fun s p => exec_mkaHello, fun s p an key => exec_sakInstall, fun s p => exec_mkaPeerLost, fun s p => exec_macMergeVerified,
    fun s conn t k => exec_tcpUserTimeout, fun s conn t k => exec_tcpRetransmissionTimeout, fun s received => exec_plcaBeacon⟩

/-- Settles O34: each command by its equation above. The external PHY's part is taken off the path delay and off the offset (log entry 46). -/
theorem timeAndSleepCommandsRun : Obligations.TimeAndSleepCommandsRun := by
  exact ⟨fun s p d => exec_peerDelay, fun s s1 p time bmca hup hport hlink hseen => exec_gptpSync_supplies hport hlink hseen hup,
    fun s s1 p time bmca utc hup hport hlink hseen => exec_gptpSync_noted hport hlink hseen hup, fun s => exec_disciplineLoss,
    fun s p accepted => exec_tc10SleepRequest_answer, fun s p accepted => exec_tc10SleepRequest_partner, fun s p => exec_tc10AckTimeout, fun s p => exec_tc10Wake⟩

end Sys2Proof.Machine
end

section
/-! Transactions of the Banel dictionary protocol and profiles: what each rule of 17_banel_dictionary.md gives, an equation for each command, and the obligations about them. -/

namespace Sys2Proof.Machine

section Transactions
variable {s t : State} {rq : Rq} {c : Conn} {b : BdpBody}

/-! ### Vendor test entries (R12, R390, log entry 61) -/

/-- A write that names no vendor test entry has its own outcome. -/
theorem unlessVendor_of_unnamed {items : List Item} {failed : Nat} {r : Res} (hunnamed : ∀ it ∈ items, s.vendorNamed it.code = false) :
    s.unlessVendor items failed r = r := by
  unfold State.unlessVendor State.vendorAt
  rcases hitem : items[failed]? with _ | it
  · rfl
  · simp [hunnamed it (List.mem_of_getElem? hitem)]

/-- A write whose first failure names a vendor test entry stops by the entry's name. -/
theorem unlessVendor_of_named {it : Item} {r : Res} (hnamed : s.vendorNamed it.code = true) : s.unlessVendor [it] 0 r = .refused (.vendorTest it.code) := by
  simp [State.unlessVendor, State.vendorAt, hnamed]

/-! ### A transaction that runs (R347, R351) -/

/-- A transaction whose checks pass is carried out. -/
theorem txn_of_transacts {i : Instr} {write : Bool} (run : Conn → State → Res) (htxn : Claims.Transacts s i rq c b write) :
    txn i rq (txnPre rq b write) run s = run c s := by
  obtain ⟨hconn, hkind, hphase, ⟨hpowered, hholds⟩, hpre, -⟩ := htxn
  exact txn_runs run hconn hkind hphase hpowered hholds hpre

/-- A write that transacts names no vendor test entry. -/
theorem unnamed_of_transacts {i : Instr} (htxn : Claims.Transacts s i rq c b true) : ∀ it ∈ b.items, s.vendorNamed it.code = false := by
  obtain ⟨-, -, -, -, -, hunnamed⟩ := htxn
  exact hunnamed rfl

/-- BDP_READ answers each of its items. -/
theorem exec_bdpRead_ok (htxn : Claims.Transacts s (.bdpRead rq b) rq c b false) : exec (.bdpRead rq b) s = .next (s.answerRead rq c b.items) := by
  change execBdpRead rq b s = _
  rw [execBdpRead, txn_of_transacts _ htxn]

/-- BDP_SNAPSHOT of RO items only: each is answered. -/
theorem exec_bdpSnapshot_ok (htxn : Claims.Transacts s (.bdpSnapshot rq b) rq c b false) (hro : ∀ it ∈ b.items, c.spoils it = false) :
    exec (.bdpSnapshot rq b) s = .next (s.answerRead rq c b.items) := by
  have hnone : b.items.findIdx? c.spoils = none := List.findIdx?_eq_none_iff.2 hro
  change execBdpSnapshot rq b s = _
  rw [execBdpSnapshot, txn_of_transacts _ htxn]
  simp only [hnone]

/-- A unit of settings that all pass, with none to wait for, is applied and answered OK. -/
theorem answerBatch_ok {r : Batch} {items : List Item} (hok : r.status = Bdp.ok) (hready : r.waits = false) :
    answerBatch rq c true items r s =
      (r.state.mirrorWrite c.principalCode rq.epoch (items.map fun it => (it.code, it.kept))).respond rq Bdp.ok 0xFF (writeItems (items.map (·.code)) 0xFF Bdp.ok) := by
  unfold answerBatch
  dsimp only
  rw [if_neg (not_not.2 hok), if_neg (by simp), if_neg (by simp [hready])]

/-- BDP_WRITE of several settings that all pass. -/
theorem exec_bdpWrite_several {i j : Item} {l : List Item} (htxn : Claims.Transacts s (.bdpWrite rq b) rq c b true) (hpresent : b.toProfile = false)
    (hitems : b.items = i :: j :: l) (hdurable : b.durable = true) (hok : (writeAll (writeItem rq c b false) 0 b.items false s).status = Bdp.ok)
    (hready : (writeAll (writeItem rq c b false) 0 b.items false s).waits = false) (hstate : (writeAll (writeItem rq c b false) 0 b.items false s).state = t) :
    exec (.bdpWrite rq b) s =
      .next ((t.mirrorWrite c.principalCode rq.epoch (b.items.map fun it => (it.code, it.kept))).respond rq Bdp.ok 0xFF (writeItems (b.items.map (·.code)) 0xFF Bdp.ok)) := by
  have hsome : writeSome rq c b s =
      .next ((t.mirrorWrite c.principalCode rq.epoch (b.items.map fun it => (it.code, it.kept))).respond rq Bdp.ok 0xFF (writeItems (b.items.map (·.code)) 0xFF Bdp.ok)) := by
    unfold writeSome
    dsimp only
    rw [unlessVendor_of_unnamed (unnamed_of_transacts htxn), hdurable, answerBatch_ok hok hready, hstate]
  change execBdpWrite rq b s = _
  rw [execBdpWrite, txn_of_transacts _ htxn, if_neg (by simp [hpresent]), ← hsome]
  simp only [hitems]

/-- A write of one setting that passes and that the store keeps is accepted. -/
theorem answerOne_ok {it : Item} (hdurable : b.durable = true) (hwrite : writeItem rq c b true it s = (Bdp.ok, t)) :
    answerOne rq c b it s = t.accept rq c.principalCode it.code Bdp.ok it.kept := by
  simp only [answerOne, hwrite]
  rw [if_neg (by simp [hdurable])]
  exact if_pos (.inl rfl)

/-- BDP_WRITE of one setting that passes. -/
theorem exec_bdpWrite_one {it : Item} (htxn : Claims.Transacts s (.bdpWrite rq b) rq c b true) (hpresent : b.toProfile = false) (hitems : b.items = [it])
    (hdurable : b.durable = true) (hwrite : writeItem rq c b true it s = (Bdp.ok, t)) :
    exec (.bdpWrite rq b) s = .next (t.accept rq c.principalCode it.code Bdp.ok it.kept) := by
  have hunnamed := unnamed_of_transacts htxn
  change execBdpWrite rq b s = _
  rw [execBdpWrite, txn_of_transacts _ htxn, if_neg (by simp [hpresent])]
  simp only [hitems] at hunnamed ⊢
  rw [unlessVendor_of_unnamed hunnamed, answerOne_ok hdurable hwrite]

/-- REGISTER_WRITE that passes. -/
theorem exec_registerWrite_ok {it : Item} (htxn : Claims.Transacts s (.registerWrite rq it) rq c (plainBody [it] 0) true)
    (hwrite : writeItem rq c (plainBody [it] 0) true it s = (Bdp.ok, t)) :
    exec (.registerWrite rq it) s = .next (t.accept rq c.principalCode it.code Bdp.ok it.kept) := by
  have hunnamed : ∀ x ∈ [it], s.vendorNamed x.code = false := unnamed_of_transacts htxn
  change execRegisterWrite rq it s = _
  rw [execRegisterWrite, txn_of_transacts _ htxn, unlessVendor_of_unnamed hunnamed, answerOne_ok rfl hwrite]

/-- REGISTER_WRITE of a vendor test entry that unlocked debug access opens. -/
theorem exec_registerWrite_vendor {it : Item} (hconn : s.conn rq.conn = some c) (hkind : c.kind = .bdp) (hphase : c.phase = .up) (hup : Claims.Up s (.registerWrite rq it))
    (hpre : txnPre rq (plainBody [it] 0) true c s = Bdp.ok) (hnamed : s.vendorNamed it.code = true) :
    exec (.registerWrite rq it) s = .refused (.vendorTest it.code) := by
  obtain ⟨hpowered, hholds⟩ := hup
  change execRegisterWrite rq it s = _
  rw [execRegisterWrite, txn_runs _ hconn hkind hphase hpowered hholds hpre, unlessVendor_of_named hnamed]

/-- PROFILE_EDIT whose items all pass is applied to the profile (R364). -/
theorem exec_profileEdit_ok {p : Nat} {l : List Item} (htxn : Claims.Transacts s (.profileEdit rq p l) rq c (plainBody l (1 + 2 * (p % 4))) true)
    (hok : (writeAll (editItem c (p % 4)) 0 l false s).status = Bdp.ok) (hstate : (writeAll (editItem c (p % 4)) 0 l false s).state = t) :
    exec (.profileEdit rq p l) s =
      .next ((t.mirrorWrite c.principalCode rq.epoch (l.map fun it => (it.code, it.kept))).respond rq Bdp.ok 0xFF (writeItems (l.map (·.code)) 0xFF Bdp.ok)) := by
  have hunnamed : ∀ it ∈ l, s.vendorNamed it.code = false := unnamed_of_transacts htxn
  change execProfileEdit rq p l s = _
  rw [execProfileEdit, txn_of_transacts _ htxn]
  unfold answerEdit
  dsimp only
  rw [unlessVendor_of_unnamed hunnamed, if_neg (not_not.2 hok), if_neg (by simp), hstate]

end Transactions

/-! ### Connections and events (R342..R345, R353, R416) -/

section Connections
variable {s : State} {conn : Nat} {k : Conn}

/-- BDP_CONNECT where a place is free. -/
theorem exec_bdpConnect_ok {port number : Nat} (hup : Claims.Up s (.bdpConnect conn port number)) (hservice : s.bdpService port number = some .bdp)
    (hfree : s.conn conn = none) (hstack : s.tcpCount false < 64) (hplace : s.bdpFull port = false) :
    exec (.bdpConnect conn port number) s =
      .next (s.modConn conn fun _ => some { kind := .bdp, port := port, phase := .tcp, tcpPort := number, idleSince := s.now }) := by
  refine (whenUp_of_up hup).trans ?_
  simp only [hservice]
  rw [if_neg (by simp [hfree, hstack]), if_neg (by simp [hplace])]

/-- BDP_AUTH of the principal that the hello named. -/
theorem exec_bdpAuth_ok {keyId : Nat} {sigOk : Bool} (hup : Claims.Up s (.bdpAuth conn true keyId sigOk false)) (hconn : s.conn conn = some k) (hphase : k.phase = .authWait)
    (hkind : k.kind = .bdp) (hauth : s.authOk k keyId sigOk = true) :
    exec (.bdpAuth conn true keyId sigOk false) s =
      .next ((((s.leaveTrust conn).modConn conn fun _ => some { k with phase := .up, keyId := keyId, deadline := none, idleSince := s.now, rxSeq := 1 }).send
        conn (.authOk conn k.principalCode)).count 0xA010 1 1) := by
  refine (whenUp_of_up hup).trans ?_
  simp only [hconn]
  rw [if_neg (by simp [hphase, hkind]), if_neg (by simp), if_neg (by simp), if_pos hauth, if_pos hkind]

/-- BAD_MESSAGE on a BDP channel. -/
theorem exec_badMessage_bdp {msg : Nat} (hup : Claims.Up s (.badMessage conn msg)) (hconn : s.conn conn = some k) (hphase : k.phase = .up) (hkind : k.kind = .bdp)
    (hwrong : wrongCode .bdp msg = true) :
    exec (.badMessage conn msg) s = .next ((s.send conn (.response 0 Bdp.badMessage 0xFF s.now [])).count 0xA010 4 1) := by
  refine (whenUp_of_up hup).trans ?_
  simp only [hconn]
  rw [if_pos hkind]
  exact listed_true (by simp [hphase, hkind, hwrong])

/-- BDP_EVENT_SEND while events wait. -/
theorem exec_bdpEventSend_ok (hup : Claims.Up s (.bdpEventSend conn)) (hconn : s.conn conn = some k) (hkind : k.kind = .bdp) (hphase : k.phase = .up) (hwaiting : k.events ≠ []) :
    exec (.bdpEventSend conn) s =
      .next ((s.send conn (.event k.eventsLost (s.eventRecords k))).modConn conn fun o => o.map fun k => { k with events := k.events.drop 64, eventsLost := 0 }) := by
  refine (whenUp_of_up hup).trans ?_
  simp only [hconn]
  exact listed_true (by simp [hkind, hphase, hwaiting])

end Connections

/-! ### Profiles (R363, R365) -/

section Profiles
variable {s : State}

/-- PROFILE_SELECT while no transition and no restart of CC5 stands before it. -/
theorem profileSelectBody_now {p : Nat} (hp : p ≤ 3) (hfree : s.profileWaits = false) :
    profileSelectBody p s = (Bdp.ok, { s with dict := { s.dict with selected := some p, selectPending := false } }) := by
  unfold profileSelectBody
  rw [if_neg (Nat.not_lt.2 hp), if_neg (by simp [hfree])]

/-- PROFILE_SELECT behind a transition or a restart of CC5. -/
theorem profileSelectBody_pending {p : Nat} (hp : p ≤ 3) (hwaits : s.profileWaits = true) :
    profileSelectBody p s = (Bdp.pending, { s with dict := { s.dict with selected := some p, selectPending := true } }) := by
  unfold profileSelectBody
  rw [if_neg (Nat.not_lt.2 hp), if_pos hwaits]

/-- PROFILE_APPLY of a noted selection. -/
theorem exec_profileApply_ok {p : Nat} (hup : Claims.Up s .profileApply) (hnoted : s.dict.selected = some p) (hfree : s.profileWaits = false) :
    exec .profileApply s =
      .next (if s.dict.selectPending then
        ({ (s.applyProfile p) with dict := { (s.applyProfile p).dict with selected := none, selectPending := false } } : State).finish (entryCode 0x2000 5) Bdp.ok
        else { (s.applyProfile p) with dict := { (s.applyProfile p).dict with selected := none, selectPending := false } }) := by
  refine (whenUp_of_up hup).trans ?_
  simp only [hnoted]
  exact listed_true (by simp [hfree])

/-- No tenant is formed where each is FREE. -/
theorem none_formed (hfree : ∀ i, i < 8 → s.tenState (i + 1) = .free) : ((List.range 8).any fun i => s.formed (i + 1)) = false := by
  rw [List.any_eq_false]
  intro i hi
  simp [State.formed, hfree i (List.mem_range.1 hi)]

/-- FACTORY_RESET with every tenant FREE. -/
theorem factoryResetBody_ok {v : Nat} (hv : v ≤ 1) (hfree : ∀ i, i < 8 → s.tenState (i + 1) = .free) :
    factoryResetBody v s =
      (Bdp.ok, ({ s with dict := { s.dict with stored := ((entryCodes fun e => e.storedScoped).filter fun x => !factoryKept x.1).foldl (fun m x => mset (x.2.default 0) m x.1 (s.factoryValue x.1 x.2)) s.dict.stored } } : State).factoryEffects) := by
  unfold factoryResetBody
  rw [if_neg (Nat.not_lt.2 hv), if_neg (by simp only [none_formed hfree, Bool.false_eq_true, not_false_eq_true])]

end Profiles

/-- Settles O35: a transaction whose checks pass is carried out, and each kind of write that passes answers by the lemma about it; a write of a vendor test entry stops by name (R12, R390, log entry 61). -/
theorem bdpTransactionsRun : Obligations.BdpTransactionsRun := by
  exact ⟨fun _ _ _ _ hup hservice hfree hstack hplace => exec_bdpConnect_ok hup hservice hfree hstack hplace,
    fun _ _ _ _ _ hup hconn hphase hkind hauth => exec_bdpAuth_ok hup hconn hphase hkind hauth,
    fun _ _ _ _ htxn => exec_bdpRead_ok htxn,
    fun _ _ _ _ htxn hro => exec_bdpSnapshot_ok htxn hro,
    fun _ _ _ _ _ _ _ _ htxn hpresent hitems hdurable hok hready hstate => exec_bdpWrite_several htxn hpresent hitems hdurable hok hready hstate,
    fun _ _ _ _ _ _ htxn hpresent hitems hdurable hwrite => exec_bdpWrite_one htxn hpresent hitems hdurable hwrite,
    fun _ _ _ _ _ htxn hwrite => exec_registerWrite_ok htxn hwrite,
    fun _ _ _ _ _ _ htxn hok hstate => exec_profileEdit_ok htxn hok hstate,
    fun _ _ _ _ hconn hkind hphase hup hpre hnamed => exec_registerWrite_vendor hconn hkind hphase hup hpre hnamed,
    fun _ _ _ _ hup hconn hphase hkind hwrong => exec_badMessage_bdp hup hconn hphase hkind hwrong,
    fun _ _ _ hup hconn hkind hphase hwaiting => exec_bdpEventSend_ok hup hconn hkind hphase hwaiting⟩

/-- Settles O36: a selection and the factory reset by the rules of their entries, the selection's effect by its event. -/
theorem profileCommandsRun : Obligations.ProfileCommandsRun := by
  exact ⟨fun _ _ _ _ hreach hp hfree => accepts_of_reaches hreach rfl (profileSelectBody_now hp hfree) (.inl rfl),
    fun _ _ _ _ hreach hp hwaits => accepts_of_reaches hreach rfl (profileSelectBody_pending hp hwaits) (.inr rfl),
    fun _ _ hup hnoted hfree => exec_profileApply_ok hup hnoted hfree,
    fun _ _ _ _ hreach hv hfree => accepts_of_reaches hreach rfl (factoryResetBody_ok hv hfree) (.inl rfl)⟩

end Sys2Proof.Machine
end

section
/-! Tenants and the trust block: what each entry's rule of 18_tenants_and_trust.md gives, an equation for each event, and the obligations about them. -/

namespace Sys2Proof.Machine

section Tenants
variable {s : State} {t : Nat}

/-! ### Forming and activation (R371, R372) -/

/-- TENANT_FORM of a FREE tenant within its envelope, with nothing contested and the sums kept. -/
theorem tenantFormBody_ok (hfree : s.tenState t = .free) (hlocked : s.trust.debug = false) (henabled : (s.envOf t).enabled = true)
    (hclusters : bitsWithin 16 (s.clustersOf t) (s.envOf t).clusters = true) (hdies : bitsWithin 32 (s.diesOf t) (s.envOf t).dies = true)
    (halone : s.contested t = false) (hsums : ((s.clamped t).modTenState t fun _ => .forming).sumsHold = true) :
    tenantFormBody t s = (Bdp.ok, (((((s.clamped t).modTenState t fun _ => .forming).newKey t).modPointer t fun _ => 1).assignWays).syncMirror t) := by
  unfold tenantFormBody
  dsimp only
  rw [if_neg (not_not.2 hfree), if_neg (by simp [hlocked]), if_neg (by simp [henabled, hclusters, hdies]), if_neg (by simp [halone]), if_neg (by simp [hsums])]

/-- TENANT_ACTIVATE of a FORMING tenant with clusters, dies and DRAM. -/
theorem tenantActivateBody_ok (hforming : s.tenState t = .forming) (hclusters : s.clustersOf t ≠ 0) (hdies : s.diesOf t ≠ 0) (hscratch : s.subSum t + 256 ≤ s.dramMib t) :
    tenantActivateBody t s = (Bdp.ok, s.modTenState t fun _ => .active) := by
  unfold tenantActivateBody
  rw [if_neg (not_not.2 hforming), if_neg (by simp [hclusters, hdies, hscratch])]

/-! ### Removal (R374..R377) -/

/-- TENANT_REMOVE of a tenant that is FORMING or ACTIVE. -/
theorem tenantRemoveBody_ok {conn nonce : Nat} (hopen : s.tenState t = .forming ∨ s.tenState t = .active) :
    tenantRemoveBody conn t nonce s = (Bdp.pending, s.beginRemoval t (s.removalCause conn) nonce) :=
  if_pos (by rcases hopen with hopen | hopen <;> simp [State.quotaOpen, hopen])

/-- REMOVAL_OPS_CANCELLED with no operation of the tenant left. -/
theorem exec_removalOpsCancelled_ok (hup : Claims.Up s (.removalOpsCancelled t)) (hstep : s.removalStep t = 2) (hnone : s.opsInFlight t = 0) :
    exec (.removalOpsCancelled t) s = .next (s.setRemoval t fun r => { r with step := 3 }) :=
  listed_of_up hup (by simp [hstep, hnone])

/-- REMOVAL_XFERS_DONE ends step 3; steps 4 and 5 follow. -/
theorem exec_removalXfersDone_ok {n : Nat} (hup : Claims.Up s (.removalXfersDone t n)) (hstep : s.removalStep t = 3) :
    exec (.removalXfersDone t n) s = .next ((((s.dropXfers t).setRemoval t fun r => { r with xfersAborted := n }).purgeTenant t).zeroiseTenant t) :=
  listed_of_up hup (by simp [hstep])

/-- SCRUB_PART_DONE of a part that is still to end. -/
theorem exec_scrubPartDone_ok {part : ScrubPart} (hpowered : s.powered = true) (hpart : part ≠ .vault) (hleft : s.scrubLeft t part = true) :
    exec (.scrubPartDone t part) s = .next ((s.scrubPart t part).setRemoval t fun r => { r with parts := r.parts ++ [part] }) :=
  listed_true (by simp [hpowered, hpart, hleft])

/-- RECEIPT_SIGNED once all five parts of the scrub have ended. -/
theorem exec_receiptSigned_ok {r : Removal} (hremoval : s.removal t = some r) (hpowered : s.powered = true) (hstep : r.step = 6) (hparts : ∀ p : ScrubPart, p ∈ r.parts) :
    exec (.receiptSigned t) s = .next (s.released t r) := by
  change execReceiptSigned t s = _
  simp only [execReceiptSigned, hremoval]
  exact listed_true (by simp [hpowered, hstep, hparts])

/-- UFS_PURGE_DONE while a purge runs. -/
theorem exec_ufsPurgeDone_ok (hpowered : s.powered = true) (hpurging : s.tenants.purging = true) :
    exec .ufsPurgeDone s =
      .next (({ s with tenants := { s.tenants with purging := s.tenants.purgeAgain, purgeAgain := false } } : State).raise Ev.ufsPurged 0 Locus.none 0 0) :=
  listed_true (by simp [hpowered, hpurging])

end Tenants

section Trust
variable {s : State}

/-! ### Envelopes, keys and debug access (R370, R379, R385, R390) -/

/-- ENVELOPE in range that covers what its tenant holds. -/
theorem envelopeBody_ok {t v : Nat} (hresv : envelopeResv v = false) (hrange : (EnvRec.ofNat v).inRange = true) (hcovers : s.envCovers t (EnvRec.ofNat v) = true) :
    envelopeBody t v s = (Bdp.ok, (s.setStored 0x4300 t 0 v).syncMirror t) := by
  unfold envelopeBody
  rw [if_neg (by simp [hresv]), if_neg (by simp [hrange]), if_neg (by simp [hcovers])]

/-- PRINCIPAL_KEY_WRITE that neither withdraws the last MGMT key nor writes the key of a tenant that is not open. -/
theorem keyBody_ok {code key : Nat} (hlast : code / 256 = 0x4001 → key ≠ 0 ∨ s.mgmtKeys ≠ 1)
    (hopen : keyPrincipal (code / 256) = .ten → s.quotaOpen (code / 256 % 16) = true) :
    keyBody code key s =
      (Bdp.ok, (s.connsWhere fun c => c.usesKey (code / 256) (code % 256)).foldl State.closeConn (s.setStored (code / 256) (code % 256) 0 key)) := by
  unfold keyBody
  dsimp only
  rw [if_neg fun h => by
      obtain ⟨hindex, hzero, -, hone⟩ := h
      exact (hlast hindex).elim (· hzero) (· hone),
    if_neg fun h => by
      obtain ⟨hten, hclosed⟩ := h
      rw [hopen hten] at hclosed
      cases hclosed]

/-- DEBUG_UNLOCK with every tenant FREE and a right signature. -/
theorem debugUnlockBody_ok (hfree : ∀ i, i < 8 → s.tenState (i + 1) = .free) :
    debugUnlockBody true s = (Bdp.ok, ({ s.newChallenge with trust := { s.newChallenge.trust with debug := true } } : State).count 0xA020 3 1) := by
  have hnone : ¬ ((List.range 8).any fun i => decide (s.tenState (i + 1) ≠ .free)) = true := by
    rw [Bool.not_eq_true, List.any_eq_false]
    intro i hi
    simp [hfree i (List.mem_range.1 hi)]
  exact (if_neg hnone).trans (if_neg (by simp))

/-- TRNG_FAIL while the device is on. -/
theorem exec_trngFail (hpowered : s.powered = true) : exec .trngFail s = .next (s.raise Ev.trngFail 0 Locus.none 0 0) := listed_true hpowered

end Trust

/-- Settles O37: forming, activation and the beginning of a removal by the rules of their entries, each later step of a removal by its event. -/
theorem tenantCommandsRun : Obligations.TenantCommandsRun := by
  exact ⟨fun _ _ _ _ hreach hfree hlocked henabled hclusters hdies halone hsums =>
      accepts_of_reaches hreach rfl (tenantFormBody_ok hfree hlocked henabled hclusters hdies halone hsums) (.inl rfl),
    fun _ _ _ _ hreach hforming hclusters hdies hscratch => accepts_of_reaches hreach rfl (tenantActivateBody_ok hforming hclusters hdies hscratch) (.inl rfl),
    fun _ _ _ _ _ hreach hopen => accepts_of_reaches hreach rfl (tenantRemoveBody_ok hopen) (.inr rfl),
    fun _ _ hup hstep hnone => exec_removalOpsCancelled_ok hup hstep hnone,
    fun _ _ _ hup hstep => exec_removalXfersDone_ok hup hstep,
    fun _ _ _ hpowered hpart hleft => exec_scrubPartDone_ok hpowered hpart hleft,
    fun _ _ _ hremoval hpowered hstep hparts => exec_receiptSigned_ok hremoval hpowered hstep hparts,
    fun _ hpowered hpurging => exec_ufsPurgeDone_ok hpowered hpurging⟩

/-- Settles O38: the three writes by the rules of their entries, the failure of the TRNG by its event. -/
theorem trustCommandsRun : Obligations.TrustCommandsRun := by
  exact ⟨fun _ _ _ _ _ hreach hresv hrange hcovers => accepts_of_reaches hreach rfl (envelopeBody_ok hresv hrange hcovers) (.inl rfl),
    fun _ _ _ _ _ hreach hlast hopen => accepts_of_reaches hreach rfl (keyBody_ok hlast hopen) (.inl rfl),
    fun _ _ _ hreach hfree => accepts_of_reaches hreach rfl (debugUnlockBody_ok hfree) (.inl rfl),
    fun _ hpowered => exec_trngFail hpowered⟩

end Sys2Proof.Machine
end

section
/-! Power states: what POWER_REQUEST's rule of 19_power.md gives, an equation for each event of an entry, a wake and a return, and the obligation about them. -/

namespace Sys2Proof.Machine

section Power
variable {s : State}

/-! ### Requests (R397) -/

/-- POWER_REQUEST 0 with no entry or return in progress. -/
theorem restartTimersBody_ok (hstill : s.inTransition = false) : restartTimersBody s = (Bdp.ok, s.modPower fun p => { p with sleepCount := 0, deepCount := 0 }) :=
  if_neg (by simp [hstill])

/-- POWER_REQUEST 1 to 3 with no entry or return in progress and no refuser. -/
theorem powerRequestBody_ok {target : PState} (hstill : s.inTransition = false) (hnone : s.refusers target false = []) :
    powerRequestBody target s = (Bdp.pending, s.beginEntry target false) :=
  (if_neg (by simp [hstill])).trans (if_pos hnone)

/-! ### IDLE and the automatic entries (R395, R396) -/

/-- IDLE_ENTRY of a data path that has been still for long enough. -/
theorem exec_idleEntry_ok (hup : Claims.Up s .idleEntry) (hrun : s.power.state = .run) (hstill : s.dataWork = false) (hlong : s.power.idleSince + s.pv 0x2004 1 20000 ≤ s.now) :
    exec .idleEntry s = .next ((s.modPower fun p => { p with state := .idle }).count 0xA032 1 1).notePower :=
  listed_of_up hup (by simp [hrun, hstill, hlong])

/-- IDLE_EXIT once work appears. -/
theorem exec_idleExit_ok (hidle : s.power.state = .idle) (hwork : s.dataWork = true) : exec .idleExit s = .next (s.beginReturn .idle) :=
  listed_true (by simp [hidle, hwork])

/-- SLEEP_AFTER_EXPIRY with no refuser. -/
theorem exec_sleepAfterExpiry_ok (hup : Claims.Up s .sleepAfterExpiry) (hidle : s.power.state = .idle) (hset : s.pv 0x2004 2 0 ≠ 0)
    (hreached : s.pv 0x2004 2 0 ≤ s.power.sleepCount) (hnone : s.refusers .sleep true = []) :
    exec .sleepAfterExpiry s = .next ((s.beginEntry .sleep true).modPower fun p => { p with sleepCount := 0 }) := by
  change execSleepAfterExpiry s = _
  rw [execSleepAfterExpiry, whenUp_of_up hup]
  dsimp only
  rw [if_pos hnone]
  exact listed_true (by simp [State.sleepAfter, hidle, hset, hreached])

/-- DEEP_AFTER_EXPIRY with no refuser: the data path is restored, and the entry begins. -/
theorem exec_deepAfterExpiry_ok (hup : Claims.Up s .deepAfterExpiry) (hsleep : s.power.state = .sleep) (hset : s.pv 0x2004 3 0 ≠ 0)
    (hreached : s.pv 0x2004 3 0 ≤ s.power.deepCount) (hnone : s.refusers .deepSleep true = []) :
    exec .deepAfterExpiry s = .next ((s.dataPathOn.beginEntry .deepSleep true).modPower fun p => { p with deepCount := 0 }) := by
  change execDeepAfterExpiry s = _
  rw [execDeepAfterExpiry, whenUp_of_up hup]
  dsimp only
  rw [if_pos hnone]
  exact listed_true (by simp [State.deepAfter, hsleep, hset, hreached])

/-! ### The steps of an entry (R398, R400) -/

/-- ENTRY_PROGRESS of a step that has ended. -/
theorem exec_entryProgress_ok {e : Entry} (hup : Claims.Up s .entryProgress) (hentry : s.power.entry = some e) (hentering : s.power.state = .entering)
    (hdone : s.stepDone e = true) : exec .entryProgress s = .next (s.advanceEntry e) := by
  change execEntryProgress s = _
  rw [execEntryProgress, whenUp_of_up hup]
  simp only [hentry]
  exact listed_true (by simp [hentering, hdone])

/-- ENTRY_ABORT by a refuser that may abort the entry. -/
theorem exec_entryAbort_ok {code port tenant : Nat} {e : Entry} (hentry : s.power.entry = some e) (hentering : s.power.state = .entering) (hmay : e.mayAbort code = true) :
    exec (.entryAbort code port tenant) s = .next (s.abortEntry code (if code = 3 then tenant else 0) (if code = 1 then port else 0xFF)) := by
  change execEntryAbort code port tenant s = _
  simp only [execEntryAbort, hentry]
  exact listed_true (by simp [hentering, hmay])

/-! ### Wakes and returns (R401, R402) -/

/-- Every wake event begins the return from SLEEP. -/
theorem wake_of_sleep {code : Nat} (hlo : 1 ≤ code) (hhi : code ≤ 6) (hsleep : s.power.state = .sleep) : s.wake code = (s.wakeSource code).beginReturn .sleep := by
  simp only [State.wake, hsleep]
  exact if_pos (by simp [wakes, hlo, hhi])

/-- WAKE_EVENT in SLEEP. -/
theorem exec_wakeEvent_sleep {code : Nat} (hlo : 1 ≤ code) (hhi : code ≤ 6) (hsleep : s.power.state = .sleep) :
    exec (.wakeEvent code) s = .next ((s.wakeSource code).beginReturn .sleep) := by
  rw [← wake_of_sleep hlo hhi hsleep]
  exact listed_true (by simp [hlo, hhi])

/-- RETURN_COMPLETE of a return from IDLE. -/
theorem exec_returnComplete_idle (hreturning : s.power.state = .returning) (hsource : s.power.returnFrom = .idle) :
    exec .returnComplete s = .next (s.modPower fun p => { p with state := .run, idleSince := s.now }).notePower := by
  change execReturnComplete s = _
  simp only [execReturnComplete, hreturning, hsource, if_true]

/-- RETURN_COMPLETE of a return from SLEEP. -/
theorem exec_returnComplete_sleep (hreturning : s.power.state = .returning) (hsource : s.power.returnFrom = .sleep) :
    exec .returnComplete s = .next s.dataPathOn.enterRunState := by
  change execReturnComplete s = _
  simp only [execReturnComplete, hreturning, hsource, if_true]
  rfl

/-- RETURN_COMPLETE of a return from DEEP_SLEEP: the memory on the die is zeros. -/
theorem exec_returnComplete_deepSleep (hreturning : s.power.state = .returning) (hsource : s.power.returnFrom = .deepSleep) :
    exec .returnComplete s = .next s.dieMemoryZero.dataPathOn.enterRunState := by
  change execReturnComplete s = _
  simp only [execReturnComplete, hreturning, hsource, if_true]

end Power

/-- Settles O39: the requests by the rule of POWER_REQUEST, each other command by its event. -/
theorem powerRequestsRun : Obligations.PowerRequestsRun := by
  exact ⟨fun _ _ _ hreach hstill => accepts_of_reaches hreach rfl (restartTimersBody_ok hstill) (.inl rfl),
    fun _ _ _ hreach hstill hnone => accepts_of_reaches hreach rfl (powerRequestBody_ok hstill hnone) (.inr rfl),
    fun _ _ _ hreach hstill hnone => accepts_of_reaches hreach rfl (powerRequestBody_ok hstill hnone) (.inr rfl),
    fun _ _ _ hreach hstill hnone => accepts_of_reaches hreach rfl (powerRequestBody_ok hstill hnone) (.inr rfl),
    fun _ hup hrun hstill hlong => exec_idleEntry_ok hup hrun hstill hlong,
    fun _ hidle hwork => exec_idleExit_ok hidle hwork,
    fun _ hup hidle hset hreached hnone => exec_sleepAfterExpiry_ok hup hidle hset hreached hnone,
    fun _ hup hsleep hset hreached hnone => exec_deepAfterExpiry_ok hup hsleep hset hreached hnone,
    fun _ _ hup hentry hentering hdone => exec_entryProgress_ok hup hentry hentering hdone,
    fun _ _ _ _ _ hentry hentering hmay => exec_entryAbort_ok hentry hentering hmay,
    fun _ _ hlo hhi hsleep => exec_wakeEvent_sleep hlo hhi hsleep,
    fun _ hreturning hsource => exec_returnComplete_idle hreturning hsource,
    fun _ hreturning hsource => exec_returnComplete_sleep hreturning hsource,
    fun _ hreturning hsource => exec_returnComplete_deepSleep hreturning hsource⟩

end Sys2Proof.Machine
end

section
/-! Faults, Mirror and replay: what each entry's rule of 20_faults_counters_mirror.md gives, an equation for each event, and the obligations about them. -/

namespace Sys2Proof.Machine

section Faults
variable {s : State}

/-! ### Faults and counters (R416..R418, R423) -/

/-- FAULT_ACK of a SEQ already assigned. -/
theorem faultAckBody_ok {q : Nat} (hassigned : serialAfter 32 q ((s.faults.nextSeq + 2 ^ 32 - 1) % 2 ^ 32) = false) :
    faultAckBody q s = (Bdp.ok, { s with faults := { s.faults with ackSeq := q, unacked := s.faults.unacked.filter fun k => serialAfter 32 k q } }) := by
  rw [faultAckBody, hassigned, if_neg Bool.false_ne_true]

/-- FATAL_RESET after a device-fatal event. -/
theorem exec_fatalReset_ok (hpowered : s.powered = true) (hdue : s.faults.fatalDue = true) : exec .fatalReset s = .next ((s.count 0xA0F3 1 1).toReset 2) :=
  listed_true (by simp [hpowered, hdue])

/-- COUNTERS_CLEAR of a group from 0 to 8. -/
theorem countersClearBody_ok {g : Nat} (hg : g ≤ 8) : countersClearBody g s = (Bdp.ok, { s with faults := s.faults.clearGroup g }) := if_neg (Nat.not_lt.2 hg)

end Faults

section Mirror
variable {s : State} {t : Nat}

/-! ### Recording and what is exported (R424..R427, R433) -/

/-- MIRROR_CONSENT of 0 or 1. -/
theorem mirrorConsentBody_ok {v : Nat} (hv : v ≤ 1) : mirrorConsentBody t v s = (Bdp.ok, (s.setStored (0xB100 + t) 1 0 v).syncMirror t) := if_neg (Nat.not_lt.2 hv)

/-- MIRROR_FLUSH of a tenant that records. -/
theorem mirrorFlushBody_ok (hrecording : (s.mten t).recording = true) : mirrorFlushBody t s = (Bdp.ok, s.exportOpen t) := if_pos hrecording

/-- SEGMENT_EXPORT that is due. -/
theorem exec_segmentExport_ok (hup : Claims.Up s (.segmentExport t)) (hdue : s.exportDue t = true) :
    exec (.segmentExport t) s = .next (if (s.mten t).full ≠ [] then s.exportFull t else s.exportOpen t) :=
  listed_of_up hup (by simp [hup.1, hdue])

/-- MIRROR_TIME_RECORD of a tenant that records. -/
theorem exec_mirrorTimeRecord_ok (hup : Claims.Up s (.mirrorTimeRecord t)) (hrecording : (s.mten t).recording = true) :
    exec (.mirrorTimeRecord t) s = .next (s.noteTime t) :=
  listed_of_up hup (by simp [hup.1, hrecording])

/-- MIRROR_POWER_RECORD of a tenant that records. -/
theorem exec_mirrorPowerRecord_ok (hup : Claims.Up s (.mirrorPowerRecord t)) (hrecording : (s.mten t).recording = true) :
    exec (.mirrorPowerRecord t) s = .next (s.capture t s.powerBody) :=
  listed_of_up hup (by simp [hup.1, hrecording])

/-- MIRROR_GET on an established Mirror connection. -/
theorem exec_mirrorGet_ok {conn f off len : Nat} {resv : Bool} {k : Conn} (hup : Claims.Up s (.mirrorGet conn t f off len resv)) (hconn : s.conn conn = some k)
    (hkind : k.kind = .mirror) (hphase : k.phase = .up) :
    exec (.mirrorGet conn t f off len resv) s =
      .next (s.send conn (.mirrorData (s.mirrorAnswer k t f off len resv).1 (s.mirrorAnswer k t f off len resv).2)) := by
  change execMirrorGet conn t f off len resv s = _
  rw [execMirrorGet, whenUp_of_up hup]
  simp only [hconn]
  exact listed_true (by simp [hup.1, hkind, hphase])

/-! ### Replay (R428..R430) -/

/-- REPLAY_START of existing files of an ACTIVE tenant with no open session and no replay, under its key and with matching slots. -/
theorem replayStartBody_ok {first last mode : Nat} {fs : List MFile} (hmode : mode ≤ 1) (hfiles : (s.mten t).range first last = some fs) (hactive : s.tenState t = .active)
    (hclosed : s.sessionsWhere (fun x => x.isOpen && decide (x.tenant = t)) = []) (hnone : (s.mten t).replay = none) (hkeys : ∀ f ∈ fs, f.key = s.mirrorKeyOf t)
    (hslots : ((fs.flatMap (·.records)).findSome? MRec.slotsInfo).all (s.slotsMatch t) = true) :
    replayStartBody t first last mode false s =
      (Bdp.pending, (s.modMten t fun m => { m with replay := some (replayOf first last mode s.now (fs.flatMap (·.records))) }).syncMirror t) := by
  have hother : ¬ (fs.any fun f => decide (f.key ≠ s.mirrorKeyOf t)) = true := by
    rw [Bool.not_eq_true, List.any_eq_false]
    intro f hf
    simp [hkeys f hf]
  unfold replayStartBody
  simp only [hfiles]
  rw [if_neg Bool.false_ne_true, if_neg (Nat.not_lt.2 hmode), if_neg (by simp [hactive, hclosed, hnone]), if_neg hother, if_neg (by simp [hslots])]

/-- REPLAY_STOP of a replay (log entry 43). -/
theorem replayStopBody_ok {r : Replay} (hreplay : (s.mten t).replay = some r) :
    replayStopBody t s = (Bdp.ok, s.modMten t fun m => { m with replay := m.replay.map fun r => { r with stopping := true } }) :=
  if_pos (by simp [hreplay])

/-- REPLAY_INJECT where a COLD record's turn has come: it is enforced (R429). -/
theorem exec_replayInject_cold {h : Nat} {r : Replay} (hreplay : (s.mten t).replay = some r) (hpowered : s.powered = true) (hgoing : r.stopping = false)
    (hcold : s.nextCold r = some h) : exec (.replayInject t) s = .next (s.enforceCold t h r) := by
  change execReplayInject t s = _
  simp only [execReplayInject, hreplay]
  rw [if_neg (by simp [hpowered, hgoing])]
  simp only [hcold]

/-- The replay once its oldest record has been taken; a late REQUEST sets the greatest lag (R429, R430). -/
def Replay.taking (r : Replay) (now : Nat) (m : MRec) (l : List MRec) : Replay :=
  { r with todo := l, lag := match m.body with | .inbound _ 0x14 _ => max r.lag (now - (r.startAt + (m.mono - r.baseMono))) | _ => r.lag }

/-- REPLAY_INJECT of a record that is due (R429). -/
theorem exec_replayInject_due {r : Replay} {m : MRec} {l : List MRec} (hreplay : (s.mten t).replay = some r) (hpowered : s.powered = true) (hgoing : r.stopping = false)
    (hwarm : s.nextCold r = none) (htodo : r.todo = m :: l) (hdue : s.injectsNow r m = true) :
    exec (.replayInject t) s = .next ((s.setReplay t fun _ => r.taking s.now m l).injectRecord t (r.taking s.now m l) m) := by
  change execReplayInject t s = _
  simp only [execReplayInject, hreplay]
  rw [if_neg (by simp [hpowered, hgoing])]
  simp only [hwarm, htodo]
  exact listed_true hdue

/-- REPLAY_END of a replay that is over. -/
theorem exec_replayEnd_ok {r : Replay} (hreplay : (s.mten t).replay = some r) (hpowered : s.powered = true) (hover : s.replayOver t r = true) :
    exec (.replayEnd t) s = .next (s.endReplay t r) := by
  change execReplayEnd t s = _
  simp only [execReplayEnd, hreplay]
  exact listed_true (by simp [hpowered, hover])

end Mirror

/-- Settles O41: the three writes by the rules of their entries, the self-reset by its event. -/
theorem faultCommandsRun : Obligations.FaultCommandsRun := by
  exact ⟨fun _ _ _ _ hreach hassigned => accepts_of_reaches hreach rfl (faultAckBody_ok hassigned) (.inl rfl),
    fun _ _ _ _ hreach => accepts_of_reaches hreach rfl rfl (.inl rfl),
    fun _ hpowered hdue => exec_fatalReset_ok hpowered hdue,
    fun _ _ _ _ hreach hg => accepts_of_reaches hreach rfl (countersClearBody_ok hg) (.inl rfl)⟩

/-- Settles O42: the three writes by the rules of their entries, each other command by its event. -/
theorem mirrorCommandsRun : Obligations.MirrorCommandsRun := by
  exact ⟨fun _ _ _ _ _ hreach hv => accepts_of_reaches hreach rfl (mirrorConsentBody_ok hv) (.inl rfl),
    fun _ _ _ _ _ hreach => accepts_of_reaches hreach rfl rfl (.inl rfl),
    fun _ _ _ _ hreach hrecording => accepts_of_reaches hreach rfl (mirrorFlushBody_ok hrecording) (.inl rfl),
    fun _ _ hup hdue => exec_segmentExport_ok hup hdue,
    fun _ _ hup hrecording => exec_mirrorTimeRecord_ok hup hrecording,
    fun _ _ hup hrecording => exec_mirrorPowerRecord_ok hup hrecording,
    fun _ _ _ _ _ _ _ _ hup hconn hkind hphase => exec_mirrorGet_ok hup hconn hkind hphase⟩

/-- Settles O43: the start and the stop (answered OK by log entry 43) by the rules of their entries, an injection and the end by their events. -/
theorem replayCommandsRun : Obligations.ReplayCommandsRun := by
  exact ⟨fun _ _ _ _ _ _ _ _ hreach hmode hfiles hactive hclosed hnone hkeys hslots =>
      accepts_of_reaches hreach rfl (replayStartBody_ok hmode hfiles hactive hclosed hnone hkeys hslots) (.inr rfl),
    fun _ _ _ _ hreplay hpowered hgoing hcold => exec_replayInject_cold hreplay hpowered hgoing hcold,
    fun _ _ _ _ _ hreplay hpowered hgoing hwarm htodo hdue => exec_replayInject_due hreplay hpowered hgoing hwarm htodo hdue,
    fun _ _ _ _ _ hreach hreplay => accepts_of_reaches hreach rfl (replayStopBody_ok hreplay) (.inl rfl),
    fun _ _ _ hreplay hpowered hover => exec_replayEnd_ok hreplay hpowered hover⟩

end Sys2Proof.Machine
end

section
/-! Start-up, pins, the test port and the calendar clock: what each rule of 21_pins_startup_clock.md gives, an equation for each command, and the obligations about them. -/

namespace Sys2Proof.Machine

/-! ### What the end of a start-up leaves as it set it: the clock, the control complex and the power state -/

/-- The clock, the control complex and the power state. -/
def State.controls (s : State) : Clk × Ctl × Power := (s.clk, s.ctl, s.power)

section Controls
variable {s : State}

theorem controls_drawn (s : State) : s.drawn.controls = s.controls := rfl
theorem controls_modMten (s : State) (t : Nat) (f : MTen → MTen) : (s.modMten t f).controls = s.controls := rfl
theorem controls_modJob (s : State) (t : Nat) (f : Job → Job) : (s.modJob t f).controls = s.controls := rfl
theorem controls_resetActs (s : State) (t slot : Nat) : (s.resetActs t slot).controls = s.controls := rfl
theorem controls_capture (s : State) (t : Nat) (b : MBody) : (s.capture t b).controls = s.controls := by simp [State.controls]
theorem controls_tcount (s : State) (t i j n : Nat) : (s.tcount t i j n).controls = s.controls := by simp [State.controls]
theorem controls_raise (s : State) (k : EvKind) (a b c d : Nat) : (s.raise k a b c d).controls = s.controls := by simp [State.controls]
theorem controls_deliver (s : State) : s.deliver.controls = s.controls := by simp [State.controls]

/-- A segment's file is written outside them. -/
theorem controls_putFile (s : State) (t key : Nat) (records : List MRec) (n : Nat) : (s.putFile t key records n).controls = s.controls :=
  (controls_tcount ..).trans ((controls_modMten ..).trans (controls_drawn s))

theorem controls_exportFull (s : State) (t : Nat) : (s.exportFull t).controls = s.controls := by
  unfold State.exportFull
  dsimp only
  split_ifs
  · rfl
  · rw [controls_modMten, controls_putFile]
  · exact controls_raise ..

theorem controls_exportOpen (s : State) (t : Nat) : (s.exportOpen t).controls = s.controls := by
  unfold State.exportOpen State.exportRefused
  dsimp only
  split_ifs
  · exact controls_exportFull ..
  · rw [controls_modMten, controls_putFile, controls_exportFull]
  · rw [controls_modMten, controls_raise, controls_exportFull]
  · rw [controls_raise, controls_exportFull]

theorem controls_syncMirror (s : State) (t : Nat) : (s.syncMirror t).controls = s.controls := by
  unfold State.syncMirror State.noteTime State.noteSlots
  split_ifs
  · rfl
  · rw [controls_capture, controls_capture, controls_modMten]
  · rw [controls_exportOpen, controls_modMten]
  · rfl

theorem controls_armPersist (t : Nat) (l : List Nat) (s : State) : (State.armPersist t l s).2.controls = s.controls := by
  induction l generalizing s with
  | nil => rfl
  | cons th l ih =>
    unfold State.armPersist
    split_ifs
    · rfl
    · rcases s.freeObj with _ | k
      · rfl
      · exact (ih _).trans rfl

theorem controls_armJob (s : State) (t : Nat) : (s.armJob t).controls = s.controls := by
  unfold State.armJob
  dsimp only
  split_ifs
  · rw [controls_modJob, controls_armPersist]
  · rfl

theorem controls_runJob (s : State) (t : Nat) : (s.runJob t).controls = s.controls := by
  unfold State.runJob
  dsimp only
  rw [controls_modJob]
  split
  · exact controls_resetActs ..
  · rfl

theorem controls_resumeJob (s : State) (t : Nat) : (s.resumeJob t).controls = s.controls := by
  unfold State.resumeJob
  split_ifs
  · rw [controls_runJob, controls_armJob]
  · rfl

end Controls

/-- A start-up's last step: the clock, the control complex and the power state as it sets them (R308, R309, R444). -/
def State.inService (s : State) : State :=
  { s with
    clk := { s.clk with starting := false, startupTime := s.now, nextCause := 1 }
    power := { s.power with state := .run, idleSince := s.now }
    svc := { s.svc with incarnBase := Config.trng 16 s.trust.fresh % 65536 }
    ctl := { s.ctl with serviceReady := true, trialLeft := if s.ctl.fwState = .trial then 60000000000 else 0, trialOver := false,
                        lease := { state := .held, holder := false, epoch := s.ctl.lease.epoch, remaining := s.leaseTime } } }

/-- What follows in the same step: jobs resume, recording starts where it may, and events that wait are delivered (R277, R424). -/
def State.resumeService (s : State) : State :=
  ((List.range 8).foldl (fun s i => s.syncMirror (i + 1)) ((List.range 8).foldl (fun s i => if s.tenState (i + 1) = .active then s.resumeJob (i + 1) else s) s.drawn)).deliver

theorem controls_resumeService (s : State) : s.resumeService.controls = s.controls := by
  have hresume : ∀ (u : State) (i : Nat), (if u.tenState (i + 1) = .active then u.resumeJob (i + 1) else u).controls = u.controls := fun u i => by
    split_ifs
    · exact controls_resumeJob ..
    · rfl
  rw [State.resumeService, controls_deliver, foldl_kept State.controls fun u i => controls_syncMirror u (i + 1), foldl_kept State.controls hresume, controls_drawn]

/-! ### Reset, supplies and start-up (R441, R444, R446, R452) -/

section Startup
variable {s : State}

/-- BROWNOUT outside OFF while the always-on supply holds. -/
theorem exec_brownout_ok (hon : s.power.state ≠ .off) (hvaon : s.clk.vaon = true) : exec .brownout s = .next (s.toOff 0) :=
  listed_true (by simp [hon, hvaon])

/-- AON_LOSS takes what the always-on domain held, WAKE_SOURCE among it (log entry 60). -/
theorem exec_aonLoss_ok (hvaon : s.clk.vaon = true) :
    exec .aonLoss s =
      .next { (s.toReset 0) with power := { (s.toReset 0).power with lastOff := 0, wakeSource := 0 }, pins := { (s.toReset 0).pins with latch := none, commStatus := 0, thermN := false },
                                 clk := { (s.toReset 0).clk with vaon := false } } :=
  listed_true hvaon

/-- COLD_START of a device that is held, cool enough, from a slot whose image boots. -/
theorem exec_coldStart_boots {b : Boot} (hheld : s.power.state = .held) (hstill : s.clk.starting = false) (hboots : s.clk.noBoot = false)
    (hcool : s.power.lastOff ≠ 2 ∨ b.aonTemp ≤ 105000) (himage : s.slotBoots b s.ctl.fwActive = true ∨ s.slotBoots b s.fwInactive = true) :
    exec (.coldStart b) s = .next (s.boot b) := by
  have hwarm : ¬ (s.power.lastOff = 2 ∧ 105000 < b.aonTemp) := by
    rintro ⟨hlast, htemp⟩
    exact hcool.elim (· hlast) htemp.not_ge
  change execColdStart b s = _
  rw [execColdStart, if_neg (by simp [hheld, hstill, hboots]), if_neg hwarm, if_pos (by simpa using himage)]

/-- SERVICE_READY once the self-test has ended. -/
theorem exec_serviceReady_ok (hstarting : s.clk.starting = true) (htested : s.exp.selfTesting = false) : exec .serviceReady s = .next s.inService.resumeService :=
  listed_true (by simp [hstarting, htested])

/-- The state that SERVICE_READY leaves: in RUN, with the lease HELD by nobody in its stored epoch. -/
theorem serviceReady_controls (s : State) :
    s.inService.resumeService.clk = s.inService.clk ∧ s.inService.resumeService.ctl = s.inService.ctl ∧ s.inService.resumeService.power = s.inService.power := by
  have hcontrols := controls_resumeService s.inService
  simpa only [State.controls, Prod.mk.injEq] using hcontrols

/-! ### Pins (R402, R439) -/

/-- WAKE_PIN in OFF. -/
theorem exec_wakePin_off (hoff : s.power.state = .off) : exec .wakePin s = .next ((s.wakeSource 1).modPower fun p => { p with state := .held }) := by
  change execWakePin s = _
  simp only [execWakePin, State.wake, hoff]
  rw [if_pos (by simp [wakes])]

/-- WAKE_PIN in RUN or IDLE. -/
theorem exec_wakePin_on (hon : s.power.state = .run ∨ s.power.state = .idle) : exec .wakePin s = .next s := by
  change execWakePin s = _
  rcases hon with hon | hon <;> simp only [execWakePin, State.wake, hon]

/-- PPS_PULSE within 50 ns after a whole second (log entry 46). -/
theorem exec_ppsPulse_ok (hpowered : s.powered = true) (hset : s.setting 0xC001 4 = 1) (hknown : s.clk.timeUnknown = false) (hwhole : s.clk.cal % 1000000000 ≤ 50) :
    exec .ppsPulse s = .next { s with pins := { s.pins with gpio2 := s.pins.gpio2 + 1 } } :=
  listed_true (by simp [hpowered, hset, hknown, hwhole])

/-! ### The test port (R386, R391, R447, R448) -/

/-- EXTEST that is offered. -/
theorem exec_extest_offered {cells : Nat} (hoffered : s.scanOffered = true) :
    exec (.extest cells) s = .next { s with pins := { s.pins with ir := 0, driven := true, cells := cells % 2 ^ 39 } } :=
  congrArg _ (if_pos hoffered)

/-- EXTEST that is not offered selects BYPASS (log entry 61). -/
theorem exec_extest_bypass {cells : Nat} (hnot : ¬ s.scanOffered = true) : exec (.extest cells) s = .next { s with pins := { s.pins with ir := 0xFF, driven := false } } :=
  congrArg _ (if_neg hnot)

/-- SAMPLE/PRELOAD that is offered. -/
theorem exec_samplePreload_offered {cells cap : Nat} (hoffered : s.scanOffered = true) :
    exec (.samplePreload cells cap) s = .next { s with pins := { s.pins with ir := 2, driven := false, cells := cells % 2 ^ 39, tdo := cap % 2 ^ 39 } } :=
  congrArg _ (if_pos hoffered)

/-- SAMPLE/PRELOAD that is not offered selects BYPASS (log entry 61). -/
theorem exec_samplePreload_bypass {cells cap : Nat} (hnot : ¬ s.scanOffered = true) :
    exec (.samplePreload cells cap) s = .next { s with pins := { s.pins with ir := 0xFF, driven := false } } :=
  congrArg _ (if_neg hnot)

/-- With debug access locked, the boundary-scan instructions are offered while RESET_N is low. -/
theorem scanOffered_locked (hlocked : s.trust.debug = false) : s.scanOffered = !s.pins.resetN := by simp [State.scanOffered, hlocked]

/-- COMMISSION shifts out the status of the execution before it, and a status of 0 latches the key (R448). -/
theorem exec_commission_eq (s : State) (key reserved : Nat) :
    exec (.commission key reserved) s =
      .next { s with pins := { s.pins with ir := 0x3C, driven := false, tdo := s.pins.commStatus, commStatus := s.commissionStatus key reserved,
                                           latch := if s.commissionStatus key reserved = 0 then some key else s.pins.latch } } := rfl

/-- A well-formed key may be latched while RESET_N is low and no MGMT key is enrolled. -/
theorem commissionStatus_latched {key : Nat} (hreset : s.pins.resetN = false) (hnone : s.mgmtKeys = 0) (hkey : key % 256 = 10) : s.commissionStatus key 0 = 0 := by
  simp [State.commissionStatus, hreset, hnone, hkey]

/-- COMMISSION is refused while RESET_N is high. -/
theorem commissionStatus_refused {key reserved : Nat} (hreset : s.pins.resetN = true) : s.commissionStatus key reserved = 2 := by
  simp [State.commissionStatus, hreset]

/-! ### The calendar clock (R452, R453) -/

/-- CAL_ALARM of 0 or a time after CAL_TIME, while the time is known. -/
theorem calAlarmBody_ok {v : Nat} (hknown : s.clk.timeUnknown = false) (hlater : v = 0 ∨ s.clk.cal < v) : calAlarmBody v s = (Bdp.ok, s.setStored 0xC001 3 0 v) := by
  have hrange : ¬ (s.clk.timeUnknown = true ∨ (v ≠ 0 ∧ v ≤ s.clk.cal)) := by
    rintro (hunknown | ⟨hset, hpast⟩)
    · simp [hknown] at hunknown
    · exact hlater.elim hset hpast.not_gt
  exact if_neg hrange

/-- CAL_SET of an undisciplined clock; Mirror records the time (log entry 46). -/
theorem calSetBody_ok {v : Nat} (hfree : s.clk.disciplined = false) :
    calSetBody v s = (Bdp.ok, ({ s with clk := { s.clk with cal := v, timeUnknown := false, slew := 0 } } : State).captureAll (.time v false)) :=
  if_neg (by simp [hfree])

/-- CAL_ALARM_DUE of an alarm whose time has come. -/
theorem exec_calAlarmDue_ok (hset : s.sv 0xC001 3 0 ≠ 0) (hdue : s.sv 0xC001 3 0 ≤ s.clk.cal) : exec .calAlarmDue s = .next ((s.setStored 0xC001 3 0 0).wake 6) :=
  listed_true (by simp [hset, hdue])

end Startup

/-- Settles O44: each command by the lemma about it; the loss of the always-on supply clears WAKE_SOURCE (log entry 60), and a pulse has a window of 50 ns (log entry 46). -/
theorem startupCommandsRun : Obligations.StartupCommandsRun := by
  refine ⟨fun _ hhigh => listed_true hhigh, fun _ hon hvaon => exec_brownout_ok hon hvaon, fun _ hvaon => exec_aonLoss_ok hvaon,
    fun _ hlost => listed_true (by simp [hlost]), fun _ _ hheld hstill hboots hcool himage => exec_coldStart_boots hheld hstill hboots hcool himage, fun s hstarting htested => ?_,
    fun _ hoff => exec_wakePin_off hoff, fun _ hon => exec_wakePin_on hon, fun _ hpowered hset hknown hwhole => exec_ppsPulse_ok hpowered hset hknown hwhole⟩
  obtain ⟨hclk, hctl, hpower⟩ := serviceReady_controls s
  exact ⟨_, exec_serviceReady_ok hstarting htested, by rw [hclk]; rfl, by rw [hctl]; rfl, by rw [hpower]; rfl, by rw [hctl]; rfl, by rw [hctl]; rfl, by rw [hctl]; rfl, by rw [hctl]; rfl⟩

/-- Settles O45: each command by the lemma about it; CAL_SET leaves a TIME record in Mirror (log entry 46). -/
theorem testPortAndClockRun : Obligations.TestPortAndClockRun := by
  refine ⟨fun _ _ hoffered => exec_extest_offered hoffered, fun _ => rfl, fun _ _ _ hoffered => exec_samplePreload_offered hoffered, fun _ _ => rfl, fun s key hreset hnone hkey => ?_,
    fun _ _ _ _ hreach hknown hlater => accepts_of_reaches hreach rfl (calAlarmBody_ok hknown hlater) (.inl rfl),
    fun _ _ _ _ hreach hfree => accepts_of_reaches hreach rfl (calSetBody_ok hfree) (.inl rfl), fun _ hset hdue => exec_calAlarmDue_ok hset hdue⟩
  rw [exec_commission_eq, commissionStatus_latched hreset hnone hkey, if_pos rfl]

/-- Settles O60: with debug access locked the level of RESET_N decides what is offered, and what is not offered selects BYPASS (log entry 61). -/
theorem testPortOffers : Obligations.TestPortOffers := by
  intro s cells captured key reserved bit hlocked
  have hscan := scanOffered_locked hlocked
  refine ⟨rfl, rfl, fun hhigh => ?_, fun hlow => ?_⟩
  · have hnot : ¬ s.scanOffered = true := by simp [hscan, hhigh]
    refine ⟨exec_extest_bypass hnot, exec_samplePreload_bypass hnot, _, exec_commission_eq s key reserved, ?_⟩
    rw [commissionStatus_refused hhigh]
    rfl
  · have hoffered : s.scanOffered = true := by simp [hscan, hlow]
    refine ⟨exec_extest_offered hoffered, exec_samplePreload_offered hoffered, fun hnone hkey hreserved => ⟨_, exec_commission_eq s key reserved, ?_⟩⟩
    rw [hreserved, commissionStatus_latched hlow hnone hkey]
    rfl

end Sys2Proof.Machine
end

section
/-! The lease's fence: every BDP write by DRV but LEASE_CLAIM meets the check of its epoch, and what a refusal leaves (15_control_complex.md R311). -/

namespace Sys2Proof.Machine

/-! ### The entries that single writes name -/

/-- An entry whose sub-index is not LEASE_CLAIM's is another entry. -/
theorem entryCode_ne_of_sub {index sub : Nat} (hsub : sub % 256 ≠ 2) : entryCode index sub ≠ leaseClaimCode := by
  unfold entryCode leaseClaimCode
  omega

/-- An entry whose index lies below or above LEASE_CLAIM's is another entry. -/
theorem entryCode_ne_of_index {index sub : Nat} (hindex : index < 0x7000 ∧ sub < 256 ∨ 0x7000 < index) : entryCode index sub ≠ leaseClaimCode := by
  unfold entryCode leaseClaimCode
  omega

theorem okTenant_iff (t : Nat) : okTenant t = true ↔ 1 ≤ t ∧ t ≤ 8 := by simp [okTenant]

/-- A tenant's entry below LEASE_CLAIM's index is another entry. -/
theorem entryCode_ne_of_tenant {base t sub : Nat} (ht : okTenant t = true) (hlow : base + 8 < 0x7000 ∧ sub < 256) : entryCode (base + t) sub ≠ leaseClaimCode := by
  have htenant := (okTenant_iff t).1 ht
  exact entryCode_ne_of_index (.inl (by omega))

/-- The index of a port's entries. -/
theorem portIndex_lt {p : Nat} (hp : okPort p = true) : portIndex p < 0x7000 := by
  have hlt : p < 3 := by simpa [okPort] using hp
  unfold portIndex
  split_ifs <;> omega

/-- A command that writes one entry, not LEASE_CLAIM's, through the checks of R351 and R352. -/
def SingleWrite (i : Instr) (rq : Rq) : Prop :=
  ∃ code value body, code ≠ leaseClaimCode ∧ ∀ s, exec i s = bdpCmd i rq code value body s

/-- Every well-formed BDP write is LEASE_CLAIM, one of the three commands whose checks look at their items, or a write of one other entry (R347). -/
theorem singleWrite_of_reqOf {i : Instr} {rq : Rq} (hreq : reqOf i = some rq) (hwrite : isRead i = false) (hformed : i.wellFormed = true) (hclaim : i ≠ .leaseClaim rq)
    (hnamed : namedEntries i ≠ [leaseClaimCode]) :
    (∃ it, i = .registerWrite rq it) ∨ (∃ b, i = .bdpWrite rq b) ∨ (∃ p l, i = .profileEdit rq p l) ∨ SingleWrite i rq := by
  cases i with
  | bdpRead | bdpSnapshot => cases hwrite
  | registerWrite r it => cases hreq; exact .inl ⟨it, rfl⟩
  | bdpWrite r b => cases hreq; exact .inr (.inl ⟨b, rfl⟩)
  | profileEdit r p l => cases hreq; exact .inr (.inr (.inl ⟨p, l, rfl⟩))
  | leaseClaim r => cases hreq; exact absurd rfl hclaim
  | principalKeyWrite r code key =>
    cases hreq
    have hcode : code ≠ leaseClaimCode := fun h => hnamed (congrArg (fun c => [c]) h)
    exact .inr (.inr (.inr ⟨_, _, _, hcode, fun _ => rfl⟩))
  | uploadData | uploadEnd | uploadAbort | datasetDelete | install | swap | remove | adapterLoad | adapterUnload | adapterDelete | trainStop | ccRestart | fwBegin | fwEnd
  | fwActivateRolling | fwActivateReset | fwCommit | fwRevert | leaseRenew | leaseRelease | portEnable | speeds | cableTest | gcl | tenantActivate | tenantRemove | debugUnlock
  | eventSubscribe | countersClear | mirrorConsent | mirrorFlush | replayStart | replayStop | calAlarm | calSet | cacheWays | csKvPages | profileSelect | factoryReset =>
    cases hreq
    exact .inr (.inr (.inr ⟨_, _, _, entryCode_ne_of_sub (by decide), fun _ => rfl⟩))
  | fwData | faultAck =>
    cases hreq
    exact .inr (.inr (.inr ⟨_, _, _, entryCode_ne_of_index (by decide), fun _ => rfl⟩))
  | powerRequestRestartTimers | powerRequestSleep | powerRequestDeepSleep | powerRequestOff =>
    cases hreq
    exact .inr (.inr (.inr ⟨powerRequestCode, _, _, by decide, fun _ => rfl⟩))
  | media r p v =>
    cases hreq
    exact .inr (.inr (.inr ⟨_, _, _, entryCode_ne_of_index (.inl ⟨portIndex_lt hformed, by decide⟩), fun _ => rfl⟩))
  | uploadBegin r t kind slot bytes resv =>
    cases hreq
    exact .inr (.inr (.inr ⟨_, _, _, entryCode_ne_of_tenant (Bool.and_eq_true_iff.1 hformed).1 (by decide), fun _ => rfl⟩))
  | trainStartNew | trainResume | tenantForm =>
    cases hreq
    exact .inr (.inr (.inr ⟨_, _, _, entryCode_ne_of_tenant hformed (by decide), fun _ => rfl⟩))
  | envelope r t v =>
    cases hreq
    have ht := (okTenant_iff t).1 hformed
    exact .inr (.inr (.inr ⟨_, _, _, entryCode_ne_of_index (.inl ⟨by decide, by omega⟩), fun _ => rfl⟩))
  | mirrorKey | dramSubQuota =>
    cases hreq
    exact .inr (.inr (.inr ⟨_, _, _, entryCode_ne_of_index (.inr (Nat.lt_add_right _ (by decide))), fun _ => rfl⟩))
  | _ => cases hreq

/-! ### The check of a write (R311, R351) -/

section Fence
variable {s : State} {rq : Rq} {c : Conn} {b : BdpBody} {i : Instr}

/-- A write of several kinds whose earlier checks pass meets the lease's. -/
theorem txnPre_lease (hfills : b.fills = true) (hcount : b.count = b.items.length) (hsome : 0 < b.count) (hfew : b.count ≤ 64) (hresv : b.resv = false) (hflags : b.flags < 8)
    (hpresent : b.toProfile = false) (hother : b.items.map (·.code) ≠ [leaseClaimCode]) : txnPre rq b true c s = s.leaseStatus c rq.epoch := by
  unfold txnPre
  rw [if_neg (by simp [hfills, hcount]), if_neg (by omega), if_neg (by simp [hresv, hflags]), if_neg (by simp [hpresent]), if_neg (by simp [hother])]

/-- A transaction that fails a check is refused as a whole. -/
theorem txn_refused {pre : Conn → State → Nat} (run : Conn → State → Res) (hconn : s.conn rq.conn = some c) (hkind : c.kind = .bdp) (hphase : c.phase = .up)
    (hup : Claims.Up s i) (hwrite : isRead i = false) {status : Nat} (hpre : pre c s = status) (hfails : status ≠ Bdp.ok) :
    txn i rq pre run s = .next (s.refuse rq status 0xFF []) := by
  obtain ⟨hpowered, hholds⟩ := hup
  subst hpre
  simp only [txn, hconn]
  rw [if_neg (by simp [hpowered, hkind, hphase]), if_neg (by simp [hholds]), if_pos hfails, State.turnDown, if_neg (by simp [hwrite])]

/-- A BDP write but LEASE_CLAIM and PROFILE_EDIT whose earlier checks pass is refused with the status of the lease's check, where that is not OK. -/
theorem exec_fenced (hreq : reqOf i = some rq) (hwrite : isRead i = false) (hformed : i.wellFormed = true) (hclaim : i ≠ .leaseClaim rq) (hnamed : namedEntries i ≠ [leaseClaimCode])
    (hedit : ∀ p l, i ≠ .profileEdit rq p l)
    (hchecks : ∀ b, i = .bdpWrite rq b → b.fills = true ∧ b.count = b.items.length ∧ 0 < b.count ∧ b.count ≤ 64 ∧ b.resv = false ∧ b.flags < 8 ∧ b.toProfile = false)
    (hconn : s.conn rq.conn = some c) (hkind : c.kind = .bdp) (hphase : c.phase = .up) (hup : Claims.Up s i) (hfails : s.leaseStatus c rq.epoch ≠ Bdp.ok) :
    exec i s = .next (s.refuse rq (s.leaseStatus c rq.epoch) 0xFF []) := by
  rcases singleWrite_of_reqOf hreq hwrite hformed hclaim hnamed with ⟨it, rfl⟩ | ⟨b, rfl⟩ | ⟨p, l, rfl⟩ | ⟨code, value, body, hcode, hexec⟩
  · have hpre : txnPre rq (plainBody [it] 0) true c s = s.leaseStatus c rq.epoch := 
      txnPre_lease rfl rfl Nat.one_pos (Nat.le_add_left 1 63) rfl (Nat.zero_lt_succ 7) (show nbit 0 0 = false from rfl) hnamed
    change execRegisterWrite rq it s = _
    unfold execRegisterWrite
    exact txn_refused _ hconn hkind hphase hup hwrite hpre hfails
  · obtain ⟨hfills, hcount, hsome, hfew, hresv, hflags, hpresent⟩ := hchecks b rfl
    change execBdpWrite rq b s = _
    unfold execBdpWrite
    exact txn_refused _ hconn hkind hphase hup hwrite (txnPre_lease hfills hcount hsome hfew hresv hflags hpresent hnamed) hfails
  · exact absurd rfl (hedit p l)
  · rw [hexec]
    exact txn_refused _ hconn hkind hphase hup hwrite (if_neg hcode) hfails

/-- In UNATTENDED the lease's check of DRV gives NO_LEASE. -/
theorem leaseStatus_unattended (hdrv : c.principal = .drv) (hlease : s.ctl.lease.state = .unattended) : s.leaseStatus c rq.epoch = Bdp.noLease :=
  (if_pos hdrv).trans (if_pos hlease)

/-- With a lease the check of DRV gives STALE_EPOCH for an epoch that is 0 or not the current one. -/
theorem leaseStatus_stale (hdrv : c.principal = .drv) (hlease : s.ctl.lease.state ≠ .unattended) (hstale : rq.epoch = 0 ∨ rq.epoch ≠ s.ctl.lease.epoch) :
    s.leaseStatus c rq.epoch = Bdp.staleEpoch :=
  (if_pos hdrv).trans ((if_neg hlease).trans (if_pos hstale.symm))

/-- A read is never refused for its epoch. -/
theorem txnPre_read (rq : Rq) (b : BdpBody) (c : Conn) (s : State) : txnPre rq b false c s ≠ Bdp.noLease ∧ txnPre rq b false c s ≠ Bdp.staleEpoch := by
  unfold txnPre
  rw [if_pos (Or.inl rfl) (t := Bdp.ok)]
  split_ifs <;> decide

end Fence

/-! ### What a refusal leaves (R351, R366) -/

/-- The response of a refusal, where its channel is established. -/
def State.answered (s : State) (rq : Rq) (status failed : Nat) (items : List RespItem) : State :=
  if s.linked rq.conn then s.send rq.conn (.response rq.txn status failed s.now items) else s

/-- A state that has another's counters and events at most. -/
def OnlyFaults (s t : State) : Prop := ∃ f, t = { s with faults := f }

section OnlyFaults
variable {s t u : State}

theorem OnlyFaults.refl : OnlyFaults s s := ⟨_, rfl⟩

theorem OnlyFaults.count (h : OnlyFaults s t) (i j n : Nat) : OnlyFaults s (t.count i j n) := by
  obtain ⟨f, rfl⟩ := h
  exact ⟨_, rfl⟩

theorem OnlyFaults.unlisted (h : OnlyFaults s t) : OnlyFaults s t.unlisted := by
  obtain ⟨f, rfl⟩ := h
  exact ⟨_, rfl⟩

theorem OnlyFaults.ite {p : Prop} [Decidable p] (ht : OnlyFaults s t) (hu : OnlyFaults s u) : OnlyFaults s (if p then t else u) := by
  split_ifs
  · exact ht
  · exact hu

end OnlyFaults

section Refusal
variable (s : State) (rq : Rq) (status failed : Nat) (items : List RespItem)

/-- A refusal is its response, and counters and events. -/
theorem refuse_answered : OnlyFaults (s.answered rq status failed items) (s.refuse rq status failed items) := by
  have hrespond : s.respond rq status failed items = (s.answered rq status failed items).count 0xA010 4 1 := rfl
  have hcounted : OnlyFaults (s.answered rq status failed items) ((s.respond rq status failed items).count 0xA010 5 1) := by
    rw [hrespond]
    exact (OnlyFaults.refl.count ..).count ..
  have hstale := (hcounted.count 0xAF01 3 1).ite (p := status = Bdp.staleEpoch) hcounted
  have hstate := hstale.unlisted.ite (p := status = Bdp.badState) hstale
  exact (hstate.count 0xA010 3 1).ite (p := status = Bdp.busy) hstate

/-- A response changes ports and connections alone. -/
theorem answered_changes : ∃ p k, s.answered rq status failed items = { s with ports := p, svc := { s.svc with conns := k } } := by
  unfold State.answered
  split_ifs
  · exact post_changes s _ _ _ _
  · exact ⟨_, _, rfl⟩

theorem answered_faults : (s.answered rq status failed items).faults = s.faults := by
  unfold State.answered
  split_ifs
  · exact send_faults ..
  · rfl

/-- A message leaves every connection but its own. -/
theorem conn_fillConn_ne {conn k : Nat} (hne : k ≠ conn) : (s.fillConn conn).conn k = s.conn k := by
  unfold State.fillConn
  split
  · rfl
  · exact conn_modConn_ne _ _ _ _ hne

theorem conn_send_ne {conn k : Nat} (hne : k ≠ conn) (msg : OutMsg) : (s.send conn msg).conn k = s.conn k := by
  rw [State.send, State.post, conn_fillConn_ne _ hne, conn_modConn_ne _ _ _ _ hne]

theorem conn_answered_ne {k : Nat} (hne : k ≠ rq.conn) : (s.answered rq status failed items).conn k = s.conn k := by
  unfold State.answered
  split_ifs
  · exact conn_send_ne s hne _
  · rfl

/-- A refusal changes the counters and events, the ports and the connections alone. -/
theorem refuse_changes :
    s.refuse rq status failed items = { s with
      faults := (s.refuse rq status failed items).faults, ports := (s.refuse rq status failed items).ports,
      svc := { s.svc with conns := (s.refuse rq status failed items).svc.conns } } := by
  obtain ⟨f, hrefuse⟩ := refuse_answered s rq status failed items
  obtain ⟨p, k, hanswer⟩ := answered_changes s rq status failed items
  rw [hrefuse, hanswer]

/-- A refusal changes no connection but its own. -/
theorem conn_refuse_ne {k : Nat} (hne : k ≠ rq.conn) : (s.refuse rq status failed items).conn k = s.conn k := by
  obtain ⟨f, hrefuse⟩ := refuse_answered s rq status failed items
  rw [hrefuse]
  exact conn_answered_ne s rq status failed items hne

/-- STALE_EPOCH is counted in STALE_EPOCH_WRITES. -/
theorem refuse_staleEpoch_counter : (s.refuse rq Bdp.staleEpoch failed items).counter 0xAF01 3 = min (s.counter 0xAF01 3 + 1) counterMax := by
  have hrefuse : s.refuse rq Bdp.staleEpoch failed items =
      (((s.answered rq Bdp.staleEpoch failed items).count 0xA010 4 1).count 0xA010 5 1).count 0xAF01 3 1 := rfl
  have hanswer : (s.answered rq Bdp.staleEpoch failed items).counter 0xAF01 3 = s.counter 0xAF01 3 := by
    rw [State.counter, answered_faults, State.counter]
  rw [hrefuse, State.counter_count _ 1 (by decide) (by decide), State.counter_count_ne _ 1 (by decide) (by decide) (by decide),
    State.counter_count_ne _ 1 (by decide) (by decide) (by decide), hanswer]

end Refusal

/-- Settles O53: every write but LEASE_CLAIM and PROFILE_EDIT, which the statement leaves out, meets the lease's check, which decides its refusal; a refusal is an answer, counters and events. -/
theorem leaseFence : Obligations.LeaseFence := by
  refine ⟨fun s i rq c hreq hwrite hformed hclaim hnamed hedit hchecks hconn hkind hphase hdrv hup => ⟨fun hlease => ?_, fun hlease hstale => ?_⟩,
    fun s rq st => ⟨refuse_changes s rq st 0xFF [], fun k hne => conn_refuse_ne s rq st 0xFF [] hne⟩, fun s rq => refuse_staleEpoch_counter s rq 0xFF [],
    fun s rq c => ⟨if_pos rfl, fun hother => if_neg hother, fun b => txnPre_read rq b c s⟩⟩
  · have hstatus : s.leaseStatus c rq.epoch = Bdp.noLease := leaseStatus_unattended hdrv hlease
    rw [← hstatus]
    exact exec_fenced hreq hwrite hformed hclaim hnamed hedit hchecks hconn hkind hphase hup (by rw [hstatus]; decide)
  · have hstatus : s.leaseStatus c rq.epoch = Bdp.staleEpoch := leaseStatus_stale hdrv hlease hstale
    rw [← hstatus]
    exact exec_fenced hreq hwrite hformed hclaim hnamed hedit hchecks hconn hkind hphase hup (by rw [hstatus]; decide)

end Sys2Proof.Machine
end

section
/-! Counters, serial numbers and events: the order of numbers that wrap, what a count and a clear leave, and the obligations about them (20_faults_counters_mirror.md). -/

namespace Sys2Proof.Machine

/-! ### Clearing a group (R423) -/

/-- A counter of a group that is cleared reads 0; every other stays. -/
theorem Faults.clearGroup_counter (f : Faults) (g code : Nat) :
    mget 0 (f.clearGroup g).counters code = if counterIn g code = true then 0 else mget 0 f.counters code := by
  rw [show (f.clearGroup g).counters = mfilter (fun k _ => !counterIn g k) f.counters from rfl, mget_mfilter 0 fun k => !counterIn g k]
  cases counterIn g code <;> rfl

/-- SAT_LIST keeps the entries of the other groups. -/
theorem Faults.mem_clearGroup_satList (f : Faults) (g code : Nat) : code ∈ (f.clearGroup g).satList ↔ code ∈ f.satList ∧ counterIn g code = false := by
  simp [Faults.clearGroup]

/-- COUNTERS_CLEAR of a value that names no group is refused. -/
theorem countersClearBody_refused {g : Nat} {s : State} (hg : 8 < g) : countersClearBody g s = (Bdp.outOfRange, s) := if_pos hg

/-- Settles O54: a group of 0 to 8 is accepted with the group cleared, its exempt counters (R420) being in no group; a greater value is refused. -/
theorem countersClearZeroes : Obligations.CountersClearZeroes := by
  intro s rq c g hreach
  refine ⟨fun hg => ?_, fun hg => ⟨s.faults.clearGroup g, accepts_of_reaches hreach rfl (countersClearBody_ok hg) (.inl rfl), s.faults.clearGroup_counter g,
    s.faults.mem_clearGroup_satList g, rfl, rfl, rfl, rfl, rfl, rfl, rfl⟩⟩
  obtain ⟨hconn, hkind, hphase, ⟨hpowered, hholds⟩, hlease, hitem⟩ := hreach
  change execCountersClear rq g s = _
  rw [execCountersClear, bdpCmd_runs hconn hkind hphase hpowered hholds hlease hitem, countersClearBody_refused hg]
  rfl

/-! ### Saturation (R420, R421) -/

section Counts
variable {f : Faults} {code n : Nat}

/-- A raise that stays below the maximum, or of a counter that stands at it, does not take it there. -/
theorem Faults.saturates_false (hquiet : mget 0 f.counters code + n < counterMax ∨ counterMax ≤ mget 0 f.counters code) (hbound : mget 0 f.counters code ≤ counterMax) :
    f.saturates code n = false := by
  simp only [Faults.saturates, Bool.and_eq_false_iff, decide_eq_false_iff_not]
  omega

/-- A raise from below the maximum that reaches it takes the counter there. -/
theorem Faults.saturates_true (hbelow : mget 0 f.counters code < counterMax) (hreaches : counterMax ≤ mget 0 f.counters code + n) : f.saturates code n = true := by
  simp only [Faults.saturates, Bool.and_eq_true, decide_eq_true_eq]
  omega

variable (mask mono flags : Nat)

/-- A count that takes its counter to the maximum enters it into SAT_LIST while there is room. -/
theorem Faults.mem_satList_count (hsat : f.saturates code n = true) (hroom : f.satList.length < 64) : code ∈ (f.count mask mono flags code n).satList := by
  have hbump : code ∈ (f.bump code n).satList := by simp [Faults.bump_sat f hsat, hroom]
  unfold Faults.count
  dsimp only
  rw [if_pos hsat]
  split_ifs
  · exact Faults.push_satList_mono _ _ _ _ _ _ _ _ _ (Faults.push_satList_mono _ _ _ _ _ _ _ _ _ hbump)
  · exact Faults.push_satList_mono _ _ _ _ _ _ _ _ _ hbump

/-- A count that takes its counter to the maximum, and not the class counter of COUNTER_SAT, raises one event. -/
theorem Faults.count_nextSeq (hsat : f.saturates code n = true) (hother : code ≠ entryCode 0xA0F2 2) (hclass : mget 0 f.counters (entryCode 0xA0F2 2) + 1 < counterMax) :
    (f.count mask mono flags code n).nextSeq = (f.nextSeq + 1) % 2 ^ 32 := by
  have hclassBump : mget 0 (f.bump code n).counters (entryCode 0xA0F2 2) = mget 0 f.counters (entryCode 0xA0F2 2) := Faults.bump_ne f hother.symm n
  have hone : (f.bump code n).saturates (entryCode 0xA0F2 2) 1 = false :=
    Faults.saturates_false (.inl (hclassBump ▸ hclass)) (by rw [hclassBump]; omega)
  unfold Faults.count
  dsimp only
  rw [if_pos hsat, if_neg (by simp [hone]), Faults.push_nextSeq, Faults.bump_nextSeq]

end Counts

/-- Settles O55: whether a raise takes its counter to the maximum decides whether it changes more than the counter. -/
theorem counterSaturates : Obligations.CounterSaturates := by
  intro s index sub n hclass hlost
  refine ⟨State.counter_count s n hclass hlost, fun code hother hnotClass hnotLost => Faults.count_ne _ _ _ _ n hother hnotClass hnotLost, fun hquiet hbound => ?_,
    fun hbelow hreaches => ?_⟩
  · have hsat := Faults.saturates_false hquiet hbound
    have hbump : (s.count index sub n).faults = s.faults.bump (entryCode index sub) n := Faults.count_quiet _ _ _ _ hsat
    rw [hbump]
    exact Faults.bump_quiet _ hsat
  · have hsat := Faults.saturates_true hbelow hreaches
    exact ⟨fun hroom => Faults.mem_satList_count _ _ _ hsat hroom, fun hroom => Faults.count_nextSeq _ _ _ hsat hclass hroom⟩

/-! ### Numbers that wrap (R422) -/

/-- What a number comes to when less than `m` is added: it may wrap once. -/
theorem add_mod_wrap {m k : Nat} (a : Nat) (hk : k < m) : (a + k) % m = if m ≤ a % m + k then a % m + k - m else a % m + k := by
  rw [Nat.add_mod_eq_ite, Nat.mod_eq_of_lt hk]

/-- Serial comparison by the numbers' residues: `a` is less than half the numbers ahead of `b`, across the wrap or not. -/
theorem serialAfter_iff {w : Nat} (hw : 0 < w) (a b : Nat) :
    serialAfter w a b = true ↔ b % 2 ^ w < a % 2 ^ w ∧ a % 2 ^ w < b % 2 ^ w + 2 ^ (w - 1) ∨ a % 2 ^ w + 2 ^ (w - 1) < b % 2 ^ w := by
  have hhalves := (Nat.two_pow_pred_add_two_pow_pred hw).symm
  have hhalf : 0 < 2 ^ (w - 1) := Nat.two_pow_pos _
  have ha : a % 2 ^ w < 2 ^ w := Nat.mod_lt _ (Nat.two_pow_pos _)
  have hb : b % 2 ^ w < 2 ^ w := Nat.mod_lt _ (Nat.two_pow_pos _)
  have hdist : (a + 2 ^ w - b % 2 ^ w) % 2 ^ w = if b % 2 ^ w ≤ a % 2 ^ w then a % 2 ^ w - b % 2 ^ w else a % 2 ^ w + 2 ^ w - b % 2 ^ w := by
    rcases Nat.eq_zero_or_pos (b % 2 ^ w) with hzero | hpos
    · rw [hzero, if_pos (Nat.zero_le _), Nat.sub_zero, Nat.sub_zero, Nat.add_mod_right]
    · rw [Nat.add_sub_assoc hb.le, add_mod_wrap a (Nat.sub_lt (Nat.two_pow_pos _) hpos)]
      split_ifs <;> omega
  simp only [serialAfter, hdist, decide_eq_true_eq]
  split_ifs <;> omega

/-- Settles O56: each clause by the comparison of residues, with what adding half the numbers, or less, comes to. -/
theorem serialOrder : Obligations.SerialOrder := by
  intro w a b hw
  have hhalves := (Nat.two_pow_pred_add_two_pow_pred hw).symm
  have hhalf : 0 < 2 ^ (w - 1) := Nat.two_pow_pos _
  have ha : a % 2 ^ w < 2 ^ w := Nat.mod_lt _ (Nat.two_pow_pos _)
  have hb : b % 2 ^ w < 2 ^ w := Nat.mod_lt _ (Nat.two_pow_pos _)
  have hopposite := add_mod_wrap a (show 2 ^ (w - 1) < 2 ^ w by omega)
  simp only [← Bool.not_eq_true]
  refine ⟨?_, ?_, ?_, ?_, ?_, fun k hpos hlt => ?_⟩
  · rw [serialAfter_iff hw, serialAfter_iff hw]
    omega
  · rw [serialAfter_iff hw]
    omega
  · rw [serialAfter_iff hw, serialAfter_iff hw, hopposite]
    split_ifs <;> omega
  · rw [serialAfter_iff hw, serialAfter_iff hw, hopposite]
    split_ifs <;> omega
  · rw [Bool.eq_iff_iff, serialAfter_iff hw, serialAfter_iff hw, Nat.mod_mod, Nat.mod_mod]
  · rw [serialAfter_iff hw, Nat.mod_mod, add_mod_wrap a (show k < 2 ^ w by omega)]
    split_ifs <;> omega

/-! ### Events (R414..R418, R458) -/

/-- Settles O57: each clause by the law of raising an event about that field; of the fatal log it bounds the length. -/
theorem eventNumbers : Obligations.EventNumbers := by
  intro f mask mono flags k tenant kind locus detail hseq
  refine ⟨Faults.push_nextSeq .., Faults.push_unacked .., Faults.push_queue .., Faults.push_fatalDue .., fun hlog => Faults.push_fatalLog f _ _ _ _ _ _ _ _ hlog, Faults.push_ackSeq .., fun hmark => ?_⟩
  rw [Faults.push_seqMark, Faults.push_nextSeq]
  exact Faults.moveMark_ahead f mask k.cls hseq hmark

end Sys2Proof.Machine
end
